-- ==== Sys2Proof/Word.lean ====
section
/-! DEFINITION. The words of the block: a register is 32 bits (R10), memory is addressed by the byte (R5), module time
has 48 bits (R18), frame numbers 32 (R18). -/

namespace Sys2Proof.Machine

/-- A register value (R10). -/
abbrev Word := BitVec 32

/-- A byte of memory or of a message. -/
abbrev Byte := BitVec 8

/-- Module time in periods of 6.4 ns, modulo 2^48 (R18, R633). -/
abbrev Time := BitVec 48

end Sys2Proof.Machine
end

