-- ==== Sys2Proof/Machine/Types.lean ====
section
/-! DEFINITION. The types of what commands carry: names of the block's parts, packets, messages, measurements. -/

namespace Sys2Proof.Machine

/-- The six power domains, in the order of PWR_DOMAIN_STATUS [5:0] (R111, R143). -/
inductive Domain where
  | aon | ctrl | pix | link | panel | light
deriving DecidableEq, Repr

/-- The 22 register blocks, in the order of the block index (R23, R24). -/
inductive Blk where
  | inl | chn | slu | fst | scn | rng | cps | dth | odv | dmr | col | gsq | bias | bld | lda | opt | saf | mbx
  | dma | pwr | cal | sys
deriving DecidableEq, Repr

/-- A symbol of a lane, by the byte it stands for: a control symbol or a data symbol (R6, R183). -/
inductive Sym where
  | ctl (b : Byte)
  | data (b : Byte)
deriving DecidableEq, Repr

/-- Where a received symbol stands: where an ordered set or a packet may begin, after COM, further on in an ordered set, between
SOP and EOP or EAB (R184, R215). -/
inductive SymPlace where
  | start | second | inSet | inPacket
deriving DecidableEq, Repr

/-- What a lane's decoder meets: an invalid 10-bit symbol, a running disparity error, or a control symbol at a place (R183,
R206). -/
inductive BadSym where
  | invalid | disparity
  | control (place : SymPlace) (b : Byte)
deriving DecidableEq, Repr

/-- A receive lane and what its decoder meets there. -/
structure LaneSym where
  lane : Fin 9
  sym : BadSym
deriving DecidableEq, Repr

/-- A packet as it arrives on the lanes (R215 to R219). -/
structure Packet where
  typ : Byte
  addr : Byte
  seq : BitVec 16
  len : BitVec 16
  spec : Byte
  hchk : Byte
  payload : List Byte
  crc : Word
  /-- A code violation, a SOP inside it or a misplaced PAD made it malformed. -/
  malformed : Bool
  /-- It ended with EAB. -/
  eab : Bool
deriving DecidableEq, Repr

/-- A CAN frame as received: identifier, data, and whether it is a classical frame. -/
structure CanFrame where
  id : Nat
  data : List Byte
  classical : Bool
deriving DecidableEq, Repr

/-- An element that CAL calibrates (R616): a lane l = 0 to 8, the two back channel receivers, a photodiode, a sink. -/
inductive CalElem where
  | lane (l : Nat)
  | backChannel
  | photodiode (k : Nat)
  | sink (c : Nat)
deriving DecidableEq, Repr

/-- What a receiver step measures: the trims it sets and the residuals that remain, in mV, of elements 0 to 5, and the
phase positions of a UI at which the spare agrees with D0 and D1. -/
structure CalEye where
  trims : List (BitVec 5)
  resid : List Int
  agree : List Bool
deriving DecidableEq, Repr

/-- What the end of a step brings: eyes of one or two receivers, the currents of a sink's 16 cells in µA, nothing for a
photodiode, whose dark means are in State. -/
inductive CalMeas where
  | eyes (a b : CalEye)
  | cells (l : List Nat)
  | dark
deriving DecidableEq, Repr

/-- What the sensors read at line E (R161): five die temperatures, case and panel as R9 codes them, average powers in
mW. -/
structure GovIn where
  die : List Nat
  case : Nat
  panel : Nat
  pVin : Nat
  pLed : Nat
deriving DecidableEq, Repr

/-- The masters of the address space (R606). -/
inductive Master where
  | core | dma | port | seq
deriving DecidableEq, Repr

/-- Symbol errors of a codeword of the frame store: symbol number and the bits that are wrong in it, in increasing order, none of
them 0 (R307). -/
abbrev SymErrs := List (Nat × Nat)

/-- Errors that have struck codewords of the frame store, by codeword number. -/
abbrev Upsets := List (Nat × SymErrs)

/-- Errors of memory that a copy meets: the number of wrong bits of pond words, by address (R604), and what has struck the frame store
(R307). -/
structure MemErrs where
  pond : List (Nat × Nat)
  fst : Upsets
deriving DecidableEq, Repr

/-- An elastic slot: its line and number, and what the world brings to the work done in it: for each codeword of a scrub
unit whether a verify read of it fails; Eddy's accesses and a March failure as word, bit and element; the 8-byte words that a
DMA burst moves, and the wrong bits of pond words by address; the errors that have struck the frame store; whether a scrub unit is
still in flight when the slot ends (R311), and whether an access of another class than DMA is still under way at the guard tick
(R146). -/
structure SlotInfo where
  line : Nat
  slot : Nat
  scrub : List Bool
  eddy : Nat
  march : Option (Nat × Nat × Nat)
  words : Nat
  ecc : List (Nat × Nat)
  ups : Upsets
  fly : Bool
  cut : Bool
deriving DecidableEq, Repr

end Sys2Proof.Machine
end

