-- ==== Sys2Proof/Syntax.lean ====
section
/-! DEFINITION. The commands of the block, one constructor per row of the command table. What the outside brings to an event
(measurements, packets, error patterns) is an operand. -/

namespace Sys2Proof

open Machine

/-- A command. -/
inductive Instr where
  /-- VIN_POWER_ON: VIN rises into its operating range and the module releases AON reset into BOOT or DORMANT depending on
  WAKE (R80). -/
  | vinPowerOn (wakeAbove : Bool)
  /-- WAKE_RISE: A filtered rising WAKE crossing at the Spring comparator starts a full start from DORMANT or a resume from
  STANDBY (R122). -/
  | wakeRise
  /-- WAKE_FALL: A filtered falling WAKE crossing requests sleep to FALL_TARGET (R125). -/
  | wakeFall
  /-- DOMAIN_STOPPED: A voting domain finishes its stop action or refuses, and the vote moves to the next domain (R127). -/
  | domainStopped (d : Domain) (stuck : Bool)
  /-- SLEEP_RESTART_DONE: The restart after a refused vote completes with the backlight back at target (R130). -/
  | sleepRestartDone
  /-- SLEEP_REVOTE: 100 ms after the restart completes, a WAKE- or timeout-driven sleep is voted again (R132). -/
  | sleepRevote
  /-- SLEEP_STATE_REACHED: The second phase powers the stopped domains down and STANDBY or DORMANT is reached (R128). -/
  | sleepStateReached
  /-- VIN_BROWN_OUT: VIN below 6.5 V for more than 10 µs causes a full reset with VIN_BOR set (R139). -/
  | vinBrownOut
  /-- AON_BROWN_OUT: AON supply below its brown-out threshold resets the module with AON_BOR set (R138). -/
  | aonBrownOut
  /-- WATCHDOG: The watchdog expires and causes a full reset (R80). -/
  | watchdog
  /-- LOCKSTEP_RESET: A lockstep mismatch resets the control core alone, leaving the mode and Tightrope running (R84). -/
  | lockstepReset
  /-- SPI_CS_WAKE: A falling SPI_CS_N in STANDBY with SPI_CS enabled wakes the module and the transaction is discarded whole
  (R124). -/
  | spiCsWake
  /-- NOWAKE_TIMEOUT: PWR_NOWAKE_TIMEOUT seconds pass after a CAN or SPI wake without MODE_SET or WAKE rise, and sleep is
  requested (R126). -/
  | nowakeTimeout
  /-- DOMAIN_WAKE_DONE: A domain finishes powering up and the stalled access or mode work proceeds (R111). -/
  | domainWakeDone (d : Domain)
  /-- IDLE_OFF_TIMEOUT: An on-demand domain sees no access for PWR_IDLE_OFF ms and is switched off (R114). -/
  | idleOffTimeout (d : Domain)
  /-- THERM_STANDBY_READ: Every 10 s in STANDBY the governor biases and reads THERM (R176). -/
  | thermStandbyRead (temp : BitVec 16)
  /-- START_UP_STEP_COMPLETE: A step of the start-up timeline completes and the next step, or the mode change it triggers,
  begins (R85). -/
  | startUpStepComplete (therm : BitVec 16) (die : List (BitVec 16))
  /-- FRAME_START: At line 0 tick 0 the module runs the ordered frame-boundary actions (R339). -/
  | frameStart (vin led : Nat)
  /-- TT_HOLD_EXPIRY: The absence count reaches 64 and a full reset follows with TT_HOLD_EXPIRY and WATCHDOG set (R509). -/
  | ttHoldExpiry
  /-- LOW_RATE_ENTRY: LOW_RATE_ENTRY frames pass without FRAME_READY and the module enters LOW_RATE (R80). -/
  | lowRateEntry
  /-- NO_HOST_TIMEOUT: 200 ms without a host and no complete host frame makes the module show the splash image (R102). -/
  | noHostTimeout
  /-- FRAME_END_DECISION: At tick 192 of each line from vmin-1 the module decides whether the line ends the frame (R323). -/
  | frameEndDecision (l : Nat)
  /-- GOVERNOR_EVALUATE: At line E the governor closes averages and evaluates the next frame (R160). -/
  | governorEvaluate (info : GovIn)
  /-- GOVERNOR_LATCH: At the first line after active the governor latches its results (R160). -/
  | governorLatch
  /-- LEVEL_CHANGE_DONE: The voltage and clock switch of a level change completes (R118). -/
  | levelChangeDone
  /-- ZONE_VALUES_DELIVERED: LDA delivers the zone values to Carousel by line D+3 (R474). -/
  | zoneValuesDelivered
  /-- FIELD_ROW_BUILD: LDA forms a grid row of the light field (R479). -/
  | fieldRowBuild
  /-- PROOF_RECORD_BUILD: At line 16 Tightrope builds, MACs and queues the proof record (R498). -/
  | proofRecordBuild
  /-- BACK_CHANNEL_SYNC: At line FIRST the module sends SYNC on both segments (R407). -/
  | backChannelSync
  /-- COLUMN_REPLY: A driver reply is received and taken in the next SAF slot (R407). -/
  | columnReply (lane : Fin 24) (bs : Option (List Byte))
  /-- LANE_RETRAIN_MARK: At line LAST+1 lanes are marked for retrain (R411). -/
  | laneRetrainMark
  /-- ROLL_CALL: The module sends a roll-call configuration packet and puts locked lanes into service (R410). -/
  | rollCall (locked : Word)
  /-- COLUMN_LINE_SEND: The LOAD set and line packet of an active line are sent (R399). -/
  | columnLineSend (y : Nat) (phase : Fin 2) (ups : Upsets)
  /-- WEIR_LINE_FETCH: Weir fetches a plane's line, raising URGENT below WM_LO (R332). -/
  | weirLineFetch (plane : Fin 3) (y : Nat) (ups : Upsets)
  /-- DEMURA_BAND_FETCH: DMR fetches and decodes the next demura band (R374). -/
  | demuraBandFetch (band : Nat) (ups : Upsets)
  /-- HISTORY_LINE_FETCH: ODV fetches and decodes history lines of both areas (R381). -/
  | historyLineFetch (y : Nat) (ups : Upsets)
  /-- HISTORY_LINE_WRITE: The line encoder stores an output line in its first fitting form (R288). -/
  | historyLineWrite (y : Nat) (c1 c3 c5 : List Byte)
  /-- ROW_BOUNDARY: A row boundary switches rows and opens the new PWM window (R443). -/
  | rowBoundary (units : List (Nat × Nat))
  /-- HEADROOM_SAMPLE: A sink samples its headroom at the last unit of a segment (R454). -/
  | headroomSample (col : Fin 192) (mv percent : Nat)
  /-- PD_SAMPLE: OPT takes a dark or light photodiode sample (R480). -/
  | pdSample (r g b : Nat)
  /-- ELASTIC_SLOT_GRANT: Ringmaster gives an elastic slot to the first eligible class (R148). -/
  | elasticSlotGrant (info : SlotInfo)
  /-- GUARD_TICK_RELEASE: An elastic unit still holding at tick 4n+3 is forced off (R146). -/
  | guardTickRelease
  /-- END: Gate instruction END drives outputs low and stops (R420). -/
  | gateEnd
  /-- WAIT_LINE: Gate instruction WAIT_LINE waits for line L (R423). -/
  | gateWaitLine
  /-- WAIT_TICK: Gate instruction WAIT_TICK waits for tick T (R421). -/
  | gateWaitTick
  /-- OUT: Gate instruction OUT applies ACT to masked outputs (R420). -/
  | gateOut
  /-- CLK: Gate instruction CLK takes clock edges and advances PH (R422). -/
  | gateClk
  /-- LOOP: Gate instruction LOOP starts a loop body (R423). -/
  | gateLoop
  /-- NEXT: Gate instruction NEXT closes the innermost loop (R420). -/
  | gateNext
  /-- SENSE: Gate instruction SENSE opens or closes the scan-end window (R428). -/
  | gateSense
  /-- PH_SET: Gate instruction PH_SET sets PH (R420). -/
  | gatePhSet
  /-- SCAN_END_CROSSING: A filtered rising crossing on SCAN_END is counted (R428). -/
  | scanEndCrossing (ns : Nat)
  /-- PORT_ENABLE_WRITE: A write of ENABLE takes a port out of or into OFF (R194). -/
  | portEnableWrite (p : Fin 2) (v : Word)
  /-- LOSS_OF_SIGNAL: Loss of signal returns the port to NO_PARTNER or ends a loop (R206). -/
  | lossOfSignal (p : Fin 2) (l : Fin 9)
  /-- SIGNAL_DETECT: Loss of signal clears and an attempt starts (R196). -/
  | signalDetect (p : Fin 2) (l : Fin 9)
  /-- LOSS_OF_LOCK: Loss of lock starts a retrain in UP (R206). -/
  | lossOfLock (p : Fin 2) (l : Fin 9)
  /-- CDR_LOCK: A receive lane's CDR relocks (R206). -/
  | cdrLock (p : Fin 2) (l : Fin 9)
  /-- CODE_VIOLATION: An invalid symbol is counted and handled (R206). -/
  | codeViolation (p : Fin 2) (l : LaneSym)
  /-- TRAINING_SET_RECEIVED: A training set is validated and advances the handshake (R186). -/
  | trainingSetReceived (p : Fin 2) (l : Fin 9) (ctl : Sym × Sym) (bs : List Byte)
  /-- ATTEMPT_TIMEOUT: An attempt not in UP within 50 ms ends with TRAIN_TIMEOUT (R197). -/
  | attemptTimeout (p : Fin 2)
  /-- RETRY_TIMER_EXPIRY: The retry timer expires and an attempt starts (R197). -/
  | retryTimerExpiry (p : Fin 2)
  /-- PLL_LOCKED: The PLL locks at SEL and the port enters TRAIN (R194). -/
  | pllLocked (p : Fin 2)
  /-- LOS_MASK_END: The masked loss-of-signal interval ends (R198). -/
  | losMaskEnd (p : Fin 2)
  /-- EQUALISER_DWELL_DONE: The equaliser dwell ends and SEEN may be sent (R195). -/
  | equaliserDwellDone (p : Fin 2) (l : Fin 9)
  /-- EQ_ADAPT_INTERVAL: The adapter moves peaking by at most one code (R203). -/
  | eqAdaptInterval (p : Fin 2) (l : Fin 9) (dir : Fin 3)
  /-- LANE_MARKER_RECEIVED: A lane marker is checked and used for deskew (R193). -/
  | laneMarkerReceived (p : Fin 2) (l : Fin 9) (m : Option (Byte × Byte)) (arrival : Nat)
  /-- RETRAIN_TIMEOUT: A retrain not in UP within 2 ms ends with RETRAIN_FAIL (R200). -/
  | retrainTimeout (p : Fin 2)
  /-- RETRAIN: A write of INL_CTRL.RETRAIN starts a retrain in UP (R200). -/
  | retrain (p : Fin 2)
  /-- IDLE_SET_RECEIVED: An IDLE_SET is checked and a BURST_REQ starts a burst (R187). -/
  | idleSetReceived (p : Fin 2) (l : Fin 9) (flags check : Byte)
  /-- IDLE_BURST_REQUEST: 10 ms without qualifying symbols makes the port request a burst (R204). -/
  | idleBurstRequest (p : Fin 2)
  /-- BURST_END: The burst ends after 4 µs or at a waiting packet (R205). -/
  | burstEnd (p : Fin 2)
  /-- LOOP_MODE_WRITE: A write of INL_LOOP.MODE starts or ends a loopback (R210). -/
  | loopModeWrite (p : Fin 2) (v : Word)
  /-- PATTERN_CHECKER_WRITE: A write of INL_PAT sets the generator and clears the checker count (R208). -/
  | patternCheckerWrite (p : Fin 2) (v : Word)
  /-- REFCLK_LOSS: The J1 reference is lost and module time moves to the oscillator (R201). -/
  | refclkLoss
  /-- REFCLK_RETURN: The J1 reference returns and attempts may start (R201). -/
  | refclkReturn
  /-- VIDEO_SEG: A VIDEO_SEG is accepted, forwarded or consumed into its segment (R222). -/
  | videoSeg (p : Fin 2) (k : Packet)
  /-- FRAME_READY: A FRAME_READY marks the stream's build for completion (R252). -/
  | frameReady (p : Fin 2) (k : Packet)
  /-- STREAM_CFG: A STREAM_CFG sets geometry or the asleep mark (R248). -/
  | streamCfg (p : Fin 2) (k : Packet)
  /-- CTRL_REQ: A CTRL_REQ is written to MB0's slot and rung (R520). -/
  | ctrlReq (p : Fin 2) (k : Packet)
  /-- CTRL_RSP: An upstream CTRL_RSP is forwarded up (R241). -/
  | ctrlRsp (p : Fin 2) (k : Packet)
  /-- ENUM_ASSIGN: An ASSIGN takes an address, replies and forwards or ends (R245). -/
  | enumAssign (p : Fin 2) (k : Packet)
  /-- ENUM_REPLY: An upstream REPLY is forwarded (R241). -/
  | enumReply (p : Fin 2) (k : Packet)
  /-- ENUM_END: An upstream END is forwarded and clears ENUM_BUSY (R247). -/
  | enumEnd (p : Fin 2) (k : Packet)
  /-- EVENT: An upstream EVENT packet is forwarded (R241). -/
  | event (p : Fin 2) (k : Packet)
  /-- ACK: An ACK frees acknowledged packets (R229). -/
  | ack (p : Fin 2) (k : Packet)
  /-- NAK: A NAK makes the sender replay from EXP_SEQ (R229). -/
  | nak (p : Fin 2) (k : Packet)
  /-- CREDIT: A CREDIT raises the sender's limits (R233). -/
  | credit (p : Fin 2) (k : Packet)
  /-- ACK_TIMER: 1 µs or 16 packets after acceptance an ACK is sent (R227). -/
  | ackTimer (p : Fin 2)
  /-- REPLAY_TIMER: 16 µs without an advancing ACK replays from the oldest (R229). -/
  | replayTimer (p : Fin 2)
  /-- CREDIT_PERIODIC: At least every 100 µs a CREDIT is sent (R235). -/
  | creditPeriodic (p : Fin 2)
  /-- PACKET_TRANSMIT: A waiting packet starts when credits and window allow (R242). -/
  | packetTransmit (p : Fin 2)
  /-- ENUM_BUSY_TIMEOUT: ENUM_BUSY clears after 10 ms (R247). -/
  | enumBusyTimeout
  /-- SEGMENT_START: An engine starts a segment once overlapping earlier segments end (R282). -/
  | segmentStart (e : Fin 4)
  /-- PIX: Token PIX decodes one pixel from three residues (R263). -/
  | tokenPix (e : Fin 4)
  /-- ZRUN: Token ZRUN produces predicted pixels (R271). -/
  | tokenZrun (e : Fin 4)
  /-- MATCH: Token MATCH copies pixels from history (R272). -/
  | tokenMatch (e : Fin 4)
  /-- LIT: Token LIT produces literal pixels (R273). -/
  | tokenLit (e : Fin 4)
  /-- PRED: Token PRED changes the predictor (R274). -/
  | tokenPred (e : Fin 4)
  /-- ENGINE_RESUME: A stalled engine resumes from saved state (R283). -/
  | engineResume (e : Fin 4) (long : Bool)
  /-- BUILD_COMPLETE: Earlier segments end and the build becomes READY (R284). -/
  | buildComplete (st : Fin 16)
  /-- SLU_ENABLE_WRITE: A write of SLU_CTRL.ENABLE = 0 discards later segments (R280). -/
  | sluEnableWrite (v : Word)
  /-- FRAME_STORE_WINDOW_ACCESS: A window access is arbitrated, checked and protected (R315). -/
  | frameStoreWindowAccess (m : Master) (a : BitVec 32) (n : Nat) (bs : Option (List Byte)) (ups : Upsets)
  /-- POND_ACCESS: A direct pond access is granted and checked (R603). -/
  | pondAccess (m : Master) (a : BitVec 32) (n : Nat) (bs : Option (List Byte)) (e : Nat) (waited : Bool)
  /-- ALIAS_ACCESS: An unaligned alias access is rotated and maybe split (R609). -/
  | aliasAccess (m : Master) (a : BitVec 32) (n : Nat) (bs : Option (List Byte)) (e0 e1 : Nat) (waited : Bool)
  /-- POND_ECC_WRITEBACK: A corrected pond word is rewritten in a free clock (R604). -/
  | pondEccWriteback (a : BitVec 32)
  /-- UNASSIGNED_ACCESS: An access to an unassigned address completes with a bus error (R602). -/
  | unassignedAccess (m : Master) (a : BitVec 32) (n : Nat) (bs : Option (List Byte))
  /-- FLASH_WINDOW_WRITE: A write to the flash read window has no effect and is counted (R31). -/
  | flashWindowWrite (m : Master) (a : BitVec 32) (bs : List Byte)
  /-- REGISTER_WRITE: A write to a register without its own row (R12). -/
  | registerWrite (a : BitVec 32) (v : Word)
  /-- RASTER_START: RUN 0 to 1 starts the raster (R320). -/
  | rasterStart
  /-- RASTER_STOP: RUN = 0 stops the raster at frame end (R320). -/
  | rasterStop
  /-- SHADOW_COMMIT: An ordinary COMMIT write locks shadows until hand-over (R337). -/
  | shadowCommit (b : Blk)
  /-- PRIVILEGED_COMMIT: A PCOMMIT write queues a privileged set (R336). -/
  | privilegedCommit (b : Blk)
  /-- TIMING_COMMIT: A TCOMMIT write queues the timing set (R319). -/
  | timingCommit
  /-- RNG_TABLE_COMMIT: RNG_COMMIT copies and checks the slot table (R155). -/
  | rngTableCommit
  /-- LUT_LOAD_COMMIT: COMMIT with LUT_LOAD loads tables into the idle bank (R359). -/
  | lutLoadCommit (b : Blk)
  /-- DEMURA_SET_COMMIT: DMR_COMMIT reads and checks a set (R378). -/
  | demuraSetCommit
  /-- GATE_PROGRAM_COMMIT: GSQ_COMMIT copies and checks a program (R427). -/
  | gateProgramCommit
  /-- COMMIT_LOAD_DONE: A block's commit load and check finish (R671). -/
  | commitLoadDone (b : Blk) (bad : Bool)
  /-- BIAS_POWER_UP: BIAS_CTRL.UP = 1 runs the power-up sequence (R434). -/
  | biasPowerUp
  /-- BIAS_POWER_DOWN: BIAS_CTRL.UP = 0 runs the power-down sequence (R435). -/
  | biasPowerDown
  /-- BIAS_STEP_DONE: A bias sequence step completes (R434). -/
  | biasStepDone (m0 m1 m2 : Word)
  /-- RAIL_FAULT: A rail fault runs power-down (R433). -/
  | railFault (rail : Fin 8)
  /-- VDD_PL_OVERLOAD: VDD_PL overload switches the connector off (R55). -/
  | vddPlOverload (conn : Fin 2)
  /-- BACKLIGHT_RUN: BLD RUN 0 to 1 raises the boost (R456). -/
  | backlightRun
  /-- BOOST_READY: The boost reaches its plan and ramping begins (R456). -/
  | boostReady
  /-- BACKLIGHT_STOP: RUN = 0 ramps zones to zero over 8 ms (R456). -/
  | backlightStop
  /-- BACKLIGHT_RAMP_DOWN_DONE: The ramp-down ends and the boost turns off (R456). -/
  | backlightRampDownDone
  /-- STAGE_FAULT: A stage fault latches the boost off (R457). -/
  | stageFault (code : Fin 8)
  /-- STAGE_CLR: STAGE_CLR clears the latch and restarts the stage (R457). -/
  | stageClr (fw : Bool)
  /-- NBR_START: NBR_START starts the neighbour-short test (R462). -/
  | nbrStart
  /-- NBR_TEST_DONE: The neighbour-short test completes (R462). -/
  | nbrTestDone (pairs : List (Nat × Nat))
  /-- XCHAIN_COUNT: X_EN 0 to 1 counts the chain's chips (R466). -/
  | xchainCount (bits : Nat)
  /-- XCHAIN_TRANSFER: An expansion chain transfer ends with its latch (R465). -/
  | xchainTransfer (ret : List (BitVec 64))
  /-- TT_REQUEST: A valid TT_REQUEST updates the partner bitmap (R489). -/
  | ttRequest (f : CanFrame)
  /-- TT_KEY: A TT_KEY is accepted or refused (R502). -/
  | ttKey (f : CanFrame)
  /-- MB2_CMD: An MB2_CMD is written to MB2 or answered directly (R520). -/
  | mb2Cmd (f : CanFrame)
  /-- TT_PROOF: The queued TT_PROOF is transmitted (R505). -/
  | ttProof
  /-- MB2_RSP: An MB2_RSP is transmitted (R520). -/
  | mb2Rsp
  /-- BUS_OFF: The controller enters bus-off (R505). -/
  | busOff
  /-- BUS_OFF_RECOVERY: Bus-off recovers and cut frames are resent (R505). -/
  | busOffRecovery
  /-- SAF_HOLD_WRITE: A SAF_HOLD write starts a hold (R495). -/
  | safHoldWrite (v : Word)
  /-- SAF_ALIVE: SAF_ALIVE ends the absence count (R509). -/
  | safAlive
  /-- SAFE_SET: SAFE_SET sets the safe-state latch (R507). -/
  | safeSet
  /-- SAFE_CLR: SAFE_CLR clears the safe-state latch (R507). -/
  | safeClr
  /-- SAF_PARTNER_REQ_WRITE: A write of SAF_PARTNER_REQ is accepted before PARTNER_SEEN (R491). -/
  | safPartnerReqWrite (v : Word)
  /-- PWR_SPRING_WRITE: A PWR_SPRING write sets THRESH or BAD_WR (R137). -/
  | pwrSpringWrite (v : Word)
  /-- GOV_BUDGET_WRITE: A GOV_BUDGET write sets P_BUDGET or BAD_WR (R177). -/
  | govBudgetWrite (v : Word)
  /-- GOV_MANUAL_WRITE: A GOV_CTRL.MANUAL write takes effect only in dark modes (R175). -/
  | govManualWrite (v : Word)
  /-- DOORBELL: An MBX_DB write accepts slots up to 16 outstanding (R518). -/
  | doorbell (n : Fin 4) (t : Fin 16)
  /-- CPL_HEAD_WRITE: The sender consumes completion entries (R517). -/
  | cplHeadWrite (n : Fin 4) (v : Fin 16)
  /-- MBX_EN_WRITE: An MBX_CTRL.EN write disables or enables a mailbox (R533). -/
  | mbxEnWrite (v : Word)
  /-- MB3_IDLE_LOCK: 600 s without an MB3 command locks MB3 (R536). -/
  | mb3IdleLock
  /-- SVC_LOCKOUT_END: The 60 s challenge lockout ends (R535). -/
  | svcLockoutEnd
  /-- SPI_WRITE: An SPI write transaction writes words (R521). -/
  | spiWrite (op : Byte) (a : BitVec 32) (ws : List Word)
  /-- SPI_READ: An SPI read transaction returns words (R521). -/
  | spiRead (a : BitVec 32) (n : Nat)
  /-- COMMAND_TAKE: The firmware takes and checks a command (R523). -/
  | commandTake
  /-- COMMAND_STEP_BOUNDARY: A command step ends at a safe point (R527). -/
  | commandStepBoundary (tag : Fin 64)
  /-- COMMAND_TIMEOUT: A command's timeout expires (R530). -/
  | commandTimeout (tag : Fin 64)
  /-- SYS_INFO: Returns identity data (R552). -/
  | sysInfo (tag : Fin 64)
  /-- SYS_STATUS: Returns status bytes and frame number (R552). -/
  | sysStatus (tag : Fin 64)
  /-- SYS_TIME: Returns module time (R552). -/
  | sysTime (tag : Fin 64)
  /-- SYS_RESET: With the key, performs a full reset (R553). -/
  | sysReset (tag : Fin 64)
  /-- MODE_SET: Requests a mode transition or sleep (R555). -/
  | modeSet (tag : Fin 64)
  /-- PERF_FLOOR: Sets CORE_MIN (R554). -/
  | perfFloor (tag : Fin 64)
  /-- POWER_BUDGET: Sets P_BUDGET (R554). -/
  | powerBudget (tag : Fin 64)
  /-- WAKE_CFG: Writes PWR_SPRING and PWR_WAKE_EN (R556). -/
  | wakeCfg (tag : Fin 64)
  /-- SVC_ENTER: Enters SERVICE over MB3 (R556). -/
  | svcEnter (tag : Fin 64)
  /-- SVC_EXIT: Leaves SERVICE (R556). -/
  | svcExit (tag : Fin 64)
  /-- POWER_STATUS: Returns governor status (R554). -/
  | powerStatus (tag : Fin 64)
  /-- LINK_STATUS: Returns port status (R557). -/
  | linkStatus (tag : Fin 64)
  /-- LINK_RETRAIN: Retrains a port (R558). -/
  | linkRetrain (tag : Fin 64)
  /-- LINK_RATES: Sets RATE_EN and may restart the port (R558). -/
  | linkRates (tag : Fin 64)
  /-- LINK_EQ: Sets lane equaliser and transmitter settings (R557). -/
  | linkEq (tag : Fin 64)
  /-- LINK_LOOP: Runs a loopback pattern test (R558). -/
  | linkLoop (tag : Fin 64) (errors : Nat) (lock : Bool)
  /-- PLANE_SUB: Subscribes a plane to a stream (R560). -/
  | planeSub (tag : Fin 64)
  /-- PLANE_BLEND: Sets overlay blending (R559). -/
  | planeBlend (tag : Fin 64)
  /-- TIMING_SET: Commits a timing set with companions (R561). -/
  | timingSet (tag : Fin 64)
  /-- LOWRATE_CFG: Configures LOW_RATE (R559). -/
  | lowrateCfg (tag : Fin 64)
  /-- SCAN_CFG: Sets FOLLOW and FS_EVENT (R559). -/
  | scanCfg (tag : Fin 64)
  /-- STREAM_STATUS: Returns stream status (R559). -/
  | streamStatus (tag : Fin 64)
  /-- BIAS_SET: Commits rail codes (R562). -/
  | biasSet (tag : Fin 64)
  /-- GAMMA_TAPS: Stages or commits gamma tap codes (R563). -/
  | gammaTaps (tag : Fin 64)
  /-- PANEL_POWER: Runs panel power-up or power-down (R563). -/
  | panelPower (tag : Fin 64)
  /-- GATE_PROGRAM: Loads and commits a gate program (R563). -/
  | gateProgram (tag : Fin 64)
  /-- COLUMN_CFG: Commits the column configuration with DEPTH (R563). -/
  | columnCfg (tag : Fin 64)
  /-- COLUMN_STATUS: Returns lane status (R562). -/
  | columnStatus (tag : Fin 64)
  /-- COLUMN_RETRAIN: Marks lanes for retrain (R562). -/
  | columnRetrain (tag : Fin 64)
  /-- DMR_LOAD: Loads and commits a demura set (R565). -/
  | dmrLoad (tag : Fin 64)
  /-- DMR_SELECT: Selects the demura set or automatic choice (R565). -/
  | dmrSelect (tag : Fin 64)
  /-- ODV_LOAD: Loads overdrive tables (R564). -/
  | odvLoad (tag : Fin 64)
  /-- ODV_CFG: Configures overdrive (R564). -/
  | odvCfg (tag : Fin 64)
  /-- LUT_LOAD: Loads gamma tables with recomputed CRCs (R564). -/
  | lutLoad (tag : Fin 64)
  /-- DTH_CFG: Configures DTH enables and gains (R565). -/
  | dthCfg (tag : Fin 64)
  /-- BL_SCAN: Sets backlight scan with a slot table (R567). -/
  | blScan (tag : Fin 64)
  /-- BL_LIMITS: Sets backlight limits (R566). -/
  | blLimits (tag : Fin 64)
  /-- BL_FLOOR: Sets Z_FLOOR with TT_LDG and CRCs (R567). -/
  | blFloor (tag : Fin 64)
  /-- ZONE_CLEAR: Returns zones to OK (R567). -/
  | zoneClear (tag : Fin 64)
  /-- ZONE_STATUS: Returns zone status (R566). -/
  | zoneStatus (tag : Fin 64)
  /-- NBR_TEST: Runs the neighbour-short test (R566). -/
  | nbrTest (tag : Fin 64)
  /-- XCHAIN_SET: Configures the expansion chain (R566). -/
  | xchainSet (tag : Fin 64)
  /-- LD_CFG: Configures local dimming (R566). -/
  | ldCfg (tag : Fin 64)
  /-- COLOUR_LOOP: Configures the colour loop (R566). -/
  | colourLoop (tag : Fin 64)
  /-- TT_HOST_REQ: Writes the host or partner bitmap (R569). -/
  | ttHostReq (tag : Fin 64)
  /-- TT_SAFE_STATE: Sets or clears the safe-state latch (R569). -/
  | ttSafeState (tag : Fin 64)
  /-- TT_CONFIG: Loads a window set (R569). -/
  | ttConfig (tag : Fin 64)
  /-- TT_ENABLE: Commits CPS_TT_EN (R569). -/
  | ttEnable (tag : Fin 64)
  /-- TT_STATUS: Returns tell-tale status (R568). -/
  | ttStatus (tag : Fin 64)
  /-- TT_RECORD: Returns the last record (R568). -/
  | ttRecord (tag : Fin 64)
  /-- TT_ACTION: Sets FAULT_ACTION and PROOF_EV (R568). -/
  | ttAction (tag : Fin 64)
  /-- CAL_FULL_RUN: Runs full calibration in CALIBRATE (R571). -/
  | calFullRun (tag : Fin 64)
  /-- CAL_ABORT: Aborts calibration (R570). -/
  | calAbort (tag : Fin 64)
  /-- CAL_STATUS: Returns calibration status (R570). -/
  | calStatus (tag : Fin 64)
  /-- CAL_QUALITY: Returns lane quality (R629). -/
  | calQuality (tag : Fin 64)
  /-- CAL_SAVE: Writes the calibration record (R630). -/
  | calSave (tag : Fin 64)
  /-- CAL_RESTORE: Restores calibration values (R631). -/
  | calRestore (tag : Fin 64)
  /-- MEM_READ: Reads 8 bytes (R573). -/
  | memRead (tag : Fin 64) (e : Nat)
  /-- MEM_WRITE: Writes 8 or 16 bytes (R573). -/
  | memWrite (tag : Fin 64) (e : Nat)
  /-- DMA_RUN: Copies, fills or compares by MiB steps (R573). -/
  | dmaRun (tag : Fin 64) (ecc : MemErrs)
  /-- CAPTURE: Captures a displayed rectangle (R573). -/
  | capture (tag : Fin 64)
  /-- LEDGER_READ: Reads or acknowledges the open list (R575). -/
  | ledgerRead (tag : Fin 64)
  /-- LOG_READ: Reads a fault log entry (R643). -/
  | logRead (tag : Fin 64)
  /-- SNAP_READ: Reads a latched counter (R637). -/
  | snapRead (tag : Fin 64)
  /-- EVENT_CFG: Writes SYS_EVT_EN (R574). -/
  | eventCfg (tag : Fin 64)
  /-- UPDATE_BEGIN: Enters UPDATE (R577). -/
  | updateBegin (tag : Fin 64)
  /-- UPDATE_WRITE: Erases and programs flash sectors (R577). -/
  | updateWrite (tag : Fin 64)
  /-- UPDATE_VERIFY: Verifies parts (R577). -/
  | updateVerify (tag : Fin 64)
  /-- UPDATE_ACTIVATE: Activates the new image and resets (R577). -/
  | updateActivate (tag : Fin 64)
  /-- UPDATE_ABORT: Ends the update session (R103). -/
  | updateAbort (tag : Fin 64)
  /-- SVC_CHALLENGE: Returns a nonce (R535). -/
  | svcChallenge (tag : Fin 64)
  /-- SVC_RESPONSE: Unlocks MB3 on a matching CMAC (R535). -/
  | svcResponse (tag : Fin 64)
  /-- SVC_LOCK: Locks MB3 (R536). -/
  | svcLock (tag : Fin 64)
  /-- REG_READ: Reads a register (R579). -/
  | regRead (tag : Fin 64)
  /-- REG_WRITE: Writes a register through the filter (R579). -/
  | regWrite (tag : Fin 64)
  /-- DMA_GO: Starts a channel job (R592). -/
  | dmaGo (n : Fin 16) (v : Word)
  /-- ENGINE_TAKE: The engine takes the lowest ready channel and checks descriptors (R582). -/
  | engineTake
  /-- DESCRIPTOR_COMPLETE: A descriptor is written back and NEXT fetched (R593). -/
  | descriptorComplete (ecc : MemErrs)
  /-- COUNT_ADD: COUNT_ADD adds descriptors (R592). -/
  | countAdd (n : Fin 16) (v : Word)
  /-- QUEUE_ADD: DMA_QADD raises a fill count (R590). -/
  | queueAdd (q : Fin 4) (v : Word)
  /-- QUEUE_SUB: DMA_QSUB lowers a fill count (R590). -/
  | queueSub (q : Fin 4) (v : Word)
  /-- LIGHT_CHANNEL_DISABLE: EN = 0 drops a light channel's work (R596). -/
  | lightChannelDisable (n : Fin 16)
  /-- HEAVY_CHANNEL_DISABLE: EN = 0 pauses and aborts a heavy channel (R597). -/
  | heavyChannelDisable (n : Fin 16)
  /-- PAUSE: PAUSE = 1 stops new reads (R597). -/
  | pause (n : Fin 16)
  /-- RESUME: PAUSE = 0 resumes (R597). -/
  | resume (n : Fin 16)
  /-- PAUSE_DRAIN_DONE: The drain completes and the channel is PAUSED or idle (R597). -/
  | pauseDrainDone (words : Nat) (ecc : MemErrs)
  /-- CLR_HALT: CLR_HALT returns a halted channel to idle (R594). -/
  | clrHalt (n : Fin 16)
  /-- CAL_STEP_DONE: A calibration step completes and is applied or refused (R617). -/
  | calStepDone (e : CalElem) (m : CalMeas)
  /-- CAL_BURST: A back channel calibration burst is sent (R620). -/
  | calBurst
  /-- CAL_STEP_TIMEOUT: A link step not done in 64 frames is skipped (R625). -/
  | calStepTimeout
  /-- CAL_ELEMENT_WRITE: A CAL element write abandons its step or is refused (R632). -/
  | calElementWrite (a : BitVec 32) (v : Word)
  /-- SYS_TIME_LO_READ: Reading SYS_TIME_LO copies the high bits (R634). -/
  | sysTimeLoRead (m : Master)
  /-- SNAP_ADDR_WRITE: SYS_SNAP_ADDR selects a latched counter (R637). -/
  | snapAddrWrite (v : Word)
  /-- EVENT_PACKET_SEND: Event records go upstream in an EVENT packet (R641). -/
  | eventPacketSend
  /-- LOG_POST: SYS_LOG_POST3 queues a log part (R647). -/
  | logPost (w0 w1 w2 w3 : Word)
  /-- GAMMA_STAGE_DISCARD: A GAMMA_TAPS half staged with HALF = 0 and not committed within 1 s is discarded (R563). -/
  | gammaStageDiscard
deriving DecidableEq, Repr

end Sys2Proof
end

