-- ==== Sys2Proof/Machine/Regs.lean ====
section
/-! DEFINITION. The register map: an address for every register of the spec's register tables, a field for every
entry of its field tables (bits as the tables give them), and, by block (R23, R24), the rows with reset values and
write masks (R12, R13). The two ports have one layout (R213, R255): their registers take the port `p`, 0 for the Inlet
and 1 for the Chain port. Indexed registers take their index. -/

namespace Sys2Proof.Machine

/-- A bit field [lo + width - 1 : lo] (R4) of the register at `reg`. -/
structure Fld where
  reg : Nat
  lo : Nat
  width : Nat
deriving DecidableEq, Repr

/-- A row of a register table: `count` registers from `base`, `stride` bytes apart (4 for a single one). `shadowed`
marks type SH (R12). `rw` has the bits a write stores (RW and SH fields), `w1c` the bits a write of 1 clears. `resets`
gives the reset values by index, its last entry for every further index. -/
structure RegRow where
  base : Nat
  count : Nat
  stride : Nat
  shadowed : Bool
  rw : Nat
  w1c : Nat
  resets : List Nat
deriving DecidableEq, Repr

/-! ### Addresses -/

namespace R

/-- INL_CTRL, CHN_CTRL (R213, RW): Enable, rate enables, retrain, burst requests, far-end acceptance -/
abbrev PORT_CTRL (p : Nat) : Nat := 0x10000000 + 0x10000 * p
/-- INL_STATUS, CHN_STATUS (R213, RO): State, rate, handshake, offered rates, retry delay -/
abbrev PORT_STATUS (p : Nat) : Nat := 0x10000004 + 0x10000 * p
/-- INL_EVENT, CHN_EVENT (R213, W1C): Lane and training events -/
abbrev PORT_EVENT (p : Nat) : Nat := 0x10000008 + 0x10000 * p
/-- INL_PARTNER, CHN_PARTNER (R213, RO): Partner's offered rates, role, TRAIN_ID and version -/
abbrev PORT_PARTNER (p : Nat) : Nat := 0x1000000C + 0x10000 * p
/-- INL_TRAIN_CNT, CHN_TRAIN_CNT (R213, RO): [15:0] attempts started; [31:16] entries to UP; saturating -/
abbrev PORT_TRAIN_CNT (p : Nat) : Nat := 0x10000010 + 0x10000 * p
/-- INL_RETRAIN_CNT, CHN_RETRAIN_CNT (R213, RO): [15:0] retrains; [31:16] failed retrains; saturating -/
abbrev PORT_RETRAIN_CNT (p : Nat) : Nat := 0x10000014 + 0x10000 * p
/-- INL_LOOP, CHN_LOOP (R213, RW): Loopback mode and lane -/
abbrev PORT_LOOP (p : Nat) : Nat := 0x10000018 + 0x10000 * p
/-- INL_PAT, CHN_PAT (R213, RW): Pattern generator and checker -/
abbrev PORT_PAT (p : Nat) : Nat := 0x1000001C + 0x10000 * p
/-- INL_IDLE_CNT, CHN_IDLE_CNT (R213, RO): [15:0] bursts requested; [31:16] bursts sent; saturating -/
abbrev PORT_IDLE_CNT (p : Nat) : Nat := 0x10000020 + 0x10000 * p
/-- INL_LANE_PHY, CHN_LANE_PHY (R213, RW): Equaliser and transmitter settings -/
abbrev PORT_LANE_PHY (p : Nat) (i : Nat) : Nat := 0x10000040 + 0x10000 * p + 4 * i
/-- INL_LANE_STAT, CHN_LANE_STAT (R213, RO): Detector state, skew, last marker COUNT -/
abbrev PORT_LANE_STAT (p : Nat) (i : Nat) : Nat := 0x10000080 + 0x10000 * p + 4 * i
/-- INL_LANE_ERR, CHN_LANE_ERR (R213, RO): Live counts since line 0 (R207) -/
abbrev PORT_LANE_ERR (p : Nat) (i : Nat) : Nat := 0x100000C0 + 0x10000 * p + 4 * i
/-- INL_LANE_BER, CHN_LANE_BER (R213, RO): [31:0] checker bit errors, saturating -/
abbrev PORT_LANE_BER (p : Nat) (i : Nat) : Nat := 0x10000100 + 0x10000 * p + 4 * i
/-- INL_PKT_STATUS, CHN_PKT_STATUS (R255, RO): Packet layer state, replay and stalls -/
abbrev PORT_PKT_STATUS (p : Nat) : Nat := 0x10000200 + 0x10000 * p
/-- INL_ADDR, CHN_ADDR (R255, RO): Module address and enumeration -/
abbrev PORT_ADDR (p : Nat) : Nat := 0x10000204 + 0x10000 * p
/-- INL_SEQ, CHN_SEQ (R255, RO): [11:0] next SEQ to send; [27:16] E, the next SEQ expected -/
abbrev PORT_SEQ (p : Nat) : Nat := 0x10000208 + 0x10000 * p
/-- INL_CREDIT, CHN_CREDIT (R255, RO): Credits available to send: [11:0] video; [21:12] control; [31:22] event -/
abbrev PORT_CREDIT (p : Nat) : Nat := 0x1000020C + 0x10000 * p
/-- INL_PKT_ERR, CHN_PKT_ERR (R255, RO): Live: [7:0] CRC failures and malformed packets; [15:8] HCHK failures; [23:16] EAB received; [31:24] TYPE_ERR (R221) -/
abbrev PORT_PKT_ERR (p : Nat) : Nat := 0x10000210 + 0x10000 * p
/-- INL_REPLAY, CHN_REPLAY (R255, RO): Live: [15:0] packets replayed; [23:16] NAKs received; [31:24] replay timer expiries -/
abbrev PORT_REPLAY (p : Nat) : Nat := 0x10000214 + 0x10000 * p
/-- INL_STALL, CHN_STALL (R255, RO): Live: [15:0] CREDIT_STALL (R237); [31:16] WINDOW_STALL (R230) -/
abbrev PORT_STALL (p : Nat) : Nat := 0x10000218 + 0x10000 * p
/-- INL_DROP, CHN_DROP (R255, RO): [15:0] LOST (R232, R241); [31:16] packets discarded with no Chain port partner (R42), Chain port only -/
abbrev PORT_DROP (p : Nat) : Nat := 0x1000021C + 0x10000 * p
/-- INL_NOCFG, CHN_NOCFG (R255, RO): [15:0] NOCFG (R248), Inlet only -/
abbrev PORT_NOCFG (p : Nat) : Nat := 0x10000220 + 0x10000 * p
/-- INL_SUBS, CHN_SUBS (R255, RO): [15:0] one bit per stream subscribed by a plane, Inlet only -/
abbrev PORT_SUBS (p : Nat) : Nat := 0x10000224 + 0x10000 * p
/-- INL_FWD_CNT, CHN_FWD_CNT (R255, RO): Live: [31:0] packets forwarded -/
abbrev PORT_FWD_CNT (p : Nat) : Nat := 0x10000228 + 0x10000 * p
/-- SLU_CTRL (R293, RW): Enable, near-lossless history -/
abbrev SLU_CTRL : Nat := 0x10020000
/-- SLU_STATUS (R293, RO): Engine activity, history state -/
abbrev SLU_STATUS : Nat := 0x10020004
/-- SLU_EVENT (R293, W1C): Segment errors, discards, waits -/
abbrev SLU_EVENT : Nat := 0x10020008
/-- SLU_LAST_ERR (R293, RO): End code, stream and SEG_ID of the last end other than OK -/
abbrev SLU_LAST_ERR : Nat := 0x1002000C
/-- SLU_ERR_POS (R293, RO): [15:0] segment column; [31:16] segment row of the fault, as R278 gives -/
abbrev SLU_ERR_POS : Nat := 0x10020010
/-- SLU_ERR_BIT (R293, RO): [31:0] bit offset of the fault in the coded data, as R278 gives -/
abbrev SLU_ERR_BIT : Nat := 0x10020014
/-- SLU_ERR_CNT0 (R293, RO): Live: [7:0] ILLEGAL_CODE; [15:8] DISTANCE_BEYOND_HISTORY; [23:16] LENGTH_OVERRUN; [31:24] SEGMENT_BOUNDS -/
abbrev SLU_ERR_CNT0 : Nat := 0x10020020
/-- SLU_ERR_CNT1 (R293, RO): Live: [7:0] HEADER_CRC; [15:8] NEAR_REFUSED; [23:16] ORPHAN; [31:24] ABANDONED_LINK, ABANDONED_CFG and DISCARDED together -/
abbrev SLU_ERR_CNT1 : Nat := 0x10020024
/-- SLU_SEG_CNT (R293, RO): Live: [15:0] segments ended OK; [31:16] stall episodes (R283) -/
abbrev SLU_SEG_CNT : Nat := 0x10020028
/-- SLU_PIX_CNT (R293, RO): Live: [31:0] pixels written -/
abbrev SLU_PIX_CNT : Nat := 0x1002002C
/-- SLU_HIST_CNT0 (R293, RO): Live: [15:0] lines stored at q = 1; [31:16] at q = 3 -/
abbrev SLU_HIST_CNT0 : Nat := 0x10020030
/-- SLU_HIST_CNT1 (R293, RO): Live: [15:0] lines stored at q = 5; [31:16] as RAW5 -/
abbrev SLU_HIST_CNT1 : Nat := 0x10020034
/-- SLU_HIST_WAIT (R293, RO): Live: [15:0] waits under R291 -/
abbrev SLU_HIST_WAIT : Nat := 0x10020038
/-- SLU_ENG (R293, RO): State of engine e -/
abbrev SLU_ENG (i : Nat) : Nat := 0x10020040 + 4 * i
/-- SLU_DMG_XY (R293, RO): [15:0] left column; [31:16] top row of stream s's damaged box -/
abbrev SLU_DMG_XY (i : Nat) : Nat := 0x10020080 + 8 * i
/-- SLU_DMG_WH (R293, RO): [15:0] width; [31:16] height; width 0 means no damage -/
abbrev SLU_DMG_WH (i : Nat) : Nat := 0x10020084 + 8 * i
/-- SLU_HIST_BASE0 (R293, RW): [28:6] frame store offset of history area 0, in 64-byte units -/
abbrev SLU_HIST_BASE0 : Nat := 0x10020100
/-- SLU_HIST_BASE1 (R293, RW): As SLU_HIST_BASE0, for area 1 -/
abbrev SLU_HIST_BASE1 : Nat := 0x10020104
/-- SLU_HIST_IDX0 (R293, RW): [28:6] frame store offset of the index of area 0 -/
abbrev SLU_HIST_IDX0 : Nat := 0x10020108
/-- SLU_HIST_IDX1 (R293, RW): As SLU_HIST_IDX0, for area 1 -/
abbrev SLU_HIST_IDX1 : Nat := 0x1002010C
/-- SLU_HIST_LINE (R293, RO): [15:0] B in bytes for the timing set in force (R288) -/
abbrev SLU_HIST_LINE : Nat := 0x10020110
/-- FST_CTRL (R317, RW): Scrub enable, icon detect mode -/
abbrev FST_CTRL : Nat := 0x10030000
/-- FST_STATUS (R317, RO): [0] DRAM_READY; [1] SCRUB_INFLIGHT; [2] POISONED, some DISPLAYED tile has POISON; [31:3] reserved -/
abbrev FST_STATUS : Nat := 0x10030004
/-- FST_EVENT (R317, W1C): Error and protection events -/
abbrev FST_EVENT : Nat := 0x10030008
/-- FST_WPROT (R317, RW): Window write protection per area -/
abbrev FST_WPROT : Nat := 0x1003000C
/-- FST_ECC_CNT (R317, RO): Live: [15:0] corrected codewords; [31:16] uncorrectable codewords -/
abbrev FST_ECC_CNT : Nat := 0x10030010
/-- FST_COPY_CNT (R317, RO): Live: [15:0] tile copies (R302); [31:16] tiles marked POISON -/
abbrev FST_COPY_CNT : Nat := 0x10030014
/-- FST_SCRUB_POS (R317, RO): [28:8] offset of the next unit in 256-byte units -/
abbrev FST_SCRUB_POS : Nat := 0x10030020
/-- FST_SCRUB_PASS (R317, RO): [15:0] completed passes; [31:16] frames taken by the last pass; saturating -/
abbrev FST_SCRUB_PASS : Nat := 0x10030024
/-- FST_SCRUB_CNT (R317, RO): Live: [15:0] units completed; [31:16] write-backs cancelled (R312) -/
abbrev FST_SCRUB_CNT : Nat := 0x10030028
/-- FST_SCRUB_AGE (R317, RW): [15:0] frames before the pass-age event (R313) -/
abbrev FST_SCRUB_AGE : Nat := 0x1003002C
/-- FST_ERR_HEAD (R317, RO): [3:0] entries held, 0 to 8; [6:4] index of the newest entry; [31:7] reserved -/
abbrev FST_ERR_HEAD : Nat := 0x10030030
/-- FST_ERR_ADDR (R317, RO): [28:6] offset of the codeword in 64-byte units -/
abbrev FST_ERR_ADDR (i : Nat) : Nat := 0x10030040 + 8 * i
/-- FST_ERR_INFO (R317, RO): Kind, reader and frame of the entry -/
abbrev FST_ERR_INFO (i : Nat) : Nat := 0x10030044 + 8 * i
/-- SCN_CTRL (R344, RW): Run, follow, frame-start events -/
abbrev SCN_CTRL : Nat := 0x10040000
/-- SCN_COMMIT (R344, RW): Commit bits and locks -/
abbrev SCN_COMMIT : Nat := 0x10040004
/-- SCN_STATUS (R344, RO, W1C): Lock, late commit, timing and Weir events -/
abbrev SCN_STATUS : Nat := 0x10040008
/-- SCN_LATE_FRAME (R344, RO): Frame number in which the last late SCN commit was set -/
abbrev SCN_LATE_FRAME : Nat := 0x1004000C
/-- SCN_POS (R344, RO): [15:0] LINE; [16] ACTIVE, the line is active; [17] HOLD, hold frame; [18] EXTENDING, past vmin − 1; [19] LR_STEPPING; [31:20] reserved -/
abbrev SCN_POS : Nat := 0x10040010
/-- SCN_FRAME (R344, RO): Current frame number (R321) -/
abbrev SCN_FRAME : Nat := 0x10040014
/-- SCN_FRAME_LOAD (R344, RW): Frame number taken at RUN 0 to 1 -/
abbrev SCN_FRAME_LOAD : Nat := 0x10040018
/-- SCN_LAST_FRAME (R344, RO): [15:0] lines of the last frame; [18:16] END, the branch of R323 that ended it: 0b000 vmax, 0b001 flip, 0b010 tell-tale change, 0b011 LOW_RATE length, 0b100 minimum length; [31:19] reserved -/
abbrev SCN_LAST_FRAME : Nat := 0x1004001C
/-- SCN_CLOSE (R344, SH): [11:0] CLOSE_LINES, 16 to 1,023; a value outside this range is treated as 64 -/
abbrev SCN_CLOSE : Nat := 0x10040020
/-- SCN_LOWRATE (R344, SH): [0] LR_EN; [15:8] LR_HZ, 30 to 120, other values treated as R328 gives; [23:16] LR_STEP in Hz, 0 treated as 1; [31:24] LR_ENTRY frames -/
abbrev SCN_LOWRATE : Nat := 0x10040024
/-- SCN_WEIR (R344, SH): [3:0] BASE_BUF; [7:4] OV1_BUF; [11:8] OV2_BUF; [19:16] WM_LO; [23:20] WM_HI, in sixteenths -/
abbrev SCN_WEIR : Nat := 0x10040028
/-- SCN_HTIME (R344, SH, privileged): [15:0] H_TOTAL; [31:16] H_ACTIVE -/
abbrev SCN_HTIME : Nat := 0x10040040
/-- SCN_HSYNC (R344, SH, privileged): [15:0] H_SYNC; [31:16] H_START -/
abbrev SCN_HSYNC : Nat := 0x10040044
/-- SCN_VTIME (R344, SH, privileged): [15:0] V_TOTAL; [31:16] V_ACTIVE -/
abbrev SCN_VTIME : Nat := 0x10040048
/-- SCN_VSYNC (R344, SH, privileged): [15:0] V_SYNC; [31:16] V_START -/
abbrev SCN_VSYNC : Nat := 0x1004004C
/-- SCN_VRR (R344, SH, privileged): [15:0] V_TOTAL_MAX; [16] VRR_EN -/
abbrev SCN_VRR : Nat := 0x10040050
/-- SCN_PCLK (R344, SH, privileged): [23:0] PCLK in kHz -/
abbrev SCN_PCLK : Nat := 0x10040054
/-- SCN_WEIR_CNT (R344, RO): Live: [15:0] urgent episodes; [31:16] UNDERRUN lines -/
abbrev SCN_WEIR_CNT : Nat := 0x10040060
/-- SCN_FLIP_CNT (R344, RO): Live: [7:0] flips; [15:8] LATE_SEGMENT; [23:16] BYPASS_LATE lines; [31:24] late SCN commits -/
abbrev SCN_FLIP_CNT : Nat := 0x10040064
/-- SCN_EXT_CNT (R344, RO): Live: [15:0] lines added beyond vmin -/
abbrev SCN_EXT_CNT : Nat := 0x10040068
/-- SCN_FLIP_HEAD (R344, RO): [3:0] NEWEST entry; [7:4] reserved; [31:8] FLIP_SEQ -/
abbrev SCN_FLIP_HEAD : Nat := 0x10040100
/-- SCN_FLIP_FRAME (R344, RO): Frame number of the flip -/
abbrev SCN_FLIP_FRAME (i : Nat) : Nat := 0x10040200 + 16 * i
/-- SCN_FLIP_TLO (R344, RO): Module time bits [31:0] -/
abbrev SCN_FLIP_TLO (i : Nat) : Nat := 0x10040204 + 16 * i
/-- SCN_FLIP_THI (R344, RO): [15:0] module time bits [47:32]; [19:16] STREAM; [20] BYPASS; [21] OSC_TIME; [31:22] reserved -/
abbrev SCN_FLIP_THI (i : Nat) : Nat := 0x10040208 + 16 * i
/-- SCN_FLIP_HOST (R344, RO): HOST_FRAME from the FRAME_READY (R223) -/
abbrev SCN_FLIP_HOST (i : Nat) : Nat := 0x1004020C + 16 * i
/-- RNG_CTRL (R158, RW): Dark reclaim, default map -/
abbrev RNG_CTRL : Nat := 0x10050000
/-- RNG_COMMIT (R158, RW): [0] COMMIT; [1] LOCKED, RO -/
abbrev RNG_COMMIT : Nat := 0x10050004
/-- RNG_TABLE_BASE (R158, SH): [15:4] Pond C offset of the table in 16-byte units -/
abbrev RNG_TABLE_BASE : Nat := 0x10050008
/-- RNG_STATUS (R158, RO, W1C): Table errors, locked writes, late commits -/
abbrev RNG_STATUS : Nat := 0x1005000C
/-- RNG_POS (R158, RO): Current line, tick and slot -/
abbrev RNG_POS : Nat := 0x10050010
/-- RNG_LATE_FRAME (R158, RO): Frame number of the last LATE_COMMIT -/
abbrev RNG_LATE_FRAME : Nat := 0x10050014
/-- RNG_GUARD_ABORT (R158, RO): [15:0] forced releases (R146), saturating -/
abbrev RNG_GUARD_ABORT : Nat := 0x10050018
/-- RNG_STRAY (R158, RO): [15:0] stray fixed events (R147), saturating -/
abbrev RNG_STRAY : Nat := 0x1005001C
/-- RNG_USED (R158, RO): [15:0] slots used by class c in the last complete frame; [31:16] slots granted to it -/
abbrev RNG_USED (i : Nat) : Nat := 0x10050020 + 4 * i
/-- CPS_CTRL (R367, SH): [0] OV1_EN; [1] OV2_EN; [31:2] reserved -/
abbrev CPS_CTRL : Nat := 0x10060000
/-- CPS_COMMIT (R367, RW): [0] COMMIT; [1] PCOMMIT; [2] LOCKED, RO; [3] PLOCKED, RO -/
abbrev CPS_COMMIT : Nat := 0x10060004
/-- CPS_STATUS (R367, RO, W1C): Lock, late commit, window and icon events -/
abbrev CPS_STATUS : Nat := 0x10060008
/-- CPS_LATE_FRAME (R367, RO): Frame number in which the last late CPS commit was set -/
abbrev CPS_LATE_FRAME : Nat := 0x1006000C
/-- CPS_OV1_BLEND (R367, SH): [8:0] ALPHA; [9] KEY_EN; [31:10] reserved -/
abbrev CPS_OV1_BLEND : Nat := 0x10060010
/-- CPS_OV1_KEY (R367, SH): [29:0] KEY as R, G, B in [9:0], [19:10], [29:20] -/
abbrev CPS_OV1_KEY : Nat := 0x10060014
/-- CPS_OV2_BLEND (R367, SH): As CPS_OV1_BLEND -/
abbrev CPS_OV2_BLEND : Nat := 0x10060018
/-- CPS_OV2_KEY (R367, SH): As CPS_OV1_KEY -/
abbrev CPS_OV2_KEY : Nat := 0x1006001C
/-- CPS_TT_REQ (R367, RO): Request bitmap in force this frame (R351) -/
abbrev CPS_TT_REQ : Nat := 0x10060020
/-- CPS_TT_EN (R367, SH, privileged): One bit per configured window -/
abbrev CPS_TT_EN : Nat := 0x10060024
/-- CPS_TT_ERR (R367, RO): Windows with an uncorrectable icon read in the last complete frame (R355) -/
abbrev CPS_TT_ERR : Nat := 0x10060028
/-- CPS_TT_POS (R367, SH, privileged): [12:0] X_i; [27:16] Y_i; [2:0] and [18:16] must be 0 -/
abbrev CPS_TT_POS (i : Nat) : Nat := 0x10060100 + 16 * i
/-- CPS_TT_SIZE (R367, SH, privileged): [8:0] W_i; [24:16] H_i -/
abbrev CPS_TT_SIZE (i : Nat) : Nat := 0x10060104 + 16 * i
/-- CPS_TT_ICON (R367, SH, privileged): [28:6] frame store offset of the icon in 64-byte units -/
abbrev CPS_TT_ICON (i : Nat) : Nat := 0x10060108 + 16 * i
/-- CPS_TT_BG (R367, SH, privileged): [29:0] BG_i as R, G, B -/
abbrev CPS_TT_BG (i : Nat) : Nat := 0x1006010C + 16 * i
/-- DTH_CTRL (R368, SH): Stage enables and depth -/
abbrev DTH_CTRL : Nat := 0x10070000
/-- DTH_COMMIT (R368, RW): [0] COMMIT; [1] LUT_LOAD, WO; [2] LOCKED, RO; [3] LUT_BUSY, RO -/
abbrev DTH_COMMIT : Nat := 0x10070004
/-- DTH_STATUS (R368, RO, W1C): Lock, late commit, table load -/
abbrev DTH_STATUS : Nat := 0x10070008
/-- DTH_LATE_FRAME (R368, RO): Frame number in which the last late DTH commit was set -/
abbrev DTH_LATE_FRAME : Nat := 0x1007000C
/-- DTH_LUT_BASE (R368, SH): [15:4] Pond C offset of the table image in 16-byte units -/
abbrev DTH_LUT_BASE : Nat := 0x10070010
/-- DTH_GAIN_RG (R368, SH): [15:0] R gain; [31:16] G gain, 1.15, used when LOOP_GAIN = 0 -/
abbrev DTH_GAIN_RG : Nat := 0x10070014
/-- DTH_GAIN_B (R368, SH): [15:0] B gain -/
abbrev DTH_GAIN_B : Nat := 0x10070018
/-- DTH_GAIN_NOW_RG (R368, RO): R and G gains in force this frame -/
abbrev DTH_GAIN_NOW_RG : Nat := 0x1007001C
/-- DTH_GAIN_NOW_B (R368, RO): [15:0] B gain in force this frame -/
abbrev DTH_GAIN_NOW_B : Nat := 0x10070020
/-- DTH_LD (R368, SH): [15:0] LD_TARGET; [31:16] GMAX in 4.12 -/
abbrev DTH_LD : Nat := 0x10070024
/-- DTH_LD_BMIN (R368, SH): [15:0] BMIN -/
abbrev DTH_LD_BMIN : Nat := 0x10070028
/-- DTH_TT_GAIN_RG (R368, SH): Window gains R and G, 1.15 (R365) -/
abbrev DTH_TT_GAIN_RG : Nat := 0x1007002C
/-- DTH_TT_GAIN_B (R368, SH): [15:0] window gain B; [31:16] TT_LDG in 4.12 -/
abbrev DTH_TT_GAIN_B : Nat := 0x10070030
/-- DTH_CNT (R368, RO): Live: [15:0] LD_CLIP, saturating; [31:16] reserved -/
abbrev DTH_CNT : Nat := 0x10070034
/-- DTH_PHASE (R368, RO): [1:0] Φ; [31:2] reserved -/
abbrev DTH_PHASE : Nat := 0x10070038
/-- ODV_CTRL (R394, SH): [0] EN; [1] TRAJ_EN; [7:2] reserved; [16:8] STRENGTH, 0 to 256, values above 256 treated as 256; [31:17] reserved -/
abbrev ODV_CTRL : Nat := 0x10080000
/-- ODV_COMMIT (R394, RW): [0] COMMIT; [1] LUT_LOAD, WO; [2] LOCKED, RO; [3] LUT_BUSY, RO -/
abbrev ODV_COMMIT : Nat := 0x10080004
/-- ODV_STATUS (R394, RO, W1C): Lock, late commit, table load, history -/
abbrev ODV_STATUS : Nat := 0x10080008
/-- ODV_LATE_FRAME (R394, RO): Frame number in which the last late ODV commit was set -/
abbrev ODV_LATE_FRAME : Nat := 0x1008000C
/-- ODV_LUT_BASE (R394, SH): [28:6] frame store offset of the table image in 64-byte units -/
abbrev ODV_LUT_BASE : Nat := 0x10080010
/-- ODV_TBIN0 (R394, SH): [15:0] TH1, −20 °C; [31:16] TH2, 0 °C -/
abbrev ODV_TBIN0 : Nat := 0x10080014
/-- ODV_TBIN1 (R394, SH): [15:0] TH3, 15 °C; [31:16] TH4, 30 °C -/
abbrev ODV_TBIN1 : Nat := 0x10080018
/-- ODV_TBIN2 (R394, SH): [15:0] TH5, 45 °C; [31:16] TH6, 60 °C -/
abbrev ODV_TBIN2 : Nat := 0x1008001C
/-- ODV_TBIN3 (R394, SH): [15:0] TH7, 75 °C; [23:16] HYST in 0.125 °C, 2 °C; [31:24] reserved -/
abbrev ODV_TBIN3 : Nat := 0x10080020
/-- ODV_STATE (R394, RO): Bin and bypass in force this frame -/
abbrev ODV_STATE : Nat := 0x10080024
/-- ODV_CNT (R394, RO): Live: [15:0] lines passed unchanged under R383; [31:16] history lines read as RAW5 -/
abbrev ODV_CNT : Nat := 0x10080028
/-- ODV_BIN_CNT (R394, RO): [15:0] bin changes since PIX powered up, saturating -/
abbrev ODV_BIN_CNT : Nat := 0x1008002C
/-- DMR_CTRL (R393, SH): [0] EN; [1] SET; [31:2] reserved -/
abbrev DMR_CTRL : Nat := 0x10090000
/-- DMR_COMMIT (R393, RW): [0] COMMIT; [1] reserved; [2] LOCKED, RO; [31:3] reserved -/
abbrev DMR_COMMIT : Nat := 0x10090004
/-- DMR_STATUS (R393, RO, W1C): Lock, late commit, set checks -/
abbrev DMR_STATUS : Nat := 0x10090008
/-- DMR_LATE_FRAME (R393, RO): Frame number in which the last late DMR commit was set -/
abbrev DMR_LATE_FRAME : Nat := 0x1009000C
/-- DMR_BASE0 (R393, SH): [28:6] frame store offset of set 0 in 64-byte units -/
abbrev DMR_BASE0 : Nat := 0x10090010
/-- DMR_BASE1 (R393, SH): [28:6] frame store offset of set 1 in 64-byte units -/
abbrev DMR_BASE1 : Nat := 0x10090014
/-- DMR_ANCHOR01 (R393, RO): [13:0] A0; [29:16] A1 of the set in force -/
abbrev DMR_ANCHOR01 : Nat := 0x10090018
/-- DMR_ANCHOR2 (R393, RO): [13:0] A2; [18:16] SCALE of the set in force -/
abbrev DMR_ANCHOR2 : Nat := 0x1009001C
/-- DMR_CNT (R393, RO): Live: [7:0] segment errors; [15:8] bands zeroed for errors or uncorrectable reads; [23:16] late bands; [31:24] reserved -/
abbrev DMR_CNT : Nat := 0x10090020
/-- DMR_LAST_ERR (R393, RO): Last band zeroed under R376 -/
abbrev DMR_LAST_ERR : Nat := 0x10090024
/-- COL_CTRL (R416, RW): [0] RUN: lanes active, set in the bias sequence; [31:1] reserved -/
abbrev COL_CTRL : Nat := 0x100A0000
/-- COL_COMMIT (R416, RW): [0] COMMIT; [1] reserved; [2] LOCKED, RO; [31:3] reserved -/
abbrev COL_COMMIT : Nat := 0x100A0004
/-- COL_STATUS (R416, RO, W1C): Lock, late commit, refusals, bring-up -/
abbrev COL_STATUS : Nat := 0x100A0008
/-- COL_LATE_FRAME (R416, RO): Frame number in which the last late COL commit was set -/
abbrev COL_LATE_FRAME : Nat := 0x100A000C
/-- COL_CFG (R416, SH): [0] RATE; [1] DUAL; [2] DEPTH8; [3] reserved; [13:4] CH; [15:14] reserved; [23:16] OUT_DLY; [31:24] reserved -/
abbrev COL_CFG : Nat := 0x100A0010
/-- COL_LANES (R416, SH): Enabled lanes -/
abbrev COL_LANES : Nat := 0x100A0014
/-- COL_MAP (R416, SH): [0] REV_A, for J3; [1] REV_B, for J4 -/
abbrev COL_MAP : Nat := 0x100A0018
/-- COL_POL (R416, SH): [1:0] GROUP; [2] LINE_ALT; [3] FRAME_ALT; [4] BASE -/
abbrev COL_POL : Nat := 0x100A001C
/-- COL_BCH (R416, SH): [7:0] FIRST; [15:8] LAST -/
abbrev COL_BCH : Nat := 0x100A0020
/-- COL_RETRAIN (R416, WO): Lanes to retrain (R411) -/
abbrev COL_RETRAIN : Nat := 0x100A0024
/-- COL_INSERVICE (R416, RO): Lanes in service -/
abbrev COL_INSERVICE : Nat := 0x100A0028
/-- COL_TRAINING (R416, RO): Lanes sending training sets -/
abbrev COL_TRAINING : Nat := 0x100A002C
/-- COL_FAILED (R416, RO): Lanes marked FAILED -/
abbrev COL_FAILED : Nat := 0x100A0030
/-- COL_REGOVF (R416, RO): Lanes met by more than 8 windows (R404) -/
abbrev COL_REGOVF : Nat := 0x100A0034
/-- COL_CNT (R416, RO): Live: [7:0] retrains started; [15:8] missing replies; [23:16] replies with LINE_ERR; [31:24] sum of ERR_CNT reported -/
abbrev COL_CNT : Nat := 0x100A0038
/-- COL_REPLY (R416, RO): [7:0] STATUS; [15:8] FRAME8; [19:16] NREG; [20] VALID, a reply arrived in the last window; [31:21] reserved -/
abbrev COL_REPLY (i : Nat) : Nat := 0x100A0040 + 4 * i
/-- GSQ_CTRL (R437, SH): [0] DIR_FWD (R419); [7:1] reserved; [11:8] NPHASE, 1 to 12, where 0 and values above 12 are treated as 12; [31:12] reserved -/
abbrev GSQ_CTRL : Nat := 0x100B0000
/-- GSQ_COMMIT (R437, RW): [0] COMMIT; [1] reserved; [2] LOCKED, RO; [3] LOAD_BUSY, RO -/
abbrev GSQ_COMMIT : Nat := 0x100B0004
/-- GSQ_STATUS (R437, RO, W1C): Lock, late commit, program and run events -/
abbrev GSQ_STATUS : Nat := 0x100B0008
/-- GSQ_LATE_FRAME (R437, RO): Frame number in which the last late GSQ commit was set -/
abbrev GSQ_LATE_FRAME : Nat := 0x100B000C
/-- GSQ_PROG_BASE (R437, SH): [15:4] Pond C offset of the image in 16-byte units -/
abbrev GSQ_PROG_BASE : Nat := 0x100B0010
/-- GSQ_PC (R437, RO): [8:0] instruction index; [11:9] reserved; [15:12] PH; [16] RUNNING; [17] SENSE_OPEN -/
abbrev GSQ_PC : Nat := 0x100B0014
/-- GSQ_OUT (R437, RO): [16:0] program output levels (R417); [17] DIR_F level -/
abbrev GSQ_OUT : Nat := 0x100B0018
/-- GSQ_SENSE (R437, RO): Scan-end result of the last complete frame (R428) -/
abbrev GSQ_SENSE : Nat := 0x100B001C
/-- GSQ_CNT (R437, RO): Live: [7:0] scanned frames with SCAN_OK = 0; [15:8] OVERRUN; [23:16] LATE_WAIT; [31:24] SLIP; saturating -/
abbrev GSQ_CNT : Nat := 0x100B0020
/-- GSQ_ALLON (R437, RW): [7:0] ALLON_ON_T; [15:8] ALLON_OFF_T; in 0.1 ms, 0 treated as 1 -/
abbrev GSQ_ALLON : Nat := 0x100B0024
/-- BIAS_CTRL (R438, RW): [0] UP: a write of 1 runs power-up and a write of 0 runs power-down; [1] VCOM_CL (R431) -/
abbrev BIAS_CTRL : Nat := 0x100C0000
/-- BIAS_COMMIT (R438, RW): [0] COMMIT; [1] reserved; [2] LOCKED, RO -/
abbrev BIAS_COMMIT : Nat := 0x100C0004
/-- BIAS_STATUS (R438, RO, W1C): Sequence, faults, commits -/
abbrev BIAS_STATUS : Nat := 0x100C0008
/-- BIAS_LATE_FRAME (R438, RO): Frame number in which the last late BIAS commit was set -/
abbrev BIAS_LATE_FRAME : Nat := 0x100C000C
/-- BIAS_VGH (R438, SH): [7:0] CODE; reset 20.0 V -/
abbrev BIAS_VGH : Nat := 0x100C0010
/-- BIAS_VGL (R438, SH): [6:0] CODE; reset −8.0 V -/
abbrev BIAS_VGL : Nat := 0x100C0014
/-- BIAS_AVDD (R438, SH): [7:0] CODE, reset 16.0 V; [21:16] HAV_TRIM, two's complement -/
abbrev BIAS_AVDD : Nat := 0x100C0018
/-- BIAS_VCOM (R438, SH): [9:0] CODE; reset 7.500 V -/
abbrev BIAS_VCOM : Nat := 0x100C001C
/-- BIAS_GMA (R438, SH): [9:0] code of GMA(2k + 1); [25:16] code of GMA(2k + 2) -/
abbrev BIAS_GMA (i : Nat) : Nat := 0x100C0020 + 4 * i
/-- BIAS_MEAS0 (R438, RO): [15:0] VGH; [31:16] VGL -/
abbrev BIAS_MEAS0 : Nat := 0x100C0040
/-- BIAS_MEAS1 (R438, RO): [15:0] AVDD; [31:16] HAVDD -/
abbrev BIAS_MEAS1 : Nat := 0x100C0044
/-- BIAS_MEAS2 (R438, RO): [15:0] VCOM at pin 24; [31:16] VCOM_FB -/
abbrev BIAS_MEAS2 : Nat := 0x100C0048
/-- BLD_CTRL (R468, RW): Run, stage clear, expansion enable, neighbour test -/
abbrev BLD_CTRL : Nat := 0x100D0000
/-- BLD_COMMIT (R468, RW): [0] COMMIT; [1] PCOMMIT; [2] LOCKED, RO; [3] PLOCKED, RO -/
abbrev BLD_COMMIT : Nat := 0x100D0004
/-- BLD_STATUS (R468, RO, W1C): Lock, late commit, faults, witness -/
abbrev BLD_STATUS : Nat := 0x100D0008
/-- BLD_LATE_FRAME (R468, RO): Frame number in which the last late BLD commit was set -/
abbrev BLD_LATE_FRAME : Nat := 0x100D000C
/-- BLD_GEOM (R468, SH): [7:0] NCOL; [12:8] NROW; [16] REV_SINK; [17] REV_ROW -/
abbrev BLD_GEOM : Nat := 0x100D0010
/-- BLD_SCAN (R468, SH): [1:0] SWEEPS: 0b00 1, 0b01 2, 0b10 4, 0b11 8; [3:2] SEG: 0b00 1, 0b01 2, 0b10 4; [6] STAGGER_EN; [15:8] RAMP frames, 0 treated as 1; [25:16] ROW_DELAY in lines -/
abbrev BLD_SCAN : Nat := 0x100D0014
/-- BLD_ZONE_CAP (R468, SH): [7:0] CMAX, 2 to 255; values below 2 treated as 2 -/
abbrev BLD_ZONE_CAP : Nat := 0x100D0018
/-- BLD_DIAG (R468, SH): [0] STRETCH_EN; [15:8] V_SHORT in 20 mV -/
abbrev BLD_DIAG : Nat := 0x100D001C
/-- BLD_FLOOR (R468, SH, privileged): [19:0] Z_FLOOR -/
abbrev BLD_FLOOR : Nat := 0x100D0020
/-- BLD_BOOST (R468, SH): [7:0] V_HEAD in 10 mV; [15:8] VB_MIN in 0.1 V, at least 60; [24:16] VB_MAX in 0.1 V, at most 420 -/
abbrev BLD_BOOST : Nat := 0x100D0024
/-- BLD_XCHAIN (R468, RW): [6:0] XDIV: XCLK = 100 MHz ÷ XDIV (R463) -/
abbrev BLD_XCHAIN : Nat := 0x100D0028
/-- BLD_VB (R468, RO): [8:0] V_B in 0.1 V; [24:16] V_plan in 0.1 V -/
abbrev BLD_VB : Nat := 0x100D0030
/-- BLD_HEAD (R468, RO): [15:0] h_min of the last frame in 10 mV; [28:16] its zone index -/
abbrev BLD_HEAD : Nat := 0x100D0034
/-- BLD_CAP_NOW (R468, RO): [11:0] cap in force in mA; [27:16] I_plan in mA (R450) -/
abbrev BLD_CAP_NOW : Nat := 0x100D0038
/-- BLD_WITNESS (R468, RO): [31:0] floor witness bitmap of the last complete frame (R453) -/
abbrev BLD_WITNESS : Nat := 0x100D003C
/-- BLD_WITNESS_FRAME (R468, RO): Frame number of BLD_WITNESS -/
abbrev BLD_WITNESS_FRAME : Nat := 0x100D0040
/-- BLD_CNT (R468, RO): Live: [7:0] BOOST_RAISE; [15:8] frames scaled under R450; [23:16] stretched pulses; [31:24] failed checked windows -/
abbrev BLD_CNT : Nat := 0x100D0044
/-- BLD_FAULT_CNT (R468, RO): [15:0] zones OPEN or DISABLED; [31:16] zones SHORT -/
abbrev BLD_FAULT_CNT : Nat := 0x100D0048
/-- BLD_UNVER (R468, RO): [15:0] UNVERIFIED zones; [31:16] greatest age, saturating -/
abbrev BLD_UNVER : Nat := 0x100D004C
/-- BLD_XSTAT (R468, RO): [5:0] CHIPS; [6] CHAIN_OK; [15:8] chain errors, saturating -/
abbrev BLD_XSTAT : Nat := 0x100D0050
/-- BLD_XCUR (R468, RW): Group currents of chip n, as the CURRENT word -/
abbrev BLD_XCUR (i : Nat) : Nat := 0x100D0080 + 4 * i
/-- BLD_XCH (R468, RW): [11:0] PW; [12] FOLLOW; [29:17] SRC zone index -/
abbrev BLD_XCH (i : Nat) : Nat := 0x100D1000 + 4 * i
/-- BLD_ZSTAT (R468, RO): Zone status entry of zone z -/
abbrev BLD_ZSTAT (i : Nat) : Nat := 0x100D8000 + 4 * i
/-- LDA_CTRL (R486, SH): Mode -/
abbrev LDA_CTRL : Nat := 0x100E0000
/-- LDA_COMMIT (R486, RW): [0] COMMIT; [1] reserved; [2] LOCKED, RO; [31:3] reserved -/
abbrev LDA_COMMIT : Nat := 0x100E0004
/-- LDA_STATUS (R486, RO, W1C): Lock, late commit, field -/
abbrev LDA_STATUS : Nat := 0x100E0008
/-- LDA_LATE_FRAME (R486, RO): Frame number in which the last late LDA commit was set -/
abbrev LDA_LATE_FRAME : Nat := 0x100E000C
/-- LDA_DECIDE (R486, SH): [7:0] CLIP_FRAC in 1/1,024; [15:8] MEAN_W in 1/64 -/
abbrev LDA_DECIDE : Nat := 0x100E0010
/-- LDA_FILT (R486, SH): [8:0] RISE; [24:16] FALL; in 1/256, values above 256 treated as 256 -/
abbrev LDA_FILT : Nat := 0x100E0014
/-- LDA_CUT (R486, SH): [15:0] CUT in 16-bit linear units -/
abbrev LDA_CUT : Nat := 0x100E0018
/-- LDA_ZGAIN (R486, SH): [19:0] ZGAIN -/
abbrev LDA_ZGAIN : Nat := 0x100E001C
/-- LDA_FIXED (R486, SH): [19:0] FIXED_Z -/
abbrev LDA_FIXED : Nat := 0x100E0020
/-- LDA_FSCALE (R486, SH): [15:0] FSCALE in 4.12 -/
abbrev LDA_FSCALE : Nat := 0x100E0024
/-- LDA_KH (R486, SH): [15:0] KH[2k]; [31:16] KH[2k + 1] -/
abbrev LDA_KH (i : Nat) : Nat := 0x100E0040 + 4 * i
/-- LDA_KV (R486, SH): [15:0] KV[2k]; [31:16] KV[2k + 1] -/
abbrev LDA_KV (i : Nat) : Nat := 0x100E0080 + 4 * i
/-- LDA_IWANT (R486, RO): [11:0] I_want in mA; [27:16] I_floor in mA, as presented at line E -/
abbrev LDA_IWANT : Nat := 0x100E00C0
/-- LDA_DEC_FRAME (R486, RO): Frame number of the last decision -/
abbrev LDA_DEC_FRAME : Nat := 0x100E00C4
/-- LDA_CNT (R486, RO): Live: [7:0] scene cuts; [15:8] decisions scaled under R472; [31:16] FIELD_LATE lines -/
abbrev LDA_CNT : Nat := 0x100E00C8
/-- LDA_ZVAL (R486, RO): [19:0] value delivered for zone z -/
abbrev LDA_ZVAL (i : Nat) : Nat := 0x100E8000 + 4 * i
/-- OPT_CTRL (R487, RW): [0] LOOP_EN (R485); [31:1] reserved -/
abbrev OPT_CTRL : Nat := 0x100F0000
/-- OPT_COMMIT (R487, RW): [0] COMMIT; [1] reserved; [2] LOCKED, RO; [31:3] reserved -/
abbrev OPT_COMMIT : Nat := 0x100F0004
/-- OPT_STATUS (R487, RO, W1C): Lock, late commit, loop state -/
abbrev OPT_STATUS : Nat := 0x100F0008
/-- OPT_LATE_FRAME (R487, RO): Frame number in which the last late OPT commit was set -/
abbrev OPT_LATE_FRAME : Nat := 0x100F000C
/-- OPT_TARGET (R487, SH): [15:0] TR; [31:16] TB; in 2.14 -/
abbrev OPT_TARGET : Nat := 0x100F0010
/-- OPT_LIMIT (R487, SH): [15:0] GAIN_MIN in 1.15; [31:16] STEP_MAX in 1/32,768 -/
abbrev OPT_LIMIT : Nat := 0x100F0014
/-- OPT_LOOP (R487, SH): [15:0] PERIOD in frames, 0 treated as 1; [31:16] MIN_SAMPLES -/
abbrev OPT_LOOP : Nat := 0x100F0018
/-- OPT_SIG (R487, SH): [15:0] MIN_SIGNAL -/
abbrev OPT_SIG : Nat := 0x100F001C
/-- OPT_PD_OFS (R487, RW): [15:0] dark offset of R, G, B (R481) -/
abbrev OPT_PD_OFS (i : Nat) : Nat := 0x100F0020 + 4 * i
/-- OPT_DARK (R487, RO): [15:0] mean dark sample of R, G, B in the last frame; [31:16] samples -/
abbrev OPT_DARK (i : Nat) : Nat := 0x100F0030 + 4 * i
/-- OPT_GAIN_RG (R487, RO): [15:0] R gain; [31:16] G gain, presented to DTH -/
abbrev OPT_GAIN_RG : Nat := 0x100F0040
/-- OPT_GAIN_B (R487, RO): [15:0] B gain -/
abbrev OPT_GAIN_B : Nat := 0x100F0044
/-- OPT_GAIN_INIT_RG (R487, RW): Starting R and G gains (R485) -/
abbrev OPT_GAIN_INIT_RG : Nat := 0x100F0048
/-- OPT_GAIN_INIT_B (R487, RW): [15:0] starting B gain -/
abbrev OPT_GAIN_INIT_B : Nat := 0x100F004C
/-- OPT_MEAS (R487, RO): [15:0] mr; [31:16] mb of the last update -/
abbrev OPT_MEAS : Nat := 0x100F0050
/-- OPT_CNT (R487, RO): [15:0] valid samples in the period so far; [23:16] saturated samples; [31:24] UPDATE_SKIP; saturating -/
abbrev OPT_CNT : Nat := 0x100F0054
/-- SAF_CTRL (R511, RW): [0] FAULT_ACTION; [1] PROOF_EV; [2] SAFE_SET, WO; [3] SAFE_CLR, WO; [31:4] reserved -/
abbrev SAF_CTRL : Nat := 0x10100000
/-- SAF_COMMIT (R511, RW): [0] COMMIT; [1] reserved; [2] LOCKED, RO; [31:3] reserved -/
abbrev SAF_COMMIT : Nat := 0x10100004
/-- SAF_STATUS (R511, RO, W1C): Lock, late commit, fault, key, hold, bus -/
abbrev SAF_STATUS : Nat := 0x10100008
/-- SAF_LATE_FRAME (R511, RO): Frame number in which the last late SAF commit was set -/
abbrev SAF_LATE_FRAME : Nat := 0x1010000C
/-- SAF_CAN_ID (R511, RW): [10:4] BASE ID [10:4]; [3:0] and [31:11] reserved -/
abbrev SAF_CAN_ID : Nat := 0x10100010
/-- SAF_CAN_BT (R511, RW): [1:0] data rate: 0b00 1, 0b01 2, 0b10 4, 0b11 5 Mbit/s -/
abbrev SAF_CAN_BT : Nat := 0x10100014
/-- SAF_PARTNER_REQ (R511, RW): Partner bitmap; writes only while PARTNER_SEEN = 0 (R491) -/
abbrev SAF_PARTNER_REQ : Nat := 0x10100018
/-- SAF_HOST_REQ (R511, RW): Host bitmap (R488) -/
abbrev SAF_HOST_REQ : Nat := 0x1010001C
/-- SAF_REQ_LIVE (R511, RO): Live request bitmap -/
abbrev SAF_REQ_LIVE : Nat := 0x10100020
/-- SAF_HOLD (R511, RW): [2:0] FRAMES, a write starts a hold (R495); [6:4] LEFT, RO, held frames still to run -/
abbrev SAF_HOLD : Nat := 0x10100024
/-- SAF_ALIVE (R511, WO): [0] ALIVE (R509) -/
abbrev SAF_ALIVE : Nat := 0x10100028
/-- SAF_ABSENT (R511, RO): [6:0] absence count; [7] ABSENT -/
abbrev SAF_ABSENT : Nat := 0x1010002C
/-- SAF_PROOF (R511, RO): Last record: FRAME, REQ, PROVEN, MAC -/
abbrev SAF_PROOF (i : Nat) : Nat := 0x10100040 + 4 * i
/-- SAF_PROOF_STAT (R511, RO): STATUS of the last record -/
abbrev SAF_PROOF_STAT : Nat := 0x10100050
/-- SAF_WIT_PACK (R511, RO): Tell-tales passing W1 in the last record -/
abbrev SAF_WIT_PACK : Nat := 0x10100054
/-- SAF_WIT_DRV (R511, RO): Tell-tales passing W2 -/
abbrev SAF_WIT_DRV : Nat := 0x10100058
/-- SAF_WIT_FLOOR (R511, RO): W3 bitmap used -/
abbrev SAF_WIT_FLOOR : Nat := 0x1010005C
/-- SAF_WIT_SCAN (R511, RO): [0] SCAN_OK used; [1] NOSCAN -/
abbrev SAF_WIT_SCAN : Nat := 0x10100060
/-- SAF_EXCUSED (R511, RO): Tell-tales excused in the last record -/
abbrev SAF_EXCUSED : Nat := 0x10100064
/-- SAF_FAULT_TT (R511, W1C): Tell-tales whose count reached 3 -/
abbrev SAF_FAULT_TT : Nat := 0x10100068
/-- SAF_CNT (R511, RO): Live: [7:0] unproven requested tell-tales counted; [15:8] excused; [23:16] held frames; [31:24] PROOF_DROP -/
abbrev SAF_CNT : Nat := 0x1010006C
/-- SAF_CAN_CNT (R511, RO): [7:0] TT_REQUEST accepted; [15:8] messages discarded (R505); [23:16] TT_KEY refused; [31:24] bus-off events -/
abbrev SAF_CAN_CNT : Nat := 0x10100070
/-- SAF_UNPROVEN (R511, RO): U_i in 2 bits each: tell-tale 16k + m at [2m + 1:2m] -/
abbrev SAF_UNPROVEN (i : Nat) : Nat := 0x10100074 + 4 * i
/-- SAF_EXP (R511, SH): [15:0] expected part A; [31:16] expected part B -/
abbrev SAF_EXP (i : Nat) : Nat := 0x10100100 + 8 * i
/-- SAF_WIN_LANES (R511, RO): [4:0] lane of part A; [12:8] lane of part B; [16] TWO_PARTS -/
abbrev SAF_WIN_LANES (i : Nat) : Nat := 0x10100104 + 8 * i
/-- SAF_PACK (R511, RO): Packer part CRCs of the last record's frame, A in [15:0] -/
abbrev SAF_PACK (i : Nat) : Nat := 0x10100200 + 8 * i
/-- SAF_DRV (R511, RO): Driver part CRCs of the last record's frame, A in [15:0] -/
abbrev SAF_DRV (i : Nat) : Nat := 0x10100204 + 8 * i
/-- MBX_CTRL (R543, RW): [3:0] EN of MB0 to MB3; [31:4] reserved -/
abbrev MBX_CTRL : Nat := 0x10110000
/-- MBX_STATUS (R543, RO): [3:0] DISABLED per mailbox; [4] MB3_UNLOCKED; [7:5] reserved; [14:8] IN_FLIGHT, commands outstanding in all mailboxes, 0 to 64; [31:15] reserved -/
abbrev MBX_STATUS : Nat := 0x10110004
/-- MBX_EVENT (R543, W1C): Per-mailbox events -/
abbrev MBX_EVENT : Nat := 0x10110008
/-- MBX_PORT_CNT (R543, RO): [7:0] owned-slot writes dropped; [15:8] SPI range errors; [23:16] SPI bad OP; [31:24] MB0 completions discarded (R534) -/
abbrev MBX_PORT_CNT : Nat := 0x1011000C
/-- MBX_DB (R543, RW): Doorbell -/
abbrev MBX_DB (i : Nat) : Nat := 0x10110100 + 32 * i
/-- MBX_CMD_HEAD (R543, RO): [3:0] CMD_HEAD -/
abbrev MBX_CMD_HEAD (i : Nat) : Nat := 0x10110104 + 32 * i
/-- MBX_CPL_TAIL (R543, RO): [3:0] CPL_TAIL; [4] PHASE of the pass in progress -/
abbrev MBX_CPL_TAIL (i : Nat) : Nat := 0x10110108 + 32 * i
/-- MBX_CPL_HEAD (R543, RW): [3:0] CPL_HEAD, written by the sender as it consumes (R517) -/
abbrev MBX_CPL_HEAD (i : Nat) : Nat := 0x1011010C + 32 * i
/-- MBX_OUT (R543, RO): [4:0] outstanding commands, 0 to 16 -/
abbrev MBX_OUT (i : Nat) : Nat := 0x10110110 + 32 * i
/-- MBX_CNT (R543, RO): [15:0] commands taken; [23:16] slots refused for QUEUE_FULL; [31:24] TIMEOUT completions -/
abbrev MBX_CNT (i : Nat) : Nat := 0x10110114 + 32 * i
/-- MBX_PAUSE (R543, RO): [15:0] timeout pauses; [31:16] LINK_RECOVERED completions -/
abbrev MBX_PAUSE (i : Nat) : Nat := 0x10110118 + 32 * i
/-- DMA_CTRL (R600, RW): [0] ENGINE_EN: the engine takes channels; [31:1] reserved -/
abbrev DMA_CTRL : Nat := 0x10120000
/-- DMA_STATUS (R600, RO): [3:0] channel holding the engine; [4] BUSY; [5] WAIT_SLOT; [6] WAIT_PACE; [31:7] reserved -/
abbrev DMA_STATUS : Nat := 0x10120004
/-- DMA_IRQ_STATUS (R600, W1C): [15:0] DONE per channel; [31:16] ERR per channel (R595) -/
abbrev DMA_IRQ_STATUS : Nat := 0x10120008
/-- DMA_IRQ_EN (R600, RW): Same layout as DMA_IRQ_STATUS -/
abbrev DMA_IRQ_EN : Nat := 0x1012000C
/-- DMA_CNT (R600, RO): Live: [15:0] descriptors completed; [23:16] descriptors refused under R586; [31:24] bus errors -/
abbrev DMA_CNT : Nat := 0x10120010
/-- DMA_BYTES (R600, RO): Live: [31:0] bytes completed, in 8-byte units -/
abbrev DMA_BYTES : Nat := 0x10120014
/-- DMA_EVENT (R600, W1C): [0] BAD_WR; [1] QERR (R591); [2] EMPTY (R587); [31:3] reserved -/
abbrev DMA_EVENT : Nat := 0x10120018
/-- DMA_QFILL (R600, RO): [23:0] fill count in bytes -/
abbrev DMA_QFILL (i : Nat) : Nat := 0x10120020 + 4 * i
/-- DMA_QADD (R600, WO): [23:0] bytes added to the fill count -/
abbrev DMA_QADD (i : Nat) : Nat := 0x10120030 + 4 * i
/-- DMA_QSUB (R600, WO): [23:0] bytes subtracted from the fill count -/
abbrev DMA_QSUB (i : Nat) : Nat := 0x10120040 + 4 * i
/-- DMA_CH_CTRL (R600, RW): Channel control -/
abbrev DMA_CH_CTRL (i : Nat) : Nat := 0x10120100 + 64 * i
/-- DMA_CH_STATUS (R600, RO): Channel state -/
abbrev DMA_CH_STATUS (i : Nat) : Nat := 0x10120104 + 64 * i
/-- DMA_CH_DESC (R600, RW): [31:3] next or current descriptor address; [2:0] reserved -/
abbrev DMA_CH_DESC (i : Nat) : Nat := 0x10120108 + 64 * i
/-- DMA_CH_COUNT (R600, RW): [15:0] descriptors left (R592) -/
abbrev DMA_CH_COUNT (i : Nat) : Nat := 0x1012010C + 64 * i
/-- DMA_CH_COUNT_ADD (R600, WO): [15:0] descriptors added -/
abbrev DMA_CH_COUNT_ADD (i : Nat) : Nat := 0x10120110 + 64 * i
/-- DMA_CH_HIGH (R600, RW): [23:0] HIGH in bytes (R590) -/
abbrev DMA_CH_HIGH (i : Nat) : Nat := 0x10120114 + 64 * i
/-- DMA_CH_LOW (R600, RW): [23:0] LOW in bytes -/
abbrev DMA_CH_LOW (i : Nat) : Nat := 0x10120118 + 64 * i
/-- DMA_CH_IDX (R600, RO): [7:0] SRC_IDX; [15:8] DST_IDX: current list entries -/
abbrev DMA_CH_IDX (i : Nat) : Nat := 0x1012011C + 64 * i
/-- DMA_CH_SRC_OFF (R600, RO): Bytes completed within the current source entry -/
abbrev DMA_CH_SRC_OFF (i : Nat) : Nat := 0x10120120 + 64 * i
/-- DMA_CH_DST_OFF (R600, RO): Bytes completed within the current destination entry -/
abbrev DMA_CH_DST_OFF (i : Nat) : Nat := 0x10120124 + 64 * i
/-- DMA_CH_DONE (R600, RO): Bytes completed in the current descriptor -/
abbrev DMA_CH_DONE (i : Nat) : Nat := 0x10120128 + 64 * i
/-- DMA_CH_ERR_ADDR (R600, RO): Failing address of the last bus error -/
abbrev DMA_CH_ERR_ADDR (i : Nat) : Nat := 0x1012012C + 64 * i
/-- DMA_CH_ERR_INFO (R600, RO): [0] DIR: 0 read, 1 write; [1] VALID; [31:2] reserved -/
abbrev DMA_CH_ERR_INFO (i : Nat) : Nat := 0x10120130 + 64 * i
/-- PWR_DOMAIN_STATUS (R143, RO, W1C): Domains on, access refusals -/
abbrev PWR_DOMAIN_STATUS : Nat := 0x10130000
/-- PWR_IDLE_OFF (R143, RW): [15:0] idle time in ms before an on-demand domain turns off (R114) -/
abbrev PWR_IDLE_OFF : Nat := 0x10130008
/-- PWR_PERF (R143, RO): Current and next performance level -/
abbrev PWR_PERF : Nat := 0x10130010
/-- PWR_SLEEP_RESULT (R143, RO): Outcome of the last sleep vote -/
abbrev PWR_SLEEP_RESULT : Nat := 0x10130024
/-- PWR_SPRING (R143, RW): Spring threshold (R137) -/
abbrev PWR_SPRING : Nat := 0x10130030
/-- PWR_WAKE_EN (R143, RW): STANDBY wake sources and sleep target -/
abbrev PWR_WAKE_EN : Nat := 0x10130034
/-- PWR_NOWAKE_TIMEOUT (R143, RW): [15:0] seconds for R126; 0 disables -/
abbrev PWR_NOWAKE_TIMEOUT : Nat := 0x10130038
/-- PWR_PEND_DROP (R143, RO): [15:0] count of discarded pending sleeps (R134), saturating -/
abbrev PWR_PEND_DROP : Nat := 0x1013003C
/-- GOV_CTRL (R177, RW): [0] MANUAL (R175) -/
abbrev GOV_CTRL : Nat := 0x10130100
/-- GOV_BUDGET (R177, RW): [15:0] P_BUDGET in 0.1 W, 50 to 1,200; a write outside this range has no effect and sets BAD_WR -/
abbrev GOV_BUDGET : Nat := 0x10130104
/-- GOV_THERM (R177, RW): [7:0] G_TH in 0.01 W/K; [15:8] H_MARGIN in K -/
abbrev GOV_THERM : Nat := 0x10130108
/-- GOV_TLIM (R177, RW): [15:0] TDIE_LIM, 115 °C; [31:16] TCASE_LIM, 100 °C -/
abbrev GOV_TLIM : Nat := 0x1013010C
/-- GOV_TPANEL (R177, RW): [15:0] PANEL_START, 70 °C; [31:16] PANEL_LIM, 85 °C -/
abbrev GOV_TPANEL : Nat := 0x10130110
/-- GOV_LED (R177, RW): [11:0] LED_GOAL, 1,000 mA; [27:16] LED_MIN, 400 mA -/
abbrev GOV_LED : Nat := 0x10130114
/-- GOV_LED2 (R177, RW): [9:0] ETA in 0.001; [23:16] PANEL_MIN_FRAC in 1/256 -/
abbrev GOV_LED2 : Nat := 0x10130118
/-- GOV_CEIL (R177, RW): Restore and ceiling settings -/
abbrev GOV_CEIL : Nat := 0x1013011C
/-- GOV_LEVEL_FLOOR (R177, RW): [1:0] CORE_MIN, coded as in R116 -/
abbrev GOV_LEVEL_FLOOR : Nat := 0x10130120
/-- GOV_LEVEL (R177, RW): [15:0] S_L in mW; [31:16] K_L in mW per Gpixel/s -/
abbrev GOV_LEVEL (i : Nat) : Nat := 0x10130124 + 4 * i
/-- GOV_OD (R177, RW): [15:0] K_OD in mW per Gpixel/s -/
abbrev GOV_OD : Nat := 0x10130134
/-- GOV_ESLOT (R177, RW): E_c in nJ: [5:0] LOG, [11:6] CAL, [17:12] SCRUB, [23:18] EDDY, [29:24] DMA -/
abbrev GOV_ESLOT : Nat := 0x10130138
/-- GOV_CAL_TRIG (R177, RW): [15:0] minimum CAL grant during a triggered calibration -/
abbrev GOV_CAL_TRIG : Nat := 0x1013013C
/-- GOV_CLASS (R177, RW): [15:0] REQ slots per frame; [31:16] FLOOR slots per frame -/
abbrev GOV_CLASS (i : Nat) : Nat := 0x10130140 + 4 * i
/-- GOV_MANUAL (R177, RW): [1:0] LEVEL; [2] OD; [15:8] CEIL in Hz; [27:16] LED_CAP in mA -/
abbrev GOV_MANUAL : Nat := 0x10130160
/-- GOV_STATUS (R177, RO, W1C): Decision for the next frame -/
abbrev GOV_STATUS : Nat := 0x10130180
/-- GOV_CAP (R177, RO): [11:0] LED cap in mA; [27:16] I_floor in mA -/
abbrev GOV_CAP : Nat := 0x10130184
/-- GOV_ALLOW (R177, RO): [15:0] A_in in 0.1 mJ; [31:16] P_diss_allow in mW -/
abbrev GOV_ALLOW : Nat := 0x10130188
/-- GOV_DEBT (R177, RO): [15:0] D in 0.1 mJ -/
abbrev GOV_DEBT : Nat := 0x1013018C
/-- GOV_MEAS (R177, RO): [15:0] P_VIN in 10 mW; [31:16] P_LED in 10 mW -/
abbrev GOV_MEAS : Nat := 0x10130190
/-- GOV_TEMP (R177, RO): [15:0] hottest die sensor; [31:16] case -/
abbrev GOV_TEMP : Nat := 0x10130194
/-- GOV_TPANEL_MEAS (R177, RO): [15:0] panel temperature -/
abbrev GOV_TPANEL_MEAS : Nat := 0x10130198
/-- GOV_GRANT (R177, RO): [15:0] slots granted to class c for the next frame -/
abbrev GOV_GRANT (i : Nat) : Nat := 0x101301A0 + 4 * i
/-- GOV_SHORT_COUNT (R177, RO): [15:0] frames in shortfall, saturating -/
abbrev GOV_SHORT_COUNT : Nat := 0x101301B4
/-- CAL_CTRL (R632, RW): [0] TRIG_EN; [1] BOOT_EN; [15:8] CAL_TEMP_STEP in 0.125 °C; [23:16] EYE_MIN in 1/64 UI; [31:24] reserved -/
abbrev CAL_CTRL : Nat := 0x10140000
/-- CAL_STATUS (R632, RO, W1C): Run state and events -/
abbrev CAL_STATUS : Nat := 0x10140004
/-- CAL_COUNT (R632, RO): [31:0] runs completed -/
abbrev CAL_COUNT : Nat := 0x10140008
/-- CAL_LAST_FRAME (R632, RO): SCN_FRAME at the end of the last run -/
abbrev CAL_LAST_FRAME : Nat := 0x1014000C
/-- CAL_LAST_TLO (R632, RO): Module time bits [31:0] -/
abbrev CAL_LAST_TLO : Nat := 0x10140010
/-- CAL_LAST_THI (R632, RO): [15:0] module time bits [47:32] -/
abbrev CAL_LAST_THI : Nat := 0x10140014
/-- CAL_REJECT (R632, RO): [7:0] link; [15:8] back channel; [23:16] photodiode; [31:24] sink; refused results, saturating -/
abbrev CAL_REJECT : Nat := 0x10140018
/-- CAL_TREF (R632, RO): [15:0] die temperature s at the start of the last run (R9) -/
abbrev CAL_TREF (i : Nat) : Nat := 0x10140030 + 4 * i
/-- CAL_LANE_MAP (R632, RW): [2:0] D0; [5:3] D1; [8:6] E0; [11:9] E1; [17:12] PHASE; [31:18] reserved -/
abbrev CAL_LANE_MAP (i : Nat) : Nat := 0x10140100 + 16 * i
/-- CAL_LANE_TRIM (R632, RW): Trim of element e at [5e + 4:5e], two's complement in 2 mV, −32 to +30 mV -/
abbrev CAL_LANE_TRIM (i : Nat) : Nat := 0x10140104 + 16 * i
/-- CAL_LANE_QUAL (R632, RO): [5:0] eye width in 1/64 UI; [15:8] residual offset in mV, two's complement; [19:16] PEAK_NOW, link lanes only; [31:20] reserved -/
abbrev CAL_LANE_QUAL (i : Nat) : Nat := 0x10140108 + 16 * i
/-- CAL_LANE_CNT (R632, RO): [15:0] steps applied; [23:16] KEPT; [31:24] skipped; saturating -/
abbrev CAL_LANE_CNT (i : Nat) : Nat := 0x1014010C + 16 * i
/-- CAL_SINK (R632, RW): Sink c -/
abbrev CAL_SINK (i : Nat) : Nat := 0x10141000 + 4 * i
/-- SYS_ID (R652, RO): [15:0] product code; [23:16] hardware version -/
abbrev SYS_ID : Nat := 0x10150000
/-- SYS_CAPS (R652, RO): [7:0] column lanes, 24; [15:8] tell-tale windows, 32; [16] expansion chain; [31:24] CAPS layout version -/
abbrev SYS_CAPS : Nat := 0x10150004
/-- SYS_SERIAL_LO (R652, RO): Serial number bits [31:0] -/
abbrev SYS_SERIAL_LO : Nat := 0x10150008
/-- SYS_SERIAL_HI (R652, RO): Serial number bits [63:32] -/
abbrev SYS_SERIAL_HI : Nat := 0x1015000C
/-- SYS_MODE (R109, RO): Current mode, origin mode, transition state -/
abbrev SYS_MODE : Nat := 0x10150010
/-- SYS_TIME_LO (R652, RO): Module time bits [31:0] (R634) -/
abbrev SYS_TIME_LO : Nat := 0x10150020
/-- SYS_TIME_HI (R652, RO): [15:0] module time bits [47:32]; [16] OSC_TIME -/
abbrev SYS_TIME_HI : Nat := 0x10150024
/-- SYS_SNAP_SEQ (R652, RO): Snapshot sequence number -/
abbrev SYS_SNAP_SEQ : Nat := 0x10150100
/-- SYS_SNAP_FRAME (R652, RO): Frame of the latched counts -/
abbrev SYS_SNAP_FRAME : Nat := 0x10150104
/-- SYS_SNAP_LINES (R652, RO): [15:0] lines of that frame; [21:16] domains on at the copy, as PWR_DOMAIN_STATUS [5:0] -/
abbrev SYS_SNAP_LINES : Nat := 0x10150108
/-- SYS_SNAP_ENERGY (R652, RO): [15:0] VIN energy; [31:16] LED energy; in 0.1 mJ, saturating -/
abbrev SYS_SNAP_ENERGY : Nat := 0x1015010C
/-- SYS_SNAP_ADDR (R652, RW): Address of a live counter (R637) -/
abbrev SYS_SNAP_ADDR : Nat := 0x10150110
/-- SYS_SNAP_DATA (R652, RO): Latched value of that counter -/
abbrev SYS_SNAP_DATA : Nat := 0x10150114
/-- SYS_SNAP_TLO (R652, RO): Module time at the copy, bits [31:0] -/
abbrev SYS_SNAP_TLO : Nat := 0x10150118
/-- SYS_SNAP_THI (R652, RO): [15:0] bits [47:32]; [16] OSC_TIME; [17] SNAP_BAD, cleared by the next valid address -/
abbrev SYS_SNAP_THI : Nat := 0x1015011C
/-- SYS_INT_STATUS (R652, RO): INT_N sources (R642) -/
abbrev SYS_INT_STATUS : Nat := 0x10150200
/-- SYS_INT_EN (R652, RW): Same layout as SYS_INT_STATUS -/
abbrev SYS_INT_EN : Nat := 0x10150204
/-- SYS_PINS (R652, RO): [0] INT_N driven low; [1] FAULT_N driven low; [2] PWR_SPRING.LEVEL -/
abbrev SYS_PINS : Nat := 0x10150208
/-- SYS_EVT_EN (R652, RW): One bit per class (R639) -/
abbrev SYS_EVT_EN : Nat := 0x1015020C
/-- SYS_EVT_CNT (R652, RO): [15:0] events written; [31:16] events lost (R640); saturating -/
abbrev SYS_EVT_CNT : Nat := 0x10150210
/-- SYS_EVT_RING (R652, RO): [7:0] next record to write; [15:8] next record to send -/
abbrev SYS_EVT_RING : Nat := 0x10150214
/-- SYS_EVT_LAST (R652, RO): Bytes 4k to 4k + 3 of the last event record written -/
abbrev SYS_EVT_LAST (i : Nat) : Nat := 0x10150220 + 4 * i
/-- SYS_LOG_STATUS (R652, RO): [5:0] parts queued; [6] FULL; [7] SCANNED (R648) -/
abbrev SYS_LOG_STATUS : Nat := 0x10150300
/-- SYS_LOG_NEXT (R652, RO): [12:0] NEXT; [19:16] GEN; [31:20] reserved -/
abbrev SYS_LOG_NEXT : Nat := 0x10150304
/-- SYS_LOG_CNT (R652, RO): [15:0] records written; [31:16] records dropped; saturating, cleared when CTRL powers up -/
abbrev SYS_LOG_CNT : Nat := 0x10150308
/-- SYS_LOG_POST (R652, WO): Bytes 4k to 4k + 3 of a part; a write to SYS_LOG_POST3 queues the part -/
abbrev SYS_LOG_POST (i : Nat) : Nat := 0x10150310 + 4 * i
/-- SYS_POND_CTRL (R615, RW): [0] EDDY_EN; [1] ECC_WB (R604); [31:2] reserved -/
abbrev SYS_POND_CTRL : Nat := 0x10150400
/-- SYS_POND_ECC (R615, RO): Live: [15:0] corrected words; [23:16] uncorrectable words; [31:24] reserved -/
abbrev SYS_POND_ECC : Nat := 0x10150404
/-- SYS_POND_ERR_ADDR (R615, RO): Address of the last uncorrectable word -/
abbrev SYS_POND_ERR_ADDR : Nat := 0x10150408
/-- SYS_POND_ERR_INFO (R615, RO): [1:0] master: 0b00 core, 0b01 Juggler, 0b10 host control port, 0b11 line sequencer; [2] in the holding pool; [15:3] reserved; [31:16] frame number, bits [15:0] -/
abbrev SYS_POND_ERR_INFO : Nat := 0x1015040C
/-- SYS_POND_CONF_A (R615, RO): Live, Pond A: [15:0] core; [31:16] Juggler -/
abbrev SYS_POND_CONF_A : Nat := 0x10150410
/-- SYS_POND_CONF_A2 (R615, RO): Live, Pond A: [15:0] host control port; [31:16] reserved -/
abbrev SYS_POND_CONF_A2 : Nat := 0x10150414
/-- SYS_POND_CONF_B (R615, RO): Live, Pond B: [15:0] core; [31:16] Juggler -/
abbrev SYS_POND_CONF_B : Nat := 0x10150418
/-- SYS_POND_CONF_B2 (R615, RO): Live, Pond B: [15:0] host control port; [31:16] reserved -/
abbrev SYS_POND_CONF_B2 : Nat := 0x1015041C
/-- SYS_POND_CONF_C (R615, RO): Live, Pond C: [15:0] core; [31:16] Juggler -/
abbrev SYS_POND_CONF_C : Nat := 0x10150420
/-- SYS_POND_CONF_C2 (R615, RO): Live, Pond C: [15:0] host control port; [31:16] line sequencers -/
abbrev SYS_POND_CONF_C2 : Nat := 0x10150424
/-- SYS_POND_SPLIT (R615, RO): Live: [15:0] split alias accesses (R609) -/
abbrev SYS_POND_SPLIT : Nat := 0x10150428
/-- SYS_EDDY_STATUS (R615, RO): Position and state -/
abbrev SYS_EDDY_STATUS : Nat := 0x10150440
/-- SYS_EDDY_PASS (R615, RO): [15:0] passes completed; [31:16] frames taken by the last pass -/
abbrev SYS_EDDY_PASS : Nat := 0x10150444
/-- SYS_EDDY_CNT (R615, RO): Live: [15:0] slices tested; [23:16] slices abandoned; [31:24] slices failed -/
abbrev SYS_EDDY_CNT : Nat := 0x10150448
/-- SYS_EDDY_FAIL (R615, RO): [19:0] pond address of the failing word; [26:20] failing bit, 0 to 71; [29:27] March element, 0 to 5; [31:30] reserved -/
abbrev SYS_EDDY_FAIL : Nat := 0x1015044C
/-- SYS_EDDY_EVENT (R615, W1C): [0] FAIL (R614); [1] SKIP (R613); [31:2] reserved -/
abbrev SYS_EDDY_EVENT : Nat := 0x10150450
/-- SYS_FUSE (R615, RO): Repair entries 2k and 2k + 1 (R611) -/
abbrev SYS_FUSE (i : Nat) : Nat := 0x10150480 + 4 * i
/-- WAKE_RECORD (R141, RO): Source and flags of the last wake -/
abbrev WAKE_RECORD : Nat := 0xF0000000
/-- RESET_CAUSE (R141, W1C): Every reset cause since last cleared -/
abbrev RESET_CAUSE : Nat := 0xF0000004
/-- BOOT_STATUS (R109, RO): Image choice, failures, steps reached, time to first lit frame -/
abbrev BOOT_STATUS : Nat := 0xF0000008
/-- WAKE_TIME_LO (R141, RO): Module time at the last wake, bits [31:0] -/
abbrev WAKE_TIME_LO : Nat := 0xF0000010
/-- WAKE_TIME_HI (R141, RO): Module time at the last wake, bits [47:32] in [15:0] -/
abbrev WAKE_TIME_HI : Nat := 0xF0000014

end R

/-! ### Fields -/

namespace F

abbrev PORT_CTRL_ENABLE (p : Nat) : Fld := ⟨(R.PORT_CTRL p), 0, 1⟩
abbrev PORT_CTRL_RATE_EN (p : Nat) : Fld := ⟨(R.PORT_CTRL p), 4, 4⟩
abbrev PORT_CTRL_RETRAIN (p : Nat) : Fld := ⟨(R.PORT_CTRL p), 8, 1⟩
abbrev PORT_CTRL_IDLE_BURST_EN (p : Nat) : Fld := ⟨(R.PORT_CTRL p), 9, 1⟩
abbrev PORT_CTRL_FAR_EN (p : Nat) : Fld := ⟨(R.PORT_CTRL p), 10, 1⟩
abbrev PORT_STATUS_STATE (p : Nat) : Fld := ⟨(R.PORT_STATUS p), 0, 3⟩
abbrev PORT_STATUS_RATE (p : Nat) : Fld := ⟨(R.PORT_STATUS p), 3, 2⟩
abbrev PORT_STATUS_SEEN_TX (p : Nat) : Fld := ⟨(R.PORT_STATUS p), 5, 1⟩
abbrev PORT_STATUS_SEEN_RX (p : Nat) : Fld := ⟨(R.PORT_STATUS p), 6, 1⟩
abbrev PORT_STATUS_REF_OK (p : Nat) : Fld := ⟨(R.PORT_STATUS p), 7, 1⟩
abbrev PORT_STATUS_CAP_NOW (p : Nat) : Fld := ⟨(R.PORT_STATUS p), 8, 4⟩
abbrev PORT_STATUS_RETRY_MS (p : Nat) : Fld := ⟨(R.PORT_STATUS p), 16, 16⟩
abbrev PORT_EVENT_LOS (p : Nat) : Fld := ⟨(R.PORT_EVENT p), 0, 1⟩
abbrev PORT_EVENT_LOL (p : Nat) : Fld := ⟨(R.PORT_EVENT p), 1, 1⟩
abbrev PORT_EVENT_MARKER_ERR (p : Nat) : Fld := ⟨(R.PORT_EVENT p), 2, 1⟩
abbrev PORT_EVENT_DESKEW_FAIL (p : Nat) : Fld := ⟨(R.PORT_EVENT p), 3, 1⟩
abbrev PORT_EVENT_TRAIN_TIMEOUT (p : Nat) : Fld := ⟨(R.PORT_EVENT p), 4, 1⟩
abbrev PORT_EVENT_RETRAIN_FAIL (p : Nat) : Fld := ⟨(R.PORT_EVENT p), 5, 1⟩
abbrev PORT_EVENT_LINK_DOWN (p : Nat) : Fld := ⟨(R.PORT_EVENT p), 6, 1⟩
abbrev PORT_EVENT_LINK_UP (p : Nat) : Fld := ⟨(R.PORT_EVENT p), 7, 1⟩
abbrev PORT_EVENT_TS_CHECK (p : Nat) : Fld := ⟨(R.PORT_EVENT p), 8, 1⟩
abbrev PORT_EVENT_BAD_WR (p : Nat) : Fld := ⟨(R.PORT_EVENT p), 9, 1⟩
abbrev PORT_EVENT_RATE_DROP (p : Nat) : Fld := ⟨(R.PORT_EVENT p), 10, 1⟩
abbrev PORT_PARTNER_CAP (p : Nat) : Fld := ⟨(R.PORT_PARTNER p), 0, 4⟩
abbrev PORT_PARTNER_ROLE (p : Nat) : Fld := ⟨(R.PORT_PARTNER p), 4, 1⟩
abbrev PORT_PARTNER_TRAIN_ID (p : Nat) : Fld := ⟨(R.PORT_PARTNER p), 8, 8⟩
abbrev PORT_PARTNER_VERSION (p : Nat) : Fld := ⟨(R.PORT_PARTNER p), 16, 8⟩
abbrev PORT_TRAIN_CNT_ATTEMPTS (p : Nat) : Fld := ⟨(R.PORT_TRAIN_CNT p), 0, 16⟩
abbrev PORT_TRAIN_CNT_UPS (p : Nat) : Fld := ⟨(R.PORT_TRAIN_CNT p), 16, 16⟩
abbrev PORT_RETRAIN_CNT_RETRAINS (p : Nat) : Fld := ⟨(R.PORT_RETRAIN_CNT p), 0, 16⟩
abbrev PORT_RETRAIN_CNT_FAILED (p : Nat) : Fld := ⟨(R.PORT_RETRAIN_CNT p), 16, 16⟩
abbrev PORT_LOOP_MODE (p : Nat) : Fld := ⟨(R.PORT_LOOP p), 0, 2⟩
abbrev PORT_LOOP_LANE (p : Nat) : Fld := ⟨(R.PORT_LOOP p), 3, 3⟩
abbrev PORT_LOOP_ACTIVE (p : Nat) : Fld := ⟨(R.PORT_LOOP p), 8, 1⟩
abbrev PORT_LOOP_FAR_ACTIVE (p : Nat) : Fld := ⟨(R.PORT_LOOP p), 9, 1⟩
abbrev PORT_PAT_PATTERN (p : Nat) : Fld := ⟨(R.PORT_PAT p), 0, 2⟩
abbrev PORT_PAT_GEN (p : Nat) : Fld := ⟨(R.PORT_PAT p), 2, 1⟩
abbrev PORT_PAT_CHK (p : Nat) : Fld := ⟨(R.PORT_PAT p), 3, 1⟩
abbrev PORT_PAT_FIXED (p : Nat) : Fld := ⟨(R.PORT_PAT p), 4, 10⟩
abbrev PORT_PAT_CHK_LOCK (p : Nat) : Fld := ⟨(R.PORT_PAT p), 14, 1⟩
abbrev PORT_IDLE_CNT_REQUESTED (p : Nat) : Fld := ⟨(R.PORT_IDLE_CNT p), 0, 16⟩
abbrev PORT_IDLE_CNT_SENT (p : Nat) : Fld := ⟨(R.PORT_IDLE_CNT p), 16, 16⟩
abbrev PORT_LANE_PHY_PEAK (p : Nat) (i : Nat) : Fld := ⟨(R.PORT_LANE_PHY p i), 0, 4⟩
abbrev PORT_LANE_PHY_ADAPT (p : Nat) (i : Nat) : Fld := ⟨(R.PORT_LANE_PHY p i), 4, 1⟩
abbrev PORT_LANE_PHY_PEAK_NOW (p : Nat) (i : Nat) : Fld := ⟨(R.PORT_LANE_PHY p i), 8, 4⟩
abbrev PORT_LANE_PHY_SWING (p : Nat) (i : Nat) : Fld := ⟨(R.PORT_LANE_PHY p i), 16, 4⟩
abbrev PORT_LANE_PHY_DEEMPH (p : Nat) (i : Nat) : Fld := ⟨(R.PORT_LANE_PHY p i), 20, 2⟩
abbrev PORT_LANE_STAT_LOS (p : Nat) (i : Nat) : Fld := ⟨(R.PORT_LANE_STAT p i), 0, 1⟩
abbrev PORT_LANE_STAT_LOL (p : Nat) (i : Nat) : Fld := ⟨(R.PORT_LANE_STAT p i), 1, 1⟩
abbrev PORT_LANE_STAT_ALIGNED (p : Nat) (i : Nat) : Fld := ⟨(R.PORT_LANE_STAT p i), 2, 1⟩
abbrev PORT_LANE_STAT_DESKEWED (p : Nat) (i : Nat) : Fld := ⟨(R.PORT_LANE_STAT p i), 3, 1⟩
abbrev PORT_LANE_STAT_SKEW (p : Nat) (i : Nat) : Fld := ⟨(R.PORT_LANE_STAT p i), 8, 8⟩
abbrev PORT_LANE_STAT_MARKER_COUNT (p : Nat) (i : Nat) : Fld := ⟨(R.PORT_LANE_STAT p i), 16, 8⟩
abbrev PORT_LANE_ERR_CODE_ERR (p : Nat) (i : Nat) : Fld := ⟨(R.PORT_LANE_ERR p i), 0, 16⟩
abbrev PORT_LANE_ERR_MARKER_ERR (p : Nat) (i : Nat) : Fld := ⟨(R.PORT_LANE_ERR p i), 16, 8⟩
abbrev PORT_LANE_ERR_LOL_COUNT (p : Nat) (i : Nat) : Fld := ⟨(R.PORT_LANE_ERR p i), 24, 8⟩
abbrev PORT_LANE_BER_VAL (p : Nat) (i : Nat) : Fld := ⟨(R.PORT_LANE_BER p i), 0, 32⟩
abbrev PORT_PKT_STATUS_PKT_UP (p : Nat) : Fld := ⟨(R.PORT_PKT_STATUS p), 0, 1⟩
abbrev PORT_PKT_STATUS_REPLAYING (p : Nat) : Fld := ⟨(R.PORT_PKT_STATUS p), 1, 1⟩
abbrev PORT_PKT_STATUS_RECOVERING (p : Nat) : Fld := ⟨(R.PORT_PKT_STATUS p), 2, 1⟩
abbrev PORT_PKT_STATUS_CREDIT_WAIT (p : Nat) : Fld := ⟨(R.PORT_PKT_STATUS p), 3, 1⟩
abbrev PORT_PKT_STATUS_WINDOW_WAIT (p : Nat) : Fld := ⟨(R.PORT_PKT_STATUS p), 4, 1⟩
abbrev PORT_PKT_STATUS_MAX_REPLAY (p : Nat) : Fld := ⟨(R.PORT_PKT_STATUS p), 8, 4⟩
abbrev PORT_ADDR_ADDR (p : Nat) : Fld := ⟨(R.PORT_ADDR p), 0, 7⟩
abbrev PORT_ADDR_ENUM_BUSY (p : Nat) : Fld := ⟨(R.PORT_ADDR p), 8, 1⟩
abbrev PORT_ADDR_CHAIN_COUNT (p : Nat) : Fld := ⟨(R.PORT_ADDR p), 16, 7⟩
abbrev PORT_ADDR_OVERFLOW (p : Nat) : Fld := ⟨(R.PORT_ADDR p), 23, 1⟩
abbrev PORT_SEQ_NEXT (p : Nat) : Fld := ⟨(R.PORT_SEQ p), 0, 12⟩
abbrev PORT_SEQ_EXP (p : Nat) : Fld := ⟨(R.PORT_SEQ p), 16, 12⟩
abbrev PORT_CREDIT_VIDEO (p : Nat) : Fld := ⟨(R.PORT_CREDIT p), 0, 12⟩
abbrev PORT_CREDIT_CONTROL (p : Nat) : Fld := ⟨(R.PORT_CREDIT p), 12, 10⟩
abbrev PORT_CREDIT_EVENT (p : Nat) : Fld := ⟨(R.PORT_CREDIT p), 22, 10⟩
abbrev PORT_PKT_ERR_CRC (p : Nat) : Fld := ⟨(R.PORT_PKT_ERR p), 0, 8⟩
abbrev PORT_PKT_ERR_HCHK (p : Nat) : Fld := ⟨(R.PORT_PKT_ERR p), 8, 8⟩
abbrev PORT_PKT_ERR_EAB (p : Nat) : Fld := ⟨(R.PORT_PKT_ERR p), 16, 8⟩
abbrev PORT_PKT_ERR_TYPE_ERR (p : Nat) : Fld := ⟨(R.PORT_PKT_ERR p), 24, 8⟩
abbrev PORT_REPLAY_PACKETS (p : Nat) : Fld := ⟨(R.PORT_REPLAY p), 0, 16⟩
abbrev PORT_REPLAY_NAKS (p : Nat) : Fld := ⟨(R.PORT_REPLAY p), 16, 8⟩
abbrev PORT_REPLAY_TIMERS (p : Nat) : Fld := ⟨(R.PORT_REPLAY p), 24, 8⟩
abbrev PORT_STALL_CREDIT_STALL (p : Nat) : Fld := ⟨(R.PORT_STALL p), 0, 16⟩
abbrev PORT_STALL_WINDOW_STALL (p : Nat) : Fld := ⟨(R.PORT_STALL p), 16, 16⟩
abbrev PORT_DROP_LOST (p : Nat) : Fld := ⟨(R.PORT_DROP p), 0, 16⟩
abbrev PORT_DROP_NO_PARTNER (p : Nat) : Fld := ⟨(R.PORT_DROP p), 16, 16⟩
abbrev PORT_NOCFG_NOCFG (p : Nat) : Fld := ⟨(R.PORT_NOCFG p), 0, 16⟩
abbrev PORT_SUBS_VAL (p : Nat) : Fld := ⟨(R.PORT_SUBS p), 0, 16⟩
abbrev PORT_FWD_CNT_VAL (p : Nat) : Fld := ⟨(R.PORT_FWD_CNT p), 0, 32⟩
abbrev SLU_CTRL_ENABLE : Fld := ⟨R.SLU_CTRL, 0, 1⟩
abbrev SLU_CTRL_NEAR_HIST_EN : Fld := ⟨R.SLU_CTRL, 4, 1⟩
abbrev SLU_STATUS_ENG_ACTIVE : Fld := ⟨R.SLU_STATUS, 0, 4⟩
abbrev SLU_STATUS_ENG_STALL_OUT : Fld := ⟨R.SLU_STATUS, 4, 4⟩
abbrev SLU_STATUS_ENG_STALL_IN : Fld := ⟨R.SLU_STATUS, 8, 4⟩
abbrev SLU_STATUS_HIST_ON : Fld := ⟨R.SLU_STATUS, 12, 1⟩
abbrev SLU_STATUS_HIST_AREA : Fld := ⟨R.SLU_STATUS, 13, 1⟩
abbrev SLU_EVENT_SEG_ERR : Fld := ⟨R.SLU_EVENT, 0, 1⟩
abbrev SLU_EVENT_ABANDONED : Fld := ⟨R.SLU_EVENT, 1, 1⟩
abbrev SLU_EVENT_ORPHAN : Fld := ⟨R.SLU_EVENT, 2, 1⟩
abbrev SLU_EVENT_HIST_WAIT : Fld := ⟨R.SLU_EVENT, 3, 1⟩
abbrev SLU_LAST_ERR_CODE : Fld := ⟨R.SLU_LAST_ERR, 0, 4⟩
abbrev SLU_LAST_ERR_STREAM : Fld := ⟨R.SLU_LAST_ERR, 4, 4⟩
abbrev SLU_LAST_ERR_SEG_ID : Fld := ⟨R.SLU_LAST_ERR, 16, 16⟩
abbrev SLU_ERR_POS_X : Fld := ⟨R.SLU_ERR_POS, 0, 16⟩
abbrev SLU_ERR_POS_Y : Fld := ⟨R.SLU_ERR_POS, 16, 16⟩
abbrev SLU_ERR_BIT_VAL : Fld := ⟨R.SLU_ERR_BIT, 0, 32⟩
abbrev SLU_ERR_CNT0_ILLEGAL_CODE : Fld := ⟨R.SLU_ERR_CNT0, 0, 8⟩
abbrev SLU_ERR_CNT0_DISTANCE_BEYOND_HISTORY : Fld := ⟨R.SLU_ERR_CNT0, 8, 8⟩
abbrev SLU_ERR_CNT0_LENGTH_OVERRUN : Fld := ⟨R.SLU_ERR_CNT0, 16, 8⟩
abbrev SLU_ERR_CNT0_SEGMENT_BOUNDS : Fld := ⟨R.SLU_ERR_CNT0, 24, 8⟩
abbrev SLU_ERR_CNT1_HEADER_CRC : Fld := ⟨R.SLU_ERR_CNT1, 0, 8⟩
abbrev SLU_ERR_CNT1_NEAR_REFUSED : Fld := ⟨R.SLU_ERR_CNT1, 8, 8⟩
abbrev SLU_ERR_CNT1_ORPHAN : Fld := ⟨R.SLU_ERR_CNT1, 16, 8⟩
abbrev SLU_ERR_CNT1_ABANDONED_LINK : Fld := ⟨R.SLU_ERR_CNT1, 24, 8⟩
abbrev SLU_SEG_CNT_OK : Fld := ⟨R.SLU_SEG_CNT, 0, 16⟩
abbrev SLU_SEG_CNT_STALLS : Fld := ⟨R.SLU_SEG_CNT, 16, 16⟩
abbrev SLU_PIX_CNT_VAL : Fld := ⟨R.SLU_PIX_CNT, 0, 32⟩
abbrev SLU_HIST_CNT0_Q1 : Fld := ⟨R.SLU_HIST_CNT0, 0, 16⟩
abbrev SLU_HIST_CNT0_Q3 : Fld := ⟨R.SLU_HIST_CNT0, 16, 16⟩
abbrev SLU_HIST_CNT1_Q5 : Fld := ⟨R.SLU_HIST_CNT1, 0, 16⟩
abbrev SLU_HIST_CNT1_RAW5 : Fld := ⟨R.SLU_HIST_CNT1, 16, 16⟩
abbrev SLU_HIST_WAIT_VAL : Fld := ⟨R.SLU_HIST_WAIT, 0, 16⟩
abbrev SLU_ENG_STREAM (i : Nat) : Fld := ⟨(R.SLU_ENG i), 0, 4⟩
abbrev SLU_ENG_ACTIVE (i : Nat) : Fld := ⟨(R.SLU_ENG i), 4, 1⟩
abbrev SLU_ENG_WAIT_OVERLAP (i : Nat) : Fld := ⟨(R.SLU_ENG i), 5, 1⟩
abbrev SLU_ENG_TOKEN (i : Nat) : Fld := ⟨(R.SLU_ENG i), 6, 3⟩
abbrev SLU_ENG_SEG_ID (i : Nat) : Fld := ⟨(R.SLU_ENG i), 16, 16⟩
abbrev SLU_DMG_XY_X (i : Nat) : Fld := ⟨(R.SLU_DMG_XY i), 0, 16⟩
abbrev SLU_DMG_XY_Y (i : Nat) : Fld := ⟨(R.SLU_DMG_XY i), 16, 16⟩
abbrev SLU_DMG_WH_W (i : Nat) : Fld := ⟨(R.SLU_DMG_WH i), 0, 16⟩
abbrev SLU_DMG_WH_H (i : Nat) : Fld := ⟨(R.SLU_DMG_WH i), 16, 16⟩
abbrev SLU_HIST_BASE0_VAL : Fld := ⟨R.SLU_HIST_BASE0, 6, 23⟩
abbrev SLU_HIST_BASE1_VAL : Fld := ⟨R.SLU_HIST_BASE1, 6, 23⟩
abbrev SLU_HIST_IDX0_VAL : Fld := ⟨R.SLU_HIST_IDX0, 6, 23⟩
abbrev SLU_HIST_IDX1_VAL : Fld := ⟨R.SLU_HIST_IDX1, 6, 23⟩
abbrev SLU_HIST_LINE_VAL : Fld := ⟨R.SLU_HIST_LINE, 0, 16⟩
abbrev FST_CTRL_SCRUB_EN : Fld := ⟨R.FST_CTRL, 0, 1⟩
abbrev FST_CTRL_ICON_DETECT : Fld := ⟨R.FST_CTRL, 1, 1⟩
abbrev FST_STATUS_DRAM_READY : Fld := ⟨R.FST_STATUS, 0, 1⟩
abbrev FST_STATUS_SCRUB_INFLIGHT : Fld := ⟨R.FST_STATUS, 1, 1⟩
abbrev FST_STATUS_POISONED : Fld := ⟨R.FST_STATUS, 2, 1⟩
abbrev FST_EVENT_CORR : Fld := ⟨R.FST_EVENT, 0, 1⟩
abbrev FST_EVENT_UNCORR : Fld := ⟨R.FST_EVENT, 1, 1⟩
abbrev FST_EVENT_HARD : Fld := ⟨R.FST_EVENT, 2, 1⟩
abbrev FST_EVENT_WPROT : Fld := ⟨R.FST_EVENT, 3, 1⟩
abbrev FST_EVENT_PARTIAL_REFUSED : Fld := ⟨R.FST_EVENT, 4, 1⟩
abbrev FST_EVENT_SCRUB_AGE : Fld := ⟨R.FST_EVENT, 5, 1⟩
abbrev FST_WPROT_SLOTS : Fld := ⟨R.FST_WPROT, 0, 1⟩
abbrev FST_WPROT_HISTORY : Fld := ⟨R.FST_WPROT, 1, 1⟩
abbrev FST_WPROT_DEMURA : Fld := ⟨R.FST_WPROT, 2, 1⟩
abbrev FST_WPROT_OVERLAY : Fld := ⟨R.FST_WPROT, 3, 1⟩
abbrev FST_WPROT_SPILL : Fld := ⟨R.FST_WPROT, 4, 1⟩
abbrev FST_ECC_CNT_CORR : Fld := ⟨R.FST_ECC_CNT, 0, 16⟩
abbrev FST_ECC_CNT_UNCORR : Fld := ⟨R.FST_ECC_CNT, 16, 16⟩
abbrev FST_COPY_CNT_COPIES : Fld := ⟨R.FST_COPY_CNT, 0, 16⟩
abbrev FST_COPY_CNT_POISON : Fld := ⟨R.FST_COPY_CNT, 16, 16⟩
abbrev FST_SCRUB_POS_VAL : Fld := ⟨R.FST_SCRUB_POS, 8, 21⟩
abbrev FST_SCRUB_PASS_PASSES : Fld := ⟨R.FST_SCRUB_PASS, 0, 16⟩
abbrev FST_SCRUB_PASS_FRAMES : Fld := ⟨R.FST_SCRUB_PASS, 16, 16⟩
abbrev FST_SCRUB_CNT_UNITS : Fld := ⟨R.FST_SCRUB_CNT, 0, 16⟩
abbrev FST_SCRUB_CNT_CANCELLED : Fld := ⟨R.FST_SCRUB_CNT, 16, 16⟩
abbrev FST_SCRUB_AGE_VAL : Fld := ⟨R.FST_SCRUB_AGE, 0, 16⟩
abbrev FST_ERR_HEAD_HELD : Fld := ⟨R.FST_ERR_HEAD, 0, 4⟩
abbrev FST_ERR_HEAD_NEWEST : Fld := ⟨R.FST_ERR_HEAD, 4, 3⟩
abbrev FST_ERR_ADDR_VAL (i : Nat) : Fld := ⟨(R.FST_ERR_ADDR i), 6, 23⟩
abbrev FST_ERR_INFO_SYMBOLS (i : Nat) : Fld := ⟨(R.FST_ERR_INFO i), 0, 3⟩
abbrev FST_ERR_INFO_UNCORR (i : Nat) : Fld := ⟨(R.FST_ERR_INFO i), 3, 1⟩
abbrev FST_ERR_INFO_HARD (i : Nat) : Fld := ⟨(R.FST_ERR_INFO i), 4, 1⟩
abbrev FST_ERR_INFO_READER (i : Nat) : Fld := ⟨(R.FST_ERR_INFO i), 5, 3⟩
abbrev FST_ERR_INFO_FRAME (i : Nat) : Fld := ⟨(R.FST_ERR_INFO i), 16, 16⟩
abbrev SCN_CTRL_RUN : Fld := ⟨R.SCN_CTRL, 0, 1⟩
abbrev SCN_CTRL_FOLLOW : Fld := ⟨R.SCN_CTRL, 1, 1⟩
abbrev SCN_CTRL_FS_EVENT : Fld := ⟨R.SCN_CTRL, 2, 1⟩
abbrev SCN_COMMIT_COMMIT : Fld := ⟨R.SCN_COMMIT, 0, 1⟩
abbrev SCN_COMMIT_TCOMMIT : Fld := ⟨R.SCN_COMMIT, 1, 1⟩
abbrev SCN_COMMIT_LOCKED : Fld := ⟨R.SCN_COMMIT, 2, 1⟩
abbrev SCN_COMMIT_TLOCKED : Fld := ⟨R.SCN_COMMIT, 3, 1⟩
abbrev SCN_STATUS_SHADOW_LOCKED_WR : Fld := ⟨R.SCN_STATUS, 0, 1⟩
abbrev SCN_STATUS_LATE_COMMIT : Fld := ⟨R.SCN_STATUS, 1, 1⟩
abbrev SCN_STATUS_TIMING_REFUSED : Fld := ⟨R.SCN_STATUS, 2, 1⟩
abbrev SCN_STATUS_TIMING_ERR_CODE : Fld := ⟨R.SCN_STATUS, 3, 3⟩
abbrev SCN_STATUS_UNDERRUN : Fld := ⟨R.SCN_STATUS, 6, 1⟩
abbrev SCN_STATUS_BYPASS_LATE : Fld := ⟨R.SCN_STATUS, 7, 1⟩
abbrev SCN_STATUS_LATE_SEGMENT : Fld := ⟨R.SCN_STATUS, 8, 1⟩
abbrev SCN_POS_LINE : Fld := ⟨R.SCN_POS, 0, 16⟩
abbrev SCN_POS_ACTIVE : Fld := ⟨R.SCN_POS, 16, 1⟩
abbrev SCN_POS_HOLD : Fld := ⟨R.SCN_POS, 17, 1⟩
abbrev SCN_POS_EXTENDING : Fld := ⟨R.SCN_POS, 18, 1⟩
abbrev SCN_POS_LR_STEPPING : Fld := ⟨R.SCN_POS, 19, 1⟩
abbrev SCN_LAST_FRAME_LINES : Fld := ⟨R.SCN_LAST_FRAME, 0, 16⟩
abbrev SCN_LAST_FRAME_END : Fld := ⟨R.SCN_LAST_FRAME, 16, 3⟩
abbrev SCN_CLOSE_CLOSE_LINES : Fld := ⟨R.SCN_CLOSE, 0, 12⟩
abbrev SCN_LOWRATE_LR_EN : Fld := ⟨R.SCN_LOWRATE, 0, 1⟩
abbrev SCN_LOWRATE_LR_HZ : Fld := ⟨R.SCN_LOWRATE, 8, 8⟩
abbrev SCN_LOWRATE_LR_STEP : Fld := ⟨R.SCN_LOWRATE, 16, 8⟩
abbrev SCN_LOWRATE_LR_ENTRY : Fld := ⟨R.SCN_LOWRATE, 24, 8⟩
abbrev SCN_WEIR_BASE_BUF : Fld := ⟨R.SCN_WEIR, 0, 4⟩
abbrev SCN_WEIR_OV1_BUF : Fld := ⟨R.SCN_WEIR, 4, 4⟩
abbrev SCN_WEIR_OV2_BUF : Fld := ⟨R.SCN_WEIR, 8, 4⟩
abbrev SCN_WEIR_WM_LO : Fld := ⟨R.SCN_WEIR, 16, 4⟩
abbrev SCN_WEIR_WM_HI : Fld := ⟨R.SCN_WEIR, 20, 4⟩
abbrev SCN_HTIME_H_TOTAL : Fld := ⟨R.SCN_HTIME, 0, 16⟩
abbrev SCN_HTIME_H_ACTIVE : Fld := ⟨R.SCN_HTIME, 16, 16⟩
abbrev SCN_HSYNC_H_SYNC : Fld := ⟨R.SCN_HSYNC, 0, 16⟩
abbrev SCN_HSYNC_H_START : Fld := ⟨R.SCN_HSYNC, 16, 16⟩
abbrev SCN_VTIME_V_TOTAL : Fld := ⟨R.SCN_VTIME, 0, 16⟩
abbrev SCN_VTIME_V_ACTIVE : Fld := ⟨R.SCN_VTIME, 16, 16⟩
abbrev SCN_VSYNC_V_SYNC : Fld := ⟨R.SCN_VSYNC, 0, 16⟩
abbrev SCN_VSYNC_V_START : Fld := ⟨R.SCN_VSYNC, 16, 16⟩
abbrev SCN_VRR_V_TOTAL_MAX : Fld := ⟨R.SCN_VRR, 0, 16⟩
abbrev SCN_VRR_VRR_EN : Fld := ⟨R.SCN_VRR, 16, 1⟩
abbrev SCN_PCLK_PCLK : Fld := ⟨R.SCN_PCLK, 0, 24⟩
abbrev SCN_WEIR_CNT_URGENT : Fld := ⟨R.SCN_WEIR_CNT, 0, 16⟩
abbrev SCN_WEIR_CNT_UNDERRUN : Fld := ⟨R.SCN_WEIR_CNT, 16, 16⟩
abbrev SCN_FLIP_CNT_FLIPS : Fld := ⟨R.SCN_FLIP_CNT, 0, 8⟩
abbrev SCN_FLIP_CNT_LATE_SEGMENT : Fld := ⟨R.SCN_FLIP_CNT, 8, 8⟩
abbrev SCN_FLIP_CNT_BYPASS_LATE : Fld := ⟨R.SCN_FLIP_CNT, 16, 8⟩
abbrev SCN_FLIP_CNT_LATE_COMMITS : Fld := ⟨R.SCN_FLIP_CNT, 24, 8⟩
abbrev SCN_EXT_CNT_VAL : Fld := ⟨R.SCN_EXT_CNT, 0, 16⟩
abbrev SCN_FLIP_HEAD_NEWEST : Fld := ⟨R.SCN_FLIP_HEAD, 0, 4⟩
abbrev SCN_FLIP_HEAD_FLIP_SEQ : Fld := ⟨R.SCN_FLIP_HEAD, 8, 24⟩
abbrev SCN_FLIP_TLO_VAL (i : Nat) : Fld := ⟨(R.SCN_FLIP_TLO i), 0, 32⟩
abbrev SCN_FLIP_THI_TIME_HI (i : Nat) : Fld := ⟨(R.SCN_FLIP_THI i), 0, 16⟩
abbrev SCN_FLIP_THI_STREAM (i : Nat) : Fld := ⟨(R.SCN_FLIP_THI i), 16, 4⟩
abbrev SCN_FLIP_THI_BYPASS (i : Nat) : Fld := ⟨(R.SCN_FLIP_THI i), 20, 1⟩
abbrev SCN_FLIP_THI_OSC_TIME (i : Nat) : Fld := ⟨(R.SCN_FLIP_THI i), 21, 1⟩
abbrev RNG_CTRL_DARK_RECLAIM : Fld := ⟨R.RNG_CTRL, 0, 1⟩
abbrev RNG_CTRL_DEFAULT_MAP : Fld := ⟨R.RNG_CTRL, 4, 3⟩
abbrev RNG_COMMIT_COMMIT : Fld := ⟨R.RNG_COMMIT, 0, 1⟩
abbrev RNG_COMMIT_LOCKED : Fld := ⟨R.RNG_COMMIT, 1, 1⟩
abbrev RNG_TABLE_BASE_VAL : Fld := ⟨R.RNG_TABLE_BASE, 4, 12⟩
abbrev RNG_STATUS_TABLE_ERR : Fld := ⟨R.RNG_STATUS, 0, 1⟩
abbrev RNG_STATUS_TABLE_ERR_CODE : Fld := ⟨R.RNG_STATUS, 1, 3⟩
abbrev RNG_STATUS_SHADOW_LOCKED_WR : Fld := ⟨R.RNG_STATUS, 4, 1⟩
abbrev RNG_STATUS_LATE_COMMIT : Fld := ⟨R.RNG_STATUS, 5, 1⟩
abbrev RNG_POS_LINE : Fld := ⟨R.RNG_POS, 0, 16⟩
abbrev RNG_POS_TICK : Fld := ⟨R.RNG_POS, 16, 8⟩
abbrev RNG_POS_SLOT : Fld := ⟨R.RNG_POS, 24, 6⟩
abbrev RNG_GUARD_ABORT_VAL : Fld := ⟨R.RNG_GUARD_ABORT, 0, 16⟩
abbrev RNG_STRAY_VAL : Fld := ⟨R.RNG_STRAY, 0, 16⟩
abbrev RNG_USED_USED (i : Nat) : Fld := ⟨(R.RNG_USED i), 0, 16⟩
abbrev RNG_USED_GRANTED (i : Nat) : Fld := ⟨(R.RNG_USED i), 16, 16⟩
abbrev CPS_CTRL_OV1_EN : Fld := ⟨R.CPS_CTRL, 0, 1⟩
abbrev CPS_CTRL_OV2_EN : Fld := ⟨R.CPS_CTRL, 1, 1⟩
abbrev CPS_COMMIT_COMMIT : Fld := ⟨R.CPS_COMMIT, 0, 1⟩
abbrev CPS_COMMIT_PCOMMIT : Fld := ⟨R.CPS_COMMIT, 1, 1⟩
abbrev CPS_COMMIT_LOCKED : Fld := ⟨R.CPS_COMMIT, 2, 1⟩
abbrev CPS_COMMIT_PLOCKED : Fld := ⟨R.CPS_COMMIT, 3, 1⟩
abbrev CPS_STATUS_SHADOW_LOCKED_WR : Fld := ⟨R.CPS_STATUS, 0, 1⟩
abbrev CPS_STATUS_LATE_COMMIT : Fld := ⟨R.CPS_STATUS, 1, 1⟩
abbrev CPS_STATUS_WINDOW_REFUSED : Fld := ⟨R.CPS_STATUS, 2, 1⟩
abbrev CPS_STATUS_ICON_ERR : Fld := ⟨R.CPS_STATUS, 3, 1⟩
abbrev CPS_OV1_BLEND_ALPHA : Fld := ⟨R.CPS_OV1_BLEND, 0, 9⟩
abbrev CPS_OV1_BLEND_KEY_EN : Fld := ⟨R.CPS_OV1_BLEND, 9, 1⟩
abbrev CPS_OV1_KEY_KEY : Fld := ⟨R.CPS_OV1_KEY, 0, 30⟩
abbrev CPS_OV2_BLEND_ALPHA : Fld := ⟨R.CPS_OV2_BLEND, 0, 9⟩
abbrev CPS_OV2_BLEND_KEY_EN : Fld := ⟨R.CPS_OV2_BLEND, 9, 1⟩
abbrev CPS_OV2_KEY_KEY : Fld := ⟨R.CPS_OV2_KEY, 0, 30⟩
abbrev CPS_TT_POS_X (i : Nat) : Fld := ⟨(R.CPS_TT_POS i), 0, 13⟩
abbrev CPS_TT_POS_Y (i : Nat) : Fld := ⟨(R.CPS_TT_POS i), 16, 12⟩
abbrev CPS_TT_SIZE_W (i : Nat) : Fld := ⟨(R.CPS_TT_SIZE i), 0, 9⟩
abbrev CPS_TT_SIZE_H (i : Nat) : Fld := ⟨(R.CPS_TT_SIZE i), 16, 9⟩
abbrev CPS_TT_ICON_ADDR (i : Nat) : Fld := ⟨(R.CPS_TT_ICON i), 6, 23⟩
abbrev CPS_TT_BG_BG (i : Nat) : Fld := ⟨(R.CPS_TT_BG i), 0, 30⟩
abbrev DTH_CTRL_DEGAMMA_EN : Fld := ⟨R.DTH_CTRL, 0, 1⟩
abbrev DTH_CTRL_LOOP_GAIN : Fld := ⟨R.DTH_CTRL, 1, 1⟩
abbrev DTH_CTRL_LD_EN : Fld := ⟨R.DTH_CTRL, 2, 1⟩
abbrev DTH_CTRL_GAMMA_EN : Fld := ⟨R.DTH_CTRL, 3, 1⟩
abbrev DTH_CTRL_DITHER_EN : Fld := ⟨R.DTH_CTRL, 4, 1⟩
abbrev DTH_CTRL_TDITHER_EN : Fld := ⟨R.DTH_CTRL, 5, 1⟩
abbrev DTH_CTRL_DEPTH : Fld := ⟨R.DTH_CTRL, 6, 1⟩
abbrev DTH_COMMIT_COMMIT : Fld := ⟨R.DTH_COMMIT, 0, 1⟩
abbrev DTH_COMMIT_LUT_LOAD : Fld := ⟨R.DTH_COMMIT, 1, 1⟩
abbrev DTH_COMMIT_LOCKED : Fld := ⟨R.DTH_COMMIT, 2, 1⟩
abbrev DTH_COMMIT_LUT_BUSY : Fld := ⟨R.DTH_COMMIT, 3, 1⟩
abbrev DTH_STATUS_SHADOW_LOCKED_WR : Fld := ⟨R.DTH_STATUS, 0, 1⟩
abbrev DTH_STATUS_LATE_COMMIT : Fld := ⟨R.DTH_STATUS, 1, 1⟩
abbrev DTH_STATUS_LUT_ERR : Fld := ⟨R.DTH_STATUS, 2, 1⟩
abbrev DTH_STATUS_LUT_ERR_CODE : Fld := ⟨R.DTH_STATUS, 3, 3⟩
abbrev DTH_STATUS_BANK : Fld := ⟨R.DTH_STATUS, 6, 1⟩
abbrev DTH_LUT_BASE_VAL : Fld := ⟨R.DTH_LUT_BASE, 4, 12⟩
abbrev DTH_GAIN_RG_R : Fld := ⟨R.DTH_GAIN_RG, 0, 16⟩
abbrev DTH_GAIN_RG_G : Fld := ⟨R.DTH_GAIN_RG, 16, 16⟩
abbrev DTH_GAIN_B_B : Fld := ⟨R.DTH_GAIN_B, 0, 16⟩
abbrev DTH_GAIN_NOW_RG_R : Fld := ⟨R.DTH_GAIN_NOW_RG, 0, 16⟩
abbrev DTH_GAIN_NOW_RG_G : Fld := ⟨R.DTH_GAIN_NOW_RG, 16, 16⟩
abbrev DTH_GAIN_NOW_B_B : Fld := ⟨R.DTH_GAIN_NOW_B, 0, 16⟩
abbrev DTH_LD_LD_TARGET : Fld := ⟨R.DTH_LD, 0, 16⟩
abbrev DTH_LD_GMAX : Fld := ⟨R.DTH_LD, 16, 16⟩
abbrev DTH_LD_BMIN_BMIN : Fld := ⟨R.DTH_LD_BMIN, 0, 16⟩
abbrev DTH_TT_GAIN_RG_R : Fld := ⟨R.DTH_TT_GAIN_RG, 0, 16⟩
abbrev DTH_TT_GAIN_RG_G : Fld := ⟨R.DTH_TT_GAIN_RG, 16, 16⟩
abbrev DTH_TT_GAIN_B_B : Fld := ⟨R.DTH_TT_GAIN_B, 0, 16⟩
abbrev DTH_TT_GAIN_B_TT_LDG : Fld := ⟨R.DTH_TT_GAIN_B, 16, 16⟩
abbrev DTH_CNT_LD_CLIP : Fld := ⟨R.DTH_CNT, 0, 16⟩
abbrev DTH_PHASE_VAL : Fld := ⟨R.DTH_PHASE, 0, 2⟩
abbrev ODV_CTRL_EN : Fld := ⟨R.ODV_CTRL, 0, 1⟩
abbrev ODV_CTRL_TRAJ_EN : Fld := ⟨R.ODV_CTRL, 1, 1⟩
abbrev ODV_CTRL_STRENGTH : Fld := ⟨R.ODV_CTRL, 8, 9⟩
abbrev ODV_COMMIT_COMMIT : Fld := ⟨R.ODV_COMMIT, 0, 1⟩
abbrev ODV_COMMIT_LUT_LOAD : Fld := ⟨R.ODV_COMMIT, 1, 1⟩
abbrev ODV_COMMIT_LOCKED : Fld := ⟨R.ODV_COMMIT, 2, 1⟩
abbrev ODV_COMMIT_LUT_BUSY : Fld := ⟨R.ODV_COMMIT, 3, 1⟩
abbrev ODV_STATUS_SHADOW_LOCKED_WR : Fld := ⟨R.ODV_STATUS, 0, 1⟩
abbrev ODV_STATUS_LATE_COMMIT : Fld := ⟨R.ODV_STATUS, 1, 1⟩
abbrev ODV_STATUS_LUT_ERR : Fld := ⟨R.ODV_STATUS, 2, 1⟩
abbrev ODV_STATUS_LUT_ERR_CODE : Fld := ⟨R.ODV_STATUS, 3, 3⟩
abbrev ODV_STATUS_BANK : Fld := ⟨R.ODV_STATUS, 6, 1⟩
abbrev ODV_STATUS_HIST_ERR : Fld := ⟨R.ODV_STATUS, 7, 1⟩
abbrev ODV_LUT_BASE_VAL : Fld := ⟨R.ODV_LUT_BASE, 6, 23⟩
abbrev ODV_TBIN0_TH1 : Fld := ⟨R.ODV_TBIN0, 0, 16⟩
abbrev ODV_TBIN0_TH2 : Fld := ⟨R.ODV_TBIN0, 16, 16⟩
abbrev ODV_TBIN1_TH3 : Fld := ⟨R.ODV_TBIN1, 0, 16⟩
abbrev ODV_TBIN1_TH4 : Fld := ⟨R.ODV_TBIN1, 16, 16⟩
abbrev ODV_TBIN2_TH5 : Fld := ⟨R.ODV_TBIN2, 0, 16⟩
abbrev ODV_TBIN2_TH6 : Fld := ⟨R.ODV_TBIN2, 16, 16⟩
abbrev ODV_TBIN3_TH7 : Fld := ⟨R.ODV_TBIN3, 0, 16⟩
abbrev ODV_TBIN3_HYST : Fld := ⟨R.ODV_TBIN3, 16, 8⟩
abbrev ODV_STATE_BIN : Fld := ⟨R.ODV_STATE, 0, 3⟩
abbrev ODV_STATE_RUN : Fld := ⟨R.ODV_STATE, 3, 1⟩
abbrev ODV_STATE_BYPASS : Fld := ⟨R.ODV_STATE, 4, 3⟩
abbrev ODV_STATE_HIST_RUN : Fld := ⟨R.ODV_STATE, 8, 2⟩
abbrev ODV_CNT_UNCHANGED : Fld := ⟨R.ODV_CNT, 0, 16⟩
abbrev ODV_CNT_RAW5 : Fld := ⟨R.ODV_CNT, 16, 16⟩
abbrev ODV_BIN_CNT_VAL : Fld := ⟨R.ODV_BIN_CNT, 0, 16⟩
abbrev DMR_CTRL_EN : Fld := ⟨R.DMR_CTRL, 0, 1⟩
abbrev DMR_CTRL_SET : Fld := ⟨R.DMR_CTRL, 1, 1⟩
abbrev DMR_COMMIT_COMMIT : Fld := ⟨R.DMR_COMMIT, 0, 1⟩
abbrev DMR_COMMIT_LOCKED : Fld := ⟨R.DMR_COMMIT, 2, 1⟩
abbrev DMR_STATUS_SHADOW_LOCKED_WR : Fld := ⟨R.DMR_STATUS, 0, 1⟩
abbrev DMR_STATUS_LATE_COMMIT : Fld := ⟨R.DMR_STATUS, 1, 1⟩
abbrev DMR_STATUS_SET_ERR : Fld := ⟨R.DMR_STATUS, 2, 1⟩
abbrev DMR_STATUS_SET_ERR_CODE : Fld := ⟨R.DMR_STATUS, 3, 3⟩
abbrev DMR_STATUS_SET_NOW : Fld := ⟨R.DMR_STATUS, 6, 1⟩
abbrev DMR_STATUS_BAND_ZERO : Fld := ⟨R.DMR_STATUS, 7, 1⟩
abbrev DMR_BASE0_VAL : Fld := ⟨R.DMR_BASE0, 6, 23⟩
abbrev DMR_BASE1_VAL : Fld := ⟨R.DMR_BASE1, 6, 23⟩
abbrev DMR_ANCHOR01_A0 : Fld := ⟨R.DMR_ANCHOR01, 0, 14⟩
abbrev DMR_ANCHOR01_A1 : Fld := ⟨R.DMR_ANCHOR01, 16, 14⟩
abbrev DMR_ANCHOR2_A2 : Fld := ⟨R.DMR_ANCHOR2, 0, 14⟩
abbrev DMR_ANCHOR2_SCALE : Fld := ⟨R.DMR_ANCHOR2, 16, 3⟩
abbrev DMR_CNT_SEG_ERR : Fld := ⟨R.DMR_CNT, 0, 8⟩
abbrev DMR_CNT_ZEROED : Fld := ⟨R.DMR_CNT, 8, 8⟩
abbrev DMR_CNT_LATE : Fld := ⟨R.DMR_CNT, 16, 8⟩
abbrev DMR_LAST_ERR_CODE : Fld := ⟨R.DMR_LAST_ERR, 0, 4⟩
abbrev DMR_LAST_ERR_BAND : Fld := ⟨R.DMR_LAST_ERR, 4, 8⟩
abbrev DMR_LAST_ERR_SEG : Fld := ⟨R.DMR_LAST_ERR, 12, 4⟩
abbrev DMR_LAST_ERR_FRAME : Fld := ⟨R.DMR_LAST_ERR, 16, 16⟩
abbrev COL_CTRL_RUN : Fld := ⟨R.COL_CTRL, 0, 1⟩
abbrev COL_COMMIT_COMMIT : Fld := ⟨R.COL_COMMIT, 0, 1⟩
abbrev COL_COMMIT_LOCKED : Fld := ⟨R.COL_COMMIT, 2, 1⟩
abbrev COL_STATUS_SHADOW_LOCKED_WR : Fld := ⟨R.COL_STATUS, 0, 1⟩
abbrev COL_STATUS_LATE_COMMIT : Fld := ⟨R.COL_STATUS, 1, 1⟩
abbrev COL_STATUS_CFG_REFUSED : Fld := ⟨R.COL_STATUS, 2, 1⟩
abbrev COL_STATUS_CFG_ERR_CODE : Fld := ⟨R.COL_STATUS, 3, 3⟩
abbrev COL_STATUS_BRINGUP_DONE : Fld := ⟨R.COL_STATUS, 6, 1⟩
abbrev COL_STATUS_LANE_FAIL : Fld := ⟨R.COL_STATUS, 7, 1⟩
abbrev COL_STATUS_RETRAIN : Fld := ⟨R.COL_STATUS, 8, 1⟩
abbrev COL_STATUS_REGION_OVF : Fld := ⟨R.COL_STATUS, 9, 1⟩
abbrev COL_CFG_RATE : Fld := ⟨R.COL_CFG, 0, 1⟩
abbrev COL_CFG_DUAL : Fld := ⟨R.COL_CFG, 1, 1⟩
abbrev COL_CFG_DEPTH8 : Fld := ⟨R.COL_CFG, 2, 1⟩
abbrev COL_CFG_CH : Fld := ⟨R.COL_CFG, 4, 10⟩
abbrev COL_CFG_OUT_DLY : Fld := ⟨R.COL_CFG, 16, 8⟩
abbrev COL_MAP_REV_A : Fld := ⟨R.COL_MAP, 0, 1⟩
abbrev COL_MAP_REV_B : Fld := ⟨R.COL_MAP, 1, 1⟩
abbrev COL_POL_GROUP : Fld := ⟨R.COL_POL, 0, 2⟩
abbrev COL_POL_LINE_ALT : Fld := ⟨R.COL_POL, 2, 1⟩
abbrev COL_POL_FRAME_ALT : Fld := ⟨R.COL_POL, 3, 1⟩
abbrev COL_POL_BASE : Fld := ⟨R.COL_POL, 4, 1⟩
abbrev COL_BCH_FIRST : Fld := ⟨R.COL_BCH, 0, 8⟩
abbrev COL_BCH_LAST : Fld := ⟨R.COL_BCH, 8, 8⟩
abbrev COL_CNT_RETRAINS : Fld := ⟨R.COL_CNT, 0, 8⟩
abbrev COL_CNT_MISSING : Fld := ⟨R.COL_CNT, 8, 8⟩
abbrev COL_CNT_LINE_ERR : Fld := ⟨R.COL_CNT, 16, 8⟩
abbrev COL_CNT_ERR_SUM : Fld := ⟨R.COL_CNT, 24, 8⟩
abbrev COL_REPLY_STATUS (i : Nat) : Fld := ⟨(R.COL_REPLY i), 0, 8⟩
abbrev COL_REPLY_FRAME8 (i : Nat) : Fld := ⟨(R.COL_REPLY i), 8, 8⟩
abbrev COL_REPLY_NREG (i : Nat) : Fld := ⟨(R.COL_REPLY i), 16, 4⟩
abbrev COL_REPLY_VALID (i : Nat) : Fld := ⟨(R.COL_REPLY i), 20, 1⟩
abbrev GSQ_CTRL_DIR_FWD : Fld := ⟨R.GSQ_CTRL, 0, 1⟩
abbrev GSQ_CTRL_NPHASE : Fld := ⟨R.GSQ_CTRL, 8, 4⟩
abbrev GSQ_COMMIT_COMMIT : Fld := ⟨R.GSQ_COMMIT, 0, 1⟩
abbrev GSQ_COMMIT_LOCKED : Fld := ⟨R.GSQ_COMMIT, 2, 1⟩
abbrev GSQ_COMMIT_LOAD_BUSY : Fld := ⟨R.GSQ_COMMIT, 3, 1⟩
abbrev GSQ_STATUS_SHADOW_LOCKED_WR : Fld := ⟨R.GSQ_STATUS, 0, 1⟩
abbrev GSQ_STATUS_LATE_COMMIT : Fld := ⟨R.GSQ_STATUS, 1, 1⟩
abbrev GSQ_STATUS_PROG_ERR : Fld := ⟨R.GSQ_STATUS, 2, 1⟩
abbrev GSQ_STATUS_PROG_ERR_CODE : Fld := ⟨R.GSQ_STATUS, 3, 3⟩
abbrev GSQ_STATUS_OVERRUN : Fld := ⟨R.GSQ_STATUS, 6, 1⟩
abbrev GSQ_STATUS_LATE_WAIT : Fld := ⟨R.GSQ_STATUS, 7, 1⟩
abbrev GSQ_STATUS_SLIP : Fld := ⟨R.GSQ_STATUS, 8, 1⟩
abbrev GSQ_STATUS_BANK : Fld := ⟨R.GSQ_STATUS, 9, 1⟩
abbrev GSQ_PROG_BASE_VAL : Fld := ⟨R.GSQ_PROG_BASE, 4, 12⟩
abbrev GSQ_PC_PC : Fld := ⟨R.GSQ_PC, 0, 9⟩
abbrev GSQ_PC_PH : Fld := ⟨R.GSQ_PC, 12, 4⟩
abbrev GSQ_PC_RUNNING : Fld := ⟨R.GSQ_PC, 16, 1⟩
abbrev GSQ_PC_SENSE_OPEN : Fld := ⟨R.GSQ_PC, 17, 1⟩
abbrev GSQ_OUT_LEVELS : Fld := ⟨R.GSQ_OUT, 0, 17⟩
abbrev GSQ_OUT_DIR_F : Fld := ⟨R.GSQ_OUT, 17, 1⟩
abbrev GSQ_SENSE_SCAN_OK : Fld := ⟨R.GSQ_SENSE, 0, 1⟩
abbrev GSQ_SENSE_NOSCAN : Fld := ⟨R.GSQ_SENSE, 1, 1⟩
abbrev GSQ_SENSE_WINDOW : Fld := ⟨R.GSQ_SENSE, 2, 1⟩
abbrev GSQ_SENSE_CROSSINGS : Fld := ⟨R.GSQ_SENSE, 3, 3⟩
abbrev GSQ_SENSE_FRAME : Fld := ⟨R.GSQ_SENSE, 16, 16⟩
abbrev GSQ_CNT_SCAN_BAD : Fld := ⟨R.GSQ_CNT, 0, 8⟩
abbrev GSQ_CNT_OVERRUN : Fld := ⟨R.GSQ_CNT, 8, 8⟩
abbrev GSQ_CNT_LATE_WAIT : Fld := ⟨R.GSQ_CNT, 16, 8⟩
abbrev GSQ_CNT_SLIP : Fld := ⟨R.GSQ_CNT, 24, 8⟩
abbrev GSQ_ALLON_ALLON_ON_T : Fld := ⟨R.GSQ_ALLON, 0, 8⟩
abbrev GSQ_ALLON_ALLON_OFF_T : Fld := ⟨R.GSQ_ALLON, 8, 8⟩
abbrev BIAS_CTRL_UP : Fld := ⟨R.BIAS_CTRL, 0, 1⟩
abbrev BIAS_CTRL_VCOM_CL : Fld := ⟨R.BIAS_CTRL, 1, 1⟩
abbrev BIAS_COMMIT_COMMIT : Fld := ⟨R.BIAS_COMMIT, 0, 1⟩
abbrev BIAS_COMMIT_LOCKED : Fld := ⟨R.BIAS_COMMIT, 2, 1⟩
abbrev BIAS_STATUS_SEQ_STEP : Fld := ⟨R.BIAS_STATUS, 0, 4⟩
abbrev BIAS_STATUS_DIR : Fld := ⟨R.BIAS_STATUS, 4, 1⟩
abbrev BIAS_STATUS_UP_DONE : Fld := ⟨R.BIAS_STATUS, 5, 1⟩
abbrev BIAS_STATUS_RAIL_FAULT : Fld := ⟨R.BIAS_STATUS, 6, 1⟩
abbrev BIAS_STATUS_FAULT_RAIL : Fld := ⟨R.BIAS_STATUS, 7, 3⟩
abbrev BIAS_STATUS_SHADOW_LOCKED_WR : Fld := ⟨R.BIAS_STATUS, 10, 1⟩
abbrev BIAS_STATUS_LATE_COMMIT : Fld := ⟨R.BIAS_STATUS, 11, 1⟩
abbrev BIAS_STATUS_SET_REFUSED : Fld := ⟨R.BIAS_STATUS, 12, 1⟩
abbrev BIAS_VGH_CODE : Fld := ⟨R.BIAS_VGH, 0, 8⟩
abbrev BIAS_VGL_CODE : Fld := ⟨R.BIAS_VGL, 0, 7⟩
abbrev BIAS_AVDD_CODE : Fld := ⟨R.BIAS_AVDD, 0, 8⟩
abbrev BIAS_AVDD_HAV_TRIM : Fld := ⟨R.BIAS_AVDD, 16, 6⟩
abbrev BIAS_VCOM_CODE : Fld := ⟨R.BIAS_VCOM, 0, 10⟩
abbrev BIAS_GMA_ODD (i : Nat) : Fld := ⟨(R.BIAS_GMA i), 0, 10⟩
abbrev BIAS_GMA_EVEN (i : Nat) : Fld := ⟨(R.BIAS_GMA i), 16, 10⟩
abbrev BIAS_MEAS0_VGH : Fld := ⟨R.BIAS_MEAS0, 0, 16⟩
abbrev BIAS_MEAS0_VGL : Fld := ⟨R.BIAS_MEAS0, 16, 16⟩
abbrev BIAS_MEAS1_AVDD : Fld := ⟨R.BIAS_MEAS1, 0, 16⟩
abbrev BIAS_MEAS1_HAVDD : Fld := ⟨R.BIAS_MEAS1, 16, 16⟩
abbrev BIAS_MEAS2_VCOM : Fld := ⟨R.BIAS_MEAS2, 0, 16⟩
abbrev BIAS_MEAS2_VCOM_FB : Fld := ⟨R.BIAS_MEAS2, 16, 16⟩
abbrev BLD_CTRL_RUN : Fld := ⟨R.BLD_CTRL, 0, 1⟩
abbrev BLD_CTRL_STAGE_CLR : Fld := ⟨R.BLD_CTRL, 1, 1⟩
abbrev BLD_CTRL_X_EN : Fld := ⟨R.BLD_CTRL, 2, 1⟩
abbrev BLD_CTRL_NBR_START : Fld := ⟨R.BLD_CTRL, 3, 1⟩
abbrev BLD_COMMIT_COMMIT : Fld := ⟨R.BLD_COMMIT, 0, 1⟩
abbrev BLD_COMMIT_PCOMMIT : Fld := ⟨R.BLD_COMMIT, 1, 1⟩
abbrev BLD_COMMIT_LOCKED : Fld := ⟨R.BLD_COMMIT, 2, 1⟩
abbrev BLD_COMMIT_PLOCKED : Fld := ⟨R.BLD_COMMIT, 3, 1⟩
abbrev BLD_STATUS_SHADOW_LOCKED_WR : Fld := ⟨R.BLD_STATUS, 0, 1⟩
abbrev BLD_STATUS_LATE_COMMIT : Fld := ⟨R.BLD_STATUS, 1, 1⟩
abbrev BLD_STATUS_CFG_REFUSED : Fld := ⟨R.BLD_STATUS, 2, 1⟩
abbrev BLD_STATUS_STAGE_LATCH : Fld := ⟨R.BLD_STATUS, 3, 1⟩
abbrev BLD_STATUS_STAGE_CODE : Fld := ⟨R.BLD_STATUS, 4, 3⟩
abbrev BLD_STATUS_ZONE_FAULT : Fld := ⟨R.BLD_STATUS, 7, 1⟩
abbrev BLD_STATUS_WITNESS_FAIL : Fld := ⟨R.BLD_STATUS, 8, 1⟩
abbrev BLD_STATUS_CAP_SCALED : Fld := ⟨R.BLD_STATUS, 9, 1⟩
abbrev BLD_STATUS_XCHAIN_ERR : Fld := ⟨R.BLD_STATUS, 10, 1⟩
abbrev BLD_STATUS_NBR_FAULT : Fld := ⟨R.BLD_STATUS, 11, 1⟩
abbrev BLD_STATUS_NBR_BUSY : Fld := ⟨R.BLD_STATUS, 12, 1⟩
abbrev BLD_STATUS_RAMPING : Fld := ⟨R.BLD_STATUS, 13, 1⟩
abbrev BLD_GEOM_NCOL : Fld := ⟨R.BLD_GEOM, 0, 8⟩
abbrev BLD_GEOM_NROW : Fld := ⟨R.BLD_GEOM, 8, 5⟩
abbrev BLD_GEOM_REV_SINK : Fld := ⟨R.BLD_GEOM, 16, 1⟩
abbrev BLD_GEOM_REV_ROW : Fld := ⟨R.BLD_GEOM, 17, 1⟩
abbrev BLD_SCAN_SWEEPS : Fld := ⟨R.BLD_SCAN, 0, 2⟩
abbrev BLD_SCAN_SEG : Fld := ⟨R.BLD_SCAN, 2, 2⟩
abbrev BLD_SCAN_STAGGER_EN : Fld := ⟨R.BLD_SCAN, 6, 1⟩
abbrev BLD_SCAN_RAMP : Fld := ⟨R.BLD_SCAN, 8, 8⟩
abbrev BLD_SCAN_ROW_DELAY : Fld := ⟨R.BLD_SCAN, 16, 10⟩
abbrev BLD_ZONE_CAP_CMAX : Fld := ⟨R.BLD_ZONE_CAP, 0, 8⟩
abbrev BLD_DIAG_STRETCH_EN : Fld := ⟨R.BLD_DIAG, 0, 1⟩
abbrev BLD_DIAG_V_SHORT : Fld := ⟨R.BLD_DIAG, 8, 8⟩
abbrev BLD_FLOOR_Z_FLOOR : Fld := ⟨R.BLD_FLOOR, 0, 20⟩
abbrev BLD_BOOST_V_HEAD : Fld := ⟨R.BLD_BOOST, 0, 8⟩
abbrev BLD_BOOST_VB_MIN : Fld := ⟨R.BLD_BOOST, 8, 8⟩
abbrev BLD_BOOST_VB_MAX : Fld := ⟨R.BLD_BOOST, 16, 9⟩
abbrev BLD_XCHAIN_XDIV : Fld := ⟨R.BLD_XCHAIN, 0, 7⟩
abbrev BLD_VB_V_B : Fld := ⟨R.BLD_VB, 0, 9⟩
abbrev BLD_VB_V_PLAN : Fld := ⟨R.BLD_VB, 16, 9⟩
abbrev BLD_HEAD_H_MIN : Fld := ⟨R.BLD_HEAD, 0, 16⟩
abbrev BLD_HEAD_ZONE : Fld := ⟨R.BLD_HEAD, 16, 13⟩
abbrev BLD_CAP_NOW_CAP : Fld := ⟨R.BLD_CAP_NOW, 0, 12⟩
abbrev BLD_CAP_NOW_I_PLAN : Fld := ⟨R.BLD_CAP_NOW, 16, 12⟩
abbrev BLD_WITNESS_VAL : Fld := ⟨R.BLD_WITNESS, 0, 32⟩
abbrev BLD_CNT_BOOST_RAISE : Fld := ⟨R.BLD_CNT, 0, 8⟩
abbrev BLD_CNT_SCALED : Fld := ⟨R.BLD_CNT, 8, 8⟩
abbrev BLD_CNT_STRETCHED : Fld := ⟨R.BLD_CNT, 16, 8⟩
abbrev BLD_CNT_WIT_FAIL : Fld := ⟨R.BLD_CNT, 24, 8⟩
abbrev BLD_FAULT_CNT_OPEN_DIS : Fld := ⟨R.BLD_FAULT_CNT, 0, 16⟩
abbrev BLD_FAULT_CNT_SHORT : Fld := ⟨R.BLD_FAULT_CNT, 16, 16⟩
abbrev BLD_UNVER_UNVERIFIED : Fld := ⟨R.BLD_UNVER, 0, 16⟩
abbrev BLD_UNVER_AGE : Fld := ⟨R.BLD_UNVER, 16, 16⟩
abbrev BLD_XSTAT_CHIPS : Fld := ⟨R.BLD_XSTAT, 0, 6⟩
abbrev BLD_XSTAT_CHAIN_OK : Fld := ⟨R.BLD_XSTAT, 6, 1⟩
abbrev BLD_XSTAT_ERRORS : Fld := ⟨R.BLD_XSTAT, 8, 8⟩
abbrev BLD_XCH_PW (i : Nat) : Fld := ⟨(R.BLD_XCH i), 0, 12⟩
abbrev BLD_XCH_FOLLOW (i : Nat) : Fld := ⟨(R.BLD_XCH i), 12, 1⟩
abbrev BLD_XCH_SRC (i : Nat) : Fld := ⟨(R.BLD_XCH i), 17, 13⟩
abbrev BLD_ZSTAT_STATE (i : Nat) : Fld := ⟨(R.BLD_ZSTAT i), 0, 2⟩
abbrev BLD_ZSTAT_UNVERIFIED (i : Nat) : Fld := ⟨(R.BLD_ZSTAT i), 2, 1⟩
abbrev BLD_ZSTAT_NEIGHBOUR (i : Nat) : Fld := ⟨(R.BLD_ZSTAT i), 3, 1⟩
abbrev BLD_ZSTAT_FLOOR (i : Nat) : Fld := ⟨(R.BLD_ZSTAT i), 4, 1⟩
abbrev BLD_ZSTAT_DEBT (i : Nat) : Fld := ⟨(R.BLD_ZSTAT i), 5, 11⟩
abbrev BLD_ZSTAT_AGE (i : Nat) : Fld := ⟨(R.BLD_ZSTAT i), 16, 16⟩
abbrev LDA_CTRL_MODE : Fld := ⟨R.LDA_CTRL, 0, 2⟩
abbrev LDA_COMMIT_COMMIT : Fld := ⟨R.LDA_COMMIT, 0, 1⟩
abbrev LDA_COMMIT_LOCKED : Fld := ⟨R.LDA_COMMIT, 2, 1⟩
abbrev LDA_STATUS_SHADOW_LOCKED_WR : Fld := ⟨R.LDA_STATUS, 0, 1⟩
abbrev LDA_STATUS_LATE_COMMIT : Fld := ⟨R.LDA_STATUS, 1, 1⟩
abbrev LDA_STATUS_FIELD_LATE : Fld := ⟨R.LDA_STATUS, 2, 1⟩
abbrev LDA_STATUS_CAPPED : Fld := ⟨R.LDA_STATUS, 3, 1⟩
abbrev LDA_DECIDE_CLIP_FRAC : Fld := ⟨R.LDA_DECIDE, 0, 8⟩
abbrev LDA_DECIDE_MEAN_W : Fld := ⟨R.LDA_DECIDE, 8, 8⟩
abbrev LDA_FILT_RISE : Fld := ⟨R.LDA_FILT, 0, 9⟩
abbrev LDA_FILT_FALL : Fld := ⟨R.LDA_FILT, 16, 9⟩
abbrev LDA_CUT_CUT : Fld := ⟨R.LDA_CUT, 0, 16⟩
abbrev LDA_ZGAIN_ZGAIN : Fld := ⟨R.LDA_ZGAIN, 0, 20⟩
abbrev LDA_FIXED_FIXED_Z : Fld := ⟨R.LDA_FIXED, 0, 20⟩
abbrev LDA_FSCALE_FSCALE : Fld := ⟨R.LDA_FSCALE, 0, 16⟩
abbrev LDA_KH_KH (i : Nat) : Fld := ⟨(R.LDA_KH i), 0, 16⟩
abbrev LDA_KH_KH_HI (i : Nat) : Fld := ⟨(R.LDA_KH i), 16, 16⟩
abbrev LDA_KV_KV (i : Nat) : Fld := ⟨(R.LDA_KV i), 0, 16⟩
abbrev LDA_KV_KV_HI (i : Nat) : Fld := ⟨(R.LDA_KV i), 16, 16⟩
abbrev LDA_IWANT_I_WANT : Fld := ⟨R.LDA_IWANT, 0, 12⟩
abbrev LDA_IWANT_I_FLOOR : Fld := ⟨R.LDA_IWANT, 16, 12⟩
abbrev LDA_CNT_CUTS : Fld := ⟨R.LDA_CNT, 0, 8⟩
abbrev LDA_CNT_SCALED : Fld := ⟨R.LDA_CNT, 8, 8⟩
abbrev LDA_CNT_FIELD_LATE : Fld := ⟨R.LDA_CNT, 16, 16⟩
abbrev LDA_ZVAL_VAL (i : Nat) : Fld := ⟨(R.LDA_ZVAL i), 0, 20⟩
abbrev OPT_CTRL_LOOP_EN : Fld := ⟨R.OPT_CTRL, 0, 1⟩
abbrev OPT_COMMIT_COMMIT : Fld := ⟨R.OPT_COMMIT, 0, 1⟩
abbrev OPT_COMMIT_LOCKED : Fld := ⟨R.OPT_COMMIT, 2, 1⟩
abbrev OPT_STATUS_SHADOW_LOCKED_WR : Fld := ⟨R.OPT_STATUS, 0, 1⟩
abbrev OPT_STATUS_LATE_COMMIT : Fld := ⟨R.OPT_STATUS, 1, 1⟩
abbrev OPT_STATUS_LIMIT : Fld := ⟨R.OPT_STATUS, 2, 1⟩
abbrev OPT_STATUS_UPDATED : Fld := ⟨R.OPT_STATUS, 3, 1⟩
abbrev OPT_STATUS_SKIPPED : Fld := ⟨R.OPT_STATUS, 4, 1⟩
abbrev OPT_TARGET_TR : Fld := ⟨R.OPT_TARGET, 0, 16⟩
abbrev OPT_TARGET_TB : Fld := ⟨R.OPT_TARGET, 16, 16⟩
abbrev OPT_LIMIT_GAIN_MIN : Fld := ⟨R.OPT_LIMIT, 0, 16⟩
abbrev OPT_LIMIT_STEP_MAX : Fld := ⟨R.OPT_LIMIT, 16, 16⟩
abbrev OPT_LOOP_PERIOD : Fld := ⟨R.OPT_LOOP, 0, 16⟩
abbrev OPT_LOOP_MIN_SAMPLES : Fld := ⟨R.OPT_LOOP, 16, 16⟩
abbrev OPT_SIG_MIN_SIGNAL : Fld := ⟨R.OPT_SIG, 0, 16⟩
abbrev OPT_PD_OFS_VAL (i : Nat) : Fld := ⟨(R.OPT_PD_OFS i), 0, 16⟩
abbrev OPT_DARK_MEAN (i : Nat) : Fld := ⟨(R.OPT_DARK i), 0, 16⟩
abbrev OPT_DARK_SAMPLES (i : Nat) : Fld := ⟨(R.OPT_DARK i), 16, 16⟩
abbrev OPT_GAIN_RG_R : Fld := ⟨R.OPT_GAIN_RG, 0, 16⟩
abbrev OPT_GAIN_RG_G : Fld := ⟨R.OPT_GAIN_RG, 16, 16⟩
abbrev OPT_GAIN_B_B : Fld := ⟨R.OPT_GAIN_B, 0, 16⟩
abbrev OPT_GAIN_INIT_RG_R : Fld := ⟨R.OPT_GAIN_INIT_RG, 0, 16⟩
abbrev OPT_GAIN_INIT_RG_G : Fld := ⟨R.OPT_GAIN_INIT_RG, 16, 16⟩
abbrev OPT_GAIN_INIT_B_B : Fld := ⟨R.OPT_GAIN_INIT_B, 0, 16⟩
abbrev OPT_MEAS_MR : Fld := ⟨R.OPT_MEAS, 0, 16⟩
abbrev OPT_MEAS_MB : Fld := ⟨R.OPT_MEAS, 16, 16⟩
abbrev OPT_CNT_VALID : Fld := ⟨R.OPT_CNT, 0, 16⟩
abbrev OPT_CNT_SATURATED : Fld := ⟨R.OPT_CNT, 16, 8⟩
abbrev OPT_CNT_UPDATE_SKIP : Fld := ⟨R.OPT_CNT, 24, 8⟩
abbrev SAF_CTRL_FAULT_ACTION : Fld := ⟨R.SAF_CTRL, 0, 1⟩
abbrev SAF_CTRL_PROOF_EV : Fld := ⟨R.SAF_CTRL, 1, 1⟩
abbrev SAF_CTRL_SAFE_SET : Fld := ⟨R.SAF_CTRL, 2, 1⟩
abbrev SAF_CTRL_SAFE_CLR : Fld := ⟨R.SAF_CTRL, 3, 1⟩
abbrev SAF_COMMIT_COMMIT : Fld := ⟨R.SAF_COMMIT, 0, 1⟩
abbrev SAF_COMMIT_LOCKED : Fld := ⟨R.SAF_COMMIT, 2, 1⟩
abbrev SAF_STATUS_SHADOW_LOCKED_WR : Fld := ⟨R.SAF_STATUS, 0, 1⟩
abbrev SAF_STATUS_LATE_COMMIT : Fld := ⟨R.SAF_STATUS, 1, 1⟩
abbrev SAF_STATUS_FAULT : Fld := ⟨R.SAF_STATUS, 2, 1⟩
abbrev SAF_STATUS_SAFE_LATCH : Fld := ⟨R.SAF_STATUS, 3, 1⟩
abbrev SAF_STATUS_EXCL : Fld := ⟨R.SAF_STATUS, 4, 1⟩
abbrev SAF_STATUS_KEY_OK : Fld := ⟨R.SAF_STATUS, 5, 1⟩
abbrev SAF_STATUS_KEY_REJECT : Fld := ⟨R.SAF_STATUS, 6, 1⟩
abbrev SAF_STATUS_PARTNER_SEEN : Fld := ⟨R.SAF_STATUS, 7, 1⟩
abbrev SAF_STATUS_HOLD_BUSY : Fld := ⟨R.SAF_STATUS, 8, 1⟩
abbrev SAF_STATUS_HOLD : Fld := ⟨R.SAF_STATUS, 9, 1⟩
abbrev SAF_STATUS_BUS_OFF : Fld := ⟨R.SAF_STATUS, 10, 1⟩
abbrev SAF_STATUS_PROOF_DROP : Fld := ⟨R.SAF_STATUS, 11, 1⟩
abbrev SAF_CAN_ID_BASE : Fld := ⟨R.SAF_CAN_ID, 4, 7⟩
abbrev SAF_CAN_BT_VAL : Fld := ⟨R.SAF_CAN_BT, 0, 2⟩
abbrev SAF_HOLD_FRAMES : Fld := ⟨R.SAF_HOLD, 0, 3⟩
abbrev SAF_HOLD_LEFT : Fld := ⟨R.SAF_HOLD, 4, 3⟩
abbrev SAF_ALIVE_ALIVE : Fld := ⟨R.SAF_ALIVE, 0, 1⟩
abbrev SAF_ABSENT_COUNT : Fld := ⟨R.SAF_ABSENT, 0, 7⟩
abbrev SAF_ABSENT_ABSENT : Fld := ⟨R.SAF_ABSENT, 7, 1⟩
abbrev SAF_WIT_SCAN_SCAN_OK : Fld := ⟨R.SAF_WIT_SCAN, 0, 1⟩
abbrev SAF_WIT_SCAN_NOSCAN : Fld := ⟨R.SAF_WIT_SCAN, 1, 1⟩
abbrev SAF_CNT_UNPROVEN : Fld := ⟨R.SAF_CNT, 0, 8⟩
abbrev SAF_CNT_EXCUSED : Fld := ⟨R.SAF_CNT, 8, 8⟩
abbrev SAF_CNT_HELD : Fld := ⟨R.SAF_CNT, 16, 8⟩
abbrev SAF_CNT_PROOF_DROP : Fld := ⟨R.SAF_CNT, 24, 8⟩
abbrev SAF_CAN_CNT_TT_REQUEST : Fld := ⟨R.SAF_CAN_CNT, 0, 8⟩
abbrev SAF_CAN_CNT_DISCARDED : Fld := ⟨R.SAF_CAN_CNT, 8, 8⟩
abbrev SAF_CAN_CNT_TT_KEY : Fld := ⟨R.SAF_CAN_CNT, 16, 8⟩
abbrev SAF_CAN_CNT_BUS_OFF : Fld := ⟨R.SAF_CAN_CNT, 24, 8⟩
abbrev SAF_EXP_A (i : Nat) : Fld := ⟨(R.SAF_EXP i), 0, 16⟩
abbrev SAF_EXP_B (i : Nat) : Fld := ⟨(R.SAF_EXP i), 16, 16⟩
abbrev SAF_WIN_LANES_LANE_A (i : Nat) : Fld := ⟨(R.SAF_WIN_LANES i), 0, 5⟩
abbrev SAF_WIN_LANES_LANE_B (i : Nat) : Fld := ⟨(R.SAF_WIN_LANES i), 8, 5⟩
abbrev SAF_WIN_LANES_TWO_PARTS (i : Nat) : Fld := ⟨(R.SAF_WIN_LANES i), 16, 1⟩
abbrev SAF_PACK_VAL (i : Nat) : Fld := ⟨(R.SAF_PACK i), 0, 16⟩
abbrev SAF_DRV_VAL (i : Nat) : Fld := ⟨(R.SAF_DRV i), 0, 16⟩
abbrev MBX_CTRL_EN : Fld := ⟨R.MBX_CTRL, 0, 4⟩
abbrev MBX_STATUS_DISABLED : Fld := ⟨R.MBX_STATUS, 0, 4⟩
abbrev MBX_STATUS_MB3_UNLOCKED : Fld := ⟨R.MBX_STATUS, 4, 1⟩
abbrev MBX_STATUS_IN_FLIGHT : Fld := ⟨R.MBX_STATUS, 8, 7⟩
abbrev MBX_EVENT_QUEUE_FULL : Fld := ⟨R.MBX_EVENT, 0, 4⟩
abbrev MBX_EVENT_DIS_DB : Fld := ⟨R.MBX_EVENT, 4, 4⟩
abbrev MBX_EVENT_TIMEOUT : Fld := ⟨R.MBX_EVENT, 8, 4⟩
abbrev MBX_EVENT_OWNED_WR : Fld := ⟨R.MBX_EVENT, 12, 1⟩
abbrev MBX_EVENT_SPI_RANGE : Fld := ⟨R.MBX_EVENT, 13, 1⟩
abbrev MBX_EVENT_UNLOCK_FAIL : Fld := ⟨R.MBX_EVENT, 14, 1⟩
abbrev MBX_PORT_CNT_OWNED_WR : Fld := ⟨R.MBX_PORT_CNT, 0, 8⟩
abbrev MBX_PORT_CNT_SPI : Fld := ⟨R.MBX_PORT_CNT, 8, 8⟩
abbrev MBX_PORT_CNT_SPI_OP : Fld := ⟨R.MBX_PORT_CNT, 16, 8⟩
abbrev MBX_PORT_CNT_MB0 : Fld := ⟨R.MBX_PORT_CNT, 24, 8⟩
abbrev MBX_DB_TAIL (i : Nat) : Fld := ⟨(R.MBX_DB i), 0, 4⟩
abbrev MBX_DB_REFUSED (i : Nat) : Fld := ⟨(R.MBX_DB i), 8, 1⟩
abbrev MBX_DB_DISABLED (i : Nat) : Fld := ⟨(R.MBX_DB i), 9, 1⟩
abbrev MBX_CMD_HEAD_CMD_HEAD (i : Nat) : Fld := ⟨(R.MBX_CMD_HEAD i), 0, 4⟩
abbrev MBX_CPL_TAIL_CPL_TAIL (i : Nat) : Fld := ⟨(R.MBX_CPL_TAIL i), 0, 4⟩
abbrev MBX_CPL_TAIL_PHASE (i : Nat) : Fld := ⟨(R.MBX_CPL_TAIL i), 4, 1⟩
abbrev MBX_CPL_HEAD_CPL_HEAD (i : Nat) : Fld := ⟨(R.MBX_CPL_HEAD i), 0, 4⟩
abbrev MBX_OUT_VAL (i : Nat) : Fld := ⟨(R.MBX_OUT i), 0, 5⟩
abbrev MBX_CNT_TAKEN (i : Nat) : Fld := ⟨(R.MBX_CNT i), 0, 16⟩
abbrev MBX_CNT_REFUSED (i : Nat) : Fld := ⟨(R.MBX_CNT i), 16, 8⟩
abbrev MBX_CNT_TIMEOUT (i : Nat) : Fld := ⟨(R.MBX_CNT i), 24, 8⟩
abbrev MBX_PAUSE_PAUSES (i : Nat) : Fld := ⟨(R.MBX_PAUSE i), 0, 16⟩
abbrev MBX_PAUSE_LINK_RECOVERED (i : Nat) : Fld := ⟨(R.MBX_PAUSE i), 16, 16⟩
abbrev DMA_CTRL_ENGINE_EN : Fld := ⟨R.DMA_CTRL, 0, 1⟩
abbrev DMA_STATUS_CH : Fld := ⟨R.DMA_STATUS, 0, 4⟩
abbrev DMA_STATUS_BUSY : Fld := ⟨R.DMA_STATUS, 4, 1⟩
abbrev DMA_STATUS_WAIT_SLOT : Fld := ⟨R.DMA_STATUS, 5, 1⟩
abbrev DMA_STATUS_WAIT_PACE : Fld := ⟨R.DMA_STATUS, 6, 1⟩
abbrev DMA_IRQ_STATUS_DONE : Fld := ⟨R.DMA_IRQ_STATUS, 0, 16⟩
abbrev DMA_IRQ_STATUS_ERR : Fld := ⟨R.DMA_IRQ_STATUS, 16, 16⟩
abbrev DMA_CNT_DONE : Fld := ⟨R.DMA_CNT, 0, 16⟩
abbrev DMA_CNT_REFUSED : Fld := ⟨R.DMA_CNT, 16, 8⟩
abbrev DMA_CNT_BUS_ERR : Fld := ⟨R.DMA_CNT, 24, 8⟩
abbrev DMA_BYTES_VAL : Fld := ⟨R.DMA_BYTES, 0, 32⟩
abbrev DMA_EVENT_BAD_WR : Fld := ⟨R.DMA_EVENT, 0, 1⟩
abbrev DMA_EVENT_QERR : Fld := ⟨R.DMA_EVENT, 1, 1⟩
abbrev DMA_EVENT_EMPTY : Fld := ⟨R.DMA_EVENT, 2, 1⟩
abbrev DMA_QFILL_VAL (i : Nat) : Fld := ⟨(R.DMA_QFILL i), 0, 24⟩
abbrev DMA_QADD_VAL (i : Nat) : Fld := ⟨(R.DMA_QADD i), 0, 24⟩
abbrev DMA_QSUB_VAL (i : Nat) : Fld := ⟨(R.DMA_QSUB i), 0, 24⟩
abbrev DMA_CH_CTRL_EN (i : Nat) : Fld := ⟨(R.DMA_CH_CTRL i), 0, 1⟩
abbrev DMA_CH_CTRL_GO (i : Nat) : Fld := ⟨(R.DMA_CH_CTRL i), 1, 1⟩
abbrev DMA_CH_CTRL_PAUSE (i : Nat) : Fld := ⟨(R.DMA_CH_CTRL i), 2, 1⟩
abbrev DMA_CH_CTRL_BG (i : Nat) : Fld := ⟨(R.DMA_CH_CTRL i), 3, 1⟩
abbrev DMA_CH_CTRL_PACE_EN (i : Nat) : Fld := ⟨(R.DMA_CH_CTRL i), 4, 1⟩
abbrev DMA_CH_CTRL_QSEL (i : Nat) : Fld := ⟨(R.DMA_CH_CTRL i), 5, 2⟩
abbrev DMA_CH_CTRL_QDIR (i : Nat) : Fld := ⟨(R.DMA_CH_CTRL i), 7, 1⟩
abbrev DMA_CH_CTRL_BURST (i : Nat) : Fld := ⟨(R.DMA_CH_CTRL i), 8, 2⟩
abbrev DMA_CH_CTRL_CLR_HALT (i : Nat) : Fld := ⟨(R.DMA_CH_CTRL i), 10, 1⟩
abbrev DMA_CH_STATUS_STATE (i : Nat) : Fld := ⟨(R.DMA_CH_STATUS i), 0, 3⟩
abbrev DMA_CH_STATUS_EMPTY (i : Nat) : Fld := ⟨(R.DMA_CH_STATUS i), 3, 1⟩
abbrev DMA_CH_STATUS_HEAVY (i : Nat) : Fld := ⟨(R.DMA_CH_STATUS i), 4, 1⟩
abbrev DMA_CH_DESC_VAL (i : Nat) : Fld := ⟨(R.DMA_CH_DESC i), 3, 29⟩
abbrev DMA_CH_COUNT_VAL (i : Nat) : Fld := ⟨(R.DMA_CH_COUNT i), 0, 16⟩
abbrev DMA_CH_COUNT_ADD_VAL (i : Nat) : Fld := ⟨(R.DMA_CH_COUNT_ADD i), 0, 16⟩
abbrev DMA_CH_HIGH_HIGH (i : Nat) : Fld := ⟨(R.DMA_CH_HIGH i), 0, 24⟩
abbrev DMA_CH_LOW_LOW (i : Nat) : Fld := ⟨(R.DMA_CH_LOW i), 0, 24⟩
abbrev DMA_CH_IDX_SRC_IDX (i : Nat) : Fld := ⟨(R.DMA_CH_IDX i), 0, 8⟩
abbrev DMA_CH_IDX_DST_IDX (i : Nat) : Fld := ⟨(R.DMA_CH_IDX i), 8, 8⟩
abbrev DMA_CH_ERR_INFO_DIR (i : Nat) : Fld := ⟨(R.DMA_CH_ERR_INFO i), 0, 1⟩
abbrev DMA_CH_ERR_INFO_VALID (i : Nat) : Fld := ⟨(R.DMA_CH_ERR_INFO i), 1, 1⟩
abbrev PWR_DOMAIN_STATUS_AON_ON : Fld := ⟨R.PWR_DOMAIN_STATUS, 0, 1⟩
abbrev PWR_DOMAIN_STATUS_CTRL_ON : Fld := ⟨R.PWR_DOMAIN_STATUS, 1, 1⟩
abbrev PWR_DOMAIN_STATUS_PIX_ON : Fld := ⟨R.PWR_DOMAIN_STATUS, 2, 1⟩
abbrev PWR_DOMAIN_STATUS_LINK_ON : Fld := ⟨R.PWR_DOMAIN_STATUS, 3, 1⟩
abbrev PWR_DOMAIN_STATUS_PANEL_ON : Fld := ⟨R.PWR_DOMAIN_STATUS, 4, 1⟩
abbrev PWR_DOMAIN_STATUS_LIGHT_ON : Fld := ⟨R.PWR_DOMAIN_STATUS, 5, 1⟩
abbrev PWR_DOMAIN_STATUS_ON_DEMAND : Fld := ⟨R.PWR_DOMAIN_STATUS, 8, 6⟩
abbrev PWR_DOMAIN_STATUS_ACCESS_REFUSED : Fld := ⟨R.PWR_DOMAIN_STATUS, 16, 1⟩
abbrev PWR_IDLE_OFF_VAL : Fld := ⟨R.PWR_IDLE_OFF, 0, 16⟩
abbrev PWR_PERF_LEVEL : Fld := ⟨R.PWR_PERF, 0, 2⟩
abbrev PWR_PERF_NEXT : Fld := ⟨R.PWR_PERF, 2, 2⟩
abbrev PWR_PERF_CHANGING : Fld := ⟨R.PWR_PERF, 4, 1⟩
abbrev PWR_PERF_STRETCHED : Fld := ⟨R.PWR_PERF, 5, 1⟩
abbrev PWR_SLEEP_RESULT_STATUS : Fld := ⟨R.PWR_SLEEP_RESULT, 0, 8⟩
abbrev PWR_SLEEP_RESULT_REFUSER : Fld := ⟨R.PWR_SLEEP_RESULT, 8, 3⟩
abbrev PWR_SLEEP_RESULT_REASON : Fld := ⟨R.PWR_SLEEP_RESULT, 12, 4⟩
abbrev PWR_SLEEP_RESULT_TARGET : Fld := ⟨R.PWR_SLEEP_RESULT, 16, 1⟩
abbrev PWR_SLEEP_RESULT_REFUSE_COUNT : Fld := ⟨R.PWR_SLEEP_RESULT, 24, 8⟩
abbrev PWR_SPRING_THRESH : Fld := ⟨R.PWR_SPRING, 0, 7⟩
abbrev PWR_SPRING_LEVEL : Fld := ⟨R.PWR_SPRING, 8, 1⟩
abbrev PWR_SPRING_BAD_WR : Fld := ⟨R.PWR_SPRING, 9, 1⟩
abbrev PWR_WAKE_EN_CAN_TT : Fld := ⟨R.PWR_WAKE_EN, 0, 1⟩
abbrev PWR_WAKE_EN_SPI_CS : Fld := ⟨R.PWR_WAKE_EN, 1, 1⟩
abbrev PWR_WAKE_EN_FALL_TARGET : Fld := ⟨R.PWR_WAKE_EN, 4, 1⟩
abbrev PWR_NOWAKE_TIMEOUT_VAL : Fld := ⟨R.PWR_NOWAKE_TIMEOUT, 0, 16⟩
abbrev PWR_PEND_DROP_VAL : Fld := ⟨R.PWR_PEND_DROP, 0, 16⟩
abbrev GOV_CTRL_MANUAL : Fld := ⟨R.GOV_CTRL, 0, 1⟩
abbrev GOV_BUDGET_P_BUDGET : Fld := ⟨R.GOV_BUDGET, 0, 16⟩
abbrev GOV_THERM_G_TH : Fld := ⟨R.GOV_THERM, 0, 8⟩
abbrev GOV_THERM_H_MARGIN : Fld := ⟨R.GOV_THERM, 8, 8⟩
abbrev GOV_TLIM_TDIE_LIM : Fld := ⟨R.GOV_TLIM, 0, 16⟩
abbrev GOV_TLIM_TCASE_LIM : Fld := ⟨R.GOV_TLIM, 16, 16⟩
abbrev GOV_TPANEL_PANEL_START : Fld := ⟨R.GOV_TPANEL, 0, 16⟩
abbrev GOV_TPANEL_PANEL_LIM : Fld := ⟨R.GOV_TPANEL, 16, 16⟩
abbrev GOV_LED_LED_GOAL : Fld := ⟨R.GOV_LED, 0, 12⟩
abbrev GOV_LED_LED_MIN : Fld := ⟨R.GOV_LED, 16, 12⟩
abbrev GOV_LED2_ETA : Fld := ⟨R.GOV_LED2, 0, 10⟩
abbrev GOV_LED2_PANEL_MIN_FRAC : Fld := ⟨R.GOV_LED2, 16, 8⟩
abbrev GOV_CEIL_CEIL_STEP : Fld := ⟨R.GOV_CEIL, 0, 8⟩
abbrev GOV_CEIL_RESTORE : Fld := ⟨R.GOV_CEIL, 8, 8⟩
abbrev GOV_CEIL_HYST : Fld := ⟨R.GOV_CEIL, 16, 8⟩
abbrev GOV_CEIL_REPAY : Fld := ⟨R.GOV_CEIL, 24, 8⟩
abbrev GOV_LEVEL_FLOOR_CORE_MIN : Fld := ⟨R.GOV_LEVEL_FLOOR, 0, 2⟩
abbrev GOV_LEVEL_S_L (i : Nat) : Fld := ⟨(R.GOV_LEVEL i), 0, 16⟩
abbrev GOV_LEVEL_K_L (i : Nat) : Fld := ⟨(R.GOV_LEVEL i), 16, 16⟩
abbrev GOV_OD_K_OD : Fld := ⟨R.GOV_OD, 0, 16⟩
abbrev GOV_ESLOT_LOG : Fld := ⟨R.GOV_ESLOT, 0, 6⟩
abbrev GOV_ESLOT_CAL : Fld := ⟨R.GOV_ESLOT, 6, 6⟩
abbrev GOV_ESLOT_SCRUB : Fld := ⟨R.GOV_ESLOT, 12, 6⟩
abbrev GOV_ESLOT_EDDY : Fld := ⟨R.GOV_ESLOT, 18, 6⟩
abbrev GOV_ESLOT_DMA : Fld := ⟨R.GOV_ESLOT, 24, 6⟩
abbrev GOV_CAL_TRIG_VAL : Fld := ⟨R.GOV_CAL_TRIG, 0, 16⟩
abbrev GOV_CLASS_REQ (i : Nat) : Fld := ⟨(R.GOV_CLASS i), 0, 16⟩
abbrev GOV_CLASS_FLOOR (i : Nat) : Fld := ⟨(R.GOV_CLASS i), 16, 16⟩
abbrev GOV_MANUAL_LEVEL : Fld := ⟨R.GOV_MANUAL, 0, 2⟩
abbrev GOV_MANUAL_OD : Fld := ⟨R.GOV_MANUAL, 2, 1⟩
abbrev GOV_MANUAL_CEIL : Fld := ⟨R.GOV_MANUAL, 8, 8⟩
abbrev GOV_MANUAL_LED_CAP : Fld := ⟨R.GOV_MANUAL, 16, 12⟩
abbrev GOV_STATUS_STEP : Fld := ⟨R.GOV_STATUS, 0, 3⟩
abbrev GOV_STATUS_OD_ON : Fld := ⟨R.GOV_STATUS, 3, 1⟩
abbrev GOV_STATUS_SHORTFALL : Fld := ⟨R.GOV_STATUS, 4, 1⟩
abbrev GOV_STATUS_THERMAL_BIND : Fld := ⟨R.GOV_STATUS, 5, 1⟩
abbrev GOV_STATUS_PANEL_BIND : Fld := ⟨R.GOV_STATUS, 6, 1⟩
abbrev GOV_STATUS_MANUAL : Fld := ⟨R.GOV_STATUS, 7, 1⟩
abbrev GOV_STATUS_BAD_WR : Fld := ⟨R.GOV_STATUS, 8, 1⟩
abbrev GOV_STATUS_CEIL : Fld := ⟨R.GOV_STATUS, 16, 8⟩
abbrev GOV_CAP_LED : Fld := ⟨R.GOV_CAP, 0, 12⟩
abbrev GOV_CAP_I_FLOOR : Fld := ⟨R.GOV_CAP, 16, 12⟩
abbrev GOV_ALLOW_A_IN : Fld := ⟨R.GOV_ALLOW, 0, 16⟩
abbrev GOV_ALLOW_P_DISS : Fld := ⟨R.GOV_ALLOW, 16, 16⟩
abbrev GOV_DEBT_VAL : Fld := ⟨R.GOV_DEBT, 0, 16⟩
abbrev GOV_MEAS_P_VIN : Fld := ⟨R.GOV_MEAS, 0, 16⟩
abbrev GOV_MEAS_P_LED : Fld := ⟨R.GOV_MEAS, 16, 16⟩
abbrev GOV_TEMP_DIE : Fld := ⟨R.GOV_TEMP, 0, 16⟩
abbrev GOV_TEMP_CASE : Fld := ⟨R.GOV_TEMP, 16, 16⟩
abbrev GOV_TPANEL_MEAS_VAL : Fld := ⟨R.GOV_TPANEL_MEAS, 0, 16⟩
abbrev GOV_GRANT_VAL (i : Nat) : Fld := ⟨(R.GOV_GRANT i), 0, 16⟩
abbrev GOV_SHORT_COUNT_VAL : Fld := ⟨R.GOV_SHORT_COUNT, 0, 16⟩
abbrev CAL_CTRL_TRIG_EN : Fld := ⟨R.CAL_CTRL, 0, 1⟩
abbrev CAL_CTRL_BOOT_EN : Fld := ⟨R.CAL_CTRL, 1, 1⟩
abbrev CAL_CTRL_CAL_TEMP_STEP : Fld := ⟨R.CAL_CTRL, 8, 8⟩
abbrev CAL_CTRL_EYE_MIN : Fld := ⟨R.CAL_CTRL, 16, 8⟩
abbrev CAL_STATUS_RUNNING : Fld := ⟨R.CAL_STATUS, 0, 1⟩
abbrev CAL_STATUS_KIND : Fld := ⟨R.CAL_STATUS, 1, 3⟩
abbrev CAL_STATUS_PENDING : Fld := ⟨R.CAL_STATUS, 4, 1⟩
abbrev CAL_STATUS_WAITING : Fld := ⟨R.CAL_STATUS, 5, 1⟩
abbrev CAL_STATUS_REJECT : Fld := ⟨R.CAL_STATUS, 6, 1⟩
abbrev CAL_STATUS_BAD_WR : Fld := ⟨R.CAL_STATUS, 7, 1⟩
abbrev CAL_COUNT_VAL : Fld := ⟨R.CAL_COUNT, 0, 32⟩
abbrev CAL_LAST_TLO_VAL : Fld := ⟨R.CAL_LAST_TLO, 0, 32⟩
abbrev CAL_LAST_THI_VAL : Fld := ⟨R.CAL_LAST_THI, 0, 16⟩
abbrev CAL_REJECT_LINK : Fld := ⟨R.CAL_REJECT, 0, 8⟩
abbrev CAL_REJECT_BCH : Fld := ⟨R.CAL_REJECT, 8, 8⟩
abbrev CAL_REJECT_PD : Fld := ⟨R.CAL_REJECT, 16, 8⟩
abbrev CAL_REJECT_SINK : Fld := ⟨R.CAL_REJECT, 24, 8⟩
abbrev CAL_TREF_VAL (i : Nat) : Fld := ⟨(R.CAL_TREF i), 0, 16⟩
abbrev CAL_LANE_MAP_D0 (i : Nat) : Fld := ⟨(R.CAL_LANE_MAP i), 0, 3⟩
abbrev CAL_LANE_MAP_D1 (i : Nat) : Fld := ⟨(R.CAL_LANE_MAP i), 3, 3⟩
abbrev CAL_LANE_MAP_E0 (i : Nat) : Fld := ⟨(R.CAL_LANE_MAP i), 6, 3⟩
abbrev CAL_LANE_MAP_E1 (i : Nat) : Fld := ⟨(R.CAL_LANE_MAP i), 9, 3⟩
abbrev CAL_LANE_MAP_PHASE (i : Nat) : Fld := ⟨(R.CAL_LANE_MAP i), 12, 6⟩
abbrev CAL_LANE_QUAL_EYE (i : Nat) : Fld := ⟨(R.CAL_LANE_QUAL i), 0, 6⟩
abbrev CAL_LANE_QUAL_OFFSET (i : Nat) : Fld := ⟨(R.CAL_LANE_QUAL i), 8, 8⟩
abbrev CAL_LANE_QUAL_PEAK_NOW (i : Nat) : Fld := ⟨(R.CAL_LANE_QUAL i), 16, 4⟩
abbrev CAL_LANE_CNT_APPLIED (i : Nat) : Fld := ⟨(R.CAL_LANE_CNT i), 0, 16⟩
abbrev CAL_LANE_CNT_KEPT (i : Nat) : Fld := ⟨(R.CAL_LANE_CNT i), 16, 8⟩
abbrev CAL_LANE_CNT_SKIPPED (i : Nat) : Fld := ⟨(R.CAL_LANE_CNT i), 24, 8⟩
abbrev CAL_SINK_CELL_MASK (i : Nat) : Fld := ⟨(R.CAL_SINK i), 0, 16⟩
abbrev CAL_SINK_ERR (i : Nat) : Fld := ⟨(R.CAL_SINK i), 16, 8⟩
abbrev CAL_SINK_CALIBRATED (i : Nat) : Fld := ⟨(R.CAL_SINK i), 24, 1⟩
abbrev SYS_ID_PRODUCT : Fld := ⟨R.SYS_ID, 0, 16⟩
abbrev SYS_ID_HW_VERSION : Fld := ⟨R.SYS_ID, 16, 8⟩
abbrev SYS_CAPS_LANES : Fld := ⟨R.SYS_CAPS, 0, 8⟩
abbrev SYS_CAPS_WINDOWS : Fld := ⟨R.SYS_CAPS, 8, 8⟩
abbrev SYS_CAPS_XCHAIN : Fld := ⟨R.SYS_CAPS, 16, 1⟩
abbrev SYS_CAPS_CAPS : Fld := ⟨R.SYS_CAPS, 24, 8⟩
abbrev SYS_SERIAL_LO_VAL : Fld := ⟨R.SYS_SERIAL_LO, 0, 32⟩
abbrev SYS_SERIAL_HI_VAL : Fld := ⟨R.SYS_SERIAL_HI, 0, 32⟩
abbrev SYS_MODE_MODE : Fld := ⟨R.SYS_MODE, 0, 4⟩
abbrev SYS_MODE_ORIGIN : Fld := ⟨R.SYS_MODE, 4, 4⟩
abbrev SYS_MODE_IN_TRANSITION : Fld := ⟨R.SYS_MODE, 8, 1⟩
abbrev SYS_MODE_PENDING : Fld := ⟨R.SYS_MODE, 12, 4⟩
abbrev SYS_MODE_MODE_SEQ : Fld := ⟨R.SYS_MODE, 24, 8⟩
abbrev SYS_TIME_LO_VAL : Fld := ⟨R.SYS_TIME_LO, 0, 32⟩
abbrev SYS_TIME_HI_TIME : Fld := ⟨R.SYS_TIME_HI, 0, 16⟩
abbrev SYS_TIME_HI_OSC_TIME : Fld := ⟨R.SYS_TIME_HI, 16, 1⟩
abbrev SYS_SNAP_LINES_LINES : Fld := ⟨R.SYS_SNAP_LINES, 0, 16⟩
abbrev SYS_SNAP_LINES_DOMAINS : Fld := ⟨R.SYS_SNAP_LINES, 16, 6⟩
abbrev SYS_SNAP_ENERGY_VIN : Fld := ⟨R.SYS_SNAP_ENERGY, 0, 16⟩
abbrev SYS_SNAP_ENERGY_LED : Fld := ⟨R.SYS_SNAP_ENERGY, 16, 16⟩
abbrev SYS_SNAP_TLO_VAL : Fld := ⟨R.SYS_SNAP_TLO, 0, 32⟩
abbrev SYS_SNAP_THI_TIME : Fld := ⟨R.SYS_SNAP_THI, 0, 16⟩
abbrev SYS_SNAP_THI_OSC_TIME : Fld := ⟨R.SYS_SNAP_THI, 16, 1⟩
abbrev SYS_SNAP_THI_SNAP_BAD : Fld := ⟨R.SYS_SNAP_THI, 17, 1⟩
abbrev SYS_INT_STATUS_CPL1 : Fld := ⟨R.SYS_INT_STATUS, 0, 1⟩
abbrev SYS_INT_STATUS_CPL3 : Fld := ⟨R.SYS_INT_STATUS, 1, 1⟩
abbrev SYS_INT_STATUS_LOG : Fld := ⟨R.SYS_INT_STATUS, 2, 1⟩
abbrev SYS_INT_EN_CPL1 : Fld := ⟨R.SYS_INT_EN, 0, 1⟩
abbrev SYS_INT_EN_CPL3 : Fld := ⟨R.SYS_INT_EN, 1, 1⟩
abbrev SYS_INT_EN_LOG : Fld := ⟨R.SYS_INT_EN, 2, 1⟩
abbrev SYS_PINS_INT_N : Fld := ⟨R.SYS_PINS, 0, 1⟩
abbrev SYS_PINS_FAULT_N : Fld := ⟨R.SYS_PINS, 1, 1⟩
abbrev SYS_PINS_PWR_SPRING : Fld := ⟨R.SYS_PINS, 2, 1⟩
abbrev SYS_EVT_CNT_WRITTEN : Fld := ⟨R.SYS_EVT_CNT, 0, 16⟩
abbrev SYS_EVT_CNT_LOST : Fld := ⟨R.SYS_EVT_CNT, 16, 16⟩
abbrev SYS_EVT_RING_WRITE : Fld := ⟨R.SYS_EVT_RING, 0, 8⟩
abbrev SYS_EVT_RING_SEND : Fld := ⟨R.SYS_EVT_RING, 8, 8⟩
abbrev SYS_LOG_STATUS_QUEUED : Fld := ⟨R.SYS_LOG_STATUS, 0, 6⟩
abbrev SYS_LOG_STATUS_FULL : Fld := ⟨R.SYS_LOG_STATUS, 6, 1⟩
abbrev SYS_LOG_STATUS_SCANNED : Fld := ⟨R.SYS_LOG_STATUS, 7, 1⟩
abbrev SYS_LOG_NEXT_NEXT : Fld := ⟨R.SYS_LOG_NEXT, 0, 13⟩
abbrev SYS_LOG_NEXT_GEN : Fld := ⟨R.SYS_LOG_NEXT, 16, 4⟩
abbrev SYS_LOG_CNT_WRITTEN : Fld := ⟨R.SYS_LOG_CNT, 0, 16⟩
abbrev SYS_LOG_CNT_DROPPED : Fld := ⟨R.SYS_LOG_CNT, 16, 16⟩
abbrev SYS_POND_CTRL_EDDY_EN : Fld := ⟨R.SYS_POND_CTRL, 0, 1⟩
abbrev SYS_POND_CTRL_ECC_WB : Fld := ⟨R.SYS_POND_CTRL, 1, 1⟩
abbrev SYS_POND_ECC_CORR : Fld := ⟨R.SYS_POND_ECC, 0, 16⟩
abbrev SYS_POND_ECC_UNCORR : Fld := ⟨R.SYS_POND_ECC, 16, 8⟩
abbrev SYS_POND_ERR_INFO_MASTER : Fld := ⟨R.SYS_POND_ERR_INFO, 0, 2⟩
abbrev SYS_POND_ERR_INFO_POOL : Fld := ⟨R.SYS_POND_ERR_INFO, 2, 1⟩
abbrev SYS_POND_ERR_INFO_FRAME : Fld := ⟨R.SYS_POND_ERR_INFO, 16, 16⟩
abbrev SYS_POND_CONF_A_CORE : Fld := ⟨R.SYS_POND_CONF_A, 0, 16⟩
abbrev SYS_POND_CONF_A_DMA : Fld := ⟨R.SYS_POND_CONF_A, 16, 16⟩
abbrev SYS_POND_CONF_A2_VAL : Fld := ⟨R.SYS_POND_CONF_A2, 0, 16⟩
abbrev SYS_POND_CONF_B_CORE : Fld := ⟨R.SYS_POND_CONF_B, 0, 16⟩
abbrev SYS_POND_CONF_B_DMA : Fld := ⟨R.SYS_POND_CONF_B, 16, 16⟩
abbrev SYS_POND_CONF_B2_VAL : Fld := ⟨R.SYS_POND_CONF_B2, 0, 16⟩
abbrev SYS_POND_CONF_C_CORE : Fld := ⟨R.SYS_POND_CONF_C, 0, 16⟩
abbrev SYS_POND_CONF_C_DMA : Fld := ⟨R.SYS_POND_CONF_C, 16, 16⟩
abbrev SYS_POND_CONF_C2_PORT : Fld := ⟨R.SYS_POND_CONF_C2, 0, 16⟩
abbrev SYS_POND_CONF_C2_SEQ : Fld := ⟨R.SYS_POND_CONF_C2, 16, 16⟩
abbrev SYS_POND_SPLIT_VAL : Fld := ⟨R.SYS_POND_SPLIT, 0, 16⟩
abbrev SYS_EDDY_STATUS_POND : Fld := ⟨R.SYS_EDDY_STATUS, 0, 2⟩
abbrev SYS_EDDY_STATUS_SLICE : Fld := ⟨R.SYS_EDDY_STATUS, 2, 11⟩
abbrev SYS_EDDY_STATUS_STATE : Fld := ⟨R.SYS_EDDY_STATUS, 13, 3⟩
abbrev SYS_EDDY_STATUS_BORROWED : Fld := ⟨R.SYS_EDDY_STATUS, 16, 1⟩
abbrev SYS_EDDY_STATUS_ABANDONS : Fld := ⟨R.SYS_EDDY_STATUS, 17, 3⟩
abbrev SYS_EDDY_PASS_PASSES : Fld := ⟨R.SYS_EDDY_PASS, 0, 16⟩
abbrev SYS_EDDY_PASS_FRAMES : Fld := ⟨R.SYS_EDDY_PASS, 16, 16⟩
abbrev SYS_EDDY_CNT_TESTED : Fld := ⟨R.SYS_EDDY_CNT, 0, 16⟩
abbrev SYS_EDDY_CNT_ABANDONED : Fld := ⟨R.SYS_EDDY_CNT, 16, 8⟩
abbrev SYS_EDDY_CNT_FAILED : Fld := ⟨R.SYS_EDDY_CNT, 24, 8⟩
abbrev SYS_EDDY_FAIL_ADDR : Fld := ⟨R.SYS_EDDY_FAIL, 0, 20⟩
abbrev SYS_EDDY_FAIL_BIT : Fld := ⟨R.SYS_EDDY_FAIL, 20, 7⟩
abbrev SYS_EDDY_FAIL_ELEMENT : Fld := ⟨R.SYS_EDDY_FAIL, 27, 3⟩
abbrev SYS_EDDY_EVENT_FAIL : Fld := ⟨R.SYS_EDDY_EVENT, 0, 1⟩
abbrev SYS_EDDY_EVENT_SKIP : Fld := ⟨R.SYS_EDDY_EVENT, 1, 1⟩
abbrev WAKE_RECORD_SOURCE : Fld := ⟨R.WAKE_RECORD, 0, 4⟩
abbrev WAKE_RECORD_FROM_DORMANT : Fld := ⟨R.WAKE_RECORD, 4, 1⟩
abbrev WAKE_RECORD_FROM_STANDBY : Fld := ⟨R.WAKE_RECORD, 5, 1⟩
abbrev WAKE_RECORD_DURING_ENTRY : Fld := ⟨R.WAKE_RECORD, 6, 1⟩
abbrev WAKE_RECORD_OSC_TIME : Fld := ⟨R.WAKE_RECORD, 7, 1⟩
abbrev WAKE_RECORD_WAKE_COUNT : Fld := ⟨R.WAKE_RECORD, 8, 8⟩
abbrev RESET_CAUSE_POR : Fld := ⟨R.RESET_CAUSE, 0, 1⟩
abbrev RESET_CAUSE_VIN_BOR : Fld := ⟨R.RESET_CAUSE, 1, 1⟩
abbrev RESET_CAUSE_AON_BOR : Fld := ⟨R.RESET_CAUSE, 2, 1⟩
abbrev RESET_CAUSE_WATCHDOG : Fld := ⟨R.RESET_CAUSE, 3, 1⟩
abbrev RESET_CAUSE_SYS_RESET : Fld := ⟨R.RESET_CAUSE, 4, 1⟩
abbrev RESET_CAUSE_UPDATE_ACTIVATE : Fld := ⟨R.RESET_CAUSE, 5, 1⟩
abbrev RESET_CAUSE_TT_HOLD_EXPIRY : Fld := ⟨R.RESET_CAUSE, 6, 1⟩
abbrev RESET_CAUSE_DORMANT_WAKE : Fld := ⟨R.RESET_CAUSE, 7, 1⟩
abbrev RESET_CAUSE_LOCKSTEP : Fld := ⟨R.RESET_CAUSE, 8, 1⟩
abbrev BOOT_STATUS_IMAGE : Fld := ⟨R.BOOT_STATUS, 0, 2⟩
abbrev BOOT_STATUS_A_FAIL : Fld := ⟨R.BOOT_STATUS, 2, 1⟩
abbrev BOOT_STATUS_B_FAIL : Fld := ⟨R.BOOT_STATUS, 3, 1⟩
abbrev BOOT_STATUS_RESUME : Fld := ⟨R.BOOT_STATUS, 4, 1⟩
abbrev BOOT_STATUS_RESUME_MISMATCH : Fld := ⟨R.BOOT_STATUS, 5, 1⟩
abbrev BOOT_STATUS_ROM_RECOVERY : Fld := ⟨R.BOOT_STATUS, 6, 1⟩
abbrev BOOT_STATUS_CONFIG_FAIL : Fld := ⟨R.BOOT_STATUS, 7, 1⟩
abbrev BOOT_STATUS_ASSET_FAIL : Fld := ⟨R.BOOT_STATUS, 8, 1⟩
abbrev BOOT_STATUS_PANEL_DATA_FAIL : Fld := ⟨R.BOOT_STATUS, 9, 1⟩
abbrev BOOT_STATUS_STEP : Fld := ⟨R.BOOT_STATUS, 10, 4⟩
abbrev BOOT_STATUS_FIRST_LIT_MS : Fld := ⟨R.BOOT_STATUS, 16, 16⟩
abbrev WAKE_TIME_LO_VAL : Fld := ⟨R.WAKE_TIME_LO, 0, 32⟩
abbrev WAKE_TIME_HI_VAL : Fld := ⟨R.WAKE_TIME_HI, 0, 16⟩

end F

/-! ### The rows by block -/

/-- Rows of block 0 (INL). -/
def rowsInl : List RegRow := [
  ⟨0x10000000, 1, 4, false, 0x6F1, 0x0, [0x6F0]⟩,
  ⟨0x10000004, 1, 4, false, 0x0, 0x0, [0x640F00]⟩,
  ⟨0x10000008, 1, 4, false, 0x0, 0x7FF, [0x0]⟩,
  ⟨0x1000000C, 1, 4, false, 0x0, 0x0, [0x0]⟩,
  ⟨0x10000010, 1, 4, false, 0x0, 0x0, [0x0]⟩,
  ⟨0x10000014, 1, 4, false, 0x0, 0x0, [0x0]⟩,
  ⟨0x10000018, 1, 4, false, 0x3B, 0x0, [0x0]⟩,
  ⟨0x1000001C, 1, 4, false, 0x3FFF, 0x0, [0x17C0]⟩,
  ⟨0x10000020, 1, 4, false, 0x0, 0x0, [0x0]⟩,
  ⟨0x10000040, 9, 4, false, 0x3F001F, 0x0, [0x1A0018]⟩,
  ⟨0x10000080, 9, 4, false, 0x0, 0x0, [0xFF01, 0xFF01, 0xFF01, 0xFF01, 0xFF01, 0xFF01, 0xFF01, 0xFF01, 0x0]⟩,
  ⟨0x100000C0, 9, 4, false, 0x0, 0x0, [0x0]⟩,
  ⟨0x10000100, 9, 4, false, 0x0, 0x0, [0x0]⟩,
  ⟨0x10000200, 1, 4, false, 0x0, 0x0, [0x0]⟩,
  ⟨0x10000204, 1, 4, false, 0x0, 0x0, [0x7E]⟩,
  ⟨0x10000208, 1, 4, false, 0x0, 0x0, [0x0]⟩,
  ⟨0x1000020C, 1, 4, false, 0x0, 0x0, [0x0]⟩,
  ⟨0x10000210, 1, 4, false, 0x0, 0x0, [0x0]⟩,
  ⟨0x10000214, 1, 4, false, 0x0, 0x0, [0x0]⟩,
  ⟨0x10000218, 1, 4, false, 0x0, 0x0, [0x0]⟩,
  ⟨0x1000021C, 1, 4, false, 0x0, 0x0, [0x0]⟩,
  ⟨0x10000220, 1, 4, false, 0x0, 0x0, [0x0]⟩,
  ⟨0x10000224, 1, 4, false, 0x0, 0x0, [0x0]⟩,
  ⟨0x10000228, 1, 4, false, 0x0, 0x0, [0x0]⟩]

/-- Rows of block 2 (SLU). -/
def rowsSlu : List RegRow := [
  ⟨0x10020000, 1, 4, false, 0x11, 0x0, [0x11]⟩,
  ⟨0x10020004, 1, 4, false, 0x0, 0x0, [0x0]⟩,
  ⟨0x10020008, 1, 4, false, 0x0, 0xF, [0x0]⟩,
  ⟨0x1002000C, 1, 4, false, 0x0, 0x0, [0x0]⟩,
  ⟨0x10020010, 1, 4, false, 0x0, 0x0, [0x0]⟩,
  ⟨0x10020014, 1, 4, false, 0x0, 0x0, [0x0]⟩,
  ⟨0x10020020, 1, 4, false, 0x0, 0x0, [0x0]⟩,
  ⟨0x10020024, 1, 4, false, 0x0, 0x0, [0x0]⟩,
  ⟨0x10020028, 1, 4, false, 0x0, 0x0, [0x0]⟩,
  ⟨0x1002002C, 1, 4, false, 0x0, 0x0, [0x0]⟩,
  ⟨0x10020030, 1, 4, false, 0x0, 0x0, [0x0]⟩,
  ⟨0x10020034, 1, 4, false, 0x0, 0x0, [0x0]⟩,
  ⟨0x10020038, 1, 4, false, 0x0, 0x0, [0x0]⟩,
  ⟨0x10020040, 4, 4, false, 0x0, 0x0, [0x0]⟩,
  ⟨0x10020080, 16, 8, false, 0x0, 0x0, [0x0]⟩,
  ⟨0x10020084, 16, 8, false, 0x0, 0x0, [0x0]⟩,
  ⟨0x10020100, 1, 4, false, 0x1FFFFFC0, 0x0, [0x0]⟩,
  ⟨0x10020104, 1, 4, false, 0x1FFFFFC0, 0x0, [0x0]⟩,
  ⟨0x10020108, 1, 4, false, 0x1FFFFFC0, 0x0, [0x0]⟩,
  ⟨0x1002010C, 1, 4, false, 0x1FFFFFC0, 0x0, [0x0]⟩,
  ⟨0x10020110, 1, 4, false, 0x0, 0x0, [0x0]⟩]

/-- Rows of block 3 (FST). -/
def rowsFst : List RegRow := [
  ⟨0x10030000, 1, 4, false, 0x3, 0x0, [0x3]⟩,
  ⟨0x10030004, 1, 4, false, 0x0, 0x0, [0x0]⟩,
  ⟨0x10030008, 1, 4, false, 0x0, 0x3F, [0x0]⟩,
  ⟨0x1003000C, 1, 4, false, 0x1F, 0x0, [0x1F]⟩,
  ⟨0x10030010, 1, 4, false, 0x0, 0x0, [0x0]⟩,
  ⟨0x10030014, 1, 4, false, 0x0, 0x0, [0x0]⟩,
  ⟨0x10030020, 1, 4, false, 0x0, 0x0, [0x0]⟩,
  ⟨0x10030024, 1, 4, false, 0x0, 0x0, [0x0]⟩,
  ⟨0x10030028, 1, 4, false, 0x0, 0x0, [0x0]⟩,
  ⟨0x1003002C, 1, 4, false, 0xFFFF, 0x0, [0x400]⟩,
  ⟨0x10030030, 1, 4, false, 0x0, 0x0, [0x0]⟩,
  ⟨0x10030040, 8, 8, false, 0x0, 0x0, [0x0]⟩,
  ⟨0x10030044, 8, 8, false, 0x0, 0x0, [0x0]⟩]

/-- Rows of block 4 (SCN). -/
def rowsScn : List RegRow := [
  ⟨0x10040000, 1, 4, false, 0x7, 0x0, [0x2]⟩,
  ⟨0x10040004, 1, 4, false, 0x3, 0x0, [0x0]⟩,
  ⟨0x10040008, 1, 4, false, 0x0, 0x1C7, [0x0]⟩,
  ⟨0x1004000C, 1, 4, false, 0x0, 0x0, [0x0]⟩,
  ⟨0x10040010, 1, 4, false, 0x0, 0x0, [0x0]⟩,
  ⟨0x10040014, 1, 4, false, 0x0, 0x0, [0x0]⟩,
  ⟨0x10040018, 1, 4, false, 0xFFFFFFFF, 0x0, [0x0]⟩,
  ⟨0x1004001C, 1, 4, false, 0x0, 0x0, [0x0]⟩,
  ⟨0x10040020, 1, 4, true, 0xFFF, 0x0, [0x40]⟩,
  ⟨0x10040024, 1, 4, true, 0xFFFFFF01, 0x0, [0x780A1E00]⟩,
  ⟨0x10040028, 1, 4, true, 0xFF0FFF, 0x0, [0xC60224]⟩,
  ⟨0x10040040, 1, 4, true, 0xFFFFFFFF, 0x0, [0x0]⟩,
  ⟨0x10040044, 1, 4, true, 0xFFFFFFFF, 0x0, [0x0]⟩,
  ⟨0x10040048, 1, 4, true, 0xFFFFFFFF, 0x0, [0x0]⟩,
  ⟨0x1004004C, 1, 4, true, 0xFFFFFFFF, 0x0, [0x0]⟩,
  ⟨0x10040050, 1, 4, true, 0x1FFFF, 0x0, [0x0]⟩,
  ⟨0x10040054, 1, 4, true, 0xFFFFFF, 0x0, [0x0]⟩,
  ⟨0x10040060, 1, 4, false, 0x0, 0x0, [0x0]⟩,
  ⟨0x10040064, 1, 4, false, 0x0, 0x0, [0x0]⟩,
  ⟨0x10040068, 1, 4, false, 0x0, 0x0, [0x0]⟩,
  ⟨0x10040100, 1, 4, false, 0x0, 0x0, [0x0]⟩,
  ⟨0x10040200, 16, 16, false, 0x0, 0x0, [0x0]⟩,
  ⟨0x10040204, 16, 16, false, 0x0, 0x0, [0x0]⟩,
  ⟨0x10040208, 16, 16, false, 0x0, 0x0, [0x0]⟩,
  ⟨0x1004020C, 16, 16, false, 0x0, 0x0, [0x0]⟩]

/-- Rows of block 5 (RNG). -/
def rowsRng : List RegRow := [
  ⟨0x10050000, 1, 4, false, 0x71, 0x0, [0x1]⟩,
  ⟨0x10050004, 1, 4, false, 0x1, 0x0, [0x0]⟩,
  ⟨0x10050008, 1, 4, true, 0xFFF0, 0x0, [0x0]⟩,
  ⟨0x1005000C, 1, 4, false, 0x0, 0x31, [0x0]⟩,
  ⟨0x10050010, 1, 4, false, 0x0, 0x0, [0x0]⟩,
  ⟨0x10050014, 1, 4, false, 0x0, 0x0, [0x0]⟩,
  ⟨0x10050018, 1, 4, false, 0x0, 0x0, [0x0]⟩,
  ⟨0x1005001C, 1, 4, false, 0x0, 0x0, [0x0]⟩,
  ⟨0x10050020, 5, 4, false, 0x0, 0x0, [0x0]⟩]

/-- Rows of block 6 (CPS). -/
def rowsCps : List RegRow := [
  ⟨0x10060000, 1, 4, true, 0x3, 0x0, [0x0]⟩,
  ⟨0x10060004, 1, 4, false, 0x3, 0x0, [0x0]⟩,
  ⟨0x10060008, 1, 4, false, 0x0, 0xF, [0x0]⟩,
  ⟨0x1006000C, 1, 4, false, 0x0, 0x0, [0x0]⟩,
  ⟨0x10060010, 1, 4, true, 0x3FF, 0x0, [0x100]⟩,
  ⟨0x10060014, 1, 4, true, 0x3FFFFFFF, 0x0, [0x0]⟩,
  ⟨0x10060018, 1, 4, true, 0x3FF, 0x0, [0x100]⟩,
  ⟨0x1006001C, 1, 4, true, 0x3FFFFFFF, 0x0, [0x0]⟩,
  ⟨0x10060020, 1, 4, false, 0x0, 0x0, [0x0]⟩,
  ⟨0x10060024, 1, 4, true, 0xFFFFFFFF, 0x0, [0x0]⟩,
  ⟨0x10060028, 1, 4, false, 0x0, 0x0, [0x0]⟩,
  ⟨0x10060100, 32, 16, true, 0xFFF1FFF, 0x0, [0x0]⟩,
  ⟨0x10060104, 32, 16, true, 0x1FF01FF, 0x0, [0x80008]⟩,
  ⟨0x10060108, 32, 16, true, 0x1FFFFFC0, 0x0, [0x0]⟩,
  ⟨0x1006010C, 32, 16, true, 0x3FFFFFFF, 0x0, [0x0]⟩]

/-- Rows of block 7 (DTH). -/
def rowsDth : List RegRow := [
  ⟨0x10070000, 1, 4, true, 0x7F, 0x0, [0x3F]⟩,
  ⟨0x10070004, 1, 4, false, 0x1, 0x0, [0x0]⟩,
  ⟨0x10070008, 1, 4, false, 0x0, 0x7, [0x0]⟩,
  ⟨0x1007000C, 1, 4, false, 0x0, 0x0, [0x0]⟩,
  ⟨0x10070010, 1, 4, true, 0xFFF0, 0x0, [0x0]⟩,
  ⟨0x10070014, 1, 4, true, 0xFFFFFFFF, 0x0, [0x80008000]⟩,
  ⟨0x10070018, 1, 4, true, 0xFFFF, 0x0, [0x8000]⟩,
  ⟨0x1007001C, 1, 4, false, 0x0, 0x0, [0x80008000]⟩,
  ⟨0x10070020, 1, 4, false, 0x0, 0x0, [0x8000]⟩,
  ⟨0x10070024, 1, 4, true, 0xFFFFFFFF, 0x0, [0x4000FFFF]⟩,
  ⟨0x10070028, 1, 4, true, 0xFFFF, 0x0, [0x100]⟩,
  ⟨0x1007002C, 1, 4, true, 0xFFFFFFFF, 0x0, [0x80008000]⟩,
  ⟨0x10070030, 1, 4, true, 0xFFFFFFFF, 0x0, [0x10008000]⟩,
  ⟨0x10070034, 1, 4, false, 0x0, 0x0, [0x0]⟩,
  ⟨0x10070038, 1, 4, false, 0x0, 0x0, [0x0]⟩]

/-- Rows of block 8 (ODV). -/
def rowsOdv : List RegRow := [
  ⟨0x10080000, 1, 4, true, 0x1FF03, 0x0, [0x10003]⟩,
  ⟨0x10080004, 1, 4, false, 0x1, 0x0, [0x0]⟩,
  ⟨0x10080008, 1, 4, false, 0x0, 0x87, [0x0]⟩,
  ⟨0x1008000C, 1, 4, false, 0x0, 0x0, [0x0]⟩,
  ⟨0x10080010, 1, 4, true, 0x1FFFFFC0, 0x0, [0x0]⟩,
  ⟨0x10080014, 1, 4, true, 0xFFFFFFFF, 0x0, [0xFF60]⟩,
  ⟨0x10080018, 1, 4, true, 0xFFFFFFFF, 0x0, [0xF00078]⟩,
  ⟨0x1008001C, 1, 4, true, 0xFFFFFFFF, 0x0, [0x1E00168]⟩,
  ⟨0x10080020, 1, 4, true, 0xFFFFFF, 0x0, [0x100258]⟩,
  ⟨0x10080024, 1, 4, false, 0x0, 0x0, [0x40]⟩,
  ⟨0x10080028, 1, 4, false, 0x0, 0x0, [0x0]⟩,
  ⟨0x1008002C, 1, 4, false, 0x0, 0x0, [0x0]⟩]

/-- Rows of block 9 (DMR). -/
def rowsDmr : List RegRow := [
  ⟨0x10090000, 1, 4, true, 0x3, 0x0, [0x0]⟩,
  ⟨0x10090004, 1, 4, false, 0x1, 0x0, [0x0]⟩,
  ⟨0x10090008, 1, 4, false, 0x0, 0x87, [0x0]⟩,
  ⟨0x1009000C, 1, 4, false, 0x0, 0x0, [0x0]⟩,
  ⟨0x10090010, 1, 4, true, 0x1FFFFFC0, 0x0, [0x128A1800]⟩,
  ⟨0x10090014, 1, 4, true, 0x1FFFFFC0, 0x0, [0x1308BE00]⟩,
  ⟨0x10090018, 1, 4, false, 0x0, 0x0, [0x0]⟩,
  ⟨0x1009001C, 1, 4, false, 0x0, 0x0, [0x0]⟩,
  ⟨0x10090020, 1, 4, false, 0x0, 0x0, [0x0]⟩,
  ⟨0x10090024, 1, 4, false, 0x0, 0x0, [0x0]⟩]

/-- Rows of block 10 (COL). -/
def rowsCol : List RegRow := [
  ⟨0x100A0000, 1, 4, false, 0x1, 0x0, [0x0]⟩,
  ⟨0x100A0004, 1, 4, false, 0x1, 0x0, [0x0]⟩,
  ⟨0x100A0008, 1, 4, false, 0x0, 0x387, [0x0]⟩,
  ⟨0x100A000C, 1, 4, false, 0x0, 0x0, [0x0]⟩,
  ⟨0x100A0010, 1, 4, true, 0xFF3FF7, 0x0, [0x103C01]⟩,
  ⟨0x100A0014, 1, 4, true, 0xFFFFFF, 0x0, [0xFFFFFF]⟩,
  ⟨0x100A0018, 1, 4, true, 0x3, 0x0, [0x0]⟩,
  ⟨0x100A001C, 1, 4, true, 0x1F, 0x0, [0xC]⟩,
  ⟨0x100A0020, 1, 4, true, 0xFFFF, 0x0, [0xE01]⟩,
  ⟨0x100A0024, 1, 4, false, 0x0, 0x0, [0x0]⟩,
  ⟨0x100A0028, 1, 4, false, 0x0, 0x0, [0x0]⟩,
  ⟨0x100A002C, 1, 4, false, 0x0, 0x0, [0x0]⟩,
  ⟨0x100A0030, 1, 4, false, 0x0, 0x0, [0x0]⟩,
  ⟨0x100A0034, 1, 4, false, 0x0, 0x0, [0x0]⟩,
  ⟨0x100A0038, 1, 4, false, 0x0, 0x0, [0x0]⟩,
  ⟨0x100A0040, 24, 4, false, 0x0, 0x0, [0x0]⟩]

/-- Rows of block 11 (GSQ). -/
def rowsGsq : List RegRow := [
  ⟨0x100B0000, 1, 4, true, 0xF01, 0x0, [0xC01]⟩,
  ⟨0x100B0004, 1, 4, false, 0x1, 0x0, [0x0]⟩,
  ⟨0x100B0008, 1, 4, false, 0x0, 0x1C7, [0x0]⟩,
  ⟨0x100B000C, 1, 4, false, 0x0, 0x0, [0x0]⟩,
  ⟨0x100B0010, 1, 4, true, 0xFFF0, 0x0, [0x0]⟩,
  ⟨0x100B0014, 1, 4, false, 0x0, 0x0, [0x0]⟩,
  ⟨0x100B0018, 1, 4, false, 0x0, 0x0, [0x0]⟩,
  ⟨0x100B001C, 1, 4, false, 0x0, 0x0, [0x0]⟩,
  ⟨0x100B0020, 1, 4, false, 0x0, 0x0, [0x0]⟩,
  ⟨0x100B0024, 1, 4, false, 0xFFFF, 0x0, [0x3214]⟩]

/-- Rows of block 12 (BIAS). -/
def rowsBias : List RegRow := [
  ⟨0x100C0000, 1, 4, false, 0x3, 0x0, [0x2]⟩,
  ⟨0x100C0004, 1, 4, false, 0x1, 0x0, [0x0]⟩,
  ⟨0x100C0008, 1, 4, false, 0x0, 0x1C40, [0x0]⟩,
  ⟨0x100C000C, 1, 4, false, 0x0, 0x0, [0x0]⟩,
  ⟨0x100C0010, 1, 4, true, 0xFF, 0x0, [0x50]⟩,
  ⟨0x100C0014, 1, 4, true, 0x7F, 0x0, [0x28]⟩,
  ⟨0x100C0018, 1, 4, true, 0x3F00FF, 0x0, [0x78]⟩,
  ⟨0x100C001C, 1, 4, true, 0x3FF, 0x0, [0x226]⟩,
  ⟨0x100C0020, 7, 4, true, 0x3FF03FF, 0x0, [0x0]⟩,
  ⟨0x100C0040, 1, 4, false, 0x0, 0x0, [0x0]⟩,
  ⟨0x100C0044, 1, 4, false, 0x0, 0x0, [0x0]⟩,
  ⟨0x100C0048, 1, 4, false, 0x0, 0x0, [0x0]⟩]

/-- Rows of block 13 (BLD). -/
def rowsBld : List RegRow := [
  ⟨0x100D0000, 1, 4, false, 0x5, 0x0, [0x0]⟩,
  ⟨0x100D0004, 1, 4, false, 0x3, 0x0, [0x0]⟩,
  ⟨0x100D0008, 1, 4, false, 0x0, 0xF87, [0x0]⟩,
  ⟨0x100D000C, 1, 4, false, 0x0, 0x0, [0x0]⟩,
  ⟨0x100D0010, 1, 4, true, 0x31FFF, 0x0, [0x18C0]⟩,
  ⟨0x100D0014, 1, 4, true, 0x3FFFF4F, 0x0, [0x240]⟩,
  ⟨0x100D0018, 1, 4, true, 0xFF, 0x0, [0xFF]⟩,
  ⟨0x100D001C, 1, 4, true, 0xFF01, 0x0, [0x7801]⟩,
  ⟨0x100D0020, 1, 4, true, 0xFFFFF, 0x0, [0x2000]⟩,
  ⟨0x100D0024, 1, 4, true, 0x1FFFFFF, 0x0, [0x1A43C32]⟩,
  ⟨0x100D0028, 1, 4, false, 0x7F, 0x0, [0xA]⟩,
  ⟨0x100D0030, 1, 4, false, 0x0, 0x0, [0x0]⟩,
  ⟨0x100D0034, 1, 4, false, 0x0, 0x0, [0x0]⟩,
  ⟨0x100D0038, 1, 4, false, 0x0, 0x0, [0x0]⟩,
  ⟨0x100D003C, 1, 4, false, 0x0, 0x0, [0x0]⟩,
  ⟨0x100D0040, 1, 4, false, 0x0, 0x0, [0x0]⟩,
  ⟨0x100D0044, 1, 4, false, 0x0, 0x0, [0x0]⟩,
  ⟨0x100D0048, 1, 4, false, 0x0, 0x0, [0x0]⟩,
  ⟨0x100D004C, 1, 4, false, 0x0, 0x0, [0x0]⟩,
  ⟨0x100D0050, 1, 4, false, 0x0, 0x0, [0x0]⟩,
  ⟨0x100D0080, 32, 4, false, 0xFFFFFFFF, 0x0, [0x0]⟩,
  ⟨0x100D1000, 512, 4, false, 0x3FFE1FFF, 0x0, [0x0]⟩,
  ⟨0x100D8000, 4608, 4, false, 0x0, 0x0, [0x0]⟩]

/-- Rows of block 14 (LDA). -/
def rowsLda : List RegRow := [
  ⟨0x100E0000, 1, 4, true, 0x3, 0x0, [0x0]⟩,
  ⟨0x100E0004, 1, 4, false, 0x1, 0x0, [0x0]⟩,
  ⟨0x100E0008, 1, 4, false, 0x0, 0xF, [0x0]⟩,
  ⟨0x100E000C, 1, 4, false, 0x0, 0x0, [0x0]⟩,
  ⟨0x100E0010, 1, 4, true, 0xFFFF, 0x0, [0x8004]⟩,
  ⟨0x100E0014, 1, 4, true, 0x1FF01FF, 0x0, [0x200100]⟩,
  ⟨0x100E0018, 1, 4, true, 0xFFFF, 0x0, [0x2000]⟩,
  ⟨0x100E001C, 1, 4, true, 0xFFFFF, 0x0, [0xFEF0]⟩,
  ⟨0x100E0020, 1, 4, true, 0xFFFFF, 0x0, [0x0]⟩,
  ⟨0x100E0024, 1, 4, true, 0xFFFF, 0x0, [0x1000]⟩,
  ⟨0x100E0040, 16, 4, true, 0xFFFFFFFF, 0x0, [0xFFFF, 0x0]⟩,
  ⟨0x100E0080, 16, 4, true, 0xFFFFFFFF, 0x0, [0xFFFF, 0x0]⟩,
  ⟨0x100E00C0, 1, 4, false, 0x0, 0x0, [0x0]⟩,
  ⟨0x100E00C4, 1, 4, false, 0x0, 0x0, [0x0]⟩,
  ⟨0x100E00C8, 1, 4, false, 0x0, 0x0, [0x0]⟩,
  ⟨0x100E8000, 4608, 4, false, 0x0, 0x0, [0x0]⟩]

/-- Rows of block 15 (OPT). -/
def rowsOpt : List RegRow := [
  ⟨0x100F0000, 1, 4, false, 0x1, 0x0, [0x1]⟩,
  ⟨0x100F0004, 1, 4, false, 0x1, 0x0, [0x0]⟩,
  ⟨0x100F0008, 1, 4, false, 0x0, 0x1B, [0x0]⟩,
  ⟨0x100F000C, 1, 4, false, 0x0, 0x0, [0x0]⟩,
  ⟨0x100F0010, 1, 4, true, 0xFFFFFFFF, 0x0, [0x40004000]⟩,
  ⟨0x100F0014, 1, 4, true, 0xFFFFFFFF, 0x0, [0x406666]⟩,
  ⟨0x100F0018, 1, 4, true, 0xFFFFFFFF, 0x0, [0x40000F0]⟩,
  ⟨0x100F001C, 1, 4, true, 0xFFFF, 0x0, [0x200]⟩,
  ⟨0x100F0020, 3, 4, false, 0xFFFF, 0x0, [0x0]⟩,
  ⟨0x100F0030, 3, 4, false, 0x0, 0x0, [0x0]⟩,
  ⟨0x100F0040, 1, 4, false, 0x0, 0x0, [0x80008000]⟩,
  ⟨0x100F0044, 1, 4, false, 0x0, 0x0, [0x8000]⟩,
  ⟨0x100F0048, 1, 4, false, 0xFFFFFFFF, 0x0, [0x80008000]⟩,
  ⟨0x100F004C, 1, 4, false, 0xFFFF, 0x0, [0x8000]⟩,
  ⟨0x100F0050, 1, 4, false, 0x0, 0x0, [0x0]⟩,
  ⟨0x100F0054, 1, 4, false, 0x0, 0x0, [0x0]⟩]

/-- Rows of block 16 (SAF). -/
def rowsSaf : List RegRow := [
  ⟨0x10100000, 1, 4, false, 0x3, 0x0, [0x3]⟩,
  ⟨0x10100004, 1, 4, false, 0x1, 0x0, [0x0]⟩,
  ⟨0x10100008, 1, 4, false, 0x0, 0x943, [0x0]⟩,
  ⟨0x1010000C, 1, 4, false, 0x0, 0x0, [0x0]⟩,
  ⟨0x10100010, 1, 4, false, 0x7F0, 0x0, [0x600]⟩,
  ⟨0x10100014, 1, 4, false, 0x3, 0x0, [0x1]⟩,
  ⟨0x10100018, 1, 4, false, 0xFFFFFFFF, 0x0, [0x0]⟩,
  ⟨0x1010001C, 1, 4, false, 0xFFFFFFFF, 0x0, [0x0]⟩,
  ⟨0x10100020, 1, 4, false, 0x0, 0x0, [0x0]⟩,
  ⟨0x10100024, 1, 4, false, 0x7, 0x0, [0x0]⟩,
  ⟨0x10100028, 1, 4, false, 0x0, 0x0, [0x0]⟩,
  ⟨0x1010002C, 1, 4, false, 0x0, 0x0, [0x0]⟩,
  ⟨0x10100040, 4, 4, false, 0x0, 0x0, [0x0]⟩,
  ⟨0x10100050, 1, 4, false, 0x0, 0x0, [0x0]⟩,
  ⟨0x10100054, 1, 4, false, 0x0, 0x0, [0x0]⟩,
  ⟨0x10100058, 1, 4, false, 0x0, 0x0, [0x0]⟩,
  ⟨0x1010005C, 1, 4, false, 0x0, 0x0, [0x0]⟩,
  ⟨0x10100060, 1, 4, false, 0x0, 0x0, [0x0]⟩,
  ⟨0x10100064, 1, 4, false, 0x0, 0x0, [0x0]⟩,
  ⟨0x10100068, 1, 4, false, 0x0, 0xFFFFFFFF, [0x0]⟩,
  ⟨0x1010006C, 1, 4, false, 0x0, 0x0, [0x0]⟩,
  ⟨0x10100070, 1, 4, false, 0x0, 0x0, [0x0]⟩,
  ⟨0x10100074, 2, 4, false, 0x0, 0x0, [0x0]⟩,
  ⟨0x10100100, 32, 8, true, 0xFFFFFFFF, 0x0, [0xFFFFFFFF]⟩,
  ⟨0x10100104, 32, 8, false, 0x0, 0x0, [0x0]⟩,
  ⟨0x10100200, 32, 8, false, 0x0, 0x0, [0xFFFFFFFF]⟩,
  ⟨0x10100204, 32, 8, false, 0x0, 0x0, [0xFFFFFFFF]⟩]

/-- Rows of block 17 (MBX). -/
def rowsMbx : List RegRow := [
  ⟨0x10110000, 1, 4, false, 0xF, 0x0, [0xF]⟩,
  ⟨0x10110004, 1, 4, false, 0x0, 0x0, [0x0]⟩,
  ⟨0x10110008, 1, 4, false, 0x0, 0x7FFF, [0x0]⟩,
  ⟨0x1011000C, 1, 4, false, 0x0, 0x0, [0x0]⟩,
  ⟨0x10110100, 4, 32, false, 0xF, 0x0, [0x0]⟩,
  ⟨0x10110104, 4, 32, false, 0x0, 0x0, [0x0]⟩,
  ⟨0x10110108, 4, 32, false, 0x0, 0x0, [0x10]⟩,
  ⟨0x1011010C, 4, 32, false, 0xF, 0x0, [0x0]⟩,
  ⟨0x10110110, 4, 32, false, 0x0, 0x0, [0x0]⟩,
  ⟨0x10110114, 4, 32, false, 0x0, 0x0, [0x0]⟩,
  ⟨0x10110118, 4, 32, false, 0x0, 0x0, [0x0]⟩]

/-- Rows of block 18 (DMA). -/
def rowsDma : List RegRow := [
  ⟨0x10120000, 1, 4, false, 0x1, 0x0, [0x1]⟩,
  ⟨0x10120004, 1, 4, false, 0x0, 0x0, [0x0]⟩,
  ⟨0x10120008, 1, 4, false, 0x0, 0xFFFFFFFF, [0x0]⟩,
  ⟨0x1012000C, 1, 4, false, 0xFFFFFFFF, 0x0, [0x0]⟩,
  ⟨0x10120010, 1, 4, false, 0x0, 0x0, [0x0]⟩,
  ⟨0x10120014, 1, 4, false, 0x0, 0x0, [0x0]⟩,
  ⟨0x10120018, 1, 4, false, 0x0, 0x7, [0x0]⟩,
  ⟨0x10120020, 4, 4, false, 0x0, 0x0, [0x0]⟩,
  ⟨0x10120030, 4, 4, false, 0x0, 0x0, [0x0]⟩,
  ⟨0x10120040, 4, 4, false, 0x0, 0x0, [0x0]⟩,
  ⟨0x10120100, 16, 64, false, 0x3FD, 0x0, [0x100]⟩,
  ⟨0x10120104, 16, 64, false, 0x0, 0x0, [0x0, 0x0, 0x0, 0x0, 0x0, 0x0, 0x0, 0x0, 0x0, 0x0, 0x0, 0x0, 0x10, 0x10, 0x10, 0x10]⟩,
  ⟨0x10120108, 16, 64, false, 0xFFFFFFF8, 0x0, [0x0]⟩,
  ⟨0x1012010C, 16, 64, false, 0xFFFF, 0x0, [0x0]⟩,
  ⟨0x10120110, 16, 64, false, 0x0, 0x0, [0x0]⟩,
  ⟨0x10120114, 16, 64, false, 0xFFFFFF, 0x0, [0x0]⟩,
  ⟨0x10120118, 16, 64, false, 0xFFFFFF, 0x0, [0x0]⟩,
  ⟨0x1012011C, 16, 64, false, 0x0, 0x0, [0x0]⟩,
  ⟨0x10120120, 16, 64, false, 0x0, 0x0, [0x0]⟩,
  ⟨0x10120124, 16, 64, false, 0x0, 0x0, [0x0]⟩,
  ⟨0x10120128, 16, 64, false, 0x0, 0x0, [0x0]⟩,
  ⟨0x1012012C, 16, 64, false, 0x0, 0x0, [0x0]⟩,
  ⟨0x10120130, 16, 64, false, 0x0, 0x0, [0x0]⟩]

/-- Rows of block 19 (PWR). -/
def rowsPwr : List RegRow := [
  ⟨0x10130000, 1, 4, false, 0x0, 0x10000, [0x1]⟩,
  ⟨0x10130008, 1, 4, false, 0xFFFF, 0x0, [0xA]⟩,
  ⟨0x10130010, 1, 4, false, 0x0, 0x0, [0x0]⟩,
  ⟨0x10130024, 1, 4, false, 0x0, 0x0, [0x0]⟩,
  ⟨0x10130030, 1, 4, false, 0x7F, 0x200, [0x28]⟩,
  ⟨0x10130034, 1, 4, false, 0x13, 0x0, [0x11]⟩,
  ⟨0x10130038, 1, 4, false, 0xFFFF, 0x0, [0x3C]⟩,
  ⟨0x1013003C, 1, 4, false, 0x0, 0x0, [0x0]⟩,
  ⟨0x10130100, 1, 4, false, 0x1, 0x0, [0x0]⟩,
  ⟨0x10130104, 1, 4, false, 0xFFFF, 0x0, [0x258]⟩,
  ⟨0x10130108, 1, 4, false, 0xFFFF, 0x0, [0x519]⟩,
  ⟨0x1013010C, 1, 4, false, 0xFFFFFFFF, 0x0, [0x3200398]⟩,
  ⟨0x10130110, 1, 4, false, 0xFFFFFFFF, 0x0, [0x2A80230]⟩,
  ⟨0x10130114, 1, 4, false, 0xFFF0FFF, 0x0, [0x19003E8]⟩,
  ⟨0x10130118, 1, 4, false, 0xFF03FF, 0x0, [0x400398]⟩,
  ⟨0x1013011C, 1, 4, false, 0xFFFFFFFF, 0x0, [0x8051E0A]⟩,
  ⟨0x10130120, 1, 4, false, 0x3, 0x0, [0x3]⟩,
  ⟨0x10130124, 4, 4, false, 0xFFFFFFFF, 0x0, [0x4B00640, 0x37A047E, 0x26C0320, 0x19A0226]⟩,
  ⟨0x10130134, 1, 4, false, 0xFFFF, 0x0, [0x12C]⟩,
  ⟨0x10130138, 1, 4, false, 0x3FFFFFFF, 0x0, [0xA08C183]⟩,
  ⟨0x1013013C, 1, 4, false, 0xFFFF, 0x0, [0x400]⟩,
  ⟨0x10130140, 5, 4, false, 0xFFFFFFFF, 0x0, [0x20007D0, 0xFA0, 0x4E20, 0x2710, 0x4E20]⟩,
  ⟨0x10130160, 1, 4, false, 0xFFFFF07, 0x0, [0x0]⟩,
  ⟨0x10130180, 1, 4, false, 0x0, 0x100, [0x0]⟩,
  ⟨0x10130184, 1, 4, false, 0x0, 0x0, [0x0]⟩,
  ⟨0x10130188, 1, 4, false, 0x0, 0x0, [0x0]⟩,
  ⟨0x1013018C, 1, 4, false, 0x0, 0x0, [0x0]⟩,
  ⟨0x10130190, 1, 4, false, 0x0, 0x0, [0x0]⟩,
  ⟨0x10130194, 1, 4, false, 0x0, 0x0, [0x0]⟩,
  ⟨0x10130198, 1, 4, false, 0x0, 0x0, [0x0]⟩,
  ⟨0x101301A0, 5, 4, false, 0x0, 0x0, [0x0]⟩,
  ⟨0x101301B4, 1, 4, false, 0x0, 0x0, [0x0]⟩]

/-- Rows of block 20 (CAL). -/
def rowsCal : List RegRow := [
  ⟨0x10140000, 1, 4, false, 0xFFFF03, 0x0, [0xC4003]⟩,
  ⟨0x10140004, 1, 4, false, 0x0, 0xC0, [0x0]⟩,
  ⟨0x10140008, 1, 4, false, 0x0, 0x0, [0x0]⟩,
  ⟨0x1014000C, 1, 4, false, 0x0, 0x0, [0x0]⟩,
  ⟨0x10140010, 1, 4, false, 0x0, 0x0, [0x0]⟩,
  ⟨0x10140014, 1, 4, false, 0x0, 0x0, [0x0]⟩,
  ⟨0x10140018, 1, 4, false, 0x0, 0x0, [0x0]⟩,
  ⟨0x10140030, 5, 4, false, 0x0, 0x0, [0x0]⟩,
  ⟨0x10140100, 11, 16, false, 0x3FFFF, 0x0, [0x20688]⟩,
  ⟨0x10140104, 11, 16, false, 0x3FFFFFFF, 0x0, [0x0]⟩,
  ⟨0x10140108, 11, 16, false, 0x0, 0x0, [0x0]⟩,
  ⟨0x1014010C, 11, 16, false, 0x0, 0x0, [0x0]⟩,
  ⟨0x10141000, 192, 4, false, 0xFFFF, 0x0, [0xFFF]⟩]

/-- Rows of block 21 (SYS). -/
def rowsSys : List RegRow := [
  ⟨0x10150000, 1, 4, false, 0x0, 0x0, [0x17264]⟩,
  ⟨0x10150004, 1, 4, false, 0x0, 0x0, [0x1012018]⟩,
  ⟨0x10150008, 1, 4, false, 0x0, 0x0, [0x0]⟩,
  ⟨0x1015000C, 1, 4, false, 0x0, 0x0, [0x0]⟩,
  ⟨0x10150010, 1, 4, false, 0x0, 0x0, [0xF002]⟩,
  ⟨0x10150020, 1, 4, false, 0x0, 0x0, [0x0]⟩,
  ⟨0x10150024, 1, 4, false, 0x0, 0x0, [0x0]⟩,
  ⟨0x10150100, 1, 4, false, 0x0, 0x0, [0x0]⟩,
  ⟨0x10150104, 1, 4, false, 0x0, 0x0, [0x0]⟩,
  ⟨0x10150108, 1, 4, false, 0x0, 0x0, [0x0]⟩,
  ⟨0x1015010C, 1, 4, false, 0x0, 0x0, [0x0]⟩,
  ⟨0x10150110, 1, 4, false, 0xFFFFFFFF, 0x0, [0x0]⟩,
  ⟨0x10150114, 1, 4, false, 0x0, 0x0, [0x0]⟩,
  ⟨0x10150118, 1, 4, false, 0x0, 0x0, [0x0]⟩,
  ⟨0x1015011C, 1, 4, false, 0x0, 0x0, [0x0]⟩,
  ⟨0x10150200, 1, 4, false, 0x0, 0x0, [0x0]⟩,
  ⟨0x10150204, 1, 4, false, 0x7, 0x0, [0x7]⟩,
  ⟨0x10150208, 1, 4, false, 0x0, 0x0, [0x0]⟩,
  ⟨0x1015020C, 1, 4, false, 0x1FFF, 0x0, [0x1FFF]⟩,
  ⟨0x10150210, 1, 4, false, 0x0, 0x0, [0x0]⟩,
  ⟨0x10150214, 1, 4, false, 0x0, 0x0, [0x0]⟩,
  ⟨0x10150220, 4, 4, false, 0x0, 0x0, [0x0]⟩,
  ⟨0x10150300, 1, 4, false, 0x0, 0x0, [0x0]⟩,
  ⟨0x10150304, 1, 4, false, 0x0, 0x0, [0x0]⟩,
  ⟨0x10150308, 1, 4, false, 0x0, 0x0, [0x0]⟩,
  ⟨0x10150310, 4, 4, false, 0x0, 0x0, [0x0]⟩,
  ⟨0x10150400, 1, 4, false, 0x3, 0x0, [0x3]⟩,
  ⟨0x10150404, 1, 4, false, 0x0, 0x0, [0x0]⟩,
  ⟨0x10150408, 1, 4, false, 0x0, 0x0, [0x0]⟩,
  ⟨0x1015040C, 1, 4, false, 0x0, 0x0, [0x0]⟩,
  ⟨0x10150410, 1, 4, false, 0x0, 0x0, [0x0]⟩,
  ⟨0x10150414, 1, 4, false, 0x0, 0x0, [0x0]⟩,
  ⟨0x10150418, 1, 4, false, 0x0, 0x0, [0x0]⟩,
  ⟨0x1015041C, 1, 4, false, 0x0, 0x0, [0x0]⟩,
  ⟨0x10150420, 1, 4, false, 0x0, 0x0, [0x0]⟩,
  ⟨0x10150424, 1, 4, false, 0x0, 0x0, [0x0]⟩,
  ⟨0x10150428, 1, 4, false, 0x0, 0x0, [0x0]⟩,
  ⟨0x10150440, 1, 4, false, 0x0, 0x0, [0x0]⟩,
  ⟨0x10150444, 1, 4, false, 0x0, 0x0, [0x0]⟩,
  ⟨0x10150448, 1, 4, false, 0x0, 0x0, [0x0]⟩,
  ⟨0x1015044C, 1, 4, false, 0x0, 0x0, [0x0]⟩,
  ⟨0x10150450, 1, 4, false, 0x0, 0x3, [0x0]⟩,
  ⟨0x10150480, 6, 4, false, 0x0, 0x0, [0x0]⟩]

/-- Rows of block the always-on registers at 0xF000_0000. -/
def rowsAon : List RegRow := [
  ⟨0xF0000000, 1, 4, false, 0x0, 0x0, [0x0]⟩,
  ⟨0xF0000004, 1, 4, false, 0x0, 0x1FF, [0x1]⟩,
  ⟨0xF0000008, 1, 4, false, 0x0, 0x0, [0xFFFF0000]⟩,
  ⟨0xF0000010, 1, 4, false, 0x0, 0x0, [0x0]⟩,
  ⟨0xF0000014, 1, 4, false, 0x0, 0x0, [0x0]⟩]

/-- The Chain port's rows: the Inlet's, one block higher. -/
def rowsChn : List RegRow := rowsInl.map fun r =>
  { r with
    base := r.base + 0x10000
    resets := if r.base = R.PORT_LANE_STAT 0 0 then [0, 0, 0, 0, 0, 0, 0, 0, 0xFF01] else r.resets }

/-- The rows of a block, by its index (R24). -/
def blockRows : Nat → List RegRow
  | 0 => rowsInl
  | 1 => rowsChn
  | 2 => rowsSlu
  | 3 => rowsFst
  | 4 => rowsScn
  | 5 => rowsRng
  | 6 => rowsCps
  | 7 => rowsDth
  | 8 => rowsOdv
  | 9 => rowsDmr
  | 10 => rowsCol
  | 11 => rowsGsq
  | 12 => rowsBias
  | 13 => rowsBld
  | 14 => rowsLda
  | 15 => rowsOpt
  | 16 => rowsSaf
  | 17 => rowsMbx
  | 18 => rowsDma
  | 19 => rowsPwr
  | 20 => rowsCal
  | 21 => rowsSys
  | _ => []

/-- Rows that can hold the address `a` (R24, R601). -/
def rowsAt (a : Nat) : List RegRow :=
  if 0xF0000000 ≤ a then rowsAon
  else if a < 0x10000000 then []
  else blockRows ((a - 0x10000000) / 0x10000)

/-- Does the row hold the address `a`? -/
def RegRow.has (r : RegRow) (a : Nat) : Bool :=
  decide (r.base ≤ a) && decide ((a - r.base) / r.stride < r.count) && decide ((a - r.base) % r.stride = 0)

/-- The row of the register at `a`; none at an unassigned offset (R14). -/
def regRow? (a : Nat) : Option RegRow := (rowsAt a).find? (·.has a)

/-- The reset value of a register, by its row; 0 at an unassigned offset, which reads 0 (R14). -/
def regReset (a : Nat) : BitVec 32 :=
  match regRow? a with
  | none => 0
  | some r => BitVec.ofNat 32 (r.resets.getD ((a - r.base) / r.stride) (r.resets.getLastD 0))

end Sys2Proof.Machine
end

