-- ==== Sys2Proof/Config.lean ====
section
/-! DEFINITION. What one part has and the spec does not give: fuses, keys, the firmware's own numbers, and the free
values. All of it is opaque: nothing in the model can know a value of it. -/

namespace Sys2Proof.Config

open Sys2Proof.Machine

/-- The serial number in the fuses (R652). -/
opaque serial : BitVec 64

/-- The pond repair entries 2k and 2k + 1 in SYS_FUSEk (R611). -/
opaque fuse : Nat → Word

/-- The 128-bit service key loaded at production (R535). -/
opaque serviceKey : Nat

/-- The rollback counter in the fuses (R92). -/
opaque rollback : Nat

/-- The version in the header of a firmware image, by the bytes of its partition: the spec does not lay the header out
(R92, log entry 21). -/
opaque imageVersion : List Byte → Nat

/-- Do an image's signature against the fused key and its digest hold (R92)? -/
opaque imageSigned : List Byte → Bool

/-- The SHA-256 digest that an image's signed manifest gives for an item by KIND and ID (R94, R98), if it names it. Kinds
1 to 3 are those of the asset directory; 4 to 7 are the two demura sets, the overdrive image and the gamma image. -/
opaque manifest : List Byte → Nat → Nat → Option (List Byte)

/-- Bytes of Pond A's code region, from its first address on: the spec does not give its extent (R90). -/
opaque codeLen : Nat

/-- FW_VERSION of SYS_INFO (R552). -/
opaque fwVersion : Word

/-- A value the spec leaves open: the n-th time one is needed it is `freeValue n` (log entry 2). -/
opaque freeValue : Nat → Nat

/-- The quotient of R361 for a target where the divisor is 0. -/
opaque ldQuotient : Nat → Nat

/-- The n-th draw of the module's random source: TRAIN_IDs (R196) and service nonces (R535). -/
opaque random : Nat → Nat

end Sys2Proof.Config
end

