-- ==== Sys2Proof/Machine/State.lean ====
section
/-! DEFINITION. The state of the block: every register, memory, queue, counter and hidden sequencer the spec gives the
module, as plain data, and the queue of waiting commands. What software reads as a register has its home in `regs`
(shadow copies included, R12), keyed by address with the table's reset value where nothing is listed; what a sequencer
holds besides is in the structure of its block. -/

namespace Sys2Proof.Machine

/-! ### Names -/

/-- The twelve operating modes (R77). -/
inductive Mode where
  | dormant | standby | boot | splash | linkUp | live | selfRefresh | lowRate | telltaleOnly
  | calibrate | service | update
deriving DecidableEq, Repr

/-- A sleep target: S1 or S2 (R121, R122). -/
inductive SleepTarget where
  | standby | dormant
deriving DecidableEq, Repr

/-- Where a sleep request came from (R126, R127, R131): a falling WAKE crossing, the no-wake timeout, or the MODE_SET
with this tag. -/
inductive SleepSource where
  | wakeFall | timeout | modeSet (tag : Nat)
deriving DecidableEq, Repr

/-- A request for the power state machine (R133). A wake carries its SOURCE code (R141). -/
inductive PowerReq where
  | sleep (t : SleepTarget) (src : SleepSource)
  | wake (source : Nat)
deriving DecidableEq, Repr

/-- A sleep entry: its target and source, how many domains of R127's order have voted yes, those of them that stopped
running blocks (latest first), whether at acceptance the raster ran, the panel was up and the backlight ran, the
crossing that arrived meanwhile with its module time and OSC_TIME (R135), and CTRL's vote as it is fixed at LINK's (R131, log
entry 72): 0 for yes, else its reason. -/
structure SleepEntry where
  target : SleepTarget
  source : SleepSource
  voted : Nat
  stopped : List Domain
  rasterRan : Bool
  panelUp : Bool
  lit : Bool
  wakeAt : Option (Time × Bool)
  ctrl : Option Nat
deriving DecidableEq, Repr

/-- An access that stalls for a domain (R113): a 32-bit write of a register; a master's read of `n` bytes, or its write; `e`
counts the wrong bits of the word, or the wrong symbols of the codeword, that it touches. -/
inductive Stall where
  | put (a : Nat) (v : Word)
  | read (m : Master) (a n e : Nat)
  | write (m : Master) (a : Nat) (bs : List Byte) (e : Nat)
deriving DecidableEq, Repr

/-- What the power state machine is doing (R133): nothing, a start-up, a sleep vote, or the restart after a refused
vote with the domains still to restart. -/
inductive Transition where
  | none
  | startUp
  | entering (e : SleepEntry)
  | restarting (e : SleepEntry)
deriving DecidableEq, Repr

/-- A latched trigger of R80: its row and the command that waits for it, if any. -/
structure ModeTrig where
  row : Nat
  cmd : Option Nat
deriving DecidableEq, Repr

/-! ### Parts of the state -/

/-- Modes and power (R77 to R143). -/
structure Power where
  /-- The module has supply: AON reset is released (R80 row 1). -/
  supplied : Bool
  /-- The current mode (SYS_MODE.MODE). -/
  mode : Mode
  /-- The origin mode while in CALIBRATE, SERVICE or UPDATE (R79). -/
  origin : Option Mode
  /-- Completed transitions (SYS_MODE.MODE_SEQ). -/
  modeSeq : BitVec 8
  /-- The transition in progress (R133). -/
  trans : Transition
  /-- The one pending power request (R133). -/
  pendReq : Option PowerReq
  /-- Triggers latched for the next frame start (R80, R83). -/
  trigs : List ModeTrig
  /-- A refused sleep to be voted again while WAKE stays low (R132). -/
  revote : Option (SleepTarget × SleepSource)
  /-- The no-wake timeout of R126 is armed. -/
  noWakeArmed : Bool
  /-- FAULT_N is driven low by reset, sleep or a resume and not yet released (R64). -/
  faultHeld : Bool
  /-- FAULT_N may be released only from this frame on: the first lit frame, or the first fully lit one after a refused
  sleep (R64, R88). -/
  faultFrame : Option Word
  /-- The first lit frame has started (R86). -/
  firstLit : Bool
  /-- Module time of step 1 of this start (R110). -/
  startTime : Time
  /-- The start took the resume path (R90). -/
  resume : Bool
  /-- ROM recovery (R93). -/
  rom : Bool
  /-- Frames without a host frame, in units of module time at which the 200 ms of R102 began. -/
  noHostSince : Option Time
  /-- Frames since the last FRAME_READY on a subscribed stream (R80 row 10). -/
  quietFrames : Nat
  /-- The digest of Pond A's code region taken at STANDBY entry (R90). -/
  codeDigest : Option (List Byte)
  /-- A flash step that was in progress when CTRL refused for it is still in progress (R129, R132). -/
  flashBusy : Bool
  /-- A completed SYS_RESET or UPDATE_ACTIVATE waits to reset the module: its tag and its RESET_CAUSE bit (R553). -/
  resetDue : Option (Nat × Nat)
  /-- The firmware requests a full reset for an uncorrectable error in its own Pond A code or data (R604). -/
  fatal : Bool
  /-- The 156.25 MHz reference is present on J1 (R52, R201). -/
  refclk : Bool
  /-- The panel supply fault of R55 keeps the module from modes that need the panel. -/
  panelFault : Bool
  /-- Domains that power up, and the accesses that stall for them (R111, R113). -/
  waking : List Domain
  stalled : List Stall
  /-- After a refused vote, the frame at whose line 0 the backlight is raised: one scanned frame after the bias sequence
  (R130). -/
  lightAt : Option Word
  /-- A CTRL refusal for a flash step holds new flash steps until the repeated vote (R132). -/
  noFlash : Bool
  /-- The firmware runs: step 3 of a start or the resume path has restarted it. -/
  firmware : Bool
deriving DecidableEq, Repr

/-- A copy of SYS_TIME_HI per master (R634): the control core, Juggler, the host control port. -/
structure TimeCopies where
  core : Word
  dma : Word
  port : Word
deriving DecidableEq, Repr

/-- A queued part for the SYS log writer (R539, R647): a fault log part (its 16 bytes before GEN and CHECK, whether it
ends its record, whether LOST is owed) or the ledger entry of the running command `tag`. -/
inductive LogItem where
  | part (bytes : List Byte) (last : Bool)
  | ledger (bytes : List Byte) (tag : Nat)
deriving DecidableEq, Repr

/-- The event writer and the log writer (R638 to R648). -/
structure Recorder where
  /-- Events written, modulo 256 (R638 byte 3). -/
  evtSeq : BitVec 8
  /-- Records of the event ring that wait to be sent. -/
  evtHeld : Nat
  /-- An event was lost since the last one written (R640). -/
  evtLost : Bool
  /-- Module times at which the unsent records were written, oldest first (R641). -/
  evtTimes : List Time
  /-- The log writer's queue, oldest first (R647). -/
  logQ : List LogItem
  /-- A record was dropped since the last one written (R647). -/
  logLost : Bool
  /-- Bytes of SYS_LOG_POST0 to SYS_LOG_POST2 written and not yet queued. -/
  logStage : List Word
  /-- A firmware record that did not fit is being dropped until its last part (R647). -/
  logDropping : Bool
deriving DecidableEq, Repr

/-- The phase of a running command (R527, R539): its work goes on, it waits for frame hand-overs, its step is done and
the boundary entry is to be written, the entry waits for its LOG slot. -/
inductive CmdPhase where
  | work
  | waitCommit
  | waitEvent
  | boundary
  | entry
deriving DecidableEq, Repr

/-- A command in flight, copied out of its slot (R519). -/
structure RunCmd where
  mb : Nat
  slot : Nat
  opcode : Nat
  cookie : Nat
  /-- Timeout in ms (R530, R547). -/
  timeout : Nat
  params : List Byte
  /-- Steps completed (R514). -/
  step : Nat
  phase : CmdPhase
  /-- The status decided for its end; none while it goes on. -/
  status : Option Nat
  result : List Byte
  /-- The timeout has expired (R530). -/
  expired : Bool
  /-- A pause covered a retrain (R532). -/
  retrained : Bool
  /-- Its timeout is paused (R531). -/
  paused : Bool
  /-- It ends with ABORTED at its next boundary: MB3 has locked, CAL_ABORT, a tell-tale request, or the end of the update
  session (R534, R571, R103). -/
  killed : Bool
  /-- Scratch words of a command of several steps: counts and frame numbers it reports. -/
  note : List Nat
deriving DecidableEq, Repr

/-- One mailbox beside its registers (R517 to R520, R533, R535). -/
structure Mailbox where
  /-- Accepted and not yet taken slots, from CMD_HEAD on. -/
  accepted : Nat
  /-- Completion entries written and not consumed by the sender. -/
  unread : Nat
  /-- Disabled by a condition other than EN (R533). -/
  disabledBy : Bool
  /-- MB2: slots from CMD_TAIL on that Tightrope has filled and whose doorbell is refused so far (R520). -/
  waiting : Nat
  /-- Refused slots that are already counted (R518). -/
  refused : List Nat
deriving DecidableEq, Repr

/-- Mailboxes and the firmware's command work (R512 to R542). -/
structure Mail where
  /-- MB0 to MB3. -/
  boxes : List Mailbox
  /-- CTRL_REQ payloads not yet accepted, in order, with the receive space each holds (R520). -/
  hostWait : List (List Byte × Nat)
  /-- Commands in flight, oldest first. -/
  cmds : List RunCmd
  /-- The mailbox that the rotation of R523 serves next: 0, 1 or 3. -/
  turn : Nat
  /-- MB3 is unlocked (R535). -/
  unlocked : Bool
  /-- The nonce in force (R535). -/
  nonce : Option Nat
  /-- Consecutive failed responses (R535). -/
  unlockFails : Nat
  /-- SVC_CHALLENGE is refused until this many ns pass (R535). -/
  lockedOut : Bool
  /-- The ledger's open list was acknowledged, or is empty, since the start (R541). -/
  ledgerAck : Bool
  /-- The open list of the last scan (R540): entries (mailbox, tag, opcode, cookie, step, time) and OVERFLOW. -/
  openList : List (List Nat)
  openOverflow : Bool
  /-- The half of the gamma taps that GAMMA_TAPS HALF 0 staged (R563). -/
  gammaStage : Option (List Nat)
  /-- The CRC resource is held after its command until the hold has run out (R550). -/
  crcHeld : Bool
  /-- Partitions UPDATE_BEGIN opened (R577). -/
  updOpen : Nat
  /-- MB2_RSP messages that wait for the bus, and whether each came from the completion ring (R520). -/
  rsp : List (List Byte × Bool)
deriving DecidableEq, Repr


/-! ### Raster, scheduler, governor -/

/-- The raster beside its registers (R318 to R343). -/
structure Raster where
  /-- Line and tick of the frame in progress (R15, R16). -/
  line : Nat
  tick : Nat
  /-- The raster runs (R320, R671). -/
  running : Bool
  /-- A timing set is in force since PIX powered up (R320). -/
  timed : Bool
  /-- This frame is a hold frame (R341). -/
  hold : Bool
  /-- The frame that ended was a hold frame. -/
  heldBefore : Bool
  /-- Shortest and longest length of this frame (R322). -/
  vmin : Nat
  vmax : Nat
  /-- The end of this frame is decided: the line in progress is its last (R323). -/
  ended : Bool
  /-- LOW_RATE steps taken since entry or restart, and V_LR of this frame (R328, R329). -/
  lrStep : Nat
  vlr : Nat
  /-- The request bitmap in force at this frame's line 0 (R329). -/
  ttAtStart : Word
  /-- Extra lines a level change needs in this frame (R119). -/
  stretch : Nat
  /-- Fraction of a raster tick that module time has run up (log entry 5). -/
  acc : Nat
  /-- A scanned frame has shown the glass valid data with the backlight off (R88). -/
  frames : Nat
  /-- The next frame is the first since RUN was written 1: it keeps the number of SCN_FRAME_LOAD (R320). -/
  first : Bool
deriving DecidableEq, Repr

/-- A commit that waits for its hand-over (R334 to R338): its block, whether it is privileged, the frame in which it
was set, whether it missed the window, whether the load and check of its table are still to be done. -/
structure Commit where
  blk : Blk
  priv : Bool
  frame : Word
  late : Bool
  loading : Bool
  /-- The commit also loads a table (LUT_LOAD of DTH and ODV). -/
  lut : Bool
  /-- The bytes that the load reads, as they were at the commit (R155, R359, R378, R389, R427), and the error its check
  finds: 0 for none. -/
  image : List Byte
  err : Nat
deriving DecidableEq, Repr

/-- Ringmaster beside its registers (R144 to R157). -/
structure Ringmaster where
  /-- The table in use: its bytes as committed; none makes every slot elastic for every class (R157). -/
  table : Option (List Byte)
  /-- The table loaded and checked, waiting for its hand-over (R155). -/
  next : Option (List Byte)
  /-- Slots used by each class in this frame (R149). -/
  used : List Nat
  /-- The class that holds the shared resource through its slot (R146). -/
  holder : Option Nat
  /-- Line and slot of the last grant, so that a slot is granted once. -/
  slot : Option (Nat × Nat)
  /-- Lines and slots withheld from elastic work by stray events (R147). -/
  stray : List (Nat × Nat)
deriving DecidableEq, Repr

/-- What the governor fixes for a frame (R160): performance level, refresh ceiling in Hz (0: the nominal refresh),
overdrive, LED cap in mA, slots granted by class. -/
structure GovSet where
  level : Nat
  ceil : Rat
  od : Bool
  cap : Nat
  grants : List Nat
deriving DecidableEq, Repr

/-- A finished evaluation that waits for its latch (R160): the setting, the step, what bound it, and what the GOV
registers show: I_floor in mA, A_in in mJ, P_diss_allow in W, measured powers in mW, temperatures as R9 codes them. -/
structure GovResult where
  set : GovSet
  step : Nat
  shortfall : Bool
  thermal : Bool
  panelBind : Bool
  manual : Bool
  iFloor : Nat
  aIn : Rat
  pDiss : Rat
  pVin : Nat
  pLed : Nat
  die : Nat
  case : Nat
  panel : Nat
deriving DecidableEq, Repr

/-- The governor beside its registers (R159 to R177). -/
structure Governor where
  /-- In force for this frame; fixed for the next one. -/
  cur : GovSet
  next : GovSet
  result : Option GovResult
  /-- The highest step in force, the ceiling that goes with it, and the run of frames that fit with margin (R166, R169). -/
  held : Nat
  heldCeil : Rat
  fitRun : Nat
  /-- The debt in mJ (R162). -/
  debt : Rat
  /-- Duration in seconds and FRAME_READYs per stream of the last 16 frames, latest first, and of this frame (R166). -/
  readyLog : List (Rat × List Nat)
  readyNow : List Nat
  /-- Frames of history to be written before ODV resumes (R170). -/
  odWait : Nat
deriving DecidableEq, Repr


/-! ### Ports -/

/-- One receive lane of a port beside its registers (R185 to R206). -/
structure RxLane where
  /-- CDR lock at the current rate. -/
  cdr : Bool
  /-- Consecutive valid training sets, and of those the ones with a counted SEEN (R195). -/
  tsRun : Nat
  seenRun : Nat
  /-- TRAIN_ID of the last valid set on this lane. -/
  lastId : Nat
  /-- Consecutive valid sets with LOOP_REQ = 0 while this lane is watched (R212). -/
  loopOff : Nat
  /-- Consecutive marker errors (R193), and whether a marker gave the COUNT to follow. -/
  markerRun : Nat
  markerSeen : Bool
  /-- Arrival time of the last marker and the lane's deskew position, in UI (R191, R193). -/
  arrival : Nat
  deskewPos : Nat
  /-- Code violations in the block in progress (R206). -/
  blockViol : Nat
  /-- The equaliser has adapted for its dwell since CDR lock (R195). -/
  dwell : Bool
  /-- Invalid training sets (R186); no register reads this count. -/
  tsBad : Nat
deriving DecidableEq, Repr

/-- The classes of packets (R220). -/
inductive PClass where
  | video | control | event
deriving DecidableEq, Repr

/-- A packet to be sent: its header fields and payload, whether the module originated it, and the held receive space
that its departure frees (R235). -/
structure OutPkt where
  typ : Nat
  addr : Nat
  spec : Nat
  payload : List Byte
  own : Bool
  rel : Option Nat
  /-- Its wait for credits, or for the window, is counted (R230, R237). -/
  creditStalled : Bool
  windowStalled : Bool
deriving DecidableEq, Repr

/-- A sent packet that is not acknowledged yet (R229). -/
structure SentPkt where
  pkt : OutPkt
  seq : Nat
  replays : Nat
deriving DecidableEq, Repr

/-- A link-control packet to be sent; its content is that of the moment it leaves (R224). -/
inductive LinkMsg where
  | ack | nak | credit
deriving DecidableEq, Repr

/-- What a port in UP put on its transmit lanes at its last packet boundary: an IDLE_SET with its BURST_REQ, a packet, the 14 data
bytes of a burst set (R187, R188, R215). -/
inductive Wire where
  | idleSet (req : Bool)
  | packet (k : Packet)
  | burstSet (bs : List Byte)
deriving DecidableEq, Repr

/-- Three numbers, one per class. -/
structure PerClass where
  video : Nat
  control : Nat
  event : Nat
deriving DecidableEq, Repr

/-- A port's sender (R225 to R242). -/
structure TxSide where
  /-- Packets waiting, in order of arrival. -/
  queue : List OutPkt
  links : List LinkMsg
  unacked : List SentPkt
  /-- Sequence numbers still to be sent again, and whether that is the transmission after an exhaustion retrain, which is
  no replay (R231). -/
  resend : List Nat
  afresh : Bool
  /-- Credits consumed and limits, modulo 65,536 (R233). -/
  consumed : PerClass
  limit : PerClass
  /-- Per class, 1 when the last packet sent was the module's own (R242). -/
  lastOwn : PerClass
  /-- The partner's first CREDIT has arrived (PKT_UP). -/
  gotCredit : Bool
  /-- Packets were sent again and no ACK that advances has arrived (R231). -/
  replayWait : Bool
  /-- A retrain for exhausted replays took place and no ACK that advances has arrived since; the retrain under way is that one
  (R231). -/
  exhausted : Bool
  afreshDue : Bool
  /-- What was last put on the lanes. -/
  wire : Wire
deriving DecidableEq, Repr

/-- Receive-buffer space held by an accepted packet: its class, credits and the uses still to take it (R235). -/
structure Held where
  id : Nat
  cls : PClass
  credits : Nat
  uses : Nat
deriving DecidableEq, Repr

/-- A port's receiver (R226 to R236). -/
structure RxSide where
  /-- Advertised limits, modulo 65,536. -/
  limit : PerClass
  /-- Accepted packets since the last ACK (R227). -/
  sinceAck : Nat
  /-- A packet was discarded and the expected one has not come (R231). -/
  waiting : Bool
  /-- Module time of the last NAK for the packet awaited (R228). -/
  nakAt : Option Time
  held : List Held
  nextId : Nat
deriving DecidableEq, Repr

/-- A port beside its registers. -/
structure PortSt where
  lanes : List RxLane
  /-- This port's TRAIN_ID, and the partner's last one before the latest attempt (R196). -/
  trainId : Nat
  refId : Nat
  /-- The delay the next failure sets, in ms, and whether the retry timer runs (R197). -/
  nextDelay : Nat
  retryArmed : Bool
  /-- Training sets sent with SEEN = 1, up to 16 (R195). -/
  txSeen : Nat
  /-- The rate selected for this attempt, and whether it has entered RATE_CHANGE (R199). -/
  sel : Nat
  rateChanged : Bool
  /-- Rates dropped since ENABLE was written 1 (R199). -/
  dropped : Nat
  /-- Loss of signal is ignored (R198). -/
  losMask : Bool
  /-- Rates removed from CAP_NOW so far (R199); no register reads this count. -/
  rateDrops : Nat
  /-- The transmitter's place in its block in UI, 10 to a symbol, and the COUNT of the block (R189); its lanes are in electrical
  idle while the PLL relocks (R194); SEEN of the training set being sent (R195). -/
  ui : Nat
  count : Nat
  quiet : Bool
  setSeen : Bool
  /-- UI for which the IDLE_SETs sent still carry BURST_REQ, and whether one is still to be put in at a packet boundary (R204). -/
  burstReq : Nat
  reqDue : Bool
  /-- A burst is to start at the next packet boundary; the PRBS-7 state of the burst being sent (R188, R205). -/
  burstDue : Bool
  burst : Option Nat
  /-- The lane an Inlet loops, and the block of LOOP_ACK sets before it: none, due after this block, being sent (R212). -/
  loopLane : Nat
  loopAck : Nat
  /-- State of the pattern generator (R208). -/
  gen : Nat
  /-- ENUM_ID of the ASSIGN accepted last (R247). -/
  enumId : List Byte
  tx : TxSide
  rx : RxSide
deriving DecidableEq, Repr

/-! ### Streams, stores and Sluice -/

/-- A pixel: three components. -/
structure Px where
  r : Nat
  g : Nat
  b : Nat
deriving DecidableEq, Repr

/-- A rectangle; width 0 is empty. -/
structure Rect where
  x : Nat
  y : Nat
  w : Nat
  h : Nat
deriving DecidableEq, Repr

/-- A segment's header (R257, R258), its stream and its place in the order of arrival. -/
structure SegHead where
  order : Nat
  stream : Nat
  segId : Nat
  x : Nat
  y : Nat
  w : Nat
  h : Nat
  codedLen : Nat
  raw : Bool
  /-- Bits per component D. -/
  depth : Nat
  q : Nat
  xform : Bool
  pred0 : Nat
  /-- The segment belongs to NEXT: it arrived after a FRAME_READY whose build is not complete (R304). -/
  toNext : Bool
deriving DecidableEq, Repr

/-- The tokens (R263). -/
inductive Token where
  | pix | zrun | match | lit | pred
deriving DecidableEq, Repr

/-- The field of a token that an engine is in (R263 to R265, R283): the ones of a prefix; the zeros counted of an EG0 code, or the
value bits to come with those gathered below its leading one; the ones of a residue code, its low bits to come and gathered over
`u` ones, or its escape's; a literal component; the predictor; no field any more, with the pixels of the token to be made. -/
inductive Field where
  | pre (ones : Nat)
  | zeros (z : Nat)
  | value (n acc : Nat)
  | ones (u : Nat)
  | low (n acc u : Nat)
  | esc (n acc : Nat)
  | comp (n acc : Nat)
  | code (n acc : Nat)
  | make
deriving DecidableEq, Repr

/-- A segment in an engine: its header, the bytes received after it, whether its LAST packet has arrived, and the
decode state of R283. -/
structure Seg where
  head : SegHead
  data : List Byte
  lastIn : Bool
  started : Bool
  /-- Bits consumed. -/
  pos : Nat
  /-- Pixels produced. -/
  done : Nat
  /-- The last pixels produced in the coding domain, latest first. -/
  hist : List Px
  pred : Nat
  /-- A and N per component (R270). -/
  adapt : List (Nat × Nat)
  /-- The token in progress once its prefix is read, and the field in it. -/
  tok : Option Token
  field : Field
  /-- Components gathered of the pixel in hand, the run, match or literal length that remains, the match distance, and literal
  pixels gathered, latest first. -/
  comps : List Nat
  left : Nat
  dist : Nat
  lits : List Px
  /-- The bits consumed and the pixels produced before the token in progress. -/
  tokPos : Nat
  tokAt : Nat
deriving DecidableEq, Repr

/-- A stream as STREAM_CFG and the packets leave it (R222, R248, R249). -/
structure Stream where
  configured : Bool
  width : Nat
  height : Nat
  rate : Nat
  asleep : Bool
  cfgId : Word
  /-- A segment is being received: the engine that takes it, or none where its packets are discarded. -/
  receiving : Option (Option Nat)
  /-- A FRAME_READY whose build has not completed: HOST_FRAME (R284). -/
  frameReady : Option Word
  /-- The order number before which segments belong to that build. -/
  readyOrder : Nat
  /-- A second FRAME_READY, for the frame in NEXT, and its order number (R304). -/
  nextReady : Option Word
  nextOrder : Nat
  /-- A FRAME_READY has completed a build since the plane took this stream (R102). -/
  everReady : Bool
deriving DecidableEq, Repr

/-- A plane's subscription (R250). -/
structure Plane where
  stream : Option Nat
  bypass : Bool
  cropX : Nat
  cropY : Nat
  w : Nat
  h : Nat
  destX : Nat
  destY : Nat
deriving DecidableEq, Repr

/-- The geometry of a plane's storage: the stream, the rectangle of it that is stored, the first byte of slot 0 in the
frame store, the bytes of a line and of a slot (R299, R305), and the stream's size: what lies outside it is not stored
(R250). -/
structure Geo where
  stream : Option Nat
  rect : Rect
  base : Nat
  pitch : Nat
  slotBytes : Nat
  sw : Nat
  sh : Nat
deriving DecidableEq, Repr

/-- An entry of a tile map: the slot that holds the tile, and the POISON flag (R301). -/
structure TileAt where
  slot : Nat
  poison : Bool
deriving DecidableEq, Repr

/-- A tile map, by tile number; an unlisted tile is in slot 0 without POISON. -/
abbrev TileMap := List (Nat × TileAt)

/-- The storage of a plane: its four tile maps (R301); which maps hold something; the HOST_FRAME of READY; whether DISPLAYED is
a complete frame of the stream (R102). -/
structure Store where
  displayed : TileMap
  shown : Bool
  ready : Option TileMap
  readyHost : Word
  /-- BUILD, and the tiles written in it. -/
  build : TileMap
  built : List (Nat × Bool)
  building : Bool
  /-- NEXT: the tiles written in it. -/
  next : TileMap
  nextTiles : List (Nat × Bool)
  /-- The number of the build in progress, or of the next to start, and that of READY. -/
  seq : Nat
  readySeq : Nat
  /-- HOST_FRAME of the displayed frame. -/
  host : Word
  /-- The geometry of the build and of what DISPLAYED shows. -/
  geo : Geo
  shownGeo : Geo
deriving DecidableEq, Repr

/-- A corrected codeword of a scrub unit that waits for its write-back: its offset, whether a write since the scrub read cancels
it, whether the verify read will fail, and the errors that a miscorrection leaves (R308, R311, R312). -/
structure ScrubFix where
  off : Nat
  cut : Bool
  bad : Bool
  left : SymErrs
deriving DecidableEq, Repr

/-- The scrub unit in flight: its number and the write-backs to come (R311). -/
structure ScrubFly where
  unit : Nat
  fixes : List ScrubFix
deriving DecidableEq, Repr

/-- The frame that an overlay plane keeps on the glass after it moved, until its own storage has flipped to a frame whose build is
number `from'` or later (R305): the subscription it was shown by, the size of its stream, and its rows. -/
structure Kept where
  plane : Plane
  sw : Nat
  sh : Nat
  rows : List (List Px)
  from' : Nat
deriving DecidableEq, Repr

/-- The arbiter of the frame store (R295, R296): requests that wait, of ranks 1 to 5 in order, and the grants to ranks 1 to 3
since a WRITE request waits, and to ranks 1 to 4 since a WINDOW request waits. -/
structure Arbiter where
  waiting : List Nat
  overWrite : Nat
  overWindow : Nat
deriving DecidableEq, Repr

/-- Streams, planes, stores and the decode engines. -/
structure Video where
  streams : List Stream
  planes : List Plane
  stores : List Store
  engines : List (List Seg)
  /-- Segments taken so far. -/
  order : Nat
  /-- Video packets of a third frame that wait (R304), and those that wait for queue space (R281): packets in order,
  with the receive space they hold. -/
  waiting : List (Packet × Option Nat)
  /-- Initialised 4 KiB blocks of the frame store (R297). -/
  initBlk : List (Nat × Bool)
  /-- Codewords of the frame store with errors (R307). -/
  flips : Upsets
  arb : Arbiter
  /-- Per engine: the place in its spill queue of the next byte (R281). -/
  spill : List Nat
  /-- Per plane: the frame it keeps on the glass after it moved (R305). -/
  kept : List (Option Kept)
  /-- Bypass lines that Sluice hands to Weir: panel line and the pixels that have arrived, in order (R27, R286, R326). -/
  bypassLines : List (Nat × List Px)
  /-- Frames the current scrub pass has run, and whether its age was reported (R313). -/
  scrubAge : Nat
  scrubAged : Bool
  /-- The scrub unit in flight (R311). -/
  scrubFly : Option ScrubFly
  /-- Per plane: the lines fetched and not consumed, in pixels, and URGENT (R332). -/
  weirFill : List Nat
  weirUrgent : List Bool
  /-- History lines fetched this frame, the number written this frame, and the writes that wait for a fetch, as line and the three
  encoders' codings (R288, R291). -/
  histFetched : List Nat
  histWritten : Nat
  histHeld : List (Nat × List Byte × List Byte × List Byte)
  /-- Whether the last two frames' histories are complete, the later one first (R386, R387). -/
  histGood : List Bool
deriving DecidableEq, Repr


/-! ### Pixel pipeline -/

/-- One bank of degamma and gamma tables, R then G then B (R356 to R358); no table reads as 0. -/
structure Lut where
  degamma : List Nat
  gamma : List Nat
deriving DecidableEq, Repr

/-- A demura set that has passed its checks (R371, R378). -/
structure DmrSet where
  base : Nat
  scale : Nat
  w : Nat
  h : Nat
  sw : Nat
  a0 : Nat
  a1 : Nat
  a2 : Nat
  bands : Nat
  len : Nat
  tref : Nat
  dir : List Nat
deriving DecidableEq, Repr

/-- A decoded band: the offsets of its three anchors, pixel by pixel of the band in raster order; none where zero offsets
apply (R374, R376). -/
structure DmrBand where
  band : Nat
  offs : Option (List (List Px))
deriving DecidableEq, Repr

/-- A history line of both areas, decoded, widened to nothing where the line is unusable (R381, R383). -/
structure HistLine where
  y : Nat
  p1 : Option (List Px)
  p2 : Option (List Px)
deriving DecidableEq, Repr

/-- The pixel path from Weir to the column link. -/
structure Pipe where
  /-- Lines that Weir has fetched per plane and the raster has not consumed, and the line fetched last per plane (R310,
  R332). -/
  lines : List (List (Nat × List Px))
  last : List (List Px)
  /-- DTH's two table banks (R359). -/
  dth : List Lut
  /-- ODV's two banks, as images; whether one was loaded since PIX powered up (R387, R389). -/
  odv : List (List Byte)
  odvLoaded : Bool
  /-- The demura set in force and the band buffers (R374, R378). -/
  dmr : Option DmrSet
  bands : List DmrBand
  /-- Decoded history lines (R381). -/
  hist : List HistLine
  /-- Lines after demura that the line encoder has still to write (R287). -/
  targets : List (Nat × List Px)
  /-- Icon codewords that were uncorrectable in this frame, by frame store offset (R310, R355). -/
  iconBad : List Nat
  /-- Windows with an uncorrectable icon read in the frame in progress (R355). -/
  iconErr : Word
  /-- Bands with an uncorrectable read in this frame (R376). -/
  dmrBad : List Nat
deriving DecidableEq, Repr


/-! ### Column link, gate sequencer, bias -/

/-- A region of a lane's configuration packet: its window, subpixels and lines (R404). -/
structure Region where
  win : Nat
  sp0 : Nat
  sp1 : Nat
  l0 : Nat
  l1 : Nat
deriving DecidableEq, Repr

/-- A lane of the column link (R403 to R412). -/
structure ColLane where
  /-- A write of COL_RETRAIN names it; it is marked for retrain in the next frame. -/
  asked : Bool
  marked : Bool
  /-- It carried its configuration packet at line 0 of this frame, and of the frame before. -/
  carried : Bool
  carriedPrev : Bool
  /-- Expected replies missed in a run (R411). -/
  misses : Nat
  /-- Frame M of its last retrain, and frame M + 3 at which it was marked FAILED (R412). -/
  retrainAt : Option Word
  failedAt : Option Word
  /-- Regions of this frame and of the frame before, with the packer's CRCs (R404, R405). -/
  regions : List Region
  crcs : List Nat
  regionsPrev : List Region
  crcsPrev : List Nat
  /-- Its reply in this window arrived, or was missing. -/
  replied : Bool
  /-- The symbols of the last configuration packet, and of the last LOAD set with the line packet after it, that it sent (R398 to
  R400, R403). -/
  cfgPacket : List Sym
  linePacket : List Sym
deriving DecidableEq, Repr

/-- The column link beside its registers. -/
structure Column where
  lanes : List ColLane
  /-- Bring-up is in progress, and roll calls held (R410); a roll call of a hold frame is due (R413). -/
  bringing : Bool
  rolls : Nat
  rateRoll : Bool
  /-- Parity of scanned frames (R401). -/
  parity : Bool
  /-- The configuration in force fits the timing set in force (R415). -/
  fits : Bool
  /-- The line and phase of the last LOAD set (R399). -/
  load : Option (Nat × Nat)
  /-- SYNC of this frame has been sent, and the bytes of the last one (R406, R407). -/
  synced : Bool
  sync : List Byte
  /-- Codes of the active line being sent, after dither, and its line (R26, R399). -/
  codes : Option (Nat × List Px)
deriving DecidableEq, Repr

/-- The gate sequencer beside its registers (R418 to R428). -/
structure Gate where
  /-- The two program banks (R427). -/
  banks : List (List Word)
  /-- Position of the last instruction that completed, and how many completed in that tick (R421). -/
  line : Nat
  tick : Nat
  inTick : Nat
  /-- Open loops, innermost first: index of the body and runs left (R423). -/
  loops : List (Nat × Nat)
  /-- The program ran in this frame; it reached END; a window was opened and closed (R428). -/
  ran : Bool
  ended : Bool
  windowDone : Bool
  crossings : Nat
  /-- This frame is scanned (R418). -/
  scan : Bool
deriving DecidableEq, Repr

/-- Panel bias beside its registers (R434 to R436). -/
structure Bias where
  /-- Rails that are up: VDD_PL of J3 and of J4, AVDD with HAVDD, VGL, VGH, VCOM with the taps. -/
  vddPl : Bool
  vddPlB : Bool
  avdd : Bool
  vgl : Bool
  vgh : Bool
  vcom : Bool
  /-- A request that waits for the sequence in progress (R436). -/
  next : Option Bool
  /-- The power-down also powers PANEL down, and why: a sleep vote or a fault (R435). -/
  panelOff : Bool
  /-- VDD_PL at 3.30 V instead of 1.80 V (R96). -/
  vddPl33 : Bool
deriving DecidableEq, Repr


/-! ### Backlight, dimming, optical loop -/

/-- A zone of the backlight beside the configuration (R458 to R461). -/
structure Zone where
  /-- STATE, coded as in R458. -/
  state : Nat
  /-- Marked by the neighbour-short test. -/
  neighbour : Bool
  /-- Stretch debt in PWM units (R459). -/
  debt : Nat
  /-- What is still to be taken back from a floor zone's later pulses of this frame (R460). -/
  frameDebt : Nat
  /-- The last diagnostic verdict that the state has not followed yet (R458). -/
  verdict : Option Nat
  /-- The light frame of its last diagnostic pulse (R461). -/
  diagAt : Option Nat
  /-- The light frame of its last pulse, and of its last window. -/
  pulseAt : Option Nat
  windowAt : Option Nat
  /-- Whether every checked window that closed in this frame passed; none without one (R453). -/
  check : Option Bool
deriving DecidableEq, Repr

/-- One zone in an open window: its column, drive, and whether it opened as a floor zone and as a diagnostic pulse. -/
structure WinZone where
  col : Nat
  code : Nat
  pw : Nat
  floor : Bool
  diag : Bool
  /-- The sink that drives it (R440), and its pulses: start in the window and length, in PWM units (R449). -/
  sink : Nat
  pulses : List (Nat × Nat)
deriving DecidableEq, Repr

/-- A headroom sample of the open window (R454): column, headroom in mV, current in percent of the set current. -/
structure HeadSample where
  col : Nat
  mv : Nat
  percent : Nat
deriving DecidableEq, Repr

/-- An open PWM window (R443). -/
structure RowWin where
  row : Nat
  /-- The row output that is on (R440). -/
  switch : Nat
  zones : List WinZone
  samples : List HeadSample
deriving DecidableEq, Repr

/-- A row clock (R441): V_TOTAL, boundaries per V_TOTAL, line A, the next boundary, the lines by which its line 0 lies
before line 0 of the frame in progress, and the zone values it drives. -/
structure RowClock where
  vtot : Nat
  rows : Nat
  a : Nat
  k : Nat
  off : Nat
  vals : List Nat
deriving DecidableEq, Repr

/-- The ramp of R456: off, boost rising, boost ready and waiting for a line 0, ramp frame j, at target, ramping down since
a module time. -/
inductive Ramp where
  | off
  | rising
  | ready
  | up (j : Nat)
  | target
  | down (since : Time)
deriving DecidableEq, Repr

/-- A transfer on the expansion chain (R464, R465). -/
inductive XKind where
  | pwm (group : Nat)
  | current
  | status
  | nop
  | sync
deriving DecidableEq, Repr

/-- Carousel beside its registers (R439 to R468). -/
structure Carousel where
  /-- Zones that differ from a zone just powered up, by zone index. -/
  zones : List (Nat × Zone)
  /-- Line 0s since LIGHT powered up. -/
  frames : Nat
  /-- Floor zones of the frame in progress (R451). -/
  floors : List Nat
  /-- Zone values by zone index: those of this frame, and those delivered for the next one (R446, R474). -/
  vals : List Nat
  valsNext : List Nat
  clock : Option RowClock
  /-- The clock of this frame, not yet begun (R442). -/
  clockNext : Option RowClock
  win : Option RowWin
  ramp : Ramp
  /-- Stage latch and code, held in CTRL (R457), the module time of the last stage fault, and whether the firmware has
  used its one clear. -/
  latch : Option Nat
  faultAt : Option Time
  cleared : Bool
  /-- Least valid headroom sample of the frame so far, in mV, and its zone (R454). -/
  hmin : Option (Nat × Nat)
  /-- A sink was short of voltage; raises of this frame in 0.1 V (R455). -/
  short : Bool
  raised : Nat
  /-- Neighbour-short test in progress (R462). -/
  nbr : Bool
  /-- Transfers of this frame still to run, on-times latched at line 0, words shifted last, whether they were STATUS
  words, whether BLD_XCUR changed, the chain counts next, STATUS age in frames (R463 to R467). -/
  xqueue : List XKind
  xpw : List Nat
  xlast : List Nat
  xstatus : Bool
  xdirty : Bool
  xcount : Bool
  xframes : Nat
deriving DecidableEq, Repr

/-- Statistics of one zone (R470). -/
structure ZStat where
  cnt : Nat
  max : Nat
  sum : Nat
  hist : List Nat
deriving DecidableEq, Repr

/-- LDA beside its registers (R469 to R479). -/
structure Dimming where
  stats : List ZStat
  /-- Values of the last decision, delivered or still to be (R471, R474). -/
  zp : List Nat
  /-- A decision waits for delivery. -/
  due : Bool
  /-- Sum and count of v over the frame of the last decision, for the scene cut. -/
  prevSum : Nat
  prevCnt : Nat
  /-- Values and zone states the field is built from; none while LDA delivers nothing (R476, R477). -/
  model : Option (List Nat)
  /-- Grid rows formed in this frame (R479). -/
  grid : List (List Nat)
deriving DecidableEq, Repr

/-- The optical loop beside its registers (R480 to R485). -/
structure Optics where
  /-- Dark sums and samples of this frame. -/
  dark : List Nat
  darkN : Nat
  /-- Light sums of this period, and scanned frames in it. -/
  light : List Nat
  periodFrames : Nat
  /-- The gains have started from OPT_GAIN_INIT since LIGHT powered up (R485). -/
  started : Bool
deriving DecidableEq, Repr


/-! ### Tightrope -/

/-- What Tightrope latches of one frame for its record (R496, R497, R499). -/
structure ProofFrame where
  frame : Word
  /-- The bitmap in force, CPS_TT_EN and CPS_TT_ERR of the frame. -/
  req : Word
  en : Word
  err : Word
  /-- Under hold; a hold frame of a timing change. -/
  held : Bool
  holdFrame : Bool
  /-- Every tell-tale is excused: before the first lit frame, or between a sleep request and the first lit frame after the
  restart (R499). -/
  dark : Bool
  /-- The frame ran in CALIBRATE or SERVICE: what is requested there is excused (R499). -/
  darkMode : Bool
  /-- The lanes of each window's parts, lowest first (R493). -/
  lanes : List (List Nat)
  /-- SAF_EXP as it is in force in the frame (R495). -/
  exp : List Word
deriving DecidableEq, Repr

/-- Tightrope beside its registers (R488 to R511). -/
structure Tightrope where
  /-- Tell-tale IDs that the window set in force configures (R492, R569). -/
  configured : Word
  /-- The partner's bitmap and exclusive control of the requests that are at least 10 us old, and the younger ones
  (R489). -/
  settled : Word × Bool
  recent : List (Time × Word × Bool)
  /-- COUNTER of the last accepted TT_REQUEST. -/
  counter : Nat
  /-- The MAC key (R502). -/
  key : Option (List Byte)
  /-- The frame in progress, and the frame before it until its record is built. -/
  cur : Option ProofFrame
  last : Option ProofFrame
  /-- Driver CRCs of the replies taken in this reply window: tell-tale, part, CRC, frame and CFG_OK agree (R496). -/
  replies : List (Nat × Nat × Nat × Bool)
  /-- Consecutive records in which every requested tell-tale is proven, up to 8 (R508). -/
  run : Nat
  /-- The queue place of TT_PROOF (R505). -/
  proof : Option (List Byte)
  /-- The absence count runs (R509). -/
  absent : Bool
deriving DecidableEq, Repr


/-! ### Juggler, Eddy, calibration -/

/-- A descriptor that has been fetched and has passed its checks (R584 to R586). -/
structure Desc where
  addr : Nat
  op : Nat
  src : List (Nat × Nat)
  dst : List (Nat × Nat)
  next : Nat
  fill : Nat
  srcList : Nat
  dstList : Nat
deriving DecidableEq, Repr

/-- A channel beside its registers (R581 to R598). -/
structure Channel where
  /-- A job is in progress: it runs, waits, or is paused. -/
  job : Bool
  paused : Bool
  halted : Bool
  /-- EN was written 0 on a heavy channel: the pause under way ends the channel (R597). -/
  stopping : Bool
  desc : Option Desc
  /-- 8-byte words completed, words of the destination read but not yet written, miss address and count. -/
  done : Nat
  missAddr : Nat
  missCnt : Nat
  /-- Miss address and count before the burst in progress: they change only when a burst completes (R589). -/
  missWas : Nat × Nat
  /-- Pacing has let the channel start (R590). -/
  flowing : Bool
deriving DecidableEq, Repr

/-- Juggler: its channels, and the one that holds the engine (R582). -/
structure Juggler where
  chans : List Channel
  engine : Option Nat
  /-- A burst of the current slot is still running, and the words it has moved (R589). -/
  burst : Option Nat
deriving DecidableEq, Repr

/-- Eddy (R612 to R614). While a slice is borrowed, `mem` holds what the holding copy holds: every access is served from it
and it is what the restore writes. -/
structure Eddy where
  /-- Position in the pass, as a slice number 0 to 2,303; accesses made on the slice; the test is abandoned. -/
  slice : Nat
  step : Nat
  abandoned : Bool
  /-- Abandons of slices in this pass, and slices to be retried (R613). -/
  abandons : List (Nat × Nat)
  retry : List Nat
  retrying : Bool
  /-- Frames of this pass. -/
  frames : Nat
deriving DecidableEq, Repr

/-- A calibration run (R623): KIND, the elements still to be stepped, the slots, bursts and frames of the element in
progress, the frame of its last burst, and whether the photodiode
group of a start-up run is still to start. -/
structure CalRun where
  kind : Nat
  elems : List CalElem
  slots : Nat
  bursts : Nat
  frames : Nat
  burstAt : Option Word
  pdWait : Bool
deriving DecidableEq, Repr

/-- CAL beside its registers (R616 to R632). -/
structure Calibration where
  run : Option CalRun
  /-- The five die temperatures and the panel temperature measured last (R9, R160, R623). -/
  die : List Nat
  panel : Nat
  /-- Link-up runs that wait for the run in progress, by port. -/
  linkUps : List Nat
  /-- A command holds the CAL resource (R626). -/
  held : Bool
  /-- Dark means and counts of the last 16 frames, latest first (R621). -/
  dark : List (List Nat × Nat)
  /-- Elements restored since their domain's power-up that a start-up or link-up run need not step (R631). -/
  restored : List CalElem
  /-- Lanes whose new values take effect at the next lane marker or outside the reply window; sinks whose new mask takes
  effect at the next row boundary (R619, R622). -/
  laneDue : List Nat
  sinkDue : List Nat
  /-- The first frame lit since this start, for the photodiode group (R623). -/
  litFrame : Option Word
  /-- A port has entered UP since LINK powered up (R623). -/
  linkSeen : List Bool
  /-- Masks, and lane roles with phase and trims, in use by the receivers and sinks (R619, R622, R626). -/
  laneUse : List (Word × Word)
  sinkUse : List Nat
deriving DecidableEq, Repr

/-! ### Firmware -/

/-- What the firmware holds of its configuration and choices. -/
structure Firmware where
  /-- The records of the configuration copy in force (R95, R96), and which copy it is. -/
  cfg : List Byte
  copy : Option Nat
  /-- The firmware chooses the demura set by temperature (R380, R565). -/
  dmrAuto : Bool
  /-- Module time of its last choice (R380), and which of the two set images passed their digests at the start (R94). -/
  dmrCheck : Time
  dmrOk : List Bool
  /-- The firmware image that runs: 0 none, 1 A, 2 B (R92). -/
  image : Nat
  /-- The icon bank that the window set in force uses (R569), and its icons with their frame store offsets. -/
  iconBank : Nat
  icons : List (Nat × Nat)
deriving DecidableEq, Repr

/-- What the last bus or SPI access returned to its master: the bytes read, and whether it completed with a bus error. -/
structure Answer where
  data : List Byte
  err : Bool
deriving DecidableEq, Repr

/-! ### The state -/

/-- The module. -/
structure State where
  /-- What a register read returns (R12); an address not listed holds its reset value. -/
  regs : List (Nat × Word)
  /-- The value in force of each shadowed register (R12, R334); not listed: its reset value. -/
  inForce : List (Nat × Word)
  /-- The snapshot bank (R635): the latched value of each live counter; not listed: 0. -/
  snap : List (Nat × Word)
  /-- Ponds, frame store, log store and flash by window address (R601); a byte not listed is 0 (log entry 3). -/
  mem : List Host.Cell
  /-- Module time (R633). -/
  time : Time
  timeHi : TimeCopies
  pw : Power
  log : Recorder
  mail : Mail
  rs : Raster
  commits : List Commit
  rng : Ringmaster
  gov : Governor
  inl : PortSt
  chn : PortSt
  vid : Video
  pipe : Pipe
  col : Column
  gate : Gate
  bias : Bias
  bl : Carousel
  lda : Dimming
  opt : Optics
  saf : Tightrope
  /-- Pond words that hold a single-bit error not rewritten yet (R604). -/
  pondWeak : List Nat
  dma : Juggler
  eddy : Eddy
  cal : Calibration
  fw : Firmware
  /-- Writes to the flash read window, which have no effect (R31). -/
  flashWrites : Nat
  answer : Answer
  /-- The commands that wait, first in, first out. -/
  pending : List Instr
  /-- How many values the spec leaves open have been drawn (log entry 2); the model's own counter. -/
  free : Nat
deriving DecidableEq, Repr

/-! ### Stops -/

/-- Why the block stops. Only a condition that the spec puts outside its own definition does. -/
inductive Fault where
  /-- Raised by no meaning at present: supply, clock, cable or partner outside the specification, where R22 leaves the
  behaviour undefined. Safe: the model stops where the spec says nothing. -/
  | outsideSpecification
deriving DecidableEq, Repr

/-- Why a command is turned away. -/
inductive Refusal where
  /-- Raised by the arms of `exec` for a row whose meaning is not written. Safe. -/
  | notModelled (mnemonic : String)
deriving DecidableEq, Repr

/-- What one command answers. -/
abbrev Out := Host.Outcome State Fault Refusal

/-! ### Reset -/

/-- Modes and power right after reset (R109: MODE 0b0010, PENDING none, MODE_SEQ 0). -/
def Power.reset : Power where
  supplied := false
  mode := .boot
  origin := none
  modeSeq := 0
  trans := .none
  pendReq := none
  trigs := []
  revote := none
  noWakeArmed := false
  faultHeld := true
  faultFrame := none
  firstLit := false
  startTime := 0
  resume := false
  rom := false
  noHostSince := none
  quietFrames := 0
  codeDigest := none
  flashBusy := false
  resetDue := none
  fatal := false
  refclk := false
  panelFault := false
  waking := []
  stalled := []
  lightAt := none
  noFlash := false
  firmware := false

/-- An empty mailbox (R543). -/
def Mailbox.reset : Mailbox := ⟨0, 0, false, 0, []⟩

/-- Mailboxes right after reset (R515, R535, R543). -/
def Mail.reset : Mail where
  boxes := List.replicate 4 Mailbox.reset
  hostWait := []
  cmds := []
  turn := 0
  unlocked := false
  nonce := none
  unlockFails := 0
  lockedOut := false
  ledgerAck := false
  openList := []
  openOverflow := false
  gammaStage := none
  crcHeld := false
  updOpen := 0
  rsp := []

/-- The raster is stopped until RUN is first written 1 (R671). -/
def Raster.reset : Raster := ⟨0, 0, false, false, false, false, 0, 0, false, 0, 0, 0, 0, 0, 0, false⟩

/-- No table, no slot used (R157). -/
def Ringmaster.reset : Ringmaster := ⟨none, none, [0, 0, 0, 0, 0], none, none, []⟩

/-- The setting before the first lit frame: P0, overdrive off, requested grants (R159); the requests are their reset values
here, and line 0 takes them from their registers. -/
def GovSet.reset : GovSet := ⟨0, 0, false, 0, [0, 0, 0, 0, 0]⟩

/-- The governor before the first lit frame (R159). -/
def Governor.reset : Governor where
  cur := GovSet.reset
  next := GovSet.reset
  result := none
  held := 0
  heldCeil := 0
  fitRun := 0
  debt := 0
  readyLog := []
  readyNow := List.replicate 16 0
  odWait := 0


/-- A lane with no signal. -/
def RxLane.reset : RxLane := ⟨false, 0, 0, 0, 0, 0, false, 0, 0, 0, false, 0⟩

/-- Three zeros. -/
def PerClass.zero : PerClass := ⟨0, 0, 0⟩

/-- A sender with nothing sent (R225). -/
def TxSide.reset : TxSide where
  queue := []
  links := []
  unacked := []
  resend := []
  afresh := false
  consumed := PerClass.zero
  limit := PerClass.zero
  lastOwn := PerClass.zero
  gotCredit := false
  replayWait := false
  exhausted := false
  afreshDue := false
  wire := .idleSet false

/-- A receiver with nothing received. -/
def RxSide.reset : RxSide := ⟨PerClass.zero, 0, false, none, [], 0⟩

/-- A port in OFF. -/
def PortSt.reset : PortSt where
  lanes := List.replicate 9 RxLane.reset
  trainId := 0
  refId := 0
  nextDelay := 100
  retryArmed := false
  txSeen := 0
  sel := 0
  rateChanged := false
  dropped := 0
  losMask := false
  rateDrops := 0
  ui := 0
  count := 0
  quiet := false
  setSeen := false
  burstReq := 0
  reqDue := false
  burstDue := false
  burst := none
  loopLane := 0
  loopAck := 0
  gen := 0
  enumId := []
  tx := TxSide.reset
  rx := RxSide.reset

/-- A stream that has had no STREAM_CFG. -/
def Stream.reset : Stream := ⟨false, 0, 0, 0, false, 0, none, none, 0, none, 0, false⟩

/-- A plane without a subscription. -/
def Plane.reset : Plane := ⟨none, false, 0, 0, 0, 0, 0, 0⟩

/-- No geometry. -/
def Geo.reset : Geo := ⟨none, ⟨0, 0, 0, 0⟩, 0, 0, 0, 0, 0⟩

/-- An empty store. -/
def Store.reset : Store where
  displayed := []
  shown := false
  ready := none
  readyHost := 0
  build := []
  built := []
  building := false
  next := []
  nextTiles := []
  seq := 0
  readySeq := 0
  host := 0
  geo := Geo.reset
  shownGeo := Geo.reset

/-- No stream, no subscription, nothing stored. -/
def Video.reset : Video where
  streams := List.replicate 16 Stream.reset
  planes := [Plane.reset, Plane.reset, Plane.reset]
  stores := [Store.reset, Store.reset, Store.reset]
  engines := [[], [], [], []]
  order := 0
  waiting := []
  initBlk := []
  flips := []
  arb := ⟨[0, 0, 0, 0, 0], 0, 0⟩
  spill := [0, 0, 0, 0]
  kept := [none, none, none]
  bypassLines := []
  scrubAge := 0
  scrubAged := false
  scrubFly := none
  weirFill := [0, 0, 0]
  weirUrgent := [false, false, false]
  histFetched := []
  histWritten := 0
  histHeld := []
  histGood := [false, false]

/-- No table, no set, no line. -/
def Pipe.reset : Pipe where
  lines := [[], [], []]
  last := [[], [], []]
  dth := [⟨[], []⟩, ⟨[], []⟩]
  odv := [[], []]
  odvLoaded := false
  dmr := none
  bands := []
  hist := []
  targets := []
  iconBad := []
  iconErr := 0
  dmrBad := []

/-- A lane that has sent nothing. -/
def ColLane.reset : ColLane where
  asked := false
  marked := false
  carried := false
  carriedPrev := false
  misses := 0
  retrainAt := none
  failedAt := none
  regions := []
  crcs := []
  regionsPrev := []
  crcsPrev := []
  replied := false
  cfgPacket := []
  linePacket := []

/-- Nothing sent. -/
def Column.reset : Column := ⟨List.replicate 24 ColLane.reset, false, 0, false, false, true, none, false, [], none⟩

/-- No program. -/
def Gate.reset : Gate := ⟨[[], []], 0, 0, 0, [], false, false, false, 0, false⟩

/-- No rail up. -/
def Bias.reset : Bias := ⟨false, false, false, false, false, false, none, false, false⟩

/-- A zone just powered up (R458). -/
def Zone.reset : Zone := ⟨0, false, 0, 0, none, none, none, none, none⟩

/-- A dark backlight. -/
def Carousel.reset : Carousel where
  zones := []
  frames := 0
  floors := []
  vals := []
  valsNext := []
  clock := none
  clockNext := none
  win := none
  ramp := .off
  latch := none
  faultAt := none
  cleared := false
  hmin := none
  short := false
  raised := 0
  nbr := false
  xqueue := []
  xpw := []
  xlast := []
  xstatus := false
  xdirty := false
  xcount := false
  xframes := 0

/-- Nothing counted, nothing delivered. -/
def Dimming.reset : Dimming := ⟨[], [], false, 0, 0, none, []⟩

/-- No sample. -/
def Optics.reset : Optics := ⟨[0, 0, 0], 0, [0, 0, 0], 0, false⟩

/-- Tightrope with nothing requested. -/
def Tightrope.reset : Tightrope where
  configured := 0
  settled := (0, false)
  recent := []
  counter := 0
  key := none
  cur := none
  last := none
  replies := []
  run := 0
  proof := none
  absent := false

/-- An idle channel. -/
def Channel.reset : Channel := ⟨false, false, false, false, none, 0, 0xFFFFFFFF, 0, (0xFFFFFFFF, 0), false⟩

/-- Sixteen idle channels. -/
def Juggler.reset : Juggler := ⟨List.replicate 16 Channel.reset, none, none⟩

/-- At the start of Pond A. -/
def Eddy.reset : Eddy := ⟨0, 0, false, [], [], false, 0⟩

/-- No run. -/
def Calibration.reset : Calibration where
  run := none
  die := [0, 0, 0, 0, 0]
  panel := 0
  linkUps := []
  held := false
  dark := []
  restored := []
  laneDue := []
  sinkDue := []
  litFrame := none
  linkSeen := [false, false]
  laneUse := List.replicate 11 (0x00020688, 0)
  sinkUse := List.replicate 192 0x0FFF

/-- Nothing loaded. -/
def Firmware.reset : Firmware := ⟨[], none, true, 0, [false, false], 0, 0, []⟩

/-- The module right after reset (log entry 1): every register at the value its table gives, BOOT with only AON on
(R109, R143), nothing in memory, no command waiting. -/
def State.reset : State where
  regs := []
  inForce := []
  snap := []
  mem := []
  time := 0
  timeHi := ⟨0, 0, 0⟩
  pw := Power.reset
  log := ⟨0, 0, false, [], [], false, [], false⟩
  mail := Mail.reset
  rs := Raster.reset
  commits := []
  rng := Ringmaster.reset
  gov := Governor.reset
  inl := PortSt.reset
  chn := PortSt.reset
  vid := Video.reset
  pipe := Pipe.reset
  col := Column.reset
  gate := Gate.reset
  bias := Bias.reset
  bl := Carousel.reset
  lda := Dimming.reset
  opt := Optics.reset
  saf := Tightrope.reset
  pondWeak := []
  dma := Juggler.reset
  eddy := Eddy.reset
  cal := Calibration.reset
  fw := Firmware.reset
  flashWrites := 0
  answer := ⟨[], false⟩
  pending := []
  free := 0

end Sys2Proof.Machine
end

