-- ==== Sys2Proof/Machine/Ops.lean ====
section
/-! DEFINITION. The named operations over the state that every block shares: the canonical maps behind registers and
memory, registers and their fields, counters, memory bytes, domains, module time, free values. -/

namespace Sys2Proof.Machine

/-! ### Canonical maps

A map is a list of pairs with strictly rising keys in which no value equals what an unlisted key reads as. -/

/-- The value at a key: the listed one, else the default of that key. -/
def mapGet {α : Type} (d : Nat → α) : List (Nat × α) → Nat → α
  | [], k => d k
  | (a, v) :: t, k => if a = k then v else mapGet d t k

/-- The map without a key. -/
def mapErase {α : Type} : List (Nat × α) → Nat → List (Nat × α)
  | [], _ => []
  | (a, v) :: t, k => if a = k then mapErase t k else (a, v) :: mapErase t k

/-- The map with a pair put before the first larger key. -/
def mapInsert {α : Type} : List (Nat × α) → Nat → α → List (Nat × α)
  | [], k, v => [(k, v)]
  | (a, w) :: t, k, v => if k < a then (k, v) :: (a, w) :: t else (a, w) :: mapInsert t k v

/-- The map with a value at a key: the default value is not listed. -/
def mapSet {α : Type} [DecidableEq α] (d : Nat → α) (m : List (Nat × α)) (k : Nat) (v : α) : List (Nat × α) :=
  if v = d k then mapErase m k else mapInsert (mapErase m k) k v

/-- The map without the keys in [lo, hi). -/
def mapClear {α : Type} (m : List (Nat × α)) (lo hi : Nat) : List (Nat × α) :=
  m.filter fun p => p.1 < lo || hi ≤ p.1

/-- Strictly rising keys. -/
def mapSorted {α : Type} : List (Nat × α) → Bool
  | [] => true
  | [_] => true
  | p :: q :: t => decide (p.1 < q.1) && mapSorted (q :: t)

/-- The canonical form of a map. -/
def mapWf {α : Type} [DecidableEq α] (d : Nat → α) (m : List (Nat × α)) : Bool :=
  mapSorted m && m.all fun p => decide (p.2 ≠ d p.1)

/-! ### Registers -/

/-- The stored value of the register at `a`. -/
def State.reg (s : State) (a : Nat) : Word := mapGet regReset s.regs a

/-- The state with the register at `a` holding `v`. -/
def State.setReg (s : State) (a : Nat) (v : Word) : State := { s with regs := mapSet regReset s.regs a v }

/-- The value in force of the shadowed register at `a` (R12, R334). -/
def State.live (s : State) (a : Nat) : Word := mapGet regReset s.inForce a

/-- The state with `v` in force for the shadowed register at `a`. -/
def State.setLive (s : State) (a : Nat) (v : Word) : State := { s with inForce := mapSet regReset s.inForce a v }

/-- The bits [lo + w - 1 : lo] of a word as a number. -/
def bitsOf (x : Word) (lo w : Nat) : Nat := (x.toNat >>> lo) % 2 ^ w

/-- The word with the bits [lo + w - 1 : lo] replaced. -/
def withBits (x : Word) (lo w v : Nat) : Word :=
  let m : Word := BitVec.ofNat 32 ((2 ^ w - 1) <<< lo)
  (x &&& ~~~m) ||| (BitVec.ofNat 32 ((v % 2 ^ w) <<< lo) &&& m)

/-- A field of a register, as stored. -/
def State.fld (s : State) (f : Fld) : Nat := bitsOf (s.reg f.reg) f.lo f.width

/-- Is a field of a register not 0? -/
def State.flag (s : State) (f : Fld) : Bool := s.fld f != 0

/-- A field of a shadowed register in force. -/
def State.liveFld (s : State) (f : Fld) : Nat := bitsOf (s.live f.reg) f.lo f.width

/-- Is a field in force not 0? -/
def State.liveFlag (s : State) (f : Fld) : Bool := s.liveFld f != 0

/-- The state with a field of a register replaced; every other bit stays. -/
def State.setFld (s : State) (f : Fld) (v : Nat) : State :=
  s.setReg f.reg (withBits (s.reg f.reg) f.lo f.width v)

/-- The state with a field set to a truth value. -/
def State.setFlag (s : State) (f : Fld) (b : Bool) : State := s.setFld f (if b then 1 else 0)

/-- The state with a field of a shadowed register in force replaced. -/
def State.setLiveFld (s : State) (f : Fld) (v : Nat) : State :=
  s.setLive f.reg (withBits (s.live f.reg) f.lo f.width v)

/-- A counter field that saturates (R615, R543). -/
def State.countUp (s : State) (f : Fld) (n : Nat := 1) : State :=
  s.setFld f (min (s.fld f + n) (2 ^ f.width - 1))

/-- A counter field that wraps (R18). -/
def State.wrapUp (s : State) (f : Fld) (n : Nat := 1) : State := s.setFld f (s.fld f + n)

/-- A whole 32-bit register as a field. -/
abbrev whole (a : Nat) : Fld := ⟨a, 0, 32⟩

/-- The registers of the addresses [lo, hi) back at their reset values (R112). -/
def State.resetRegs (s : State) (lo hi : Nat) : State :=
  { s with regs := mapClear s.regs lo hi, inForce := mapClear s.inForce lo hi }

/-- A hand-over of one shadow register: the shadow copy comes into force (R334). -/
def State.handOver (s : State) (a : Nat) : State := s.setLive a (s.reg a)

/-- A hand-over of several shadow registers in one cycle (R334). -/
def State.handOverAll (s : State) (as : List Nat) : State := as.foldl State.handOver s

/-! ### Numbers -/

/-- A number as a two's-complement value of `w` bits (R9). -/
def sext (w v : Nat) : Int := if v % 2 ^ w < 2 ^ (w - 1) then (v % 2 ^ w : Int) else (v % 2 ^ w : Int) - 2 ^ w

/-- A two's-complement value of `w` bits as a number. -/
def toTwos (w : Nat) (v : Int) : Nat := (v % (2 ^ w : Int)).toNat

/-- `v` held between two bounds. -/
def clampNat (v lo hi : Nat) : Nat := min (max v lo) hi

/-- `v` held between two bounds. -/
def clampInt (v lo hi : Int) : Int := min (max v lo) hi

/-- Division rounded up. -/
def ceilDiv (a b : Nat) : Nat := (a + b - 1) / b

/-- Bit `i` of a bitmap. -/
def bitOf (x : Word) (i : Nat) : Bool := x.toNat.testBit i

/-- A bitmap with bit `i` set. -/
def withBit (x : Word) (i : Nat) : Word := x ||| BitVec.ofNat 32 (1 <<< i)

/-- A bitmap with bit `i` clear. -/
def withoutBit (x : Word) (i : Nat) : Word := x &&& ~~~ BitVec.ofNat 32 (1 <<< i)

/-- How many of the low `n` bits of a bitmap are set. -/
def popCount (x : Nat) : Nat → Nat
  | 0 => 0
  | n + 1 => popCount x n + (if x.testBit n then 1 else 0)

/-- The low `n` bytes of a number, least significant first (R5). -/
def leBytes : Nat → Nat → List Byte
  | 0, _ => []
  | n + 1, v => BitVec.ofNat 8 v :: leBytes n (v / 256)

/-- The number that bytes spell, least significant first (R5). -/
def ofLe : List Byte → Nat
  | [] => 0
  | b :: t => b.toNat + 256 * ofLe t

/-- `n` bytes of a list from an offset, least significant first; 0 beyond its end. -/
def leAt (bs : List Byte) (off n : Nat) : Nat := ofLe ((bs.drop off).take n)

/-- One byte of a list; 0 beyond its end. -/
def byteAt (bs : List Byte) (off : Nat) : Nat := (bs.getD off 0).toNat

/-- A list with one element replaced; unchanged beyond its end. -/
def listSet {α : Type} : List α → Nat → α → List α
  | [], _, _ => []
  | _ :: t, 0, v => v :: t
  | a :: t, n + 1, v => a :: listSet t n v

/-- A list cut or filled up with `d` to `n` elements. -/
def padTo {α : Type} (d : α) (n : Nat) (l : List α) : List α := (l ++ List.replicate n d).take n

/-! ### Memory -/

/-- What a byte that nothing has written reads as (log entry 3). -/
def memDefault (_ : Nat) : Byte := 0

/-- One byte of memory by window address. -/
def State.byte (s : State) (a : Nat) : Byte := mapGet memDefault s.mem a

/-- The state with one byte of memory written. -/
def State.setByte (s : State) (a : Nat) (v : Byte) : State := { s with mem := mapSet memDefault s.mem a v }

/-- Is the memory in its canonical form? -/
def Memory.wf (m : List Host.Cell) : Bool := mapWf memDefault m

/-- `n` bytes from an address, the lowest first (R5). -/
def State.bytes (s : State) (a : Nat) : Nat → List Byte
  | 0 => []
  | n + 1 => s.byte a :: s.bytes (a + 1) n

/-- The state with bytes written from an address on. -/
def State.setBytes (s : State) (a : Nat) : List Byte → State
  | [] => s
  | b :: t => (s.setByte a b).setBytes (a + 1) t

/-- A little-endian number of `n` bytes (R5). -/
def State.mle (s : State) (a n : Nat) : Nat := ofLe (s.bytes a n)

/-- The state with a little-endian number of `n` bytes written (R5). -/
def State.setMle (s : State) (a n v : Nat) : State := s.setBytes a (leBytes n v)

/-- The bytes of [lo, hi) lost: they read as nothing has written them. -/
def State.clearMem (s : State) (lo hi : Nat) : State := { s with mem := mapClear s.mem lo hi }

/-! ### The address map (R601) -/

/-- Pond A, first address and first one beyond. -/
abbrev pondALo : Nat := 0x00000000
abbrev pondAHi : Nat := 0x00060000
/-- Pond B. -/
abbrev pondBLo : Nat := 0x00080000
abbrev pondBHi : Nat := 0x000A0000
/-- Pond C. -/
abbrev pondCLo : Nat := 0x000A0000
abbrev pondCHi : Nat := 0x000B0000
/-- The unaligned alias: pond address + 0x0010_0000. -/
abbrev aliasBase : Nat := 0x00100000
/-- The register blocks. -/
abbrev blockBase : Nat := 0x10000000
/-- The frame store window. -/
abbrev fstBase : Nat := 0x40000000
abbrev fstSize : Nat := 0x20000000
/-- The log store window. -/
abbrev logBase : Nat := 0x70000000
abbrev logSize : Nat := 0x00040000
/-- The flash read window. -/
abbrev flashBase : Nat := 0x78000000
abbrev flashSize : Nat := 0x02000000

/-- The regions of the address map. -/
inductive MemRegion where
  | pondA | pondB | pondC | unaligned | regs | frameStore | logStore | flash | alwaysOn | unassigned
deriving DecidableEq, Repr

/-- Is `a` in one of the ponds? -/
def inPond (a : Nat) : Bool := a < pondAHi || (pondBLo ≤ a && a < pondCHi)

/-- The region of an address (R601). -/
def regionOf (a : Nat) : MemRegion :=
  if a < pondAHi then .pondA
  else if pondBLo ≤ a ∧ a < pondBHi then .pondB
  else if pondCLo ≤ a ∧ a < pondCHi then .pondC
  else if aliasBase ≤ a ∧ inPond (a - aliasBase) = true then .unaligned
  else if blockBase ≤ a ∧ a < 0x10160000 then .regs
  else if fstBase ≤ a ∧ a < fstBase + fstSize then .frameStore
  else if logBase ≤ a ∧ a < logBase + logSize then .logStore
  else if flashBase ≤ a ∧ a < flashBase + flashSize then .flash
  else if 0xF0000000 ≤ a ∧ a < 0xF0000100 then .alwaysOn
  else .unassigned

/-- The pond of an address: its first address and the first beyond. -/
def pondOf (a : Nat) : Nat × Nat :=
  if a < pondAHi then (pondALo, pondAHi)
  else if a < pondBHi then (pondBLo, pondBHi)
  else (pondCLo, pondCHi)

/-! ### Domains -/

/-- The bit of a domain in PWR_DOMAIN_STATUS [5:0] (R143). -/
def Domain.index : Domain → Nat
  | .aon => 0 | .ctrl => 1 | .pix => 2 | .link => 3 | .panel => 4 | .light => 5

/-- The ON bit of a domain. -/
def Domain.onFld (d : Domain) : Fld := ⟨R.PWR_DOMAIN_STATUS, d.index, 1⟩

/-- The ON_DEMAND bit of a domain. -/
def Domain.demandFld (d : Domain) : Fld := ⟨R.PWR_DOMAIN_STATUS, 8 + d.index, 1⟩

/-- Is a domain powered and clocked? -/
def State.on (s : State) (d : Domain) : Bool := s.flag d.onFld

/-- The index of a block (R24). -/
def Blk.index : Blk → Nat
  | .inl => 0 | .chn => 1 | .slu => 2 | .fst => 3 | .scn => 4 | .rng => 5 | .cps => 6 | .dth => 7 | .odv => 8
  | .dmr => 9 | .col => 10 | .gsq => 11 | .bias => 12 | .bld => 13 | .lda => 14 | .opt => 15 | .saf => 16
  | .mbx => 17 | .dma => 18 | .pwr => 19 | .cal => 20 | .sys => 21

/-- The block with an index. -/
def Blk.ofIndex : Nat → Option Blk
  | 0 => some .inl | 1 => some .chn | 2 => some .slu | 3 => some .fst | 4 => some .scn | 5 => some .rng
  | 6 => some .cps | 7 => some .dth | 8 => some .odv | 9 => some .dmr | 10 => some .col | 11 => some .gsq
  | 12 => some .bias | 13 => some .bld | 14 => some .lda | 15 => some .opt | 16 => some .saf | 17 => some .mbx
  | 18 => some .dma | 19 => some .pwr | 20 => some .cal | 21 => some .sys
  | _ => none

/-- The block of a register address (R24). -/
def blkOf (a : Nat) : Option Blk :=
  if blockBase ≤ a then Blk.ofIndex ((a - blockBase) / 0x10000) else none

/-- The domain of a block (R23, R111). -/
def Blk.domain : Blk → Domain
  | .inl => .link | .chn => .link
  | .slu => .pix | .fst => .pix | .scn => .pix | .rng => .pix | .cps => .pix | .dth => .pix | .odv => .pix
  | .dmr => .pix | .lda => .pix
  | .col => .panel | .gsq => .panel | .bias => .panel
  | .bld => .light | .opt => .light
  | .saf => .ctrl | .mbx => .ctrl | .dma => .ctrl | .cal => .ctrl | .sys => .ctrl
  | .pwr => .aon

/-- The first register address of a block. -/
def Blk.base (b : Blk) : Nat := blockBase + 0x10000 * b.index

/-- The registers of a block back at their reset values (R112). -/
def State.resetBlk (s : State) (b : Blk) : State := s.resetRegs b.base (b.base + 0x10000)

/-- The steps of the sleep vote (R127). -/
def voteOrder : List Domain := [.light, .panel, .pix, .link, .ctrl]

/-- Has a domain voted and stopped in a sleep entry that is in progress (R115, R127)? -/
def State.stopped (s : State) (d : Domain) : Bool :=
  match s.pw.trans with
  | .entering e => (voteOrder.take e.voted).contains d
  | _ => false

/-- Is a domain powered, and has it not stopped for a sleep entry (R127)? -/
def State.acts (s : State) (d : Domain) : Bool := s.on d && !s.stopped d

/-- Is an on-demand wake of a domain refused (R115)? -/
def State.wakeRefused (s : State) (d : Domain) : Bool :=
  s.stopped d || (d = .light && s.bl.latch.isSome) || ((d = .panel || d = .light) && s.pw.rom)

/-- An access by the control core, Juggler or the host control port to a domain that is off wakes it, or is refused
(R113, R115); true where the access stalls. -/
def State.demand (s : State) (d : Domain) : Bool × State :=
  if s.wakeRefused d || !s.on .ctrl then (false, s.setFlag F.PWR_DOMAIN_STATUS_ACCESS_REFUSED true)
  else if s.pw.waking.contains d then (true, s)
  else (true, { s with pw := { s.pw with waking := s.pw.waking ++ [d] } })

/-- The domain that an access stalls for: that of its block, or PIX for the frame store window. -/
def Stall.domain (x : Stall) : Domain :=
  let a := match x with
    | .put a _ => a
    | .read _ a _ _ => a
    | .write _ a _ _ => a
  match blkOf a with
  | some b => b.domain
  | none => .pix

/-- An access to a domain that is off: it stalls until the domain is ready (R113), or has no effect (R115). -/
def State.stall (s : State) (d : Domain) (x : Stall) : State :=
  let (ok, s1) := s.demand d
  if ok then { s1 with pw := { s1.pw with stalled := s1.pw.stalled ++ [x] } } else s1

/-- A register write to a domain that is off (R113, R115). -/
def State.stallWrite (s : State) (a : Nat) (v : Word) : State :=
  match blkOf a with
  | none => s
  | some b => s.stall b.domain (.put a v)

/-- A wake on demand that is given up: a sleep entry has come first, so the accesses that stall for it are refused (R45, R115,
log entry 73). -/
def State.cancelWake (s : State) (d : Domain) : State :=
  if s.pw.waking.contains d then
    ({ s with pw := { s.pw with
      waking := s.pw.waking.filter (· != d)
      stalled := s.pw.stalled.filter fun x => decide (x.domain ≠ d) } } : State).setFlag F.PWR_DOMAIN_STATUS_ACCESS_REFUSED true
  else s

/-! ### Modes -/

/-- The MODE code (R77). -/
def Mode.code : Mode → Nat
  | .dormant => 0 | .standby => 1 | .boot => 2 | .splash => 3 | .linkUp => 4 | .live => 5 | .selfRefresh => 6
  | .lowRate => 7 | .telltaleOnly => 8 | .calibrate => 9 | .service => 10 | .update => 11

/-- The mode with a code; the codes 12 to 15 are reserved. -/
def Mode.ofCode : Nat → Option Mode
  | 0 => some .dormant | 1 => some .standby | 2 => some .boot | 3 => some .splash | 4 => some .linkUp
  | 5 => some .live | 6 => some .selfRefresh | 7 => some .lowRate | 8 => some .telltaleOnly
  | 9 => some .calibrate | 10 => some .service | 11 => some .update
  | _ => none

/-- The display modes (R78). -/
def Mode.isDisplay : Mode → Bool
  | .splash | .linkUp | .live | .selfRefresh | .lowRate | .telltaleOnly | .update => true
  | .dormant | .standby | .boot | .calibrate | .service => false

/-- The dark modes (R79). -/
def Mode.isDark : Mode → Bool
  | .calibrate | .service => true
  | .dormant | .standby | .boot | .splash | .linkUp | .live | .selfRefresh | .lowRate | .telltaleOnly | .update => false

/-- The current mode. -/
def State.mode (s : State) : Mode := s.pw.mode

/-- Is a transition in progress (SYS_MODE.IN_TRANSITION; log entry 8): a start-up, a sleep entry or restart, or a mode
change that waits for its frame start? Row 6 waits in SPLASH only: elsewhere its trigger is kept for the return (log entry 8). -/
def State.inTransition (s : State) : Bool :=
  s.pw.trans != .none || s.pw.trigs.any fun t => t.row != 6 || decide (s.pw.mode = .splash)

/-- SYS_MODE, from the state it reports (R109). PENDING names sleep targets only, so a pending wake reads as none (DESIGN CHOICE,
log entry 74). -/
def State.sysMode (s : State) : Word :=
  let org := match s.pw.origin with
    | some m => m.code
    | none => 0
  let pend := match s.pw.pendReq with
    | some (.sleep .dormant _) => 0
    | some (.sleep .standby _) => 1
    | some (.wake _) => 15
    | none => 15
  BitVec.ofNat 32 (s.pw.mode.code + 16 * org + (if s.inTransition then 256 else 0) + 4096 * pend
    + 2 ^ 24 * s.pw.modeSeq.toNat)

/-! ### Module time -/

/-- Does module time count on the internal oscillator (R633): unless LINK is on with the reference present? -/
def State.oscTime (s : State) : Bool := !(s.on .link && s.flag (F.PORT_STATUS_REF_OK 0))

/-- Periods of 6.4 ns in a number of milliseconds. -/
def msTicks (ms : Nat) : Nat := ms * 156250

/-- Module time passed since `t`, modulo 2^48 (R633). -/
def State.since (s : State) (t : Time) : Nat := (s.time - t).toNat

/-! ### Free values (log entry 2) -/

/-- The next free value, below `n`, and the state that has drawn it. -/
def State.draw (s : State) (n : Nat) : Nat × State :=
  (Config.freeValue s.free % n, { s with free := s.free + 1 })

/-- The next value of the module's random source, below `n`, and the state that has drawn it (R196, R535). -/
def State.random (s : State) (n : Nat) : Nat × State :=
  (Config.random s.free % n, { s with free := s.free + 1 })

/-- A rational not below 0 as a natural number, rounded one way or the other: the spec does not say which. -/
def State.roundOpen (s : State) (q : Rat) : Nat × State :=
  let n := q.num.toNat
  if n % q.den = 0 then (n / q.den, s)
  else
    let (r, s1) := s.draw 2
    (n / q.den + r, s1)

/-- A quotient of natural numbers whose rounding the spec leaves open; with a divisor of 0 the spec states no result, and it is
a free value of 16 bits. -/
def State.quot (s : State) (n d : Nat) : Nat × State :=
  if d = 0 then s.draw 65536
  else if n % d = 0 then (n / d, s)
  else
    let (r, s1) := s.draw 2
    (n / d + r, s1)

/-! ### Frame position -/

/-- An event that has its place at a line and tick moves the raster there, unless it is further on already. -/
def State.reachPos (s : State) (line tick : Nat) : State :=
  if s.rs.running && (s.rs.line < line || (s.rs.line = line && s.rs.tick < tick)) then
    { s with rs := { s.rs with line := line, tick := tick } }
  else s


/-- The number of the frame in progress (R321). -/
def State.frame (s : State) : Word := s.reg R.SCN_FRAME

end Sys2Proof.Machine
end

