-- ==== Sys2Proof/Machine/Crypto.lean ====
section
/-! DEFINITION. The check sums and ciphers the spec names: CRC-8 (R185), CRC-16 (R257), CRC-32 (R151), SHA-256 and
AES-128 with CMAC (R502, R535). A bit string is a Nat of a stated width; every loop runs over a list. -/

namespace Sys2Proof.Machine

/-! ### CRC -/

/-- `n` shifts of a left-shifting CRC of width `w`. -/
def crcShift (w poly : Nat) : Nat → Nat → Nat
  | 0, r => r
  | n + 1, r =>
    let r2 := (r <<< 1) % 2 ^ w
    crcShift w poly n (if r.testBit (w - 1) then r2 ^^^ poly else r2)

/-- One byte into a left-shifting CRC of width `w`. -/
def crcByte (w poly r : Nat) (b : Byte) : Nat := crcShift w poly 8 (r ^^^ (b.toNat <<< (w - 8)))

/-- CRC-8: x^8 + x^2 + x + 1, initial value 0, not reflected (R185). -/
def crc8 (bs : List Byte) : Nat := bs.foldl (crcByte 8 0x07) 0

/-- One byte into the CRC-16 of R257. -/
def crc16Step (r : Nat) (b : Byte) : Nat := crcByte 16 0x1021 r b

/-- CRC-16: x^16 + x^12 + x^5 + 1, initial value 0xFFFF, not reflected, no final inversion (R257). -/
def crc16 (bs : List Byte) : Nat := bs.foldl crc16Step 0xFFFF

/-- `n` shifts of the reflected CRC-32. -/
def crc32Shift : Nat → Nat → Nat
  | 0, r => r
  | n + 1, r => crc32Shift n (if r.testBit 0 then (r >>> 1) ^^^ 0xEDB88320 else r >>> 1)

/-- CRC-32 of IEEE 802.3: reflected, initial value 0xFFFF_FFFF, final inversion (R151). -/
def crc32 (bs : List Byte) : Nat :=
  (bs.foldl (fun r b => crc32Shift 8 (r ^^^ b.toNat)) 0xFFFFFFFF) ^^^ 0xFFFFFFFF

/-! ### SHA-256 -/

/-- The largest `r` below 2^`b` with `r ^ e` at most `n`, found bit by bit above `acc`. -/
def rootBits (e n : Nat) : Nat → Nat → Nat
  | 0, acc => acc
  | b + 1, acc => rootBits e n b (if (acc + 2 ^ b) ^ e ≤ n then acc + 2 ^ b else acc)

/-- The first 32 bits of the fraction of the `e`-th root of `p`. -/
def rootFraction (e p : Nat) : Word := BitVec.ofNat 32 (rootBits e (p * 2 ^ (32 * e)) 40 0)

/-- The primes below 312, of which there are 64. -/
def shaPrimes : List Nat := (List.range 312).filter fun n => 2 ≤ n && ((List.range n).drop 2).all fun d => n % d != 0

/-- The round constants: the fractions of the cube roots of the first 64 primes (FIPS 180-4). -/
def shaK : List Word := shaPrimes.map (rootFraction 3)

/-- The eight working words. -/
structure Sha where
  a : Word
  b : Word
  c : Word
  d : Word
  e : Word
  f : Word
  g : Word
  h : Word
deriving DecidableEq, Repr

/-- Word `i` of the initial hash value: the fraction of the square root of prime `i` (FIPS 180-4). -/
def shaStart (i : Nat) : Word := rootFraction 2 (shaPrimes.getD i 0)

/-- The initial hash value. -/
def shaInit : Sha where
  a := shaStart 0
  b := shaStart 1
  c := shaStart 2
  d := shaStart 3
  e := shaStart 4
  f := shaStart 5
  g := shaStart 6
  h := shaStart 7

/-- A big-endian word. -/
def beWord (a b c d : Byte) : Word := a ++ b ++ c ++ d

/-- The words of a block, four bytes each. -/
def beWords : List Byte → List Word
  | a :: b :: c :: d :: t => beWord a b c d :: beWords t
  | _ => []

/-- The message schedule, latest word first, grown by `n` words. -/
def shaExpand : Nat → List Word → List Word
  | 0, w => w
  | n + 1, w =>
    let w15 := w.getD 14 0
    let w2 := w.getD 1 0
    let s0 := w15.rotateRight 7 ^^^ w15.rotateRight 18 ^^^ (w15 >>> 3)
    let s1 := w2.rotateRight 17 ^^^ w2.rotateRight 19 ^^^ (w2 >>> 10)
    shaExpand n ((w.getD 15 0 + s0 + w.getD 6 0 + s1) :: w)

/-- One round. -/
def shaRound (s : Sha) (kw : Word × Word) : Sha :=
  let s1 := s.e.rotateRight 6 ^^^ s.e.rotateRight 11 ^^^ s.e.rotateRight 25
  let ch := (s.e &&& s.f) ^^^ (~~~s.e &&& s.g)
  let t1 := s.h + s1 + ch + kw.1 + kw.2
  let s0 := s.a.rotateRight 2 ^^^ s.a.rotateRight 13 ^^^ s.a.rotateRight 22
  let mj := (s.a &&& s.b) ^^^ (s.a &&& s.c) ^^^ (s.b &&& s.c)
  ⟨t1 + s0 + mj, s.a, s.b, s.c, s.d + t1, s.e, s.f, s.g⟩

/-- One 64-byte block. -/
def shaBlock (s : Sha) (blk : List Byte) : Sha :=
  let w := (shaExpand 48 (beWords blk).reverse).reverse
  let r := (shaK.zip w).foldl shaRound s
  ⟨s.a + r.a, s.b + r.b, s.c + r.c, s.d + r.d, s.e + r.e, s.f + r.f, s.g + r.g, s.h + r.h⟩

/-- The blocks of a padded message. -/
def shaBlocks : Nat → List Byte → Sha → Sha
  | 0, _, s => s
  | n + 1, bs, s => shaBlocks n (bs.drop 64) (shaBlock s (bs.take 64))

/-- The bytes of a word, most significant first. -/
def beBytes (w : Word) : List Byte := (leBytes 4 w.toNat).reverse

/-- SHA-256 of a byte string. -/
def sha256 (bs : List Byte) : List Byte :=
  let z := (119 - bs.length % 64) % 64
  let m := bs ++ [0x80#8] ++ List.replicate z 0#8 ++ (leBytes 8 (8 * bs.length)).reverse
  let s := shaBlocks (m.length / 64) m shaInit
  beBytes s.a ++ beBytes s.b ++ beBytes s.c ++ beBytes s.d ++ beBytes s.e ++ beBytes s.f ++ beBytes s.g ++ beBytes s.h

/-! ### AES-128 and CMAC -/

/-- Multiplication by x in GF(2^8) of AES. -/
def xtime (b : Byte) : Byte := if b.toNat.testBit 7 then (b <<< 1) ^^^ 0x1b else b <<< 1

/-- Multiplication in GF(2^8) of AES, over the low `n` bits of the second factor. -/
def gmul : Nat → Byte → Byte → Byte
  | 0, _, _ => 0
  | n + 1, a, b => (if b.toNat.testBit 0 then a else 0) ^^^ gmul n (xtime a) (b >>> 1)

/-- The inverse in GF(2^8): the power 254; 0 for 0. -/
def ginv (a : Byte) : Byte :=
  let m := gmul 8
  let a2 := m a a
  let a3 := m a2 a
  let a6 := m a3 a3
  let a7 := m a6 a
  let a14 := m a7 a7
  let a15 := m a14 a
  let a30 := m a15 a15
  let a31 := m a30 a
  let a62 := m a31 a31
  let a63 := m a62 a
  let a126 := m a63 a63
  let a127 := m a126 a
  m a127 a127

/-- The S-box. -/
def sbox (a : Byte) : Byte :=
  let b := ginv a
  b ^^^ b.rotateLeft 1 ^^^ b.rotateLeft 2 ^^^ b.rotateLeft 3 ^^^ b.rotateLeft 4 ^^^ 0x63

/-- Byte-wise exclusive or. -/
def xorBytes (a b : List Byte) : List Byte := List.zipWith (· ^^^ ·) a b

/-- The key schedule: each next 4-byte word, latest round key last. -/
def aesKeys : Nat → Byte → List Byte → List (List Byte)
  | 0, _, k => [k]
  | n + 1, rc, k =>
    let t := [sbox (k.getD 13 0) ^^^ rc, sbox (k.getD 14 0), sbox (k.getD 15 0), sbox (k.getD 12 0)]
    let w0 := xorBytes (k.take 4) t
    let w1 := xorBytes ((k.drop 4).take 4) w0
    let w2 := xorBytes ((k.drop 8).take 4) w1
    let w3 := xorBytes ((k.drop 12).take 4) w2
    k :: aesKeys n (xtime rc) (w0 ++ w1 ++ w2 ++ w3)

/-- The rows shifted, over the column-major state. -/
def shiftRows (s : List Byte) : List Byte :=
  [0, 5, 10, 15, 4, 9, 14, 3, 8, 13, 2, 7, 12, 1, 6, 11].map fun i => s.getD i 0

/-- The columns mixed. -/
def mixColumns : List Byte → List Byte
  | a :: b :: c :: d :: t =>
    let m := gmul 8
    [m a 2 ^^^ m b 3 ^^^ c ^^^ d, a ^^^ m b 2 ^^^ m c 3 ^^^ d, a ^^^ b ^^^ m c 2 ^^^ m d 3,
      m a 3 ^^^ b ^^^ c ^^^ m d 2] ++ mixColumns t
  | _ => []

/-- The rounds after the first key addition. -/
def aesRounds : List (List Byte) → List Byte → List Byte
  | [], s => s
  | [k], s => xorBytes (shiftRows (s.map sbox)) k
  | k :: t, s => aesRounds t (xorBytes (mixColumns (shiftRows (s.map sbox))) k)

/-- AES-128 of one block. -/
def aes128 (key blk : List Byte) : List Byte :=
  match aesKeys 10 1 key with
  | [] => blk
  | k0 :: ks => aesRounds ks (xorBytes blk k0)

/-- Doubling of a 16-byte block in GF(2^128), most significant byte first (SP 800-38B). -/
def cmacDouble (b : List Byte) : List Byte :=
  let v := ofLe b.reverse
  let d := (2 * v) % 2 ^ 128
  (leBytes 16 (if v.testBit 127 then d ^^^ 0x87 else d)).reverse

/-- The blocks of a CMAC before its last one. -/
def cmacChain (key : List Byte) : Nat → List Byte → List Byte → List Byte × List Byte
  | 0, bs, x => (bs, x)
  | n + 1, bs, x => cmacChain key n (bs.drop 16) (aes128 key (xorBytes (bs.take 16) x))

/-- CMAC-AES-128 (NIST SP 800-38B). -/
def cmac (key msg : List Byte) : List Byte :=
  let k1 := cmacDouble (aes128 key (List.replicate 16 0#8))
  let k2 := cmacDouble k1
  let n := (msg.length - 1) / 16
  let (rest, x) := cmacChain key n msg (List.replicate 16 0#8)
  let last := if rest.length = 16 then xorBytes rest k1 else xorBytes (padTo 0#8 16 (rest ++ [0x80#8])) k2
  aes128 key (xorBytes last x)

end Sys2Proof.Machine
end

