-- ==== Sys2Proof/Machine/Records.lean ====
section
/-! DEFINITION. What the module records about itself: the event ring (R638 to R641), the fault log and the ledger in
the log store with their one writer (R537 to R539, R644 to R648), persistent records (R650), module time copies. -/

namespace Sys2Proof.Machine

/-! ### Events -/

/-- First address of the event ring in Pond B (R638). -/
abbrev evtBase : Nat := 0x0009F000

/-- Is a class raised: its bit in SYS_EVT_EN, and FS_EVENT for class 0, PROOF_EV for class 3 (R639)? -/
def State.evtOn (s : State) (cls : Nat) : Bool :=
  bitOf (s.reg R.SYS_EVT_EN) cls &&
    (cls != 0 || s.flag F.SCN_CTRL_FS_EVENT) && (cls != 3 || s.flag F.SAF_CTRL_PROOF_EV)

/-- The 16 bytes of an event record (R638). -/
def State.evtRecord (s : State) (cls code : Nat) (data : List Byte) (ext : Bool) : List Byte :=
  [BitVec.ofNat 8 (cls + if ext then 32 else 0), BitVec.ofNat 8 code,
    BitVec.ofNat 8 ((if s.log.evtLost then 1 else 0) + if s.oscTime then 2 else 0), s.log.evtSeq]
  ++ leBytes 4 s.frame.toNat ++ leBytes 2 s.rs.line ++ padTo 0#8 6 data

/-- One record into the ring at the write index. -/
def State.evtPut (s : State) (r : List Byte) : State :=
  let w := s.fld F.SYS_EVT_RING_WRITE
  (s.setBytes (evtBase + 16 * w) r).setFld F.SYS_EVT_RING_WRITE (w + 1)

/-- The event writer (R638, R640): writes the record and its continuation whole, or counts the event as lost. -/
def State.event (s : State) (cls code : Nat) (data : List Byte) (cont : Option (List Byte) := none) : State :=
  if !s.on .ctrl || !s.evtOn cls then s
  else
    let n := if cont.isSome then 2 else 1
    if 256 < s.log.evtHeld + n then
      { s.countUp F.SYS_EVT_CNT_LOST with log := { s.log with evtLost := true } }
    else
      let r := s.evtRecord cls code data cont.isSome
      let s1 := s.evtPut r
      let s2 := match cont with
        | some c => s1.evtPut (padTo 0#8 16 c)
        | none => s1
      let s3 := s2.setReg (R.SYS_EVT_LAST 0) (BitVec.ofNat 32 (leAt r 0 4))
      let s4 := s3.setReg (R.SYS_EVT_LAST 1) (BitVec.ofNat 32 (leAt r 4 4))
      let s5 := s4.setReg (R.SYS_EVT_LAST 2) (BitVec.ofNat 32 (leAt r 8 4))
      let s6 := s5.setReg (R.SYS_EVT_LAST 3) (BitVec.ofNat 32 (leAt r 12 4))
      { s6.countUp F.SYS_EVT_CNT_WRITTEN with
        log := { s.log with
          evtSeq := s.log.evtSeq + 1
          evtHeld := s.log.evtHeld + n
          evtLost := false
          evtTimes := s.log.evtTimes ++ List.replicate n s.time } }

/-! ### The log writer -/

/-- The ledger header, the fault log header, the zone summary, the first fault log entry (R537, R644). -/
abbrev ledgerBase : Nat := 0x70000000
abbrev flogHead : Nat := 0x70010000
abbrev zoneSummary : Nat := 0x70010010
abbrev zoneSummaryCrc : Nat := 0x70010490
abbrev flogBase : Nat := 0x70010800
/-- Fault log entries (R644). -/
abbrev flogSize : Nat := 8064
/-- Ledger entries 1 to 4,095 (R537). -/
abbrev ledgerSize : Nat := 4095
/-- Persistent records (R644). -/
abbrev persistBase : Nat := 0x70030000

/-- A header with its CHECK at byte 15 (R537, R645). -/
def withCheck (bs : List Byte) : List Byte :=
  let b := padTo 0#8 15 bs
  b ++ [BitVec.ofNat 8 (crc8 b)]

/-- GEN of a pass: a store that was never formatted (all zero) counts as pass 1 (log entry 4). -/
def genOf (g : Nat) : Nat := if g % 16 = 0 then 1 else g % 16

/-- The next GEN, modulo 16. -/
def genNext (g : Nat) : Nat := (g + 1) % 16

/-- The zone summary with one zone's code, and its CRC-32 (R644, R647). -/
def State.putZoneSummary (s : State) (z code : Nat) : State :=
  let a := zoneSummary + z / 4
  let sh := 2 * (z % 4)
  let old := (s.byte a).toNat
  let s1 := s.setByte a (BitVec.ofNat 8 (old - (old >>> sh) % 4 * 2 ^ sh + code % 4 * 2 ^ sh))
  s1.setMle zoneSummaryCrc 4 (crc32 (s1.bytes zoneSummary 1152))

/-- The fault log header after a record of which `n` entries were written (R645). -/
def State.flogHeader (s : State) (n : Nat) : State :=
  let next := s.fld F.SYS_LOG_NEXT_NEXT
  let gen := s.fld F.SYS_LOG_NEXT_GEN
  let total := s.mle (flogHead + 4) 4
  let read := s.mle (flogHead + 8) 2
  let held := min (s.mle (flogHead + 10) 2 + n) flogSize
  s.setBytes flogHead (withCheck (leBytes 2 next ++ [BitVec.ofNat 8 gen, 0] ++ leBytes 4 (total + 1)
    ++ leBytes 2 read ++ leBytes 2 held))

/-- The writer writes one part: GEN and CHECK filled in, NEXT moved on, after the last part the header, and for
BACKLIGHT 0x01 and 0x02 the zone summary (R646, R647). -/
def State.writePart (s : State) (bs : List Byte) (last : Bool) : State :=
  let next := s.fld F.SYS_LOG_NEXT_NEXT
  let gen := genOf (s.fld F.SYS_LOG_NEXT_GEN)
  let b2 := byteAt bs 2 % 16 + 16 * gen
  let e := withCheck (bs.take 2 ++ [BitVec.ofNat 8 b2] ++ (bs.drop 3).take 12)
  let s1 := s.setBytes (flogBase + 16 * next) e
  let wrap := next + 1 = flogSize
  let s2 := s1.setFld F.SYS_LOG_NEXT_NEXT (if wrap then 0 else next + 1)
  let s3 := s2.setFld F.SYS_LOG_NEXT_GEN (if wrap then genNext gen else gen)
  if last then
    let s4 := (s3.flogHeader (byteAt bs 2 % 4 + 1)).countUp F.SYS_LOG_CNT_WRITTEN
    if byteAt bs 0 % 32 = 8 ∧ (byteAt bs 1 = 1 ∨ byteAt bs 1 = 2) then
      s4.putZoneSummary (leAt bs 3 2) (byteAt bs 5)
    else s4
  else s3

/-- The ledger's NEXT: an unformatted header starts at entry 1 (R537, log entry 4). -/
def State.ledgerNext (s : State) : Nat := max 1 (s.mle ledgerBase 2)

/-- The ledger's GEN. -/
def State.ledgerGen (s : State) : Nat := genOf (s.mle (ledgerBase + 2) 1)

/-- The ledger header with NEXT, GEN and BOOTS (R537). -/
def State.ledgerHeader (s : State) (next gen boots : Nat) : State :=
  s.setBytes ledgerBase (withCheck (leBytes 2 next ++ [BitVec.ofNat 8 (gen % 16), 0] ++ leBytes 4 boots))

/-- The writer writes one ledger entry, then NEXT, and GEN when NEXT wraps to 1 (R538, R539). -/
def State.writeLedger (s : State) (bs : List Byte) : State :=
  let next := s.ledgerNext
  let gen := s.ledgerGen
  let b0 := byteAt bs 0 % 16 + 16 * gen
  let e := withCheck ([BitVec.ofNat 8 b0] ++ (bs.drop 1).take 14)
  let s1 := s.setBytes (ledgerBase + 16 * next) e
  if next = ledgerSize then s1.ledgerHeader 1 (genNext gen) (s.mle (ledgerBase + 4) 4)
  else s1.ledgerHeader (next + 1) gen (s.mle (ledgerBase + 4) 4)

/-- The writer takes the front of its queue. -/
def State.logWriteOne (s : State) : State :=
  match s.log.logQ with
  | [] => s
  | .part bs last :: t => ({ s with log := { s.log with logQ := t } } : State).writePart bs last
  | .ledger bs _ :: t => ({ s with log := { s.log with logQ := t } } : State).writeLedger bs

/-- Does Ringmaster run: PIX on and the raster running? -/
def State.ringRuns (s : State) : Bool := s.on .pix && s.rs.running

/-- Up to `n` items written at once. -/
def State.logWriteAll : Nat → State → State
  | 0, s => s
  | n + 1, s => logWriteAll n s.logWriteOne

/-- Items leave the queue at once while Ringmaster does not run (R647). -/
def State.logPump (s : State) : State :=
  if s.ringRuns then s else s.logWriteAll s.log.logQ.length

/-- A record posted to the writer: dropped whole and counted when its parts do not fit (R647). -/
def State.postRecord (s : State) (parts : List (List Byte)) : State :=
  if 32 < s.log.logQ.length + parts.length then
    { s.countUp F.SYS_LOG_CNT_DROPPED with log := { s.log with logLost := true } }
  else
    let n := parts.length
    let mark := fun (i : Nat) (p : List Byte) =>
      let lost := if i = 0 ∧ s.log.logLost = true then 128 else 0
      let p0 := BitVec.ofNat 8 (byteAt p 0 % 128 + lost)
      LogItem.part ([p0] ++ (p.drop 1).take 1 ++ [BitVec.ofNat 8 (i + 4 * (n - 1))] ++ p.drop 3) (decide (i + 1 = n))
    ({ s with log := { s.log with
        logQ := s.log.logQ ++ parts.mapIdx mark
        logLost := if n = 0 then s.log.logLost else false } } : State).logPump

/-- Part 0 of a fault log record (R646). -/
def State.logPart0 (s : State) (cls code : Nat) : List Byte :=
  [BitVec.ofNat 8 cls, BitVec.ofNat 8 code, 0] ++ leBytes 4 s.frame.toNat ++ leBytes 6 s.time.toNat
    ++ leBytes 2 s.rs.line ++ [0]

/-- Part 1 of a fault log record (R646). -/
def logPart1 (cls code : Nat) (data : List Byte) (tail : List Byte := []) : List Byte :=
  [BitVec.ofNat 8 cls, BitVec.ofNat 8 code, 0] ++ padTo 0#8 6 data ++ padTo 0#8 6 tail ++ [0]

/-- A two-part fault log record (R646). -/
def State.logFault (s : State) (cls code : Nat) (data : List Byte) : State :=
  s.postRecord [s.logPart0 cls code, logPart1 cls code data]

/-- An event that is also logged, whatever SYS_EVT_EN holds (R639). -/
def State.eventLogged (s : State) (cls code : Nat) (data : List Byte) : State :=
  (s.event cls code data).logFault cls code data

/-- A ledger entry queued for the writer (R538, R539). KIND: 0 MARK, 1 START, 2 STEP, 3 FINISH. -/
def ledgerEntry (kind mb tag opcode step cookie : Nat) (time : Time) (status : Nat) : List Byte :=
  [BitVec.ofNat 8 (kind + 4 * mb), BitVec.ofNat 8 tag] ++ leBytes 2 opcode ++ leBytes 2 step ++ leBytes 2 cookie
    ++ leBytes 6 time.toNat ++ [BitVec.ofNat 8 status]

/-- A ledger entry into the writer's queue; with `tag` 64 it belongs to no command (a MARK). -/
def State.postLedger (s : State) (bs : List Byte) (tag : Nat) : State :=
  ({ s with log := { s.log with logQ := s.log.logQ ++ [.ledger bs tag] } } : State).logPump

/-- Does an entry of the command `tag` still wait for its LOG slot? -/
def State.ledgerWaits (s : State) (tag : Nat) : Bool :=
  s.log.logQ.any fun i => match i with
    | .ledger _ t => decide (t = tag)
    | .part _ _ => false

/-- A part from the firmware (SYS_LOG_POST0 to SYS_LOG_POST3, R647): queued as it stands, or its record dropped. -/
def State.postFirmwarePart (s : State) (bs : List Byte) : State :=
  let part := byteAt bs 2 % 4
  let last := decide (part = byteAt bs 2 / 4 % 4)
  let full := decide (32 < s.log.logQ.length + (byteAt bs 2 / 4 % 4 - part + 1))
  let drop := if part = 0 then full else s.log.logDropping
  if drop then
    let s1 := if part = 0 then s.countUp F.SYS_LOG_CNT_DROPPED else s
    { s1 with log := { s1.log with logLost := true, logDropping := !last } }
  else
    let p0 := BitVec.ofNat 8 (byteAt bs 0 % 128 + if part = 0 ∧ s.log.logLost = true then 128 else 0)
    ({ s with log := { s.log with
        logQ := s.log.logQ ++ [.part ([p0] ++ bs.drop 1) last]
        logLost := if part = 0 then false else s.log.logLost
        logDropping := false } } : State).logPump

/-- The writer's scan at a start (R648): from NEXT on, entries whose CHECK is correct and whose GEN is that of the pass
are accepted; at most `n` of them. -/
def State.logScan : Nat → State → State
  | 0, s => s
  | n + 1, s =>
    let next := s.fld F.SYS_LOG_NEXT_NEXT
    let gen := s.fld F.SYS_LOG_NEXT_GEN
    let e := s.bytes (flogBase + 16 * next) 16
    if e = withCheck (e.take 15) ∧ byteAt e 2 / 16 = gen then
      let wrap := next + 1 = flogSize
      logScan n ((s.setFld F.SYS_LOG_NEXT_NEXT (if wrap then 0 else next + 1)).setFld F.SYS_LOG_NEXT_GEN
        (if wrap then genNext gen else gen))
    else s

/-- The scan from the stored header (R645, R648). -/
def State.logStart (s : State) : State :=
  let s1 := s.setFld F.SYS_LOG_NEXT_NEXT (s.mle flogHead 2 % flogSize)
  let s2 := s1.setFld F.SYS_LOG_NEXT_GEN (genOf (s.mle (flogHead + 2) 1))
  (State.logScan flogSize s2).setFlag F.SYS_LOG_STATUS_SCANNED true

/-- The fault log entry number `n` from the newest (R648): its address, none at or beyond HELD. -/
def State.logEntryAddr (s : State) (n : Nat) : Option Nat :=
  if n < s.mle (flogHead + 10) 2 then
    some (flogBase + 16 * ((s.fld F.SYS_LOG_NEXT_NEXT + 2 * flogSize - 1 - n) % flogSize))
  else none

/-- Does the fault log hold an entry newer than its READ mark (R642)? -/
def State.logUnread (s : State) : Bool :=
  s.mle (flogHead + 10) 2 != 0 &&
    (s.fld F.SYS_LOG_NEXT_NEXT + flogSize - 1) % flogSize != s.mle (flogHead + 8) 2

/-- The READ mark at the newest entry (R643). -/
def State.logMarkRead (s : State) : State :=
  let h := s.bytes flogHead 15
  s.setBytes flogHead (withCheck (h.take 8 ++ leBytes 2 ((s.fld F.SYS_LOG_NEXT_NEXT + flogSize - 1) % flogSize)
    ++ h.drop 10))

/-! ### Persistent records (R650) -/

/-- SEQ of the valid persistent record in place `i`; none where its CRC fails. -/
def State.persistSeq (s : State) (i : Nat) : Option Nat :=
  let b := s.bytes (persistBase + 64 * i) 64
  if leAt b 60 4 = crc32 (b.take 60) then some (leAt b 20 4) else none

/-- The place and SEQ of the valid record with the highest SEQ among the first `n`. -/
def State.persistLast (s : State) : Nat → Option (Nat × Nat)
  | 0 => none
  | n + 1 =>
    match s.persistSeq n, s.persistLast n with
    | some q, some (i, r) => if r ≤ q then some (n, q) else some (i, r)
    | some q, none => some (n, q)
    | none, r => r

/-- FRAME_RES of the last record, if there is one. -/
def State.frameRes (s : State) : Option Word :=
  (s.persistLast 1024).map fun r => BitVec.ofNat 32 (s.mle (persistBase + 64 * r.1) 4)

/-- The firmware writes a persistent record (R650) in the place after the last one. KIND: 1 sleep, 2 reset, 3
periodic. -/
def State.writePersist (s : State) (kind : Nat) : State :=
  let (place, seq) := match s.persistLast 1024 with
    | some (i, q) => ((i + 1) % 1024, q + 1)
    | none => (0, 1)
  let body := leBytes 4 (s.frame.toNat + 65536) ++ leBytes 6 s.time.toNat
    ++ [BitVec.ofNat 8 kind, BitVec.ofNat 8 s.mode.code]
    ++ leBytes 2 (s.fld F.OPT_GAIN_RG_R) ++ leBytes 2 (s.fld F.OPT_GAIN_RG_G) ++ leBytes 2 (s.fld F.OPT_GAIN_B_B)
    ++ [0, 0] ++ leBytes 4 seq
  let b := padTo 0#8 60 body
  s.setBytes (persistBase + 64 * place) (b ++ leBytes 4 (crc32 b))

end Sys2Proof.Machine
end

