-- ==== Sys2Proof/Machine/Cfg.lean ====
section
/-! DEFINITION. The flash partitions and the configuration in them (R31, R95 to R97), which the boot ROM and the firmware read. -/

namespace Sys2Proof.Machine

/-- Bytes of a slot table image, from its header (R151). -/
def rngTableLen (b : List Byte) : Nat := 16 + 8 * byteAt b 1 + 64 * byteAt b 2

/-! ### Partitions (R31) -/

/-- First address and size of image A, image B, assets, panel data and configuration in the flash window. -/
abbrev imageA : Nat := 0x78000000
abbrev imageB : Nat := 0x78400000
abbrev imageSize : Nat := 0x00400000
abbrev assetBase : Nat := 0x78800000
abbrev assetSize : Nat := 0x00600000
abbrev panelBase : Nat := 0x78E00000
abbrev panelSize : Nat := 0x01000000
abbrev configBase : Nat := 0x79E00000
abbrev copySize : Nat := 0x00100000

/-! ### The configuration (R95, R96) -/

/-- The records of a configuration copy as (tag, value), in order; none where they do not follow one another. -/
def cfgRecords : Nat → List Byte → Option (List (Nat × List Byte))
  | 0, bs => if bs.isEmpty then some [] else none
  | n + 1, bs =>
    if bs.isEmpty then some []
    else if bs.length < 4 then none
    else
      let len := leAt bs 2 2
      let size := ceilDiv len 4 * 4
      let v := bs.drop 4
      if v.length < size ∨ (v.take size).drop len ≠ List.replicate (size - len) 0#8 then none
      else (cfgRecords n (v.drop size)).map fun t => (leAt bs 0 2, v.take len) :: t

/-- RLEN of a tag that the firmware knows (R96); none for an unknown tag. -/
def cfgLen (tag : Nat) (v : List Byte) : Option Nat :=
  match tag with
  | 0x01 => some 4 | 0x02 => some 4 | 0x03 => some 8 | 0x04 => some 4 | 0x05 => some 8 | 0x06 => some 8 | 0x07 => some 4
  | 0x10 => some 96
  | 0x11 => some (4 + rngTableLen (v.drop 4))
  | 0x12 => some (4 + 16 + 4 * leAt v 6 2)
  | 0x20 => some 48 | 0x21 => some 64 | 0x22 => some 32 | 0x23 => some 136 | 0x24 => some 16 | 0x25 => some 36
  | 0x26 => some 16 | 0x27 => some 4
  | _ => none

/-- What may appear once only: the tag, with SET or INDEX for a repeatable one. -/
def cfgKey (r : Nat × List Byte) : Nat × Nat := if r.1 = 0x10 ∨ r.1 = 0x11 ∨ r.1 = 0x12 then (r.1, byteAt r.2 0) else (r.1, 256)

/-- The record of a tag. -/
def cfgGet (rs : List (Nat × List Byte)) (tag : Nat) : Option (List Byte) := (rs.find? fun r => decide (r.1 = tag)).map (·.2)

/-- The record of a repeatable tag by SET or INDEX. -/
def cfgAt (rs : List (Nat × List Byte)) (tag ix : Nat) : Option (List Byte) :=
  (rs.find? fun r => decide (r.1 = tag ∧ byteAt r.2 0 = ix)).map (·.2)

/-- Are no two keys equal? -/
def keysOnce : List (Nat × Nat) → Bool
  | [] => true
  | k :: t => !t.contains k && keysOnce t

/-- Do the records of a copy meet R96? -/
def cfgOk (rs : List (Nat × List Byte)) : Bool :=
  let known := rs.filter fun r => (cfgLen r.1 r.2).isSome
  known.all (fun r => cfgLen r.1 r.2 == some r.2.length) && keysOnce (known.map cfgKey) && (cfgGet rs 0x01).isSome
    && (match cfgGet rs 0x07 with
      | some st => (cfgAt rs 0x10 (byteAt st 0)).isSome
      | none => false)
    && (rs.filter fun r => decide (r.1 = 0x10)).all fun r =>
      (cfgAt rs 0x11 (byteAt r.2 1)).isSome && (cfgAt rs 0x12 (byteAt r.2 2)).isSome

/-- The address of configuration copy `c`. -/
def copyAddr (c : Nat) : Nat := configBase + copySize * c

/-- The record bytes of configuration copy `c` where it is valid (R95). -/
def State.cfgCopy (s : State) (c : Nat) : Option (List Byte) :=
  let h := s.bytes (copyAddr c) 32
  let len := leAt h 8 4
  if byteAt h 0 ≠ 1 ∨ leAt h 1 3 ≠ 0 ∨ leAt h 16 16 ≠ 0 ∨ 1048544 < len then none
  else
    let bs := s.bytes (copyAddr c + 32) len
    if leAt h 12 4 ≠ crc32 bs then none
    else
      match cfgRecords (len + 1) bs with
      | some rs => if cfgOk rs then some bs else none
      | none => none

/-- SEQ of configuration copy `c`. -/
def State.cfgSeq (s : State) (c : Nat) : Word := BitVec.ofNat 32 (s.mle (copyAddr c + 4) 4)

/-- The copy in use: the valid one with the higher SEQ, compared modulo 2^32 (R95); copy 0 where the two are equal or differ by
2^31 (DESIGN CHOICE, log entry 26). -/
def State.cfgChoice (s : State) : Option (Nat × List Byte) :=
  match s.cfgCopy 0, s.cfgCopy 1 with
  | none, none => none
  | some a, none => some (0, a)
  | none, some b => some (1, b)
  | some a, some b =>
    let d := (s.cfgSeq 1 - s.cfgSeq 0).toNat
    if 0 < d ∧ d < 2 ^ 31 then some (1, b) else some (0, a)

/-- The records of the configuration in use. -/
def State.cfg (s : State) : List (Nat × List Byte) := (cfgRecords (s.fw.cfg.length + 1) s.fw.cfg).getD []

/-- The value of a record of the configuration in use. -/
def State.cfgRec (s : State) (tag : Nat) : Option (List Byte) := cfgGet s.cfg tag

/-- Is a port enabled in the configuration (LINK_CFG): 0 the Inlet, 1 the Chain port? -/
def State.portEnabled (s : State) (p : Nat) : Bool :=
  match s.cfgRec 0x02 with
  | some v => (byteAt v 0).testBit p
  | none => false

/-- Is the Inlet enabled in the configuration (LINK_CFG)? -/
def State.inletEnabled (s : State) : Bool := s.portEnabled 0

end Sys2Proof.Machine
end

