-- ==== Sys2Proof/Machine/Ecc.lean ====
section
/-! DEFINITION. The Reed–Solomon code of the frame store (R307, R308): the field, the generator, a codeword's check symbols, the
lines of a channel that carry a symbol, and what a read makes of the errors of a codeword. -/

namespace Sys2Proof.Machine

/-! ### GF(2^8) (R307) -/

/-- A field element times α = 0x02, modulo x^8 + x^4 + x^3 + x^2 + 1. -/
def gfTwice (a : Nat) : Nat := if a < 128 then 2 * a else (2 * a) ^^^ 0x11D

/-- The product of two field elements: Horner's rule over the bits of `b`. -/
def gfMul (a b : Nat) : Nat :=
  [7, 6, 5, 4, 3, 2, 1, 0].foldl (fun r i => gfTwice r ^^^ (if b.testBit i then a else 0)) 0

/-- α^n. -/
def gfAlpha : Nat → Nat
  | 0 => 1
  | n + 1 => gfTwice (gfAlpha n)

/-- The inverse of a field element, its 254th power: the product of its squarings from the 2nd to the 128th power. -/
def gfInv (a : Nat) : Nat :=
  ((List.range 7).foldl (fun (r : Nat × Nat) _ => let q := gfMul r.1 r.1; (q, gfMul r.2 q)) (a, 1)).2

/-- The value at `x` of a polynomial, its constant term first. -/
def gfEval (p : List Nat) (x : Nat) : Nat := p.foldr (fun c r => c ^^^ gfMul r x) 0

/-- The sum of two polynomials. -/
def gfAdd : List Nat → List Nat → List Nat
  | a :: p, b :: q => (a ^^^ b) :: gfAdd p q
  | p, [] => p
  | [], q => q

/-- A polynomial times a constant. -/
def gfScale (c : Nat) (p : List Nat) : List Nat := p.map (gfMul c)

/-! ### The code (R307) -/

/-- The generator: the product of x - α^i for i = 0 to 7, its constant term first. -/
def rsGenerator : List Nat :=
  (List.range 8).foldl (fun g i => gfAdd (0 :: g) (gfScale (gfAlpha i) g)) [1]

/-- The check symbols of 64 data symbols, symbol 64 first: the remainder of the data, as the coefficients of x^71 down to x^8, by
the generator (log entry 12). -/
def rsCheck (data : List Nat) : List Nat :=
  let g := ((rsGenerator.take 8).reverse)
  data.foldl (fun r d =>
    let f := d ^^^ r.headD 0
    gfAdd (r.drop 1 ++ [0]) (gfScale f g)) (List.replicate 8 0)

/-- A codeword: 64 data symbols, then 8 check symbols. -/
def rsEncode (data : List Nat) : List Nat := data ++ rsCheck data

/-- The bits of a codeword that symbol `s` occupies (R307). -/
def symbolBits (s : Nat) : List Nat := (List.range 8).map (8 * s + ·)

/-- The symbols that data line `p` of a channel carries, `p` up to 31, and those that check line `p` carries, `p` up to 3 (R307). -/
def dataLineSymbols (p : Nat) : List Nat := [2 * p, 2 * p + 1]
def checkLineSymbols (p : Nat) : List Nat := [64 + 2 * p, 65 + 2 * p]

/-- Syndrome `j` of errors: their polynomial at α^j. A codeword's own is 0, so this is the syndrome of the word that is read. -/
def syndrome (e : SymErrs) (j : Nat) : Nat :=
  e.foldl (fun r x => r ^^^ gfMul x.2 (gfAlpha (j * (71 - x.1) % 255))) 0

/-- The eight syndromes. -/
def syndromes (e : SymErrs) : List Nat := (List.range 8).map (syndrome e)

/-- Errors on top of errors: symbol by symbol. -/
def errsAdd (a b : SymErrs) : SymErrs := b.foldl (fun r x => mapSet (fun _ => 0) r x.1 (mapGet (fun _ => 0) r x.1 ^^^ x.2)) a

/-! ### Decoding (R308) -/

/-- The state of the search for the shortest recurrence of the syndromes: the locator, the one before its last change of length,
the discrepancy then, the length, and the steps since. -/
structure Recur where
  loc : List Nat
  old : List Nat
  disc : Nat
  len : Nat
  gap : Nat
deriving DecidableEq, Repr

/-- One syndrome more. -/
def Recur.next (syn : List Nat) (r : Recur) (n : Nat) : Recur :=
  let d := (List.range (r.len + 1)).foldl (fun a i => a ^^^ gfMul (r.loc.getD i 0) (syn.getD (n - i) 0)) 0
  if d = 0 then { r with gap := r.gap + 1 }
  else
    let fix := gfScale (gfMul d (gfInv r.disc)) (List.replicate r.gap 0 ++ r.old)
    let l := gfAdd r.loc fix
    if 2 * r.len ≤ n then ⟨l, r.loc, d, n + 1 - r.len, 1⟩ else { r with loc := l, gap := r.gap + 1 }

/-- The locator polynomial of the syndromes and its length. -/
def locator (syn : List Nat) : List Nat × Nat :=
  let r := (List.range 8).foldl (Recur.next syn) ⟨[1], [1], 1, 0, 1⟩
  (r.loc, r.len)

/-- The errors of at most 4 symbols that have these syndromes, where there are any: the roots of the locator say where they are,
the evaluator what they are; kept only if they give the syndromes. -/
def shortErrs (syn : List Nat) : Option SymErrs :=
  let (loc, n) := locator syn
  let x := fun (s : Nat) => gfAlpha ((255 - (71 - s)) % 255)
  let at' := (List.range 72).filter fun s => decide (gfEval loc (x s) = 0)
  let ev := (List.range 8).map fun i => (List.range (i + 1)).foldl (fun a j => a ^^^ gfMul (loc.getD j 0) (syn.getD (i - j) 0)) 0
  let slope := loc.zipIdx.drop 1 |>.map fun p => if p.2 % 2 = 1 then p.1 else 0
  let e : SymErrs := at'.map fun s => (s, gfMul (gfAlpha (71 - s)) (gfMul (gfEval ev (x s)) (gfInv (gfEval slope (x s)))))
  if n ≤ 4 ∧ at'.length = n ∧ syndromes e = syn then some e else none

/-- What a read makes of a codeword with errors `e`: uncorrectable, or read with this many symbols corrected and these errors left in
what the reader gets. -/
inductive RsRead where
  | bad
  | good (fixed : Nat) (left : SymErrs)
deriving DecidableEq, Repr

/-- A read of a codeword with symbol errors `e` (R308). In CORRECT mode up to 4 errors are corrected; more are uncorrectable, unless
they lie within 4 symbols of another codeword, which is then read. In DETECT mode nothing is corrected, and only errors that make
another codeword, more than 8 of them, go unseen. -/
def rsRead (detect : Bool) (e : SymErrs) : RsRead :=
  if e.isEmpty then .good 0 []
  else if detect then (if e.length ≤ 8 ∨ syndromes e ≠ List.replicate 8 0 then .bad else .good 0 e)
  else if e.length ≤ 4 then .good e.length []
  else if syndromes e = List.replicate 8 0 then .good 0 e
  else
    match shortErrs (syndromes e) with
    | none => .bad
    | some f => .good f.length (errsAdd e f)

end Sys2Proof.Machine
end

