-- ==== Sys2Proof/Machine/Store.lean ====
section
/-! DEFINITION. The frame store: its layout (R298, R299), its arbiter (R295, R296), the error log (R314), reads and writes of
codewords with errors (R297, R307 to R310), the damaged regions of the streams (R279), and the picture kept in it: slots, tiles,
the four tile maps of a plane (R300 to R306). -/

namespace Sys2Proof.Machine

/-! ### Layout (R298, R299) -/

/-- Frame store offsets of the areas. -/
abbrev slotPitch : Nat := 0x03B53800
abbrev histArea0 : Nat := 0x0ED4E000
abbrev histArea1 : Nat := 0x10AF7C00
abbrev demuraArea0 : Nat := 0x128A1800
abbrev demuraArea1 : Nat := 0x1308BE00
abbrev lutArea : Nat := 0x13876400
abbrev spillArea : Nat := 0x14000000
abbrev overlayArea : Nat := 0x16000000
abbrev overlaySize : Nat := 134217728
abbrev workArea : Nat := 0x1E000000

/-- Bytes of a stored line of `w` pixels (R299). -/
def linePitch (w : Nat) : Nat := 64 * ceilDiv (w * 30) 512

/-- Active width, active height, first active line and total lines of the timing set in force (R318). -/
def State.hActive (s : State) : Nat := s.liveFld F.SCN_HTIME_H_ACTIVE
def State.hTotal (s : State) : Nat := s.liveFld F.SCN_HTIME_H_TOTAL
def State.vActive (s : State) : Nat := s.liveFld F.SCN_VTIME_V_ACTIVE
def State.vTotal (s : State) : Nat := s.liveFld F.SCN_VTIME_V_TOTAL
def State.vStart (s : State) : Nat := s.liveFld F.SCN_VSYNC_V_START

/-! ### Rectangles -/

/-- Is a rectangle empty? -/
def Rect.empty (r : Rect) : Bool := r.w = 0 || r.h = 0

/-- The common part of two rectangles; width 0 where there is none. -/
def Rect.meet (a b : Rect) : Rect :=
  let x0 := max a.x b.x
  let y0 := max a.y b.y
  let x1 := min (a.x + a.w) (b.x + b.w)
  let y1 := min (a.y + a.h) (b.y + b.h)
  if x0 < x1 ∧ y0 < y1 then ⟨x0, y0, x1 - x0, y1 - y0⟩ else ⟨0, 0, 0, 0⟩

/-- The bounding box of two rectangles. -/
def Rect.join (a b : Rect) : Rect :=
  if a.empty then b
  else if b.empty then a
  else
    let x0 := min a.x b.x
    let y0 := min a.y b.y
    ⟨x0, y0, max (a.x + a.w) (b.x + b.w) - x0, max (a.y + a.h) (b.y + b.h) - y0⟩

/-- Does the first rectangle cover the second? -/
def Rect.covers (a b : Rect) : Bool :=
  a.x ≤ b.x && a.y ≤ b.y && b.x + b.w ≤ a.x + a.w && b.y + b.h ≤ a.y + a.h

/-- Is a point inside? -/
def Rect.has (r : Rect) (x y : Nat) : Bool := r.x ≤ x && x < r.x + r.w && r.y ≤ y && y < r.y + r.h

/-! ### The arbiter (R295, R296) -/

/-- A request of rank 1 to 5 stands at place 0 to 4: URGENT, RASTER, SCRUB, WRITE, WINDOW. -/
abbrev rankUrgent : Nat := 0
abbrev rankRaster : Nat := 1
abbrev rankScrub : Nat := 2
abbrev rankWrite : Nat := 3
abbrev rankWindow : Nat := 4

/-- Does a request of a rank wait? -/
def Arbiter.waits (a : Arbiter) (r : Nat) : Bool := 0 < a.waiting.getD r 0

/-- The rank that is granted next: URGENT first; then a WINDOW request after 31 grants to the ranks above it, a WRITE request after
7 grants to the ranks above it; else the lowest rank that waits (R295, R296). -/
def Arbiter.next (a : Arbiter) : Option Nat :=
  if a.waits rankUrgent then some rankUrgent
  else if a.waits rankWindow && decide (31 ≤ a.overWindow) then some rankWindow
  else if a.waits rankWrite && decide (7 ≤ a.overWrite) then some rankWrite
  else [rankRaster, rankScrub, rankWrite, rankWindow].find? a.waits

/-- The grants over a request of rank `r` after a grant to rank `k`: none while it does not wait or when it is granted. -/
def overAfter (waits : Bool) (r k n : Nat) : Nat := if waits && decide (k < r) then n + 1 else if k = r || !waits then 0 else n

/-- One grant. -/
def Arbiter.grant (a : Arbiter) : Arbiter :=
  match a.next with
  | none => a
  | some k =>
    { waiting := listSet a.waiting k (a.waiting.getD k 0 - 1)
      overWrite := overAfter (a.waits rankWrite) rankWrite k a.overWrite
      overWindow := overAfter (a.waits rankWindow) rankWindow k a.overWindow }

/-- `n` requests of a rank join those that wait. -/
def State.ask (s : State) (rank n : Nat) : State :=
  { s with vid := { s.vid with arb := { s.vid.arb with waiting := listSet s.vid.arb.waiting rank (s.vid.arb.waiting.getD rank 0 + n) } } }

/-- `n` grants. -/
def Arbiter.grants (a : Arbiter) : Nat → Arbiter
  | 0 => a
  | n + 1 => (a.grant).grants n

/-- Codewords that `n` bytes from an offset on meet (R294). -/
def wordsOf (off n : Nat) : Nat := if n = 0 then 0 else (off + n - 1) / 64 - off / 64 + 1

/-! ### The error log -/

/-- The readers of FST_ERR_INFO (R317). -/
inductive Reader where
  | weir | odv | dmr | icon | tileCopy | scrub | window
deriving DecidableEq, Repr

/-- READER code (R317). -/
def Reader.code : Reader → Nat
  | .weir => 0 | .odv => 1 | .dmr => 2 | .icon => 3 | .tileCopy => 4 | .scrub => 5 | .window => 6

/-- The READER code of a read; the read that a partial write of the pixel engine makes has none of the codes: it is left open
(R309, R317, log entry 82). -/
def State.readerCode (s : State) : Option Reader → Nat × State
  | some r => (r.code, s)
  | none => s.draw 8

/-- One entry of the eight-entry log; a full log loses its oldest (R314). -/
def State.fstLog (s : State) (off symbols : Nat) (uncorr hard : Bool) (rd : Nat) : State :=
  let held := s.fld F.FST_ERR_HEAD_HELD
  let i := if held = 0 then 0 else (s.fld F.FST_ERR_HEAD_NEWEST + 1) % 8
  let info := symbols + (if uncorr then 8 else 0) + (if hard then 16 else 0) + 32 * rd
    + 2 ^ 16 * (s.frame.toNat % 2 ^ 16)
  let s1 := s.setReg (R.FST_ERR_ADDR i) (BitVec.ofNat 32 (off / 64 * 64))
  let s2 := s1.setReg (R.FST_ERR_INFO i) (BitVec.ofNat 32 info)
  (s2.setFld F.FST_ERR_HEAD_NEWEST i).setFld F.FST_ERR_HEAD_HELD (min 8 (held + 1))

/-- The common part of every uncorrectable read (R310): counted, logged, an event and a fault log record. -/
def State.fstUncorr (s : State) (off rd : Nat) : State :=
  let s1 := (s.countUp F.FST_ECC_CNT_UNCORR).setFlag F.FST_EVENT_UNCORR true
  let s2 := s1.fstLog off 0 true false rd
  s2.eventLogged 5 1 (leBytes 4 off ++ [BitVec.ofNat 8 rd])

/-- A corrected codeword (R308, R314). -/
def State.fstCorr (s : State) (off symbols rd : Nat) : State :=
  ((s.countUp F.FST_ECC_CNT_CORR).setFlag F.FST_EVENT_CORR true).fstLog off symbols false false rd

/-! ### Codewords (R297, R307 to R310) -/

/-- Is the block of a codeword initialised (R297)? -/
def State.wordInit (s : State) (cw : Nat) : Bool := mapGet (fun _ => false) s.vid.initBlk (cw / 64)

/-- The errors that a codeword has. -/
def State.errsOf (s : State) (cw : Nat) : SymErrs := mapGet (fun _ => []) s.vid.flips cw

/-- The state with the errors of a codeword replaced. -/
def State.setErrs (s : State) (cw : Nat) (e : SymErrs) : State :=
  { s with vid := { s.vid with flips := mapSet (fun _ => []) s.vid.flips cw e } }

/-- Errors that strike the store. Those of an uninitialised block change nothing: its content is not read (R297). -/
def State.upset (s : State) (ups : Upsets) : State :=
  ups.foldl (fun s p => if s.wordInit p.1 then s.setErrs p.1 (errsAdd (s.errsOf p.1) p.2) else s) s

/-- The codewords that `n` bytes from an offset on meet are encoded afresh: their errors are gone. -/
def State.encodeAfresh (s : State) (off n : Nat) : State :=
  { s with vid := { s.vid with flips := s.vid.flips.filter fun p => !decide (off < 64 * p.1 + 64 ∧ 64 * p.1 < off + n) } }

/-- Data symbols changed where errors are left in them: what a miscorrected read gives (R308). -/
def State.flipData (s : State) (cw : Nat) (left : SymErrs) : State :=
  left.foldl (fun s x =>
    let a := fstBase + 64 * cw + x.1
    if x.1 < 64 then s.setByte a (s.byte a ^^^ BitVec.ofNat 8 x.2) else s) s

/-- The store as a read saw it: the errors that it left in codewords. -/
def State.seen (s : State) (l : Upsets) : State := l.foldl (fun s p => s.flipData p.1 p.2) s

/-- A codeword read: none where it is uncorrectable, else the errors left in what is read; counted and logged (R308, R310, R314). -/
def State.readWord (s : State) (rd : Option Reader) (detect : Bool) (cw : Nat) : Option SymErrs × State :=
  match rsRead detect (s.errsOf cw) with
  | .bad => let (c, s1) := s.readerCode rd; (none, s1.fstUncorr (64 * cw) c)
  | .good 0 left => (some left, s)
  | .good (n + 1) left => let (c, s1) := s.readerCode rd; (some left, s1.fstCorr (64 * cw) (n + 1) c)

/-- What a read of several codewords gives so far: the uncorrectable ones, the errors left, the state. -/
structure WordsRead where
  bad : List Nat
  left : Upsets
  st : State

/-- One more codeword with errors, where it is read. -/
def WordsRead.more (r : WordsRead) (rd : Reader) (detect : Bool) (hit : Nat → Bool) (p : Nat × SymErrs) : WordsRead :=
  if !hit p.1 then r
  else
    match r.st.readWord (some rd) detect p.1 with
    | (none, s1) => { r with bad := r.bad ++ [p.1], st := s1 }
    | (some [], s1) => { r with st := s1 }
    | (some l, s1) => { r with left := r.left ++ [(p.1, l)], st := s1 }

/-- The codewords for which `hit` says so are read by `rd`; those without errors need no word. -/
def State.readWords (s : State) (rd : Reader) (detect : Bool) (hit : Nat → Bool) : WordsRead :=
  s.vid.flips.foldl (fun r p => r.more rd detect hit p) ⟨[], [], s⟩

/-- Bytes stored, every 4 KiB block that they meet initialised, and write-backs of the scrub unit in flight cancelled where they meet
(R297, R312). -/
def State.fstPut (s : State) (off : Nat) (bs : List Byte) : State :=
  let n := bs.length
  let s1 := s.setBytes (fstBase + off) bs
  let blocks := if n = 0 then [] else (List.range ((off + n - 1) / 4096 - off / 4096 + 1)).map (off / 4096 + ·)
  let cut := fun (x : ScrubFix) => if off < x.off + 64 ∧ x.off < off + n then { x with cut := true } else x
  { s1 with vid := { s1.vid with
      initBlk := blocks.foldl (fun m b => mapSet (fun _ => false) m b true) s1.vid.initBlk
      scrubFly := s1.vid.scrubFly.map fun f => { f with fixes := f.fixes.map cut } } }

/-- A write to the frame store. A codeword that it covers is encoded afresh; of one that it covers in part the rest is read first,
corrected; where that read is uncorrectable the codeword stays as it is and the write is refused (R309). The refused codewords. -/
def State.fstStore (s : State) (rd : Option Reader) (off : Nat) (bs : List Byte) : List Nat × State :=
  let n := bs.length
  let one := fun (r : List Nat × State) (p : Nat × SymErrs) =>
    let lo := 64 * p.1
    if ¬(off < lo + 64 ∧ lo < off + n) then r
    else if off ≤ lo ∧ lo + 64 ≤ off + n then (r.1, r.2.setErrs p.1 [])
    else
      match r.2.readWord rd false p.1 with
      | (none, s1) => (r.1 ++ [p.1], s1.setFlag F.FST_EVENT_PARTIAL_REFUSED true)
      | (some left, s1) => (r.1, (s1.flipData p.1 left).setErrs p.1 [])
  let (bad, s1) := s.vid.flips.foldl one ([], s)
  let keep := bs.zipIdx.map fun b => if bad.contains ((off + b.2) / 64) then s1.byte (fstBase + off + b.2) else b.1
  (bad, s1.fstPut off (if bad.isEmpty then bs else keep))

/-- A write of the pixel engine, in the WRITE class (R295). -/
def State.fstWrite (s : State) (off : Nat) (bs : List Byte) : State :=
  ((s.fstStore none off bs).2).ask rankWrite (wordsOf off bs.length)

/-- `n` bytes of the frame store. -/
def State.fstRead (s : State) (off n : Nat) : List Byte := s.bytes (fstBase + off) n

/-- The 30 bits of a pixel, R lowest (R299). -/
def Px.pack (p : Px) : Nat := p.r % 1024 + 1024 * (p.g % 1024) + 1048576 * (p.b % 1024)

/-- A pixel from its 30 bits. -/
def Px.unpack (v : Nat) : Px := ⟨v % 1024, v / 1024 % 1024, v / 1048576 % 1024⟩

/-- Black. -/
def Px.black : Px := ⟨0, 0, 0⟩

/-- The pixel at column `x` of the stored line at an offset (R299). -/
def State.rawPixel (s : State) (line x : Nat) : Px :=
  let bit := 30 * x
  Px.unpack (s.mle (fstBase + line + bit / 8) 5 >>> (bit % 8))

/-- The state with a pixel of a stored line written (R299). -/
def State.setRawPixel (s : State) (line x : Nat) (p : Px) : State :=
  let bit := 30 * x
  let a := line + bit / 8
  let sh := bit % 8
  let n := ceilDiv (sh + 30) 8
  let old := s.mle (fstBase + a) n
  let v := old - (old >>> sh) % 2 ^ 30 * 2 ^ sh + p.pack * 2 ^ sh
  s.fstWrite a (leBytes n v)

/-! ### Planes and their stores -/

/-- A plane's subscription. -/
def State.plane (s : State) (i : Nat) : Plane := s.vid.planes.getD i Plane.reset

/-- The store of a plane: two overlay planes of one stream share store 1 (R305). -/
def State.storeOf (s : State) (i : Nat) : Nat :=
  if i = 2 ∧ (s.plane 2).stream.isSome = true ∧ (s.plane 2).stream = (s.plane 1).stream then 1 else i

/-- A store. -/
def State.store (s : State) (i : Nat) : Store := s.vid.stores.getD i Store.reset

/-- The state with a store replaced. -/
def State.setStore (s : State) (i : Nat) (st : Store) : State :=
  { s with vid := { s.vid with stores := listSet s.vid.stores i st } }

/-- A stream. -/
def State.stream (s : State) (i : Nat) : Stream := s.vid.streams.getD i Stream.reset

/-- The state with a stream replaced. -/
def State.setStream (s : State) (i : Nat) (st : Stream) : State :=
  { s with vid := { s.vid with streams := listSet s.vid.streams i st } }

/-- The crop of a plane in its stream: the base plane's has the panel's size (R250). -/
def State.crop (s : State) (i : Nat) : Rect :=
  let p := s.plane i
  if i = 0 then ⟨p.cropX, p.cropY, s.hActive, s.vActive⟩ else ⟨p.cropX, p.cropY, p.w, p.h⟩

/-- Is a stream subscribed by a plane (R251)? -/
def State.subscribed (s : State) (st : Nat) : Bool := s.vid.planes.any fun p => decide (p.stream = some st)

/-- The crops of the planes that subscribe to a stream. -/
def State.crops (s : State) (st : Nat) : List Rect :=
  ([0, 1, 2].filter fun i => decide ((s.plane i).stream = some st)).map s.crop

/-- A bitmap of the subscribed streams (INL_SUBS). -/
def State.subs (s : State) : Nat :=
  ([0, 1, 2].filterMap fun i => (s.plane i).stream).foldl (fun a k => a ||| 1 <<< k) 0

/-- Bytes one slot of an overlay store takes: the crop rounded out to whole tiles at 30 bits per pixel (R305). -/
def overlaySlot (r : Rect) : Nat := 960 * ceilDiv r.w 256 * (16 * ceilDiv r.h 16)

/-- The geometry that a store takes for a stream and a rectangle of it. The second overlay store lies at the end of the
area (log entry 13). -/
def State.mkGeo (s : State) (i : Nat) (st : Option Nat) (r : Rect) : Geo :=
  let x := s.stream (st.getD 0)
  if i = 0 then ⟨st, r, 0, linePitch s.hActive, slotPitch, x.width, x.height⟩
  else
    let b := overlaySlot r
    ⟨st, r, if i = 1 then overlayArea else overlayArea + overlaySize - 4 * b, 960 * ceilDiv r.w 256, b, x.width, x.height⟩

/-- The rectangle of its stream that a store holds: two overlays of one stream share the bounding rectangle of their crops
(R305). -/
def State.storeRect (s : State) (i : Nat) : Rect :=
  if i = 1 && s.storeOf 2 = 1 then (s.crop 1).join (s.crop 2) else s.crop i

/-- The stream that a store is written from; store 2 is not used while plane 2 shares store 1. -/
def State.storeStream (s : State) (i : Nat) : Option Nat := if s.storeOf i = i then (s.plane i).stream else none

/-- Tiles per row of a geometry (R300). -/
def Geo.cols (g : Geo) : Nat := ceilDiv g.rect.w 256

/-- The tile of a pixel of the stored rectangle. -/
def Geo.tile (g : Geo) (lx ly : Nat) : Nat := ly / 16 * g.cols + lx / 256

/-- The stored rectangle's part that a tile covers, in the rectangle's own coordinates (R300). -/
def Geo.tileRect (g : Geo) (t : Nat) : Rect :=
  let c := max 1 g.cols
  Rect.meet ⟨256 * (t % c), 16 * (t / c), 256, 16⟩ ⟨0, 0, g.rect.w, g.rect.h⟩

/-- The frame store offset of line `ly` of slot `k`. -/
def Geo.line (g : Geo) (k ly : Nat) : Nat := g.base + k * g.slotBytes + ly * g.pitch

/-- A map's entry for a tile. -/
def tileIn (m : TileMap) (t : Nat) : TileAt := mapGet (fun _ => ⟨0, false⟩) m t

/-- The map with the entry for a tile replaced. -/
def setTile (m : TileMap) (t : Nat) (e : TileAt) : TileMap := mapSet (fun _ => ⟨0, false⟩) m t e

/-- The slot that a map names for a tile. -/
def slotIn (m : TileMap) (t : Nat) : Nat := (tileIn m t).slot

/-- Has a map a tile marked POISON? -/
def poisonIn (m : TileMap) : Bool := m.any (·.2.poison)

/-- A truth value that a map holds for a tile. -/
def flagIn (m : List (Nat × Bool)) (t : Nat) : Bool := mapGet (fun _ => false) m t

/-- A pixel of the displayed picture of a store, by column and line of its rectangle (R301). -/
def State.shownPixel (s : State) (i lx ly : Nat) : Px :=
  let st := s.store i
  s.rawPixel (st.shownGeo.line (slotIn st.displayed (st.shownGeo.tile lx ly)) ly) lx

/-! ### Building (R302 to R304) -/

/-- The lowest slot of 0 to 3 that none of the named ones is (R302). -/
def freeSlot (named : List Nat) : Nat := ([0, 1, 2, 3].find? fun k => !named.contains k).getD 0

/-! ### Damage (R279) -/

/-- The damaged box of a stream. -/
def State.damage (s : State) (st : Nat) : Rect :=
  ⟨s.fld (F.SLU_DMG_XY_X st), s.fld (F.SLU_DMG_XY_Y st), s.fld (F.SLU_DMG_WH_W st), s.fld (F.SLU_DMG_WH_H st)⟩

/-- The state with a stream's damaged box replaced. -/
def State.setDamage (s : State) (st : Nat) (r : Rect) : State :=
  (s.setReg (R.SLU_DMG_XY st) (BitVec.ofNat 32 (r.x + 2 ^ 16 * r.y))).setReg (R.SLU_DMG_WH st)
    (BitVec.ofNat 32 (r.w + 2 ^ 16 * r.h))

/-- A region clipped to the stream's subscribed crops. -/
def State.clipCrops (s : State) (st : Nat) (r : Rect) : Rect :=
  (s.crops st).foldl (fun a c => a.join (r.meet c)) ⟨0, 0, 0, 0⟩

/-- The damaged box enlarged to cover a region. -/
def State.addDamage (s : State) (st : Nat) (r : Rect) : State :=
  s.setDamage st ((s.damage st).join (s.clipCrops st r))

/-! ### Tile copies (R302, R310) -/

/-- The bytes of a slot that line `ly` of a rectangle of the store lies in: first byte and length. -/
def Geo.piece (g : Geo) (k : Nat) (r : Rect) (ly : Nat) : Nat × Nat :=
  let a := g.line k ly + 30 * r.x / 8
  (a, g.line k ly + (30 * (r.x + r.w) + 7) / 8 - a)

/-- Does a codeword hold bytes of a rectangle of a slot? -/
def Geo.holds (g : Geo) (k : Nat) (r : Rect) (cw : Nat) : Bool :=
  (List.range r.h).any fun dy =>
    let p := g.piece k r (r.y + dy)
    decide (p.1 < 64 * cw + 64 ∧ 64 * cw < p.1 + p.2)

/-- The codewords that a pixel of a stored line lies in (R299). -/
def pixelWords (line x : Nat) : List Nat := [(line + 30 * x / 8) / 64, (line + (30 * x + 29) / 8) / 64]

/-- `n` pixels of a line copied from slot to slot, as the read of `v` saw them; a pixel of an uncorrectable codeword is left
open. -/
def State.copyPiece (v : State) (bad : List Nat) (g : Geo) (ks kd ly : Nat) : Nat → Nat → State → State
  | 0, _, s => s
  | n + 1, lx, s =>
    let (p, s1) := if (pixelWords (g.line ks ly) lx).any bad.contains then
        (let (d, s1) := s.draw (2 ^ 30); (Px.unpack d, s1))
      else (v.rawPixel (g.line ks ly) lx, s)
    copyPiece v bad g ks kd ly n (lx + 1) (s1.setRawPixel (g.line kd ly) lx p)

/-- A rectangle of a slot is to be written whole: its codewords are encoded afresh (R309). -/
def State.freshTile (s : State) (g : Geo) (k : Nat) (r : Rect) : State :=
  (List.range r.h).foldl (fun s dy => let p := g.piece k r (r.y + dy); s.encodeAfresh p.1 p.2) s

/-- A tile copied from slot to slot: read through correction, in the WRITE class; with an uncorrectable codeword the tile joins the
stream's damaged region (R295, R302, R310). -/
def State.copyTile (s : State) (g : Geo) (ks kd : Nat) (r : Rect) : State :=
  let rd := s.readWords .tileCopy false (g.holds ks r)
  let v := rd.st.seen rd.left
  let s1 := match g.stream with
    | some st => if rd.bad.isEmpty then rd.st else rd.st.addDamage st ⟨r.x + g.rect.x, r.y + g.rect.y, r.w, r.h⟩
    | none => rd.st
  let s2 := (s1.ask rankWrite (15 * r.h)).freshTile g kd r
  ((List.range r.h).foldl (fun s dy => State.copyPiece v rd.bad g ks kd (r.y + dy) r.w r.x s) s2).countUp F.FST_COPY_CNT_COPIES

/-- BUILD at the start of a build: a copy of the newest of READY and DISPLAYED (R302). -/
def Store.start (st : Store) : Store :=
  if st.building then st
  else { st with build := st.ready.getD st.displayed, built := [], building := true }

/-- Tile `t` taken to slot `k` of a store: copied from the slot that BUILD names, unless the segment covers it, which also clears
POISON (R302, R310). -/
def State.takeTile (s : State) (g : Geo) (old : TileAt) (k t : Nat) (direct : Bool) : TileAt × State :=
  let r := g.tileRect t
  if direct then (⟨k, false⟩, s.freshTile g k r) else (⟨k, old.poison⟩, s.copyTile g old.slot k r)

/-- The map with POISON of a tile cleared, where a segment covers it (R310). -/
def coverTile (m : TileMap) (t : Nat) (direct : Bool) : TileMap :=
  if direct then setTile m t { tileIn m t with poison := false } else m

/-- The store with tile `t` opened for writing, into NEXT or BUILD, by a segment whose rectangle in the store's own
coordinates is `seg`: the tile is copied first unless the segment covers it (R302). -/
def State.openTile (s : State) (i t : Nat) (toNext : Bool) (seg : Rect) : State :=
  let st := (s.store i).start
  let direct := seg.covers (st.geo.tileRect t)
  let rdy := match st.ready with
    | some m => [slotIn m t]
    | none => []
  if toNext then
    if flagIn st.nextTiles t then s.setStore i { st with next := coverTile st.next t direct }
    else
      let k := freeSlot ([slotIn st.displayed t, slotIn st.build t] ++ rdy)
      let (e, s1) := s.takeTile st.geo (tileIn st.build t) k t direct
      s1.setStore i { st with next := setTile st.next t e, nextTiles := mapSet (fun _ => false) st.nextTiles t true }
  else
    if flagIn st.built t then s.setStore i { st with build := coverTile st.build t direct }
    else
      let nx := if flagIn st.nextTiles t then [slotIn st.next t] else []
      let k := freeSlot ([slotIn st.displayed t] ++ rdy ++ nx)
      let (e, s1) := s.takeTile st.geo (tileIn st.build t) k t direct
      s1.setStore i { st with build := setTile st.build t e, built := mapSet (fun _ => false) st.built t true }

/-- A decoded pixel at stream coordinates written into one store, where a crop of its stream holds it (R251, R302). -/
def State.storePixel (s : State) (i : Nat) (stream : Nat) (toNext : Bool) (seg : Rect) (x y : Nat) (p : Px) : State :=
  let g := (s.store i).geo
  if g.stream = some stream ∧ g.rect.has x y = true ∧ (s.crops stream).any (·.has x y) = true then
    let lx := x - g.rect.x
    let ly := y - g.rect.y
    let t := g.tile lx ly
    let m := seg.meet g.rect
    let own : Rect := if m.empty then ⟨0, 0, 0, 0⟩ else ⟨m.x - g.rect.x, m.y - g.rect.y, m.w, m.h⟩
    let s1 := s.openTile i t toNext own
    let st := s1.store i
    let k := if toNext then slotIn st.next t else slotIn st.build t
    s1.setRawPixel (g.line k ly) lx p
  else s

/-- The stores in use. -/
def State.activeStores (s : State) : List Nat :=
  ([0, 1, 2].map s.storeOf).foldl (fun l i => if l.contains i then l else l ++ [i]) []

/-- A decoded pixel written to every store of its stream; counted as written (R261, R305). -/
def State.putPixel (s : State) (stream : Nat) (toNext : Bool) (seg : Rect) (x y : Nat) (p : Px) : State :=
  if (s.crops stream).any (·.has x y) then
    (s.activeStores.foldl (fun s i => s.storePixel i stream toNext seg x y p) s).countUp F.SLU_PIX_CNT_VAL
  else s

/-- Tiles of NEXT taken into BUILD, each replacing BUILD's entry (R279, R304). -/
def Store.takeNext (st : Store) : Store :=
  let st1 := st.nextTiles.foldl (fun (a : Store) p =>
    { a with build := setTile a.build p.1 (tileIn st.next p.1), built := mapSet (fun _ => false) a.built p.1 true }) st
  { st1 with next := [], nextTiles := [] }

/-- BUILD becomes READY, and NEXT the new BUILD (R304). -/
def Store.complete (st : Store) (host : Word) : Store :=
  let st0 := st.start
  let st1 := { st0 with ready := some st0.build, readyHost := host, readySeq := st0.seq, seq := st0.seq + 1, building := false, built := [] }
  if st1.nextTiles.isEmpty then st1 else ((st1.start).takeNext)

/-- The flip: READY becomes DISPLAYED (R304). -/
def Store.flip (st : Store) : Store :=
  match st.ready with
  | none => st
  | some m => { st with displayed := m, shown := true, ready := none, host := st.readyHost, shownGeo := st.geo }

/-- The back slots of a stream abandoned: BUILD, NEXT and READY are given up (R248). -/
def Store.abandon (st : Store) : Store :=
  { st with ready := none, build := [], built := [], building := false, next := [], nextTiles := [], seq := st.seq + 1 }

/-- Is any displayed tile of the base plane poisoned (FST_STATUS.POISONED, R310)? -/
def State.poisoned (s : State) : Bool := s.vid.stores.any fun st => poisonIn st.displayed

/-- A map with tile `t` marked POISON where it names slot `k` for it. -/
def markTile (m : TileMap) (t k : Nat) : TileMap := if slotIn m t = k then setTile m t ⟨k, true⟩ else m

/-- A tile of the displayed picture marked POISON; a map that names the same slot for it holds the same content (R310). -/
def State.poison (s : State) (i t : Nat) : State :=
  let st := s.store i
  let k := slotIn st.displayed t
  (s.setStore i { st with
    displayed := markTile st.displayed t k
    ready := st.ready.map fun m => markTile m t k
    build := if st.building then markTile st.build t k else st.build
    next := if flagIn st.nextTiles t then markTile st.next t k else st.next }).countUp F.FST_COPY_CNT_POISON

/-- Does the base plane hold a complete host frame (R102): one without an uncorrectable error, on a base plane that has not been
given a stream which has never delivered a FRAME_READY? -/
def State.hostFrame (s : State) : Bool :=
  let st := s.store 0
  st.shown && st.shownGeo.stream.isSome && !poisonIn st.displayed &&
    match (s.plane 0).stream with
    | some k => (s.stream k).everReady
    | none => true

/-- Does the base plane's stream have a complete slot on the glass (R105)? -/
def State.hostShown (s : State) : Bool :=
  s.hostFrame && (s.plane 0).stream.isSome && decide ((s.store 0).shownGeo.stream = (s.plane 0).stream)

end Sys2Proof.Machine
end

