-- ==== Sys2Proof/Machine/Codec.lean ====
section
/-! DEFINITION. The Sluice bitstream (R256 to R275) as functions on data: reading codes, the tokens, prediction,
adaptation, and the decode of a whole segment for the readers that hold all of it (DMR, ODV). -/

namespace Sys2Proof.Machine

/-! ### End codes (R277) -/

abbrev endOk : Nat := 0
abbrev endIllegal : Nat := 1
abbrev endDistance : Nat := 2
abbrev endOverrun : Nat := 3
abbrev endBounds : Nat := 4
abbrev endHeaderCrc : Nat := 5
abbrev endNear : Nat := 6
abbrev endLink : Nat := 8
abbrev endCfg : Nat := 9
abbrev endDiscarded : Nat := 10

/-! ### Reading bits (R7) -/

/-- What reading bits gives: a value and the position after it, or too few bits so far. -/
inductive Rd (α : Type) where
  | ok (v : α) (pos : Nat)
  | short
deriving DecidableEq, Repr

/-- Sequencing of reads. -/
def Rd.bind {α β : Type} (r : Rd α) (f : α → Nat → Rd β) : Rd β :=
  match r with
  | .ok v p => f v p
  | .short => .short

/-- Bit `p` of the data, most significant first within each byte (R7). -/
def dataBit (d : List Byte) (p : Nat) : Option Bool :=
  match d[p / 8]? with
  | some b => some (b.toNat.testBit (7 - p % 8))
  | none => none

/-- `n` bits, most significant first. -/
def rdBits (d : List Byte) : Nat → Nat → Nat → Rd Nat
  | 0, p, acc => .ok acc p
  | n + 1, p, acc =>
    match dataBit d p with
    | none => .short
    | some b => rdBits d n (p + 1) (2 * acc + if b then 1 else 0)

/-- A run of bits equal to `v`, at most `lim` of them: its length; the stop bit is not consumed. -/
def rdRun (d : List Byte) (v : Bool) : Nat → Nat → Nat → Rd Nat
  | 0, p, n => .ok n p
  | lim + 1, p, n =>
    match dataBit d p with
    | none => .short
    | some b => if b = v then rdRun d v lim (p + 1) (n + 1) else .ok n p

/-! ### Prediction and adaptation (R266 to R270) -/

/-- Component `i` of a pixel in coding order. -/
def Px.comp (p : Px) : Nat → Nat
  | 0 => p.r
  | 1 => p.g
  | _ => p.b

/-- M of a component (R267). -/
def midOf (depth : Nat) (xform : Bool) (i : Nat) : Nat := if xform && i != 0 then 0 else 2 ^ (depth - 1)

/-- The neighbours a, b, c of a component at column `x`, row `y` of a segment `w` wide; `hist` has the pixels produced,
latest first (R267). -/
def neighbours (depth : Nat) (xform : Bool) (w x y : Nat) (hist : List Px) (i : Nat) : Nat × Nat × Nat :=
  let m := midOf depth xform i
  let left := (hist.getD 0 Px.black).comp i
  let above := (hist.getD (w - 1) Px.black).comp i
  let corner := (hist.getD w Px.black).comp i
  if x = 0 then (if y = 0 then (m, m, m) else (above, above, above))
  else if y = 0 then (left, left, left)
  else (left, above, corner)

/-- The prediction (R268). -/
def predict (code a b c : Nat) : Nat :=
  match code with
  | 0 => a
  | 1 => b
  | 2 => if max a b ≤ c then min a b else if c ≤ min a b then max a b else a + b - c
  | _ => (a + b) / 2

/-- The prediction of component `i` of the next pixel. -/
def predComp (depth : Nat) (xform : Bool) (code w done : Nat) (hist : List Px) (i : Nat) : Nat :=
  let (a, b, c) := neighbours depth xform w (done % max 1 w) (done / max 1 w) hist i
  predict code a b c

/-- The predicted pixel. -/
def predPx (depth : Nat) (xform : Bool) (code w done : Nat) (hist : List Px) : Px :=
  let f := predComp depth xform code w done hist
  ⟨f 0, f 1, f 2⟩

/-- The decoded component from its prediction and code value (R269). -/
def reconstruct (depth q p m : Nat) : Nat :=
  let e : Int := if m % 2 = 0 then (m / 2 : Nat) else -(((m + 1) / 2 : Nat) : Int)
  if q = 1 then ((p + e) % (2 ^ depth : Nat)).toNat
  else (clampInt (p + e * q) 0 ((2 ^ depth - 1 : Nat) : Int)).toNat

/-- A and N at the start of a segment (R270). -/
def adaptStart (depth : Nat) : Nat × Nat := (max 2 ((2 ^ depth + 32) / 64), 1)

/-- k of a pair: the smallest from 0 to D − 1 with N << k at least A, else D − 1 (R270). -/
def adaptK (depth : Nat) (an : Nat × Nat) : Nat :=
  ((List.range depth).find? fun k => decide (an.1 ≤ an.2 * 2 ^ k)).getD (depth - 1)

/-- The pair after a code of value `m` (R270). -/
def adaptNext (an : Nat × Nat) (m : Nat) : Nat × Nat :=
  if an.2 + 1 = 64 then ((an.1 + m) / 2, 32) else (an.1 + m, an.2 + 1)

/-- R, G, B of a pixel in the coding domain (R266). -/
def toRgb (depth : Nat) (xform : Bool) (p : Px) : Px :=
  if xform then ⟨(p.g + p.r) % 2 ^ depth, p.r, (p.b + p.r) % 2 ^ depth⟩ else p

/-- The coding domain of an R, G, B pixel (R266). -/
def ofRgb (depth : Nat) (xform : Bool) (p : Px) : Px :=
  if xform then ⟨p.g, (p.r + 2 ^ depth - p.g) % 2 ^ depth, (p.b + 2 ^ depth - p.g) % 2 ^ depth⟩ else p

/-- A component of 8 bits widened to 10 (R261); one of 10 stays. -/
def widen (depth v : Nat) : Nat := if depth = 8 then v * 4 + v / 64 else v

/-! ### Tokens (R263) -/

/-- TOKEN code of SLU_ENG (R293). -/
def Token.code : Token → Nat
  | .pix => 1 | .zrun => 2 | .match => 3 | .lit => 4 | .pred => 5

/-- The coded bytes received so far: padding is not coded data (R260). -/
def Seg.coded (g : Seg) : List Byte := g.data.take g.head.codedLen

/-- Pixels of a segment. -/
def SegHead.total (h : SegHead) : Nat := h.w * h.h

/-- How much of what was produced later pixels can still name: the window of 16,384 and the row above (R267, R272). -/
def SegHead.keep (h : SegHead) : Nat := max 16384 (h.w + 1)

/-- A segment after one more pixel in the coding domain. -/
def Seg.push (g : Seg) (p : Px) : Seg := { g with hist := (p :: g.hist).take g.head.keep, done := g.done + 1 }

/-! ### An engine bit by bit (R263 to R275, R283) -/

/-- What a bit leads to: more bits, pixels to be made, the end of a token without pixels, or a fault with its end code. -/
inductive BitRes where
  | on
  | due
  | over
  | bad (code : Nat)
deriving DecidableEq, Repr

/-- A token ends, and the next one begins here; each pixel of raw data is read as a literal pixel by itself (R262). -/
def Seg.between (g : Seg) : Seg :=
  { g with
    tok := none, field := if g.head.raw then .comp g.head.depth 0 else .pre 0, comps := [], lits := [], left := 1
    tokPos := g.pos, tokAt := g.done }

/-- The segment with its prefix read. -/
def Seg.named (g : Seg) (t : Token) (f : Field) : Seg := { g with tok := some t, field := f, comps := [], left := 0 }

/-- Bit `b` of the prefix, after `n` ones (R263). -/
def Seg.preBit (g : Seg) (n : Nat) (b : Bool) : Seg × BitRes :=
  if b then (if n = 4 then (g, .bad endIllegal) else ({ g with field := .pre (n + 1) }, .on))
  else
    match n with
    | 0 => (g.named .pix (.ones 0), .on)
    | 1 => (g.named .zrun (.zeros 0), .on)
    | 2 => (g.named .match (.zeros 0), .on)
    | 3 => (g.named .lit (.zeros 0), .on)
    | _ => (g.named .pred (.code 2 0), .on)

/-- An EG0 code of a token has been read, with value `v`: a length, or the distance of a MATCH (R263, R272, R275). -/
def Seg.eg0 (g : Seg) (v : Nat) : Seg × BitRes :=
  let room := g.head.total - g.done
  match g.tok with
  | some .match =>
    if g.left = 0 then
      (if room < v + 2 then (g, .bad endOverrun) else ({ g with left := v + 2, field := .zeros 0 }, .on))
    else if 16384 < v + 1 ∨ g.done < v + 1 then (g, .bad endDistance)
    else ({ g with dist := v + 1, field := .make }, .due)
  | some .lit =>
    if room < v + 1 then (g, .bad endOverrun)
    else ({ g with left := v + 1, lits := [], field := .comp g.head.depth 0 }, .on)
  | _ => if room < v + 1 then (g, .bad endOverrun) else ({ g with left := v + 1, field := .make }, .due)

/-- A residue code has been read, with value `m` (R265, R269, R270). -/
def Seg.residue (g : Seg) (m : Nat) : Seg × BitRes :=
  if 2 ^ g.head.depth ≤ m then (g, .bad endIllegal)
  else
    let i := g.comps.length
    let an := g.adapt.getD i (2, 1)
    let v := reconstruct g.head.depth g.head.q (predComp g.head.depth g.head.xform g.pred g.head.w g.done g.hist i) m
    let g1 : Seg := { g with comps := g.comps ++ [v], adapt := listSet g.adapt i (adaptNext an m), field := .ones 0 }
    if i = 2 then ({ g1 with left := 1, field := .make }, .due) else (g1, .on)

/-- A literal component has been read: R, G, B in turn; the pixels are made once all of them are read (R273, R278). -/
def Seg.litComp (g : Seg) (v : Nat) : Seg × BitRes :=
  let g1 : Seg := { g with field := .comp g.head.depth 0 }
  match g.comps with
  | [r, gr] =>
    let g2 : Seg := { g1 with comps := [], lits := ofRgb g.head.depth g.head.xform ⟨r, gr, v⟩ :: g.lits, left := g.left - 1 }
    if g.left ≤ 1 then ({ g2 with left := g2.lits.length, lits := g2.lits.reverse, field := .make }, .due) else (g2, .on)
  | l => ({ g1 with comps := l ++ [v] }, .on)

/-- k of the component whose residue code is read (R270). -/
def Seg.k (g : Seg) : Nat := adaptK g.head.depth (g.adapt.getD g.comps.length (2, 1))

/-- One bit of a coded segment. Each field is checked as soon as it is read (R275). -/
def Seg.bit (g0 : Seg) (b : Bool) : Seg × BitRes :=
  let g : Seg := { g0 with pos := g0.pos + 1 }
  let up := fun (acc : Nat) => 2 * acc + if b then 1 else 0
  match g.field with
  | .pre n => g.preBit n b
  | .zeros z =>
    if b then (if z = 0 then g.eg0 0 else ({ g with field := .value z 1 }, .on))
    else if z = 15 then (g, .bad endIllegal)
    else ({ g with field := .zeros (z + 1) }, .on)
  | .value n acc => if n ≤ 1 then g.eg0 (up acc - 1) else ({ g with field := .value (n - 1) (up acc) }, .on)
  | .ones u =>
    if b then ({ g with field := if u = 11 then .esc g.head.depth 0 else .ones (u + 1) }, .on)
    else if g.k = 0 then g.residue u
    else ({ g with field := .low g.k 0 u }, .on)
  | .low n acc u => if n ≤ 1 then g.residue (u * 2 ^ g.k + up acc) else ({ g with field := .low (n - 1) (up acc) u }, .on)
  | .esc n acc =>
    if 1 < n then ({ g with field := .esc (n - 1) (up acc) }, .on)
    else if up acc < 12 * 2 ^ g.k then (g, .bad endIllegal)
    else g.residue (up acc)
  | .comp n acc => if n ≤ 1 then g.litComp (up acc) else ({ g with field := .comp (n - 1) (up acc) }, .on)
  | .code n acc => if n ≤ 1 then ({ g with pred := up acc }.between, .over) else ({ g with field := .code (n - 1) (up acc) }, .on)
  | .make => (g0, .due)

/-- Up to `n` bits, until pixels are due, a token ends or a fault; `.on` where the bits run out. -/
def Seg.feed (d : List Byte) : Nat → Seg → Seg × BitRes
  | 0, g => (g, .on)
  | n + 1, g =>
    match dataBit d g.pos with
    | none => (g, .on)
    | some b =>
      match g.bit b with
      | (g1, .on) => Seg.feed d n g1
      | r => r

/-- Bits of coded data received and not read. -/
def Seg.bits (g : Seg) : Nat := 8 * g.coded.length - g.pos

/-- The bits that have arrived are read, up to the pixels or the end of the token in hand. -/
def Seg.read (g : Seg) : Seg × BitRes := if g.field = .make then (g, .due) else Seg.feed g.coded g.bits g

/-- The next pixel of the token whose pixels are due, in the coding domain (R269, R271 to R273). -/
def Seg.nextPx (g : Seg) : Px :=
  match g.tok with
  | some .pix => ⟨g.comps.getD 0 0, g.comps.getD 1 0, g.comps.getD 2 0⟩
  | some .match => g.hist.getD (g.dist - 1) Px.black
  | some .lit | none => g.lits.headD Px.black
  | _ => predPx g.head.depth g.head.xform g.pred g.head.w g.done g.hist

/-- The segment after that pixel. -/
def Seg.made (g : Seg) : Seg :=
  let g1 : Seg := { g.push g.nextPx with left := g.left - 1, lits := g.lits.drop 1 }
  if g.left ≤ 1 then g1.between else g1

/-- The token that an engine is in or at: none while its prefix has not arrived whole; the reserved prefix 11111 is found as a PRED
is. -/
def Seg.token (g : Seg) : Option Token :=
  match g.tok, g.field with
  | some t, _ => some t
  | none, .pre n =>
    match rdRun g.coded true (5 - n) g.pos n with
    | .ok 0 _ => some .pix
    | .ok 1 _ => some .zrun
    | .ok 2 _ => some .match
    | .ok 3 _ => some .lit
    | .ok _ _ => some .pred
    | _ => none
  | none, _ => none

/-- Has all the coded data arrived that will (R260, R275)? -/
def Seg.ended (g : Seg) : Bool := decide (g.head.codedLen ≤ g.data.length) || g.lastIn

/-- The fault found after the last pixel in what has arrived (R260, R275): its code and the offset of the first bit that breaks a rule;
`endOk` where nothing does. -/
def Seg.tail (g : Seg) : Nat × Nat :=
  let cl := g.head.codedLen
  if ceilDiv g.pos 8 ≠ cl then (endOverrun, g.pos)
  else
    match (List.range (8 * cl - g.pos)).find? fun i => decide (dataBit g.coded (g.pos + i) = some true) with
    | some i => (endIllegal, g.pos + i)
    | none =>
      match (List.range (g.data.length - cl)).find? fun i => decide (g.data.getD (cl + i) 0 ≠ 0 ∨ 3 ≤ i) with
      | some i => (endOverrun, 8 * (cl + i))
      | none => (endOk, 0)

/-- A fresh segment over its data. -/
def Seg.start (h : SegHead) (data : List Byte) (lastIn : Bool) : Seg where
  head := h
  data := data
  lastIn := lastIn
  started := false
  pos := 0
  done := 0
  hist := []
  pred := h.pred0
  adapt := List.replicate 3 (adaptStart h.depth)
  tok := none
  field := if h.raw then .comp h.depth 0 else .pre 0
  comps := []
  left := 1
  dist := 0
  lits := []
  tokPos := 0
  tokAt := 0

/-- A raw pixel at bit `p` (R262). -/
def rawPx (d : List Byte) (depth p : Nat) : Rd Px :=
  (rdBits d depth p 0).bind fun r p1 =>
    (rdBits d depth p1 0).bind fun g p2 => (rdBits d depth p2 0).bind fun b p3 => .ok ⟨r, g, b⟩ p3

/-- What a run of an engine to the end gives: the pixels in the coding domain, latest first, the end code, and the segment then. -/
structure Decoded where
  px : List Px
  code : Nat
  seg : Seg
deriving DecidableEq, Repr

/-- A whole segment, until its last pixel or a fault; `fuel` bounds the steps. -/
def decodeTokens : Nat → Seg → List Px → Decoded
  | 0, g, acc => ⟨acc, endOverrun, g⟩
  | fuel + 1, g, acc =>
    if g.done = g.head.total then ⟨acc, g.tail.1, g⟩
    else
      match g.read with
      | (g1, .on) => ⟨acc, endOverrun, g1⟩
      | (g1, .bad c) => ⟨acc, c, g1⟩
      | (g1, .over) => decodeTokens fuel g1 acc
      | (g1, .due) => decodeTokens fuel g1.made (g1.nextPx :: acc)

/-- The column, row and bit offset of the fault that ended a decode (R278). -/
def Decoded.place (d : Decoded) : Nat × Nat × Nat :=
  if d.seg.done = d.seg.head.total then (0, d.seg.head.h, d.seg.tail.2)
  else (d.seg.tokAt % max 1 d.seg.head.w, d.seg.tokAt / max 1 d.seg.head.w, d.seg.tokPos)

/-- All pixels of a segment held whole, in raster order as R, G, B at depth D, and its end code. -/
def decodeWhole (h : SegHead) (data : List Byte) : List Px × Nat :=
  if h.raw && decide (h.codedLen ≠ ceilDiv (h.total * 3 * h.depth) 8) then ([], endOverrun)
  else
    let d := decodeTokens (8 * data.length + h.total + 1) (Seg.start h data true) []
    ((d.px.map (toRgb h.depth h.xform)).reverse, d.code)

/-! ### The header (R257 to R259) -/

/-- The header that 20 bytes spell, before any check. -/
def headOf (bs : List Byte) (stream order : Nat) (toNext : Bool) : SegHead where
  order := order
  stream := stream
  segId := leAt bs 16 2
  x := leAt bs 4 2
  y := leAt bs 6 2
  w := leAt bs 8 2
  h := leAt bs 10 2
  codedLen := leAt bs 12 4
  raw := byteAt bs 1 % 4 = 0
  depth := match byteAt bs 1 / 4 % 4 with
    | 0 => 10
    | 1 => 8
    | _ => 5
  q := 2 * (byteAt bs 1 / 16 % 4) + 1
  xform := byteAt bs 1 / 64 % 2 = 1
  pred0 := byteAt bs 2 % 4
  toNext := toNext

/-- Step 1 of R259. -/
def headCrcOk (bs : List Byte) : Bool := 20 ≤ bs.length && decide (leAt bs 18 2 = crc16 (bs.take 18))

/-- Step 2 of R259, with DEPTH 0b10 accepted only where `panel` says so (R292). -/
def headLegal (panel : Bool) (bs : List Byte) : Bool :=
  let f := byteAt bs 1
  let coding := f % 4
  let depth := f / 4 % 4
  let qs := f / 16 % 4
  let xf := f / 64 % 2
  byteAt bs 0 = 1 && coding < 2 && depth != 3 && qs != 3 && f / 128 = 0 && byteAt bs 2 < 4 && byteAt bs 3 = 0
    && (panel || depth != 2) && (coding != 0 || (qs = 0 && xf = 0)) && (xf = 0 || qs = 0)

/-- Step 3 of R259. -/
def headInside (h : SegHead) (width height : Nat) : Bool :=
  1 ≤ h.w && 1 ≤ h.h && h.w ≤ 7680 && h.x + h.w ≤ width && h.y + h.h ≤ height

/-- The rectangle of a segment. -/
def SegHead.rect (h : SegHead) : Rect := ⟨h.x, h.y, h.w, h.h⟩

end Sys2Proof.Machine
end

