-- ==== Sys2Proof/Machine/Sluice.lean ====
section
/-! DEFINITION. Sluice: segments taken from packets (R256 to R260), the four engines and their queues (R281 to R284),
the end of a segment with its damage (R277 to R280), the completion of a build (R279, R284, R304). -/

namespace Sys2Proof.Machine

/-! ### Tell-tale windows -/

/-- The rectangle of window `i` in force, in panel pixels (R350). -/
def State.windowRect (s : State) (i : Nat) : Rect :=
  ⟨s.liveFld (F.CPS_TT_POS_X i), s.liveFld (F.CPS_TT_POS_Y i), s.liveFld (F.CPS_TT_SIZE_W i), s.liveFld (F.CPS_TT_SIZE_H i)⟩

/-- The windows of the configured tell-tales (R276, R492). -/
def State.configuredWindows (s : State) : List Rect :=
  ((List.range 32).filter fun i => bitOf s.saf.configured i).map s.windowRect

/-- A rectangle of a stream as plane `i` shows it on the panel (R250). -/
def State.onPanel (s : State) (i : Nat) (r : Rect) : Rect :=
  let m := r.meet (s.crop i)
  let p := s.plane i
  if m.empty then m
  else if i = 0 then ⟨m.x - p.cropX, m.y - p.cropY, m.w, m.h⟩
  else ⟨m.x - p.cropX + p.destX, m.y - p.cropY + p.destY, m.w, m.h⟩

/-- Would a segment write inside a configured window (R276)? -/
def State.nearWindow (s : State) (st : Nat) (r : Rect) : Bool :=
  ([0, 1, 2].filter fun i => decide ((s.plane i).stream = some st)).any fun i =>
    s.configuredWindows.any fun w => !((s.onPanel i r).meet w).empty

/-! ### Segments in the engines -/

/-- The segments of an engine's queue, front first. -/
def State.engine (s : State) (e : Nat) : List Seg := s.vid.engines.getD e []

/-- The state with an engine's queue replaced. -/
def State.setEngine (s : State) (e : Nat) (l : List Seg) : State :=
  { s with vid := { s.vid with engines := listSet s.vid.engines e l } }

/-- Bytes waiting in an engine's queue (R281). -/
def State.queueBytes (s : State) (e : Nat) : Nat := ((s.engine e).map fun g => g.data.length - g.pos / 8).sum

/-- Input queue on the die and its spill (R281). -/
abbrev queueDie : Nat := 16384
abbrev queueSpill : Nat := 8388608
abbrev queueCap : Nat := queueDie + queueSpill

/-- Bytes stored on a ring of `n` bytes at `base`, from place `at'` on. -/
def State.ringWrite (s : State) (base n at' : Nat) (bs : List Byte) : State :=
  let k := min bs.length (n - at')
  let s1 := if k = 0 then s else s.fstWrite (base + at') (bs.take k)
  if bs.length ≤ k then s1 else s1.fstWrite base (bs.drop k)

/-- Bytes that enter the queue of engine `e` behind the `q` bytes that wait in it: what the die does not hold goes to the engine's
spill queue in the frame store, on a ring (R281, R298, log entry 83). -/
def State.spillBytes (s : State) (e q : Nat) (bs : List Byte) : State :=
  let out := if queueDie < q then bs else bs.drop (queueDie - q)
  let at' := s.vid.spill.getD e 0
  let s1 := if out.isEmpty then s else s.ringWrite (spillArea + queueSpill * e) queueSpill at' out
  { s1 with vid := { s1.vid with spill := listSet s1.vid.spill e ((at' + out.length) % queueSpill) } }

/-- The engine whose queue holds the fewest bytes, the lowest winning a tie (R281). -/
def State.leastEngine (s : State) : Nat :=
  [1, 2, 3].foldl (fun b e => if s.queueBytes e < s.queueBytes b then e else b) 0

/-- Every segment that has not ended. -/
def State.segments (s : State) : List Seg := s.vid.engines.flatten

/-- Does a stream have a segment of the build in progress that has not ended: one that arrived before the FRAME_READY
with this order (R284)? -/
def State.segmentsBefore (s : State) (st order : Nat) : Bool :=
  s.segments.any fun g => g.head.stream = st && g.head.order < order

/-! ### Completion of a build (R279, R284, R304) -/

/-- The stores that hold a stream. -/
def State.storesOf (s : State) (st : Nat) : List Nat :=
  [0, 1, 2].filter fun i => decide ((s.store i).geo.stream = some st)

/-- Every store of a stream changed. -/
def State.mapStores (s : State) (st : Nat) (f : Store → Store) : State :=
  (s.storesOf st).foldl (fun s i => s.setStore i (f (s.store i))) s

/-- Segments of NEXT become segments of BUILD. -/
def State.nextToBuild (s : State) (st : Nat) : State :=
  { s with vid := { s.vid with engines := s.vid.engines.map fun l => l.map fun g =>
      if g.head.stream = st then { g with head := { g.head with toNext := false } } else g } }

/-- The outstanding FRAME_READY is done with, and one for NEXT takes its place. -/
def Stream.shiftReady (x : Stream) : Stream :=
  { x with frameReady := x.nextReady, readyOrder := x.nextOrder, nextReady := none }

/-- A repeated frame for the stream counted once (R279, R324). -/
def State.lateSegment (s : State) : State :=
  (s.countUp F.SCN_FLIP_CNT_LATE_SEGMENT).setFlag F.SCN_STATUS_LATE_SEGMENT true

/-- A FRAME_READY whose build can complete is tested against the damaged box: with the box empty BUILD becomes READY,
otherwise it is discarded and NEXT is taken into BUILD (R279, R304). -/
def State.tryComplete (s : State) (st : Nat) : State :=
  let x := s.stream st
  match x.frameReady with
  | none => s
  | some host =>
    if s.segmentsBefore st x.readyOrder then s
    else if (s.damage st).empty then
      let s1 := s.mapStores st (·.complete host)
      (s1.nextToBuild st).setStream st { x.shiftReady with everReady := true }
    else
      let s1 := (s.mapStores st fun t => t.start.takeNext).lateSegment
      (s1.nextToBuild st).setStream st x.shiftReady

/-- Both outstanding FRAME_READYs tried in turn. -/
def State.completeBuilds (s : State) (st : Nat) : State := (s.tryComplete st).tryComplete st

/-! ### The end of a segment (R277, R278) -/

/-- The live count of an end code (R293). -/
def State.countEnd (s : State) (code : Nat) : State :=
  match code with
  | 0 => s.countUp F.SLU_SEG_CNT_OK
  | 1 => s.countUp F.SLU_ERR_CNT0_ILLEGAL_CODE
  | 2 => s.countUp F.SLU_ERR_CNT0_DISTANCE_BEYOND_HISTORY
  | 3 => s.countUp F.SLU_ERR_CNT0_LENGTH_OVERRUN
  | 4 => s.countUp F.SLU_ERR_CNT0_SEGMENT_BOUNDS
  | 5 => s.countUp F.SLU_ERR_CNT1_HEADER_CRC
  | 6 => s.countUp F.SLU_ERR_CNT1_NEAR_REFUSED
  | _ => s.countUp F.SLU_ERR_CNT1_ABANDONED_LINK

/-- An end code other than OK recorded: count, error registers, event bits (R278, R293). -/
def State.noteEnd (s : State) (st id code px py bit : Nat) : State :=
  let s1 := (s.countEnd code).setFlag (if code < 7 then F.SLU_EVENT_SEG_ERR else F.SLU_EVENT_ABANDONED) true
  let s2 := s1.setReg R.SLU_LAST_ERR (BitVec.ofNat 32 (code + 16 * st + 2 ^ 16 * id))
  (s2.setReg R.SLU_ERR_POS (BitVec.ofNat 32 (px % 2 ^ 16 + 2 ^ 16 * py))).setReg R.SLU_ERR_BIT (BitVec.ofNat 32 bit)

/-- What an end code leaves: damage, counts, error registers, event (R277 to R279). -/
def State.endCode (s : State) (h : SegHead) (code px py bit : Nat) : State :=
  let st := h.stream
  let x := s.stream st
  if code = endOk then
    let s1 := s.countEnd code
    if h.rect.covers (s1.damage st) then s1.setDamage st ⟨0, 0, 0, 0⟩ else s1
  else
    let region : Rect :=
      if code = endHeaderCrc then ⟨0, 0, x.width, x.height⟩
      else if code = endBounds then h.rect.meet ⟨0, 0, x.width, x.height⟩
      else if code = endCfg then ⟨0, 0, 0, 0⟩
      else h.rect
    let id := if code = endHeaderCrc then 0 else h.segId
    let s6 := (s.addDamage st region).noteEnd st id code px py bit
    let d := s6.damage st
    s6.event 1 code ([BitVec.ofNat 8 st, 0] ++ leBytes 2 id)
      (some (leBytes 2 d.x ++ leBytes 2 d.y ++ leBytes 2 d.w ++ leBytes 2 d.h ++ leBytes 2 px ++ leBytes 2 py
        ++ leBytes 4 bit))

/-- The state of an engine register with no segment in progress. -/
def State.engineIdle (s : State) (e : Nat) : State :=
  let s1 := s.setReg (R.SLU_ENG e) 0
  let clear := fun (s : State) (lo : Nat) => s.setFlag ⟨R.SLU_STATUS, lo + e, 1⟩ false
  clear (clear (clear s1 0) 4) 8

/-- A segment leaves engine `e` with an end code; the rest of it up to its LAST packet is discarded, and a build that
waited for it may complete. The engine's register and its flags are those of the segment at its front. -/
def State.endSegment (s : State) (e : Nat) (g : Seg) (code px py bit : Nat) : State :=
  let rest := (s.engine e).filter fun x => decide (x.head.order ≠ g.head.order)
  let s1 := s.setEngine e rest
  let s2 := if ((s.engine e).head?.map fun x => x.head.order) = some g.head.order then s1.engineIdle e else s1
  let x := s2.stream g.head.stream
  let s3 := if g.lastIn then s2 else s2.setStream g.head.stream { x with receiving := some none }
  (s3.endCode g.head code px py bit).completeBuilds g.head.stream

/-- Column and row of the next pixel of a segment, in segment coordinates. -/
def Seg.at (g : Seg) : Nat × Nat := (g.done % max 1 g.head.w, g.done / max 1 g.head.w)

/-- A segment whose last pixel is produced: the first fault in what has arrived after it ends the segment, and without one it ends
OK once its LAST packet is in (R260, R275, R278). -/
def State.finishSegment (s : State) (e : Nat) (g : Seg) : State :=
  if g.done ≠ g.head.total then s
  else
    let (c, bit) := g.tail
    if c ≠ endOk then s.endSegment e g c 0 g.head.h bit
    else if g.lastIn then s.endSegment e g endOk 0 0 0
    else s

/-! ### Writing decoded pixels -/

/-- The column and row of a segment's token in progress. -/
def Seg.tokPlace (g : Seg) : Nat × Nat := (g.tokAt % max 1 g.head.w, g.tokAt / max 1 g.head.w)

/-- Must the first write to a tile wait, because an earlier segment of the stream that has not ended still has the
tile to write (R303)? -/
def State.tileWaits (s : State) (i : Nat) (h : SegHead) (t : Nat) : Bool :=
  let g := (s.store i).geo
  let tr := g.tileRect t
  let abs : Rect := ⟨tr.x + g.rect.x, tr.y + g.rect.y, tr.w, tr.h⟩
  s.segments.any fun o =>
    o.head.stream = h.stream && o.head.order < h.order &&
      (let m := abs.meet o.head.rect
       !m.empty && o.done ≤ (m.y + m.h - 1 - o.head.y) * o.head.w + (m.x + m.w - 1 - o.head.x))

/-- Does the pixel at index `k` of a segment open a tile that must wait? -/
def State.pixelWaits (s : State) (h : SegHead) (k : Nat) : Bool :=
  let x := h.x + k % max 1 h.w
  let y := h.y + k / max 1 h.w
  s.activeStores.any fun i =>
    let st := s.store i
    decide (st.geo.stream = some h.stream) && st.geo.rect.has x y &&
      (let t := st.geo.tile (x - st.geo.rect.x) (y - st.geo.rect.y)
       !(flagIn (if h.toNext then st.nextTiles else st.built) t) && s.tileWaits i h t)

/-- Does the glass get lines in this frame: the raster runs, the frame is no hold frame, and the gate scan runs (R78, R341)? -/
def State.scanning (s : State) : Bool := s.on .pix && s.rs.running && !s.rs.hold && s.gate.scan

/-- A bypass line that a pixel of the base plane's bypass stream belongs to, where Weir still has a use for it: its raster position
in this frame is not past (R286, R326). -/
def State.bypassRow (s : State) (h : SegHead) (x y : Nat) : Option Nat :=
  let p := s.plane 0
  if p.bypass && decide (p.stream = some h.stream) && (s.crop 0).has x y && s.scanning &&
      decide (s.rs.line < s.vStart + (y - p.cropY)) then some (y - p.cropY) else none

/-- Can Weir not take the pixel at index `k` of a segment of a bypass stream: an earlier band has not ended, or all buffers of the base
plane hold lines that the raster has not consumed (R286, R326, R331)? -/
def State.weirFull (s : State) (h : SegHead) (k : Nat) : Bool :=
  let p := s.plane 0
  p.bypass && decide (p.stream = some h.stream) &&
    ((s.segments.any fun o => o.head.stream = h.stream && o.head.order < h.order) ||
      (match s.bypassRow h (h.x + k % max 1 h.w) (h.y + k / max 1 h.w) with
        | some y => !(s.vid.bypassLines.any fun l => decide (l.1 = y)) &&
            decide (s.liveFld F.SCN_WEIR_BASE_BUF ≤ (s.vid.bypassLines.filter fun l => decide (s.rs.line < s.vStart + l.1)).length
              + (s.pipe.lines.getD 0 []).length)
        | none => false))

/-- A pixel handed to Weir (R27, R286). -/
def State.toWeir (s : State) (y : Nat) (p : Px) : State :=
  let l := mapGet (fun _ => []) s.vid.bypassLines y ++ [p]
  { s with vid := { s.vid with bypassLines := mapSet (fun _ => []) s.vid.bypassLines y l } }

/-- The pixel at index `k` of a segment, given in the coding domain, written: to the stores, and to Weir where its stream is in
bypass (R27, R261, R306). -/
def State.writePixel (s : State) (h : SegHead) (k : Nat) (p : Px) : State :=
  let rgb := toRgb h.depth h.xform p
  let w : Px := ⟨widen h.depth rgb.r, widen h.depth rgb.g, widen h.depth rgb.b⟩
  let x := h.x + k % max 1 h.w
  let y := h.y + k / max 1 h.w
  let s1 := s.putPixel h.stream h.toNext h.rect x y w
  match s.bypassRow h x y with
  | some row => s1.toWeir row w
  | none => s1

/-! ### One step of an engine -/

/-- ENG_STALL_OUT and ENG_STALL_IN of an engine (R283). -/
def stallOut (e : Nat) : Fld := ⟨R.SLU_STATUS, 4 + e, 1⟩
def stallIn (e : Nat) : Fld := ⟨R.SLU_STATUS, 8 + e, 1⟩

/-- TOKEN, ENG_STALL_OUT and ENG_STALL_IN as the engine stands (R283, R293). -/
def State.engineShow (s : State) (e : Nat) (g : Seg) (out' in' : Bool) : State :=
  ((s.setFlag (stallOut e) out').setFlag (stallIn e) in').setFld (F.SLU_ENG_TOKEN e) ((g.tok.map Token.code).getD 0)

/-- The front segment of an engine replaced. -/
def State.setFront (s : State) (e : Nat) (g : Seg) : State := s.setEngine e (g :: (s.engine e).drop 1)

/-- Pixels of the token in hand made and written, up to `n` of them, as long as the frame store and Weir accept them; then the check
after the last pixel (R271 to R273, R278, R283). -/
def State.engineMake (e : Nat) : Nat → State → State
  | 0, s => s
  | n + 1, s =>
    match s.engine e with
    | [] => s
    | g :: _ =>
      if s.pixelWaits g.head g.done || s.weirFull g.head g.done then s.engineShow e g true false
      else
        let g1 := g.made
        let s1 := (s.writePixel g.head g.done g.nextPx).setFront e g1
        if g1.field = .make then State.engineMake e n s1
        else (s1.engineShow e g1 false (g1.bits = 0 && !g1.lastIn)).finishSegment e g1

/-- The front segment of engine `e` goes on with the bits that have arrived, to the end of its token, a fault, or a stall, in which
it keeps all that it has (R263, R275, R278, R283). -/
def State.engineGo (s : State) (e : Nat) : State :=
  match s.engine e with
  | [] => s
  | g :: _ =>
    match g.read with
    | (g1, .bad c) => s.endSegment e g1 c g1.tokPlace.1 g1.tokPlace.2 g1.tokPos
    | (g1, .over) => (s.setFront e g1).engineShow e g1 false (g1.bits = 0 && !g1.lastIn)
    | (g1, .due) => State.engineMake e g1.left (s.setFront e g1)
    | (g1, .on) =>
      if g1.ended then s.endSegment e g1 endOverrun g1.tokPlace.1 g1.tokPlace.2 g1.tokPos
      else (s.setFront e g1).engineShow e g1 false true

/-- The next token of engine `e`, if it is `t` or its prefix has not arrived whole. -/
def State.engineToken (s : State) (e : Nat) (t : Token) : State :=
  match s.engine e with
  | [] => s
  | g :: _ =>
    if !s.acts .pix || !g.started || g.head.raw || g.done = g.head.total then s
    else if g.token = none ∨ g.token = some t then s.engineGo e
    else s

/-- Raw pixels of the front segment of engine `e`, as many as have arrived, up to `n` (R262). -/
def State.engineRaw (e : Nat) : Nat → State → State
  | 0, s => s
  | n + 1, s =>
    match s.engine e with
    | [] => s
    | g :: _ =>
      let s1 := s.engineGo e
      match s1.engine e with
      | [] => s1
      | g1 :: _ =>
        if g1.head.order = g.head.order ∧ g.done < g1.done ∧ g1.done < g1.head.total then State.engineRaw e n s1 else s1

/-- The front segment of engine `e` goes on from where it stopped: raw pixels, or a token that it is within. -/
def State.engineOn (s : State) (e : Nat) : State :=
  match s.engine e with
  | [] => s
  | g :: _ =>
    if !g.started || g.done = g.head.total then s
    else if g.head.raw then State.engineRaw e (g.head.total + 1) s
    else if g.pos = g.tokPos ∧ g.field = .pre 0 then s
    else s.engineGo e

/-- Does an earlier segment of the same stream that has not ended overlap (R282)? -/
def State.overlaps (s : State) (g : Seg) : Bool :=
  s.segments.any fun o => o.head.stream = g.head.stream && o.head.order < g.head.order &&
    !(o.head.rect.meet g.head.rect).empty

/-- Engine `e` starts its front segment, unless R282 makes it wait. -/
def State.engineStart (s : State) (e : Nat) : State :=
  match s.engine e with
  | [] => s
  | g :: _ =>
    if !s.acts .pix || g.started then s
    else if s.overlaps g then s.setFlag (F.SLU_ENG_WAIT_OVERLAP e) true
    else
      let g1 : Seg := { g with started := true }
      let v := g.head.stream + 16 + 2 ^ 16 * g.head.segId
      let s1 := ((s.setFront e g1).setReg (R.SLU_ENG e) (BitVec.ofNat 32 v)).setFlag ⟨R.SLU_STATUS, e, 1⟩ true
      if g.head.raw then
        if g.head.codedLen ≠ ceilDiv (g.head.total * 3 * g.head.depth) 8 then s1.endSegment e g1 endOverrun 0 0 0
        else State.engineRaw e (g.head.total + 1) s1
      else s1.engineShow e g1 false (g1.bits = 0 && !g1.lastIn)

/-- A stall of engine `e` clears, and it resumes from the state that it kept; one longer than 64 clocks counts as an episode
(R283). -/
def State.engineResume (s : State) (e : Nat) (long : Bool) : State :=
  if s.acts .pix && (s.flag (stallIn e) || s.flag (stallOut e)) then
    let s1 := (s.setFlag (stallIn e) false).setFlag (stallOut e) false
    (if long then s1.countUp F.SLU_SEG_CNT_STALLS else s1).engineOn e
  else s

/-! ### Packets into segments (R256 to R259, R280, R281) -/

/-- A segment that ends at its header (R259, R280). -/
def State.endHead (s : State) (h : SegHead) (code : Nat) (last : Bool) : State :=
  let x := s.stream h.stream
  let s1 := s.setStream h.stream { x with receiving := if last then none else some none }
  (s1.endCode h code 0 0 0).completeBuilds h.stream

/-- A FIRST packet (R259, R251, R280, R281). None: the queue is full and the packet waits. -/
def State.firstPacket (s : State) (st : Nat) (last : Bool) (bs : List Byte) : Option State :=
  let x := s.stream st
  let h := headOf bs st s.vid.order x.frameReady.isSome
  let s0 : State := { s with vid := { s.vid with order := s.vid.order + 1 } }
  if !headCrcOk bs then some (s0.endHead { h with x := 0, y := 0, w := 0, h := 0, segId := 0 } endHeaderCrc last)
  else if !headLegal false bs then some (s0.endHead h endIllegal last)
  else if !headInside h x.width x.height then some (s0.endHead h endBounds last)
  else if h.q ≠ 1 ∧ s.nearWindow st h.rect = true then some (s0.endHead h endNear last)
  else if !s.flag F.SLU_CTRL_ENABLE then some (s0.endHead h endDiscarded last)
  else if (s.clipCrops st h.rect).empty then
    some (s0.setStream st { x with receiving := if last then none else some none })
  else
    let e := s.leastEngine
    let data := bs.drop 20
    if queueCap < s.queueBytes e + data.length then none
    else
      let g := Seg.start h data last
      let s0 := s0.spillBytes e (s.queueBytes e) data
      some ((s0.setEngine e (s.engine e ++ [g])).setStream st { x with receiving := if last then none else some (some e) })

/-- Bytes appended to the segment that a stream is receiving in engine `e`. -/
def appendData (st : Nat) (last : Bool) (bs : List Byte) (l : List Seg) : List Seg :=
  l.map fun g => if g.head.stream = st ∧ g.lastIn = false then { g with data := g.data ++ bs, lastIn := last } else g

/-- The payload of a VIDEO_SEG that the module consumes. None: it waits for queue space (R281). -/
def State.segPacket (s : State) (st : Nat) (first last : Bool) (bs : List Byte) : Option State :=
  let x := s.stream st
  if first then
    let s1 := match x.receiving with
      | some (some e) =>
        match (s.engine e).find? fun (g : Seg) => decide (g.head.stream = st) && !g.lastIn with
        | some g => s.endSegment e { g with lastIn := true } endOverrun g.tokPlace.1 g.tokPlace.2 g.tokPos
        | none => s
      | _ => s
    s1.firstPacket st last bs
  else
    match x.receiving with
    | none => some ((s.countUp F.SLU_ERR_CNT1_ORPHAN).setFlag F.SLU_EVENT_ORPHAN true)
    | some none => some (if last then s.setStream st { x with receiving := none } else s)
    | some (some e) =>
      if queueCap < s.queueBytes e + bs.length then none
      else
        let s0 := s.spillBytes e (s.queueBytes e) bs
        let s1 := s0.setEngine e (appendData st last bs (s0.engine e))
        let s2 := if last then s1.setStream st { x with receiving := none } else s1
        match s2.engine e with
        | g :: _ => some (if g.started && decide (g.done = g.head.total) then s2.finishSegment e g else s2)
        | [] => some s2

/-- Every segment that is still arriving ends with ABANDONED_LINK (R232, R277, R280). -/
def State.abandonLink (s : State) : State :=
  (List.range 16).foldl (fun s st =>
    let x := s.stream st
    let s1 := match x.receiving with
      | some (some e) =>
        match (s.engine e).find? fun (g : Seg) => decide (g.head.stream = st) && !g.lastIn with
        | some g => s.endSegment e { g with lastIn := true } endLink g.at.1 g.at.2 g.pos
        | none => s
      | _ => s
    s1.setStream st { s1.stream st with receiving := none }) s

/-- Every segment of a stream that has not ended ends with ABANDONED_CFG and the back slots are given up (R248, R277,
log entry 14). -/
def State.abandonCfg (s : State) (st : Nat) : State :=
  let x := s.stream st
  let s0 := s.setStream st { x with frameReady := none, nextReady := none, everReady := false }
  let s1 := (List.range 4).foldl (fun s e =>
    ((s.engine e).filter fun g => decide (g.head.stream = st)).foldl (fun s g =>
      s.endSegment e g endCfg g.at.1 g.at.2 g.pos) s) s0
  (s1.mapStores st (·.abandon)).setDamage st ⟨0, 0, 0, 0⟩

end Sys2Proof.Machine
end

