-- ==== Sys2Proof/Machine/Hop.lean ====
section
/-! DEFINITION. One hop of the chain: port states (R194), the packet format (R217 to R220), the sender's queues, window,
credits and replay buffer (R225 to R237, R242), the receiver's credits (R233 to R235), what a port discards when it leaves
UP (R232). -/

namespace Sys2Proof.Machine

/-! ### Ports -/

/-- Port 0 is the Inlet, every other number the Chain port. -/
def State.port (s : State) (p : Nat) : PortSt := if p = 0 then s.inl else s.chn

/-- The state with a port replaced. -/
def State.setPort (s : State) (p : Nat) (x : PortSt) : State := if p = 0 then { s with inl := x } else { s with chn := x }

/-- Port state codes (R194). -/
abbrev pOff : Nat := 0
abbrev pNoPartner : Nat := 1
abbrev pLock : Nat := 2
abbrev pRateChange : Nat := 3
abbrev pTrain : Nat := 4
abbrev pUp : Nat := 5
abbrev pRetrain : Nat := 6
abbrev pTest : Nat := 7

/-- The state of a port. -/
def State.pState (s : State) (p : Nat) : Nat := s.fld (F.PORT_STATUS_STATE p)

/-- Is a port in UP? -/
def State.pIsUp (s : State) (p : Nat) : Bool := s.pState p = pUp

/-- Is a port in UP, or in RETRAIN, which is entered from UP only (R194)? -/
def State.pLinked (s : State) (p : Nat) : Bool := s.pState p = pUp || s.pState p = pRetrain

/-- The receive lanes of a port: 0 to 7 at the Inlet, 8 at the Chain port (R213). -/
def rxLanes (p : Nat) : List Nat := if p = 0 then List.range 8 else [8]

/-- The transmit lanes of a port. -/
def txLanes (p : Nat) : List Nat := if p = 0 then [8] else List.range 8

/-- A LINK event (R639). -/
def State.linkEventData (s : State) (p : Nat) : List Byte :=
  [BitVec.ofNat 8 p, BitVec.ofNat 8 (s.pState p), BitVec.ofNat 8 (s.fld (F.PORT_STATUS_RATE p)),
    BitVec.ofNat 8 (s.fld (F.PORT_STATUS_CAP_NOW p)), 0, 0]

/-- The module's address, 0x7E while it has none (R246). -/
def State.address (s : State) : Nat := s.fld (F.PORT_ADDR_ADDR 0)

/-- Is the module enumerated? -/
def State.enumerated (s : State) : Bool := s.address != 0x7E

/-! ### Packets -/

/-- TYPE codes (R220). -/
abbrev tVideoSeg : Nat := 0x01
abbrev tFrameReady : Nat := 0x02
abbrev tStreamCfg : Nat := 0x03
abbrev tCtrlReq : Nat := 0x10
abbrev tCtrlRsp : Nat := 0x11
abbrev tEnum : Nat := 0x12
abbrev tEvent : Nat := 0x20
abbrev tAck : Nat := 0x30
abbrev tNak : Nat := 0x31
abbrev tCredit : Nat := 0x32

/-- The class of a TYPE; none for link-control and unknown types (R220). -/
def classOf (t : Nat) : Option PClass :=
  if t = tVideoSeg ∨ t = tFrameReady ∨ t = tStreamCfg then some .video
  else if t = tCtrlReq ∨ t = tCtrlRsp ∨ t = tEnum then some .control
  else if t = tEvent then some .event
  else none

/-- Is a TYPE in the table of R220? -/
def knownType (t : Nat) : Bool := (classOf t).isSome || t = tAck || t = tNak || t = tCredit

/-- Bytes 0 to 6 of a header (R218). -/
def headBytes (typ addr seq len spec : Nat) : List Byte :=
  [BitVec.ofNat 8 typ, BitVec.ofNat 8 addr] ++ leBytes 2 seq ++ leBytes 2 len ++ [BitVec.ofNat 8 spec]

/-- A packet as the module sends it, with its check fields (R217 to R219). -/
def mkPacket (o : OutPkt) (seq : Nat) (eab : Bool) : Packet :=
  let h := headBytes o.typ o.addr seq o.payload.length o.spec
  let hc := BitVec.ofNat 8 (crc8 h)
  { typ := BitVec.ofNat 8 o.typ, addr := BitVec.ofNat 8 o.addr, seq := BitVec.ofNat 16 seq,
    len := BitVec.ofNat 16 o.payload.length, spec := BitVec.ofNat 8 o.spec, hchk := hc, payload := o.payload,
    crc := BitVec.ofNat 32 (crc32 (h ++ [hc] ++ o.payload)), malformed := false, eab := eab }

/-- Bytes 0 to 6 of a received packet's header. -/
def Packet.head (k : Packet) : List Byte :=
  headBytes k.typ.toNat k.addr.toNat k.seq.toNat k.len.toNat k.spec.toNat

/-- Does HCHK pass (R218)? -/
def Packet.headOk (k : Packet) : Bool := k.hchk.toNat = crc8 k.head

/-- Is a packet with a good header whole: its byte count 12 + LEN, its CRC-32 right, nothing malformed (R217, R219)? -/
def Packet.bodyOk (k : Packet) : Bool :=
  !k.malformed && k.payload.length = k.len.toNat % 2048 && k.crc.toNat = crc32 (k.head ++ [k.hchk] ++ k.payload)

/-- Credits of a packet with `n` payload bytes (R233). -/
def creditsOf (n : Nat) : Nat := ceilDiv (12 + n) 64

/-- The number of a class. -/
def PerClass.get (x : PerClass) : PClass → Nat
  | .video => x.video | .control => x.control | .event => x.event

/-- The numbers with that of one class replaced. -/
def PerClass.set (x : PerClass) (c : PClass) (v : Nat) : PerClass :=
  match c with
  | .video => { x with video := v } | .control => { x with control := v } | .event => { x with event := v }

/-- The number of a class raised, modulo 65,536. -/
def PerClass.add (x : PerClass) (c : PClass) (v : Nat) : PerClass := x.set c ((x.get c + v) % 65536)

/-- Receive buffers in credits (R234). -/
def rxBuffers (p : Nat) : PerClass := if p = 0 then ⟨512, 128, 0⟩ else ⟨0, 128, 128⟩

/-! ### Receiver's credits (R235) -/

/-- A link-control packet to be sent, once. -/
def TxSide.ask (x : TxSide) (m : LinkMsg) : TxSide := if x.links.contains m then x else { x with links := x.links ++ [m] }

/-- Receive space taken by an accepted packet with `uses` uses; with none it is free at once. -/
def State.rxTake (s : State) (p : Nat) (c : PClass) (n uses : Nat) : Nat × State :=
  let x := s.port p
  let id := x.rx.nextId
  (id, s.setPort p { x with rx := { x.rx with
    nextId := id + 1
    held := x.rx.held ++ [⟨id, c, creditsOf n, uses⟩] } })

/-- One use of held receive space has taken its packet: with the last one the limit rises and a CREDIT is due (R235). -/
def State.rxRelease (s : State) (p id : Nat) : State :=
  let x := s.port p
  match x.rx.held.find? fun (h : Held) => decide (h.id = id) with
  | none => s
  | some h =>
    if h.uses ≤ 1 then
      s.setPort p { x with
        rx := { x.rx with held := x.rx.held.filter fun k => decide (k.id ≠ id), limit := x.rx.limit.add h.cls h.credits }
        tx := x.tx.ask .credit }
    else
      s.setPort p { x with rx := { x.rx with
        held := x.rx.held.map fun k => if k.id = id then { k with uses := k.uses - 1 } else k } }

/-! ### Sender -/

/-- May a packet of `n` credits of a class start (R233)? -/
def TxSide.hasCredit (x : TxSide) (c : PClass) (n : Nat) : Bool :=
  (x.limit.get c + 2 * 65536 - x.consumed.get c - n) % 65536 < 32768

/-- Credits available to send in a class (INL_CREDIT). -/
def TxSide.avail (x : TxSide) (c : PClass) : Nat := (x.limit.get c + 65536 - x.consumed.get c) % 65536

/-- Bytes of the unacknowledged packets. -/
def TxSide.windowBytes (x : TxSide) : Nat := (x.unacked.map fun k => 12 + k.pkt.payload.length).sum

/-- Does the window hold one more packet of `n` payload bytes (R230)? -/
def TxSide.hasWindow (x : TxSide) (n : Nat) : Bool :=
  x.unacked.length < 256 && x.windowBytes + 12 + n ≤ 65536

/-- A packet to be sent that has not waited yet. -/
def outPkt (typ addr spec : Nat) (payload : List Byte) (own : Bool) (rel : Option Nat) : OutPkt :=
  ⟨typ, addr, spec, payload, own, rel, false, false⟩

/-- A packet queued at a port. -/
def State.enqueue (s : State) (p : Nat) (o : OutPkt) : State :=
  let x := s.port p
  s.setPort p { x with tx := { x.tx with queue := x.tx.queue ++ [o] } }

/-- A packet that the module originates for the Inlet's return lane: queued in UP and RETRAIN, otherwise discarded and
counted in LOST (R232). The packet carries the module's address (R246). -/
def State.sendUp (s : State) (typ spec : Nat) (payload : List Byte) : State :=
  if s.pLinked 0 then s.enqueue 0 (outPkt typ s.address spec payload true none)
  else s.countUp (F.PORT_DROP_LOST 0)

/-- The queued packets of a class, in order. -/
def TxSide.waiting (x : TxSide) (c : PClass) : List OutPkt := x.queue.filter fun o => decide (classOf o.typ = some c)

/-- The first element that a test picks, and the list without it. -/
def takeFirst {α : Type} (f : α → Bool) : List α → Option (α × List α)
  | [] => none
  | a :: t => if f a then some (a, t) else (takeFirst f t).map fun r => (r.1, a :: r.2)

/-- A list with the first element equal to `a` replaced. -/
def replaceFirst {α : Type} [DecidableEq α] (a b : α) : List α → List α
  | [] => []
  | x :: t => if x = a then b :: t else x :: replaceFirst a b t

/-- The next packet of a class (R237, R242): in order of arrival, the return lane alternating between the module's own
packets and forwarded ones where both wait. -/
def TxSide.pick (x : TxSide) (p : Nat) (c : PClass) : Option (OutPkt × List OutPkt) :=
  let mine := fun (own : Bool) (o : OutPkt) => decide (classOf o.typ = some c) && (o.own == own)
  let any := fun (o : OutPkt) => decide (classOf o.typ = some c)
  if p = 0 then
    let wantOwn := x.lastOwn.get c = 0
    (takeFirst (mine wantOwn) x.queue).or (takeFirst any x.queue)
  else takeFirst any x.queue

/-- What is put on the lanes (R215, R216). -/
def State.putWire (s : State) (p : Nat) (w : Wire) : State :=
  let x := s.port p
  s.setPort p { x with tx := { x.tx with wire := w } }

/-- A link-control packet with the content of this moment (R224). -/
def State.linkPacket (s : State) (p : Nat) (m : LinkMsg) : OutPkt :=
  let e := s.fld (F.PORT_SEQ_EXP p)
  let x := s.port p
  match m with
  | .ack => outPkt tAck 0 0 (leBytes 4 ((e + 4095) % 4096)) true none
  | .nak => outPkt tNak 0 0 (leBytes 4 e) true none
  | .credit => outPkt tCredit 0 0
      (leBytes 2 x.rx.limit.video ++ leBytes 2 x.rx.limit.control ++ leBytes 2 x.rx.limit.event ++ [0, 0]) true none

/-- RECOVERING of a port (R231). -/
def State.recovering (s : State) (p : Nat) : Bool :=
  let x := s.port p
  s.pLinked p && (s.pState p = pRetrain || x.tx.replayWait || x.rx.waiting)

/-! ### Leaving UP (R232) -/

/-- The packet state of a port at an entry to UP from NO_PARTNER: sequence numbers 0, no credits used, the receive buffers
advertised in full (R225, R234). -/
def State.freshPackets (s : State) (p : Nat) : State :=
  let x := s.port p
  let s1 := s.setPort p { x with tx := { TxSide.reset with links := [.credit] }, rx := { RxSide.reset with limit := rxBuffers p } }
  (s1.setFld (F.PORT_SEQ_NEXT p) 0).setFld (F.PORT_SEQ_EXP p) 0

/-- The replay buffer, the receive buffers and the queues of a port are discarded and the packets counted in LOST (R232). The packets
of the receive buffer are those whose space is held, among them the ones that wait in the other port's queue to be forwarded: they
leave it. Forwarded packets in the port's own queue free the space they hold at the other port. -/
def State.discardPackets (s : State) (p : Nat) : State :=
  let x := s.port p
  let n := x.tx.queue.length + x.tx.unacked.length + x.rx.held.length
  let rels := x.tx.queue.filterMap fun o => o.rel
  let s1 := s.setPort p { x with tx := TxSide.reset, rx := RxSide.reset }
  let y := s1.port (1 - p)
  let s2 := s1.setPort (1 - p) { y with tx := { y.tx with queue := y.tx.queue.filter (·.own) } }
  let s3 := rels.foldl (fun s id => s.rxRelease (1 - p) id) s2
  s3.countUp (F.PORT_DROP_LOST p) n

end Sys2Proof.Machine
end

