-- ==== Sys2Proof/Machine/Mail.lean ====
section
/-! DEFINITION. The mailboxes: rings and doorbells (R512 to R520), completions (R514, R515), the end of a command with its
ledger entries (R527, R530, R532, R539), disabling and locking (R533 to R536). -/

namespace Sys2Proof.Machine

/-! ### Status codes (R529) -/

abbrev stOk : Nat := 0x00
abbrev stQueueFull : Nat := 0x01
abbrev stBadOpcode : Nat := 0x02
abbrev stBadParam : Nat := 0x03
abbrev stNotInMode : Nat := 0x04
abbrev stBusy : Nat := 0x05
abbrev stAborted : Nat := 0x06
abbrev stTimeout : Nat := 0x07
abbrev stRecovered : Nat := 0x08
abbrev stDenied : Nat := 0x09
abbrev stPartial : Nat := 0x0A
abbrev stFault : Nat := 0x0B
abbrev stAlign : Nat := 0x0C

/-! ### Rings (R512, R513) -/

/-- Slot `k` of mailbox `n`'s command ring. -/
def slotAddr (n k : Nat) : Nat := pondBLo + 0x400 * n + 32 * k

/-- Entry `k` of mailbox `n`'s completion ring. -/
def cplAddr (n k : Nat) : Nat := pondBLo + 0x400 * n + 0x200 + 16 * k

/-- A mailbox. -/
def State.mb (s : State) (n : Nat) : Mailbox := s.mail.boxes.getD n Mailbox.reset

/-- The state with a mailbox replaced. -/
def State.setMb (s : State) (n : Nat) (b : Mailbox) : State :=
  { s with mail := { s.mail with boxes := listSet s.mail.boxes n b } }

/-- The state with another set of commands in flight. -/
def State.setCmds (s : State) (l : List RunCmd) : State := { s with mail := { s.mail with cmds := l } }

/-- Commands of a mailbox outstanding (R517). -/
def State.outstanding (s : State) (n : Nat) : Nat :=
  (s.mb n).accepted + (s.mail.cmds.filter fun c => decide (c.mb = n)).length + (s.mb n).unread

/-- Is a mailbox disabled (R533)? -/
def State.mbDisabled (s : State) (n : Nat) : Bool := (s.fld F.MBX_CTRL_EN).testBit n = false || (s.mb n).disabledBy

/-- Does slot `k` of mailbox `n` belong to the module (R519)? -/
def State.slotOwned (s : State) (n k : Nat) : Bool :=
  (k + 16 - s.fld (F.MBX_CMD_HEAD_CMD_HEAD n)) % 16 < (s.mb n).accepted

/-- The bit of a mailbox in a four-bit event field. -/
def mbBit (f : Fld) (n : Nat) : Fld := ⟨f.reg, f.lo + n, 1⟩

/-! ### Doorbells (R518, R534) -/

/-- Slots `tail + i` to `tail + n - 1` refused; each slot is counted once until it is accepted (R518). -/
def State.countRefused (s : State) (n tail : Nat) : Nat → Nat → State
  | _, 0 => s
  | i, k + 1 =>
    let slot := (tail + i) % 16
    let b := s.mb n
    let s1 := if b.refused.contains slot then s
      else (s.setMb n { b with refused := slot :: b.refused }).countUp (F.MBX_CNT_REFUSED n)
    s1.countRefused n tail (i + 1) k

/-- A doorbell on a disabled mailbox (R534). -/
def State.ringDisabled (s : State) (n : Nat) : State :=
  ((s.setFlag (F.MBX_DB_DISABLED n) true).setFlag (F.MBX_DB_REFUSED n) false).setFlag (mbBit F.MBX_EVENT_DIS_DB n) true

/-- A write of `t` to the doorbell of mailbox `n` (R518). -/
def State.ring (s : State) (n t : Nat) : State :=
  let tail := s.fld (F.MBX_DB_TAIL n)
  let want := (t % 16 + 16 - tail) % 16
  if want = 0 then s
  else if s.mbDisabled n then s.ringDisabled n
  else
    let acc := min want (16 - s.outstanding n)
    let b := s.mb n
    let slots := (List.range acc).map fun i => (tail + i) % 16
    let s1 := s.setMb n { b with accepted := b.accepted + acc, refused := b.refused.filter fun k => !slots.contains k }
    let tail1 := (tail + acc) % 16
    let s2 := ((s1.setFld (F.MBX_DB_TAIL n) tail1).setFlag (F.MBX_DB_DISABLED n) false).setFlag (F.MBX_DB_REFUSED n)
      (decide (acc < want))
    if acc < want then
      (s2.setFlag (mbBit F.MBX_EVENT_QUEUE_FULL n) true).countRefused n tail1 0 (want - acc)
    else s2

/-- The host control port rings MB0 for the oldest waiting CTRL_REQ: the payload goes to the slot at CMD_TAIL, unless that
slot still belongs to the module, and an accepted one frees its space in the Inlet's buffer (R520). -/
def State.hostRing (s : State) : State :=
  match s.mail.hostWait with
  | [] => s
  | (bs, id) :: t =>
    let tail := s.fld (F.MBX_DB_TAIL 0)
    let s1 := if s.slotOwned 0 tail then s else s.setBytes (slotAddr 0 tail) (padTo 0#8 32 bs)
    let s2 := s1.ring 0 (tail + 1)
    if s2.fld (F.MBX_DB_TAIL 0) = tail then s2
    else ({ s2 with mail := { s2.mail with hostWait := t } } : State).rxRelease 0 id

/-- Every waiting CTRL_REQ rung in turn, up to `n`. -/
def State.hostRingAll : Nat → State → State
  | 0, s => s
  | n + 1, s =>
    let s1 := s.hostRing
    if s1.mail.hostWait.length < s.mail.hostWait.length then State.hostRingAll n s1 else s1

/-- A CTRL_REQ taken from the Inlet: one that meets a disabled MB0 is dropped (R520, R534, log entry 16). -/
def State.hostCommand (s : State) (bs : List Byte) (id : Nat) : State :=
  if s.mbDisabled 0 then (s.ringDisabled 0).rxRelease 0 id
  else
    let first := s.mail.hostWait.isEmpty
    let s1 : State := { s with mail := { s.mail with hostWait := s.mail.hostWait ++ [(bs, id)] } }
    if first then s1.hostRing else s1

/-- Tightrope rings MB2 for the slots it has filled (R520). -/
def State.partnerRing (s : State) : State :=
  let b := s.mb 2
  if b.waiting = 0 then s
  else
    let tail := s.fld (F.MBX_DB_TAIL 2)
    let s1 := s.ring 2 (tail + min b.waiting 15)
    let acc := (s1.fld (F.MBX_DB_TAIL 2) + 16 - tail) % 16
    let b1 := s1.mb 2
    s1.setMb 2 { b1 with waiting := b1.waiting - acc }

/-- The 16 bytes of a completion entry but its TAG (R514). -/
def cplBody (status opcode cookie step : Nat) (result : List Byte) : List Byte :=
  [BitVec.ofNat 8 status] ++ leBytes 2 opcode ++ leBytes 2 cookie ++ leBytes 2 step ++ padTo 0#8 8 result

/-- An MB2_RSP that Tightrope sends itself: TAG 0x3F, PHASE 0, STEP and RESULT 0 (R520). -/
def State.ownRsp (s : State) (status opcode cookie : Nat) : State :=
  { s with mail := { s.mail with rsp := s.mail.rsp ++ [(0x3F#8 :: cplBody status opcode cookie 0 [], false)] } }

/-- An MB2_CMD in a running CTRL (R520, R534). -/
def State.partnerCommand (s : State) (bs : List Byte) : State :=
  let b := s.mb 2
  if s.mbDisabled 2 then (s.ringDisabled 2).ownRsp stDenied (leAt bs 0 2) (leAt bs 2 2)
  else if 16 ≤ b.accepted + b.waiting then
    ((s.countUp (F.MBX_CNT_REFUSED 2)).setFlag (mbBit F.MBX_EVENT_QUEUE_FULL 2) true).ownRsp stQueueFull (leAt bs 0 2)
      (leAt bs 2 2)
  else
    let k := (s.fld (F.MBX_DB_TAIL 2) + b.waiting) % 16
    ((s.setBytes (slotAddr 2 k) (padTo 0#8 32 bs)).setMb 2 { b with waiting := b.waiting + 1 }).partnerRing

/-! ### Completions (R514, R515, R517, R520) -/

/-- The sender of mailbox `n` consumes `k` entries: CPL_HEAD moves on, and MB0 and MB2 ring what was refused (R520). -/
def State.consume (s : State) (n k : Nat) : State :=
  let b := s.mb n
  let k1 := min k b.unread
  let s1 := (s.setMb n { b with unread := b.unread - k1 }).wrapUp (F.MBX_CPL_HEAD_CPL_HEAD n) k1
  if k1 = 0 then s1
  else if n = 0 then State.hostRingAll 16 s1
  else if n = 2 then s1.partnerRing
  else s1

/-- A completion entry into the ring: bytes 1 to 15, then byte 0 with PHASE, which inverts at each wrap (R515); the
internal senders of MB0 and MB2 take it from there (R520, R534). -/
def State.postCpl (s : State) (n tag status opcode cookie step : Nat) (result : List Byte) : State :=
  let k := s.fld (F.MBX_CPL_TAIL_CPL_TAIL n)
  let ph := s.fld (F.MBX_CPL_TAIL_PHASE n)
  let body := cplBody status opcode cookie step result
  let b0 := BitVec.ofNat 8 (tag % 64 + 128 * ph)
  let s1 := (s.setBytes (cplAddr n k + 1) body).setByte (cplAddr n k) b0
  let s2 := s1.setFld (F.MBX_CPL_TAIL_CPL_TAIL n) (k + 1)
  let s3 := if k = 15 then s2.setFld (F.MBX_CPL_TAIL_PHASE n) (1 - ph) else s2
  let b := s3.mb n
  let s4 := s3.setMb n { b with unread := b.unread + 1 }
  let s5 := if status = stTimeout then (s4.countUp (F.MBX_CNT_TIMEOUT n)).setFlag (mbBit F.MBX_EVENT_TIMEOUT n) true else s4
  let s6 := if status = stRecovered then s5.countUp (F.MBX_PAUSE_LINK_RECOVERED n) else s5
  if n = 0 then
    let s7 := if s6.pLinked 0 then s6.sendUp tCtrlRsp 0 (b0 :: body) else s6.countUp F.MBX_PORT_CNT_MB0
    s7.consume 0 1
  else if n = 2 then { s6 with mail := { s6.mail with rsp := s6.mail.rsp ++ [(b0 :: body, true)] } }
  else s6

/-- Does RESULT go with a status (R514)? MODE_SET gives one with BUSY too (R555). -/
def keepsResult (opcode status : Nat) : Bool :=
  status = stOk || status = stRecovered || status = stPartial || (opcode = 0x0200 && status = stBusy)

/-! ### Commands in flight -/

/-- A command's tag (R516). -/
def RunCmd.tag (c : RunCmd) : Nat := 16 * c.mb + c.slot

/-- Does a command run the full calibration (R555)? -/
def RunCmd.fullRun (c : RunCmd) : Bool := c.opcode = 0x0900 || (c.opcode = 0x0200 && byteAt c.params 0 = 9)

/-- The command in flight with a tag. -/
def State.cmd (s : State) (tag : Nat) : Option RunCmd := s.mail.cmds.find? fun (c : RunCmd) => decide (c.tag = tag)

/-- The state with the command of the same tag replaced. -/
def State.setCmd (s : State) (c : RunCmd) : State :=
  s.setCmds (s.mail.cmds.map fun d => if d.tag = c.tag then c else d)

/-- The completion of a command whose end is recorded. -/
def State.postCmd (s : State) (c : RunCmd) : State :=
  let st := c.status.getD stOk
  let s1 := s.setCmds (s.mail.cmds.filter fun d => decide (d.tag ≠ c.tag))
  s1.postCpl c.mb c.tag st c.opcode c.cookie c.step (if keepsResult c.opcode st then c.result else [])

/-- Commands whose boundary entry is written go on, or complete (R539). -/
def State.settleList : List RunCmd → State → State
  | [], s => s
  | c :: t, s =>
    if c.phase = .entry ∧ s.ledgerWaits c.tag = false then
      match c.status with
      | some _ => State.settleList t (s.postCmd c)
      | none => State.settleList t (s.setCmd { c with phase := .work })
    else State.settleList t s

/-- Every command whose ledger entry is written goes on. -/
def State.settle (s : State) : State := State.settleList s.mail.cmds s

/-- A ledger entry of a command (R538). ROM recovery writes none (R580). -/
def State.cmdEntry (s : State) (kind : Nat) (c : RunCmd) (status : Nat) : State :=
  if s.pw.rom then s
  else s.postLedger (ledgerEntry kind c.mb c.tag c.opcode c.step c.cookie s.time status) c.tag

/-- A command ends with a status: its FINISH entry is queued, and the completion follows once it is written (R539). A
completion as requested after a pause that covered a retrain reports LINK_RECOVERED (R532). -/
def State.endCmd (s : State) (tag status : Nat) (result : List Byte) : State :=
  match s.cmd tag with
  | none => s
  | some c =>
    let st := if status = stOk ∧ c.retrained = true then stRecovered else status
    let c1 := { c with phase := .entry, status := some st, result := result }
    ((s.setCmd c1).cmdEntry 3 c1 st).settle

/-- What a boundary requires of a command: TIMEOUT when its timeout has expired, ABORTED when its mailbox is disabled
(R527, R530, R534). The timeout is looked at first (log entry 17). -/
def State.boundaryEnd (s : State) (c : RunCmd) : Option Nat :=
  if c.expired then some stTimeout
  else if s.mbDisabled c.mb || c.killed then some stAborted
  else none

/-- The last step of a command is done with a status and result: the boundary decides first (R527). -/
def State.finishCmd (s : State) (tag status : Nat) (result : List Byte) : State :=
  match s.cmd tag with
  | none => s
  | some c =>
    let done := status = stOk ∨ status = stPartial
    let c1 := if done then { c with step := c.step + 1 } else c
    let s1 := s.setCmd c1
    match (if done then s.boundaryEnd c1 else none) with
    | some st => s1.endCmd tag st []
    | none => s1.endCmd tag status result

/-- A step of a command of several steps is done: it stands at its boundary (R527, R539). -/
def State.stepDone (s : State) (tag : Nat) (note : List Nat) : State :=
  match s.cmd tag with
  | none => s
  | some c => s.setCmd { c with step := c.step + 1, phase := .boundary, note := note }

/-- The command waits in a phase with scratch words. -/
def State.waitIn (s : State) (tag : Nat) (ph : CmdPhase) (note : List Nat) : State :=
  match s.cmd tag with
  | none => s
  | some c => s.setCmd { c with phase := ph, note := note }

/-! ### Disabling and locking (R533 to R536) -/

/-- Every accepted command not yet taken completes with ABORTED and STEP 0, in slot order (R534). -/
def State.abortUntaken (s : State) (n : Nat) : Nat → State
  | 0 => s
  | k + 1 =>
    let b := s.mb n
    if b.accepted = 0 then s
    else
      let h := s.fld (F.MBX_CMD_HEAD_CMD_HEAD n)
      let slot := s.bytes (slotAddr n h) 32
      let s1 := (s.setMb n { b with accepted := b.accepted - 1 }).setFld (F.MBX_CMD_HEAD_CMD_HEAD n) (h + 1)
      (s1.postCpl n (16 * n + h) stAborted (leAt slot 0 2) (leAt slot 2 2) 0 []).abortUntaken n k

/-- The actions of R534 on a mailbox that has just been disabled. Running commands end at their next boundary, which
`boundaryEnd` sees to. -/
def State.disableActs (s : State) (n : Nat) : State := s.abortUntaken n 16

/-- A condition disables a mailbox (R533). -/
def State.disableMb (s : State) (n : Nat) : State :=
  if (s.mb n).disabledBy then s else (s.setMb n { s.mb n with disabledBy := true }).disableActs n

/-- The condition ends (R533). -/
def State.enableMb (s : State) (n : Nat) : State := s.setMb n { s.mb n with disabledBy := false }

/-- MB3 locks: R534 acts once and MB3 goes on in its locked state (R533, R536). Running commands of MB3 are marked to
end at their next boundary. -/
def State.lockMb3 (s : State) : State :=
  if !s.mail.unlocked then s
  else
    let s1 : State := { s with mail := { s.mail with
      unlocked := false, nonce := none,
      cmds := s.mail.cmds.map fun c => if c.mb = 3 then { c with killed := true } else c } }
    s1.disableActs 3

/-- MB0 after the Inlet leaves UP (R533, R534, R232): waiting CTRL_REQs are lost with the receive buffer, queued CTRL_RSPs
count as discarded entries. -/
def State.dropHost (s : State) : State :=
  let n := (s.inl.tx.queue.filter fun o => decide (o.typ = tCtrlRsp) && o.own).length
  let s1 : State := { s with mail := { s.mail with hostWait := [] } }
  (s1.countUp F.MBX_PORT_CNT_MB0 n).disableMb 0

/-- Every mailbox disabled or enabled by the state of CTRL (R533). -/
def State.disableAll (s : State) : State := (((s.disableMb 0).disableMb 1).disableMb 2).disableMb 3

end Sys2Proof.Machine
end

