-- ==== Sys2Proof/Machine/Channels.lean ====
section
/-! DEFINITION. Juggler's registers (R581, R582, R590 to R592, R596 to R598, R600): what a write to a channel or a queue does.
Moving data is the engine's. -/

namespace Sys2Proof.Machine

/-- A channel. -/
def State.chan (s : State) (n : Nat) : Channel := s.dma.chans.getD n Channel.reset

/-- The state with a channel replaced. -/
def State.setChan (s : State) (n : Nat) (c : Channel) : State :=
  { s with dma := { s.dma with chans := listSet s.dma.chans n c } }

/-- Channels 12 to 15 are heavy (R581). -/
def heavy (n : Nat) : Bool := decide (12 ≤ n)

/-- Is a channel idle: no job, not halted (R592, R594)? -/
def State.chanIdle (s : State) (n : Nat) : Bool := !(s.chan n).job && !(s.chan n).halted

/-- BURST in bytes (R600). -/
def State.burstOf (s : State) (n : Nat) : Nat := 64 * 2 ^ s.fld (F.DMA_CH_CTRL_BURST n)

/-- Bit `n` of a bitmap register, set. -/
def State.setBit (s : State) (a n : Nat) : State := s.setReg a (withBit (s.reg a) n)

/-- The engine let go by a channel. -/
def State.freeEngine (s : State) (n : Nat) : State :=
  if s.dma.engine = some n then { s with dma := { s.dma with engine := none, burst := none } } else s

/-- The list entry, the offset in it and the address of byte `off` of a list (R585). -/
def listPos : List (Nat × Nat) → Nat → Nat → Nat × Nat × Nat
  | [], i, off => (i, off, 0)
  | (a, n) :: t, i, off => if off < n then (i, off, a + off) else listPos t (i + 1) (off - n)

/-- The position registers of a channel (R597, R600). -/
def State.showPos (s : State) (n : Nat) : State :=
  let c := s.chan n
  match c.desc with
  | none => s
  | some d =>
    let src := listPos d.src 0 (8 * c.done)
    let dst := listPos d.dst 0 (8 * c.done)
    let s1 := s.setReg (R.DMA_CH_IDX n) (BitVec.ofNat 32 (src.1 % 256 + 256 * (dst.1 % 256)))
    let s2 := (s1.setReg (R.DMA_CH_SRC_OFF n) (BitVec.ofNat 32 src.2.1)).setReg (R.DMA_CH_DST_OFF n) (BitVec.ofNat 32 dst.2.1)
    s2.setReg (R.DMA_CH_DONE n) (BitVec.ofNat 32 (8 * c.done))

/-- A descriptor is written back: STATUS, DONE, MISS_ADDR and MISS_CNT, then OWN clears in a write of byte 3 (R593). -/
def State.writeBack (s : State) (n addr status : Nat) : State :=
  let c := s.chan n
  let s1 := (s.setMle (addr + 24) 4 status).setMle (addr + 28) 4 (8 * c.done)
  let s2 := (s1.setMle (addr + 32) 4 c.missAddr).setMle (addr + 36) 4 c.missCnt
  s2.setByte (addr + 3) (s2.byte (addr + 3) &&& 0x7F)

/-- A job ends: the channel reads idle and lets the engine go. -/
def State.endJob (s : State) (n : Nat) : State :=
  let c := s.chan n
  (s.setChan n { c with job := false, paused := false, stopping := false, desc := none, flowing := false }).freeEngine n

/-- A heavy channel that EN = 0 has paused ends: its descriptor is written back with ABORTED (R597). -/
def State.endHeavy (s : State) (n : Nat) : State :=
  let c := s.chan n
  let s1 := match c.desc with
    | some d => s.writeBack n d.addr stAborted
    | none => s
  s1.endJob n

/-- Has a channel nothing in flight: it waits for the engine, a slot or pacing (R598)? -/
def State.chanWaits (s : State) (n : Nat) : Bool :=
  let c := s.chan n
  s.dma.engine ≠ some n || c.desc.isNone || (s.flag (F.DMA_CH_CTRL_PACE_EN n) && !c.flowing) ||
    (s.flag (F.DMA_CH_CTRL_BG n) && s.dma.burst.isNone)

/-- EN written 0 (R596, R597). -/
def State.disableChan (s : State) (n : Nat) : State :=
  let c := s.chan n
  if !c.job || c.halted then s
  else if heavy n then
    if c.paused || s.chanWaits n then s.endHeavy n else s.setChan n { c with stopping := true }
  else
    let (v1, s1) := (s.endJob n).draw (2 ^ 16)
    let (v2, s2) := s1.draw (2 ^ 32)
    let (v3, s3) := s2.draw (2 ^ 16)
    let (v4, s4) := s3.draw (2 ^ 32)
    let (v5, s5) := s4.draw (2 ^ 32)
    let (v6, s6) := s5.draw (2 ^ 32)
    [(R.DMA_CH_COUNT n, v1), (R.DMA_CH_DESC n, v2), (R.DMA_CH_IDX n, v3), (R.DMA_CH_SRC_OFF n, v4), (R.DMA_CH_DST_OFF n, v5),
      (R.DMA_CH_DONE n, v6)].foldl (fun s p => s.setReg p.1 (BitVec.ofNat 32 p.2)) s6

/-- PAUSE written 1 on a heavy channel: while it waits it is paused at once, else what it has read drains first (R597, R598). -/
def State.pauseChan (s : State) (n : Nat) : State :=
  let c := s.chan n
  if c.job && s.chanWaits n then (s.setChan n { c with paused := true }).freeEngine n else s

/-- PAUSE written 0: the channel is ready again from its position (R597). -/
def State.resumeChan (s : State) (n : Nat) : State :=
  let c := s.chan n
  if c.job && c.paused then s.setChan n { c with paused := false } else s

/-- GO with EN = 1 (R590, R592, R598). A GO to a channel that is not idle has no effect. -/
def State.goChan (s : State) (n : Nat) (pause : Bool) : State :=
  if !s.chanIdle n then s
  else if s.flag (F.DMA_CH_CTRL_PACE_EN n) &&
      decide (s.fld (F.DMA_CH_HIGH_HIGH n) < s.fld (F.DMA_CH_LOW_LOW n) + 2 * s.burstOf n) then
    s.setFlag F.DMA_EVENT_BAD_WR true
  else
    (s.setChan n { Channel.reset with job := true, paused := pause }).setFlag (F.DMA_CH_STATUS_EMPTY n) false

/-- A write of DMA_CH_CTRLn (R592, R594, R596 to R598). -/
def State.chanCtrl (s : State) (n : Nat) (v : Word) : State :=
  let s0 := if !heavy n && (bitOf v 2 || bitOf v 3) then s.setFlag F.DMA_EVENT_BAD_WR true else s
  let keep := if heavy n then 0x3FD else 0x3F1
  let was := s.flag (F.DMA_CH_CTRL_PAUSE n)
  let s1 := s0.setReg (R.DMA_CH_CTRL n) (v &&& BitVec.ofNat 32 keep)
  let s2 := if bitOf v 10 && (s1.chan n).halted then s1.setChan n Channel.reset else s1
  let pause := heavy n && bitOf v 2
  if !bitOf v 0 then s2.disableChan n
  else
    let s3 := if pause then s2.pauseChan n else if was then s2.resumeChan n else s2
    if bitOf v 1 then s3.goChan n pause else s3

/-- A write of DMA_CH_DESCn (R592). -/
def State.chanDesc (s : State) (n : Nat) (v : Word) : State :=
  if s.chanIdle n && decide (regionOf v.toNat = .pondB) then s.setReg (R.DMA_CH_DESC n) (v &&& 0xFFFFFFF8)
  else s.setFlag F.DMA_EVENT_BAD_WR true

/-- A write of DMA_CH_COUNTn (R592). -/
def State.chanCount (s : State) (n : Nat) (v : Word) : State :=
  if s.chanIdle n then s.setReg (R.DMA_CH_COUNT n) (v &&& 0xFFFF) else s.setFlag F.DMA_EVENT_BAD_WR true

/-- A write of DMA_CH_COUNT_ADDn: while the channel runs it adds to COUNT (R592). -/
def State.chanAdd (s : State) (n : Nat) (v : Word) : State :=
  let sum := s.fld (F.DMA_CH_COUNT_VAL n) + v.toNat % 65536
  if !(s.chan n).job then s
  else if 65535 < sum then s.setFlag F.DMA_EVENT_BAD_WR true
  else s.setFld (F.DMA_CH_COUNT_VAL n) sum

/-- A fill count raised and lowered, held within its bounds with QERR (R590, R591). -/
def State.queueMove (s : State) (q add sub : Nat) : State :=
  let f := s.fld (F.DMA_QFILL_VAL q)
  if f + add < sub then (s.setFld (F.DMA_QFILL_VAL q) 0).setFlag F.DMA_EVENT_QERR true
  else if 16777215 < f + add - sub then (s.setFld (F.DMA_QFILL_VAL q) 16777215).setFlag F.DMA_EVENT_QERR true
  else s.setFld (F.DMA_QFILL_VAL q) (f + add - sub)

/-- At CTRL's vote the heavy channels are paused and disabled (R599). -/
def State.dmaSleep (s : State) : State :=
  (List.range 16).foldl (fun s n => if heavy n then s.chanCtrl n (s.reg (R.DMA_CH_CTRL n) &&& 0xFFFFFFFE) else s) s

/-- Does CTRL's vote wait for the engine: a light job runs, or a heavy channel drains (R599)? -/
def State.dmaEnds (s : State) : Bool :=
  match s.dma.engine with
  | some n => if heavy n then (s.chan n).stopping else (s.chan n).desc.isSome
  | none => false

/-- STATE of DMA_CH_STATUSn (R600). -/
def State.chanState (s : State) (n : Nat) : Nat :=
  let c := s.chan n
  if c.halted then 6
  else if !c.job then 0
  else if c.stopping then 7
  else if c.paused then 5
  else if s.dma.engine ≠ some n then 2
  else if s.flag (F.DMA_CH_CTRL_PACE_EN n) && !c.flowing then 4
  else if s.flag (F.DMA_CH_CTRL_BG n) && s.dma.burst.isNone then 3
  else 1

/-- DMA_STATUS (R600). -/
def State.dmaStatus (s : State) : Nat :=
  match s.dma.engine with
  | none => 0
  | some n => n + 16 + (if s.chanState n = 3 then 32 else 0) + (if s.chanState n = 4 then 64 else 0)

end Sys2Proof.Machine
end

