-- ==== Sys2Proof/Machine/Triggers.lean ====
section
/-! DEFINITION. What latches for the next frame start: mode triggers (R80, R83), the count of quiet frames and the time
without a host (R80 rows 10 and 12, R102); the pauses of command timeouts (R531). -/

namespace Sys2Proof.Machine

/-- A trigger of a row of R80, and the command that waits for it. A row is latched once; a command joins it where none waits
yet. -/
def State.latch (s : State) (row : Nat) (cmd : Option Nat) : State :=
  if s.pw.trigs.any fun t => decide (t.row = row) then
    { s with pw := { s.pw with trigs := s.pw.trigs.map fun t => if t.row = row ∧ t.cmd.isNone = true then ⟨row, cmd⟩ else t } }
  else { s with pw := { s.pw with trigs := s.pw.trigs ++ [⟨row, cmd⟩] } }

/-- Is the host link up? -/
def State.linkUp (s : State) : Bool := s.on .link && s.pIsUp 0

/-- A FRAME_READY on a subscribed stream: the quiet count restarts, the governor counts it (R166), and rows 9 and 11 of R80 are triggered. -/
def State.noteReady (s : State) (st : Nat) : State :=
  let s1 : State := { s with
    pw := { s.pw with quietFrames := 0 }
    gov := { s.gov with readyNow := listSet s.gov.readyNow st (s.gov.readyNow.getD st 0 + 1) } }
  let s2 := if s1.mode = .selfRefresh ∧ (s1.plane 0).stream = some st then s1.latch 9 none else s1
  if s2.mode = .lowRate then s2.latch 11 none else s2

/-- The Inlet is without a host from now on, unless it was already (R102). -/
def State.noteNoHost (s : State) : State :=
  if s.pw.noHostSince.isSome then s else { s with pw := { s.pw with noHostSince := some s.time } }

/-- The host is there again. -/
def State.noteHost (s : State) : State := { s with pw := { s.pw with noHostSince := none } }

/-- Does a command work through the Chain port (R531, R557)? -/
def RunCmd.viaChain (c : RunCmd) : Bool :=
  (c.opcode = 0x0301 || c.opcode = 0x0302 || c.opcode = 0x0304) && byteAt c.params 0 = 1

/-- Must the timeout of a command be paused now (R531)? -/
def State.pauseNow (s : State) (c : RunCmd) : Bool := (c.mb = 0 && s.recovering 0) || (c.viaChain && s.recovering 1)

/-- Does a port that pauses a command retrain now (R532)? -/
def State.retrainNow (s : State) (c : RunCmd) : Bool :=
  (c.mb = 0 && s.pState 0 = pRetrain) || (c.viaChain && s.pState 1 = pRetrain)

/-- One command's pause follows RECOVERING; each new pause is counted (R531, R543). -/
def State.pauseOne (s : State) (c : RunCmd) : State :=
  let now := s.pauseNow c
  let c1 := { c with paused := now, retrained := c.retrained || s.retrainNow c }
  let s1 := s.setCmd c1
  if now ∧ c.paused = false then s1.countUp (F.MBX_PAUSE_PAUSES c.mb) else s1

/-- The pauses of all commands follow RECOVERING. -/
def State.syncPauses (s : State) : State := s.mail.cmds.foldl State.pauseOne s

/-- A LINK_RETRAIN that waits for a port completes when it reaches UP again, or has left the link (R558). -/
def State.tellRetrain (s : State) (p status : Nat) : State :=
  s.mail.cmds.foldl (fun (s : State) (c : RunCmd) =>
    if c.opcode = 0x0301 ∧ byteAt c.params 0 = p ∧ c.phase = .waitEvent ∧ c.status.isNone = true then s.finishCmd c.tag status []
    else s) s

end Sys2Proof.Machine
end

