-- ==== Sys2Proof/Machine/Calibration.lean ====
section
/-! DEFINITION. CAL: receivers, back channel receivers, photodiodes and sinks (R616 to R622), runs (R623 to R626),
plausibility (R627 to R629), the rules of element values (R631). What a step measures is the operand of its end. -/

namespace Sys2Proof.Machine

/-- KIND codes (R623). -/
abbrev calStartUp : Nat := 1
abbrev calLinkUp : Nat := 2
abbrev calTrig : Nat := 3
abbrev calFull : Nat := 4

/-- The state with another CAL record. -/
def State.setCal (s : State) (c : Calibration) : State := { s with cal := c }

/-- The state with another run in progress. -/
def State.setRun (s : State) (r : CalRun) : State := s.setCal { s.cal with run := some r }

/-- The domain of an element. -/
def CalElem.domain : CalElem → Domain
  | .lane _ => .link
  | .backChannel => .panel
  | .photodiode _ => .light
  | .sink _ => .light

/-- The group of an element: link, back channel, photodiodes, sinks. -/
def CalElem.group : CalElem → Nat
  | .lane _ => 0
  | .backChannel => 1
  | .photodiode _ => 2
  | .sink _ => 3

/-- The element index of an event: l, 9 for the back channel, k or c. -/
def CalElem.index : CalElem → Nat
  | .lane l => l
  | .backChannel => 9
  | .photodiode k => k
  | .sink c => c

/-- The lanes of an element. -/
def CalElem.lanes : CalElem → List Nat
  | .lane l => [l]
  | .backChannel => [9, 10]
  | .photodiode _ => []
  | .sink _ => []

/-- The port of lane `l`. -/
def lanePort (l : Nat) : Nat := if l < 8 then 0 else 1

/-- The elements of a run, in order (R623). -/
def calPhotodiodes : List CalElem := [.photodiode 0, .photodiode 1, .photodiode 2]
def calSinks : List CalElem := (List.range 192).map .sink
def calLanes (p : Nat) : List CalElem := (rxLanes p).map .lane

/-! ### Receivers (R617, R618) -/

/-- Is element `i` before element `j` in the order of residual, lower index first (R617)? -/
def residBefore (r : List Int) (i j : Nat) : Bool :=
  let a := (r.getD i 0).natAbs
  let b := (r.getD j 0).natAbs
  a < b || (a = b && i < j)

/-- The element with `n` elements before it. -/
def rankedElem (r : List Int) (n : Nat) : Nat :=
  ((List.range 6).find? fun i => decide (((List.range 6).filter fun j => residBefore r j i).length = n)).getD 0

/-- D0, D1, E0, E1 (R617). -/
def CalEye.roles (e : CalEye) : List Nat := (List.range 4).map (rankedElem e.resid)

/-- Length of the run of agreement that starts at position `p`. -/
def runFrom (a : List Bool) (p : Nat) : Nat := ((a.drop p).takeWhile id).length

/-- Start and length of the longest run; the first of equal ones. -/
def CalEye.run (e : CalEye) : Nat × Nat :=
  (List.range 64).foldl (fun (b : Nat × Nat) p =>
    let n := runFrom (e.agree.take 64) p
    if b.2 < n then (p, n) else b) (0, 0)

/-- The eye width and PHASE (R618). -/
def CalEye.width (e : CalEye) : Nat := e.run.2
def CalEye.phase (e : CalEye) : Nat := (e.run.1 + (e.run.2 - 1) / 2) % 64

/-- The remaining residual of largest magnitude among the four serving elements. -/
def CalEye.worst (e : CalEye) : Int :=
  e.roles.foldl (fun m i => let v := e.resid.getD i 0; if m.natAbs < v.natAbs then v else m) 0

/-- CAL_LANE_MAP and CAL_LANE_TRIM of a result. -/
def CalEye.map (e : CalEye) : Word :=
  BitVec.ofNat 32 ((e.roles.mapIdx fun i x => x * 8 ^ i).sum + 4096 * e.phase)
def CalEye.trim (e : CalEye) : Word :=
  BitVec.ofNat 32 (((padTo 0#5 6 e.trims).mapIdx fun i (x : BitVec 5) => x.toNat * 32 ^ i).sum)

/-- The quality figure of a receiver (R618, R632): width, residual, PEAK_NOW of a link lane. -/
def State.calQual (s : State) (l : Nat) (e : CalEye) : State :=
  let peak := if l < 9 then s.fld (F.PORT_LANE_PHY_PEAK_NOW (lanePort l) l) else 0
  s.setReg (R.CAL_LANE_QUAL l) (BitVec.ofNat 32 (min e.width 63 + 256 * toTwos 8 e.worst + 65536 * peak))

/-! ### Sinks (R622) -/

/-- Sums of the chosen cells and their masks, `n` cells out of the listed ones. -/
def cellSets : Nat → List (Nat × Nat) → List (Nat × Nat)
  | 0, _ => [(0, 0)]
  | _ + 1, [] => []
  | n + 1, (i, v) :: t =>
    ((cellSets n t).map fun p => (p.1 + v, p.2 + 2 ^ i)) ++ cellSets (n + 1) t

/-- Distance of a sum from 40 mA, in µA. -/
def cellOff (sum : Nat) : Nat := if sum < 40000 then 40000 - sum else sum - 40000

/-- The 12 cells whose summed current, in µA, is nearest to 40 mA: sum and mask; of equal ones the lowest mask. -/
def chooseCells (cells : List Nat) : Nat × Nat :=
  match cellSets 12 ((padTo 0 16 cells).zipIdx.map fun p => (p.2, p.1)) with
  | [] => (0, 0)
  | a :: t => t.foldl (fun b p =>
      if cellOff p.1 < cellOff b.1 ∨ (cellOff p.1 = cellOff b.1 ∧ p.2 < b.2) then p else b) a

/-! ### Applying -/

/-- A lane's new values wait for the next marker position; those of a back channel receiver take effect at once outside
the reply window, where its bursts are sent (R619, R620). -/
def State.laneValues (s : State) (l : Nat) (map trim : Word) : State :=
  let s1 := (s.setReg (R.CAL_LANE_MAP l) map).setReg (R.CAL_LANE_TRIM l) trim
  if l < 9 then s1.setCal { s1.cal with laneDue := if s1.cal.laneDue.contains l then s1.cal.laneDue else l :: s1.cal.laneDue }
  else s1.setCal { s1.cal with laneUse := listSet s1.cal.laneUse l (map, trim) }

/-- The register values of lane `l` come into use (R619, R626). -/
def State.laneTake (s : State) (l : Nat) : State :=
  s.setCal { s.cal with
    laneUse := listSet s.cal.laneUse l (s.reg (R.CAL_LANE_MAP l), s.reg (R.CAL_LANE_TRIM l))
    laneDue := s.cal.laneDue.filter (· != l) }

/-- A sink's new mask waits for the next row boundary (R622). -/
def State.sinkValue (s : State) (c mask : Nat) : State :=
  let s1 := (s.setFld (F.CAL_SINK_CELL_MASK c) mask).setFlag (F.CAL_SINK_CALIBRATED c) true
  s1.setCal { s1.cal with sinkDue := if s1.cal.sinkDue.contains c then s1.cal.sinkDue else c :: s1.cal.sinkDue }

/-- A domain powers up: CAL applies its register values to the receivers and sinks there (R626). -/
def State.calApply (s : State) (d : Domain) : State :=
  match d with
  | .link => (List.range 9).foldl State.laneTake (s.setCal { s.cal with linkSeen := [false, false] })
  | .panel => (s.laneTake 9).laneTake 10
  | .light => s.setCal { s.cal with
      sinkUse := (List.range 192).map fun c => s.fld (F.CAL_SINK_CELL_MASK c)
      sinkDue := [] }
  | .aon | .ctrl | .pix => s

/-! ### Counts -/

/-- One refused result (R628), with its event and record. -/
def State.calReject (s : State) (e : CalElem) : State :=
  let f := match e.group with
    | 0 => F.CAL_REJECT_LINK
    | 1 => F.CAL_REJECT_BCH
    | 2 => F.CAL_REJECT_PD
    | _ => F.CAL_REJECT_SINK
  let s1 := e.lanes.foldl (fun s l => s.countUp (F.CAL_LANE_CNT_KEPT l)) ((s.countUp f).setFlag F.CAL_STATUS_REJECT true)
  s1.eventLogged 11 2 [BitVec.ofNat 8 (s1.fld F.CAL_STATUS_KIND), BitVec.ofNat 8 e.index]

/-- A step that is skipped. -/
def State.calSkip (s : State) (e : CalElem) : State :=
  e.lanes.foldl (fun s l => s.countUp (F.CAL_LANE_CNT_SKIPPED l)) s

/-! ### Runs (R623) -/

/-- Is an element of a run to be passed over when its turn comes: its domain is off, its port is not in UP in a full or
triggered run, or it was restored before a start-up or link-up run stepped it (R623, R626, R631)? The last leaves it done. -/
def State.calPass (s : State) (kind : Nat) (e : CalElem) : Option Bool :=
  if (kind = calStartUp ∨ kind = calLinkUp) ∧ s.cal.restored.contains e = true then some false
  else if !s.on e.domain then some true
  else match e with
    | .lane l => if (kind = calFull ∨ kind = calTrig) ∧ s.pIsUp (lanePort l) = false then some true else none
    | _ => none

/-- The command that runs the full calibration, if it runs: CAL_FULL_RUN, or MODE_SET to CALIBRATE (R555). -/
def State.calCmd (s : State) : Option RunCmd := s.mail.cmds.find? fun (c : RunCmd) =>
  c.fullRun && c.status.isNone

/-- The full run's command has done one element: applied (0), kept (1) or skipped; it counts the first two (R570). -/
def State.calStep (s : State) (how : Nat) : State :=
  match s.calCmd with
  | none => s
  | some c => s.stepDone c.tag [c.note.getD 0 0 + (if how = 0 then 1 else 0), c.note.getD 1 0 + (if how = 1 then 1 else 0)]

/-- May a full run move on: its command is at work, not at a boundary (R539)? -/
def State.calAtWork (s : State) : Bool :=
  match s.calCmd with
  | some c => c.phase = .work
  | none => false

/-- The end of a run: its figures, its event (R629); a full run leaves CALIBRATE (R80 row 16). -/
def State.calEnd (s : State) (kind : Nat) : State :=
  let s1 := ((s.setFlag F.CAL_STATUS_RUNNING false).setFld F.CAL_STATUS_KIND 0).setFlag F.CAL_STATUS_WAITING false
  let s2 := s1.setReg R.CAL_COUNT (s1.reg R.CAL_COUNT + 1)
  let s3 := ((s2.setReg R.CAL_LAST_FRAME s2.frame).setReg R.CAL_LAST_TLO (BitVec.ofNat 32 s2.time.toNat)).setReg
    R.CAL_LAST_THI (BitVec.ofNat 32 (s2.time.toNat / 2 ^ 32))
  let s4 := (s3.setCal { s3.cal with run := none }).event 11 1 [BitVec.ofNat 8 kind, 0]
  if kind = calFull then
    match s4.calCmd with
    | some c => s4.latch 16 (some c.tag)
    | none => s4.latch 16 none
  else s4

/-- A run given up: what it has not done keeps its values (R626). -/
def State.calDrop (s : State) : State :=
  (((s.setFlag F.CAL_STATUS_RUNNING false).setFld F.CAL_STATUS_KIND 0).setFlag F.CAL_STATUS_WAITING false).setCal
    { s.cal with run := none }

/-- A port asks its partner for a burst: BURST_REQ goes out in every IDLE_SET for one block, and in one that is put in where
packets wait (R204). -/
def State.askBurst (s : State) (p : Nat) : State :=
  (s.setPort p { s.port p with burstReq := 10240, reqDue := true }).countUp (F.PORT_IDLE_CNT_REQUESTED p)

/-- A link step of a full run asks for burst sets (R623). -/
def State.calAsk (s : State) (kind : Nat) (e : CalElem) : State :=
  match e with
  | .lane l => if kind = calFull then s.askBurst (lanePort l) else s
  | _ => s

/-- Does CAL_FULL_RUN abandon a run of a kind at its next element boundary: an automatic one (R626)? -/
def State.calGivesWay (s : State) (kind : Nat) : Bool := kind != calFull && s.calCmd.isSome

/-- The run moves on to the next element that is to be stepped; without one it ends. `n` bounds the elements. -/
def State.calNext : Nat → State → State
  | 0, s => s
  | n + 1, s =>
    match s.cal.run with
    | none => s
    | some r =>
      if s.calGivesWay r.kind then s.calDrop
      else if r.kind = calFull ∧ s.calAtWork = false then s
      else match r.elems with
        | [] => s.calEnd r.kind
        | e :: t =>
          match s.calPass r.kind e with
          | none => s.calAsk r.kind e
          | some skip =>
            let s1 := if skip then s.calSkip e else s
            let s2 := s1.setRun { r with elems := t, slots := 0, bursts := 0, frames := 0 }
            calNext n (if r.kind = calFull then s2.calStep 2 else s2)

/-- A run of a kind starts: the die temperatures are latched (R623). -/
def State.calStart (s : State) (kind : Nat) (elems : List CalElem) (pdWait : Bool) : State :=
  let s1 := s.cal.die.zipIdx.foldl (fun s p => s.setReg (R.CAL_TREF p.2) (BitVec.ofNat 32 (p.1 % 65536))) s
  let s2 := (s1.setFlag F.CAL_STATUS_RUNNING true).setFld F.CAL_STATUS_KIND kind
  (s2.setRun ⟨kind, elems, 0, 0, 0, none, pdWait⟩).calNext 256

/-- Waiting link-up runs and the full run of a command start once no run is in progress (R623, R626). -/
def State.calIdle (s : State) : State :=
  if s.cal.run.isSome then s
  else if s.mode = .calibrate then
    match s.calCmd with
    | some c =>
      if c.phase = .waitEvent then
        (((s.waitIn c.tag .work []).setFlag F.CAL_STATUS_PENDING false).setCal { s.cal with linkUps := [] }).calStart calFull
          (calSinks ++ calPhotodiodes ++ [.backChannel] ++ calLanes 0 ++ calLanes 1) false
      else s
    | none => s
  else match s.cal.linkUps with
    | [] => s
    | p :: t => (s.setCal { s.cal with linkUps := t }).calStart calLinkUp (calLanes p) false

/-- The element is done, applied (0), kept (1) or skipped (2): the next one begins, or the run ends at the boundary (R623,
R626). In a full run it is a step of the command (R570). -/
def State.calDone (s : State) (e : CalElem) (how : Nat) : State :=
  match s.cal.run with
  | none => s
  | some r =>
    let s1 := s.setRun { r with elems := r.elems.erase e, slots := 0, bursts := 0, frames := 0 }
    let s2 := if r.kind = calFull then s1.calStep how else s1
    if s2.cal.held then (s2.setFlag F.CAL_STATUS_WAITING true) else (s2.calNext 256).calIdle

/-- A command releases the CAL resource: a run that waits goes on (R626). -/
def State.calRelease (s : State) : State :=
  let s1 := s.setCal { s.cal with held := false }
  if s1.flag F.CAL_STATUS_WAITING then ((s1.setFlag F.CAL_STATUS_WAITING false).calNext 256).calIdle else s1

/-- May the step of an element be in progress now: it is the front of the run, in a start-up run the front of its group, all
sinks at once during the boost rise, the back channel from BRINGUP_DONE on (R456, R622, R623); the run does not wait, and the full run's
command is at work. -/
def State.calActive (s : State) (e : CalElem) : Bool :=
  match s.cal.run with
  | none => false
  | some r =>
    !s.flag F.CAL_STATUS_WAITING && s.on e.domain &&
    (if r.kind = calStartUp then
      (match e with
        | .sink _ => r.elems.contains e && decide (s.bl.ramp = .rising ∨ s.bl.ramp = .ready)
        | .photodiode _ => !r.pdWait && (r.elems.find? fun x => x.group = 2) = some e
        | _ => r.elems.contains e && s.flag F.COL_STATUS_BRINGUP_DONE)
    else r.elems.head? = some e) &&
    (r.kind != calFull || s.calAtWork)

/-- Does a link step of a full run on a lane of port `p` set BURST_REQ in what the port sends (R623)? -/
def State.calBursts (s : State) (p : Nat) : Bool :=
  match s.cal.run with
  | some r => match r.elems.head? with
    | some (.lane l) => r.kind = calFull && lanePort l = p && s.calActive (.lane l)
    | _ => false
  | none => false

/-- The element whose step a CAL slot serves (R625). -/
def State.calLane (s : State) : Option Nat :=
  match s.cal.run with
  | some r => match r.elems.head? with
    | some (.lane l) => if s.calActive (.lane l) then some l else none
    | _ => none
  | none => none

/-- One granted CAL slot (R625). -/
def State.calSlot (s : State) : State :=
  match s.cal.run with
  | some r => s.setRun { r with slots := r.slots + 1 }
  | none => s

/-- A port enters UP for the first time since LINK powered up: its link-up run starts, or waits for the run in progress
(R623). -/
def State.calPortUp (s : State) (p : Nat) : State :=
  if s.cal.linkSeen.getD p false then s
  else
    (s.setCal { s.cal with linkSeen := listSet s.cal.linkSeen p true, linkUps := s.cal.linkUps ++ [p] }).calIdle

/-- Elements of a domain that powers down during their step are skipped (R626). -/
def State.calDomainOff (s : State) (d : Domain) : State :=
  let s1 := s.setCal { s.cal with
    restored := s.cal.restored.filter fun e => decide (e.domain ≠ d)
    linkUps := if d = .link then [] else s.cal.linkUps }
  match s1.cal.run with
  | none => s1
  | some r =>
    if r.kind = calStartUp then
      let gone := r.elems.filter fun e => decide (e.domain = d)
      ((gone.foldl State.calSkip s1).setRun { r with elems := r.elems.filter fun e => decide (e.domain ≠ d) }).calNext 256
    else s1.calNext 256

/-- Line E: the temperature trigger (R624). CAL_TEMP_STEP has no sign in the spec and is taken as unsigned (DESIGN CHOICE, log entry
90). -/
def State.calCheck (s : State) : State :=
  let step : Int := s.fld F.CAL_CTRL_CAL_TEMP_STEP
  let off := s.cal.die.zipIdx.any fun p =>
    let d := sext 16 p.1 - sext 16 (s.fld (F.CAL_TREF_VAL p.2))
    decide (step < d ∨ step < -d)
  if off ∧ s.flag F.CAL_CTRL_TRIG_EN = true ∧ s.mode ≠ .calibrate ∧ s.mode ≠ .service then
    s.setFlag F.CAL_STATUS_PENDING true
  else s

/-- Line 0: the frames of a link step, the wait of the photodiode group, the triggered run (R623 to R625). -/
def State.calFrame (s : State) : State :=
  match s.cal.run with
  | some r =>
    let wait := r.pdWait && (match s.cal.litFrame with
      | some f => decide ((s.frame - f).toNat < 16)
      | none => true)
    ((s.setRun { r with frames := r.frames + 1, pdWait := wait }).calNext 256).calIdle
  | none =>
    if s.flag F.CAL_STATUS_PENDING ∧ s.cal.held = false ∧ s.mode ≠ .calibrate ∧ s.mode ≠ .service then
      (s.setFlag F.CAL_STATUS_PENDING false).calStart calTrig
        (calPhotodiodes ++ [.backChannel] ++ calLanes 0 ++ calLanes 1) false
    else s.calIdle

/-! ### Results (R627) -/

/-- Is a receiver's result refused (R627)? -/
def State.eyeRefused (s : State) (kind l : Nat) (e : CalEye) : Bool :=
  if l < 9 then
    let was := s.fld (F.CAL_LANE_MAP_PHASE l)
    let diff := (e.phase + 64 - was) % 64
    e.width < s.fld F.CAL_CTRL_EYE_MIN || decide (10 < e.worst.natAbs) ||
      (decide (kind = calTrig) && decide (16 < min diff (64 - diff)))
  else e.width < 24 || decide (20 < e.worst.natAbs)

/-- The results of a receiver step: applied, or the values before stay (R628). -/
def State.eyeResult (s : State) (kind : Nat) (e : CalElem) (l : List (Nat × CalEye)) : State :=
  let s1 := l.foldl (fun s p => s.calQual p.1 p.2) s
  if l.any fun p => s.eyeRefused kind p.1 p.2 then (s1.calReject e).calDone e 1
  else (l.foldl (fun s p => ((s.laneValues p.1 p.2.map p.2.trim).countUp (F.CAL_LANE_CNT_APPLIED p.1))) s1).calDone e 0

/-- The new offset of photodiode `k`: the mean of the last 16 dark means, weighted by their counts (R621), and the
samples it rests on. -/
def State.darkMean (s : State) (k : Nat) : (Nat × Nat) × State :=
  let n := (s.cal.dark.map (·.2)).sum
  let t := (s.cal.dark.map fun p => p.1.getD k 0 * p.2).sum
  let (m, s1) := s.quot t n
  ((m, n), s1)

/-- The result of a photodiode step (R621, R627). -/
def State.pdResult (s : State) (kind k : Nat) : State :=
  let ((m, n), s1) := s.darkMean k
  let was := s1.fld (F.OPT_PD_OFS_VAL k)
  let far := decide (was + 1024 < m) || decide (m + 1024 < was)
  if n < 256 ∨ 4096 < m ∨ (far ∧ kind ≠ calStartUp) then
    (s1.calReject (.photodiode k)).calDone (.photodiode k) 1
  else (s1.setFld (F.OPT_PD_OFS_VAL k) m).calDone (.photodiode k) 0

/-- The result of a sink step (R622, R627): ERR in 0.1 %, that is 40 µA. -/
def State.sinkResult (s : State) (c : Nat) (cells : List Nat) : State :=
  let (sum, mask) := chooseCells cells
  let (q, s1) := s.quot (cellOff sum) 40
  let s2 := (s1.setFld (F.CAL_SINK_ERR c) (toTwos 8 (if sum < 40000 then -(q : Int) else q))).setFlag
    (F.CAL_SINK_CALIBRATED c) true
  if 600 < cellOff sum then (s2.calReject (.sink c)).calDone (.sink c) 1 else (s2.sinkValue c mask).calDone (.sink c) 0

/-- CAL_STEP_DONE: the step of an element ends (R617 to R622, R625, R627, R628). -/
def execCalStepDone (e : CalElem) (m : CalMeas) (s : State) : Out :=
  if !s.on .ctrl || !s.calActive e then .next s
  else
    match s.cal.run with
    | none => .next s
    | some r =>
      match e, m with
      | .lane l, .eyes a _ =>
        if r.kind = calFull ∨ 1024 ≤ r.slots then .next (s.eyeResult r.kind e [(l, a)]) else .next s
      | .backChannel, .eyes a b =>
        if 16 ≤ r.bursts then .next (s.eyeResult r.kind e [(9, a), (10, b)]) else .next s
      | .photodiode k, .dark => .next (s.pdResult r.kind k)
      | .sink c, .cells l => .next (s.sinkResult c l)
      | _, _ => .next s

/-- CAL_BURST: one burst on both segments: in CALIBRATE outside the reply window, else one per frame at line LAST + 2
(R620). -/
def execCalBurst (s : State) : Out :=
  match s.cal.run with
  | none => .next s
  | some r =>
    if !s.calActive .backChannel then .next s
    else if s.mode = .calibrate then .next (s.setRun { r with bursts := r.bursts + 1 })
    else if s.rs.running ∧ r.burstAt ≠ some s.frame then
      .next ((s.reachPos (s.liveFld F.COL_BCH_LAST + 2) 0).setRun { r with bursts := r.bursts + 1, burstAt := some s.frame })
    else .next s

/-- CAL_STEP_TIMEOUT: a link step outside CALIBRATE that 64 frames have not completed is skipped (R625). -/
def execCalStepTimeout (s : State) : Out :=
  match s.cal.run, s.calLane with
  | some r, some l =>
    if r.kind ≠ calFull ∧ 64 ≤ r.frames then .next ((s.calSkip (.lane l)).calDone (.lane l) 2) else .next s
  | _, _ => .next s

/-- The element in progress is abandoned: it keeps what was written (R626). -/
def State.calAbandon (s : State) (e : CalElem) : State :=
  if s.calActive e then (s.calSkip e).calDone e 2 else s

/-! ### Element registers (R631, R632) -/

/-- Does a MAP pass: four different elements, none above 5 (R631)? -/
def mapOk (v : Word) : Bool :=
  let l := (List.range 4).map fun i => bitsOf v (3 * i) 3
  l.all (· ≤ 5) && decide l.Nodup

/-- Has a mask exactly 12 ones? -/
def maskOk (v : Nat) : Bool := popCount v 16 = 12

/-- CAL_ELEMENT_WRITE: a write to an element's registers (R626, R632). -/
def execCalElementWrite (a : BitVec 32) (v : Word) (s : State) : Out :=
  let off := a.toNat - Blk.cal.base
  if !s.on .ctrl || a.toNat < Blk.cal.base then .next s
  else if 0x100 ≤ off ∧ off < 0x1B0 then
    let l := (off - 0x100) / 16
    let e : CalElem := if l < 9 then .lane l else .backChannel
    if off % 16 = 0 then
      if mapOk v then .next ((s.laneValues l (v &&& 0x3FFFF) (s.reg (R.CAL_LANE_TRIM l))).calAbandon e)
      else .next (s.setFlag F.CAL_STATUS_BAD_WR true)
    else if off % 16 = 4 then .next ((s.laneValues l (s.reg (R.CAL_LANE_MAP l)) (v &&& 0x3FFFFFFF)).calAbandon e)
    else .next s
  else if 0x1000 ≤ off ∧ off < 0x1300 ∧ off % 4 = 0 then
    let c := (off - 0x1000) / 4
    if maskOk (v.toNat % 65536) then
      let s1 := s.setFld (F.CAL_SINK_CELL_MASK c) v.toNat
      let due := if s1.cal.sinkDue.contains c then s1.cal.sinkDue else c :: s1.cal.sinkDue
      .next ((s1.setCal { s1.cal with sinkDue := due }).calAbandon (.sink c))
    else .next (s.setFlag F.CAL_STATUS_BAD_WR true)
  else .next s

end Sys2Proof.Machine
end

