-- ==== Sys2Proof/Machine/Symbols.lean ====
section
/-! DEFINITION. What lanes carry: control symbols (R183), ordered sets (R184 to R190), PRBS sequences (R188, R208), the framing of
packets (R215 to R217). -/

namespace Sys2Proof.Machine

/-! ### Control symbols (R183) -/

/-- Bytes of the control symbols. -/
abbrev symCOM : Byte := 0xBC
abbrev symTSI : Byte := 0x5C
abbrev symMKI : Byte := 0x7C
abbrev symIDI : Byte := 0x1C
abbrev symBSI : Byte := 0x9C
abbrev symSOP : Byte := 0xFB
abbrev symEOP : Byte := 0xFD
abbrev symEAB : Byte := 0xFE
abbrev symPAD : Byte := 0xF7

/-- The control symbols that a place allows (R183, R184, R215). A SOP inside a packet makes that packet malformed (R217). -/
def SymPlace.allows : SymPlace → List Byte
  | .start => [symCOM, symSOP]
  | .second => [symTSI, symMKI, symIDI, symBSI]
  | .inSet => []
  | .inPacket => [symCOM, symSOP, symEOP, symEAB, symPAD]

/-- Is what a decoder meets a code violation (R183, R206)? -/
def BadSym.violates : BadSym → Bool
  | .invalid | .disparity => true
  | .control place b => !place.allows.contains b

/-! ### Pseudo-random sequences (R188, R208) -/

/-- One step of the sequence of x^n + x^m + 1 with state `st` of n bits: the bit sent, and the next state. DESIGN CHOICE (log entry
81): the bit sent is the state's highest, and the feedback enters at its lowest. -/
def prbsStep (n m st : Nat) : Bool × Nat :=
  (st.testBit (n - 1), (2 * st + (if st.testBit (n - 1) ^^ st.testBit (m - 1) then 1 else 0)) % 2 ^ n)

/-- `k` bits of a sequence, and the state after them. -/
def prbsBits (n m : Nat) : Nat → Nat → List Bool × Nat
  | 0, st => ([], st)
  | k + 1, st =>
    let r := prbsBits n m k (prbsStep n m st).2
    ((prbsStep n m st).1 :: r.1, r.2)

/-- The next `k` bytes of the PRBS-7 byte sequence of a burst, bit 0 first (R6, R188), and the state after them. -/
def prbs7Bytes : Nat → Nat → List Byte × Nat
  | 0, st => ([], st)
  | k + 1, st =>
    let r := prbsBits 7 6 8 st
    let v := r.1.zipIdx.foldl (fun a b => a + if b.1 then 2 ^ b.2 else 0) 0
    let t := prbs7Bytes k r.2
    (BitVec.ofNat 8 v :: t.1, t.2)

/-- The state a burst starts from (R188). -/
abbrev burstSeed : Nat := 0x7F

/-- Length and tap of the pattern that PATTERN selects; FIXED counts the ten bits of its word (R208). -/
def patternShape : Nat → Nat × Nat
  | 0 => (7, 6)
  | 1 => (15, 14)
  | _ => (31, 28)

/-- The next `k` bits of a pattern generator, and its state after them (R208): bit 0 of the FIXED word is sent first. -/
def patternBits (pattern fixed k st : Nat) : List Bool × Nat :=
  if pattern = 3 then ((List.range k).map fun i => fixed.testBit ((st + i) % 10), (st + k) % 10)
  else prbsBits (patternShape pattern).1 (patternShape pattern).2 k st

/-! ### Ordered sets (R184 to R190) -/

/-- A training set: COM, TSI, 12 bytes, CHECK over them, D21.5 (R185). -/
def trainingSyms (body : List Byte) : List Sym :=
  [.ctl symCOM, .ctl symTSI] ++ body.map .data ++ [.data (BitVec.ofNat 8 (crc8 body)), .data 0xB5]

/-- A lane marker (R189). -/
def markerSyms (lane count : Nat) : List Sym :=
  [.ctl symCOM, .ctl symMKI, .data (BitVec.ofNat 8 (0x50 + lane)), .data (BitVec.ofNat 8 count)]

/-- An IDLE_SET (R187). -/
def idleSyms (req : Bool) : List Sym :=
  let flags : Byte := if req then 1 else 0
  [.ctl symCOM, .ctl symIDI, .data flags, .data (flags ^^^ 0xFF)]

/-- A burst set (R188). -/
def burstSyms (bs : List Byte) : List Sym := [.ctl symCOM, .ctl symBSI] ++ bs.map .data

/-- A block of the training states: one marker, 63 training sets, three IDLE_SETs with FLAGS 0x00 (R190). -/
def trainingBlock (lane count : Nat) (body : List Byte) : List Sym :=
  markerSyms lane count ++ (List.replicate 63 (trainingSyms body)).flatten ++ (List.replicate 3 (idleSyms false)).flatten

/-! ### Packets on the lanes (R215, R217) -/

/-- The bytes of a packet: header, payload, CRC-32 (R217 to R219). -/
def Packet.wireBytes (k : Packet) : List Byte := k.head ++ [k.hchk] ++ k.payload ++ leBytes 4 k.crc.toNat

/-- A packet on forward lane `l` of eight: SOP, every eighth byte from byte `l` on, PAD after the last byte, EOP or EAB (R215). -/
def forwardSyms (l : Nat) (bs : List Byte) (eab : Bool) : List Sym :=
  [.ctl symSOP] ++ (List.range (ceilDiv bs.length 8)).map (fun c =>
    match bs[8 * c + l]? with
    | some b => Sym.data b
    | none => .ctl symPAD) ++ [.ctl (if eab then symEAB else symEOP)]

/-- A packet on the return lane: SOP, its bytes in order, EOP or EAB (R215). -/
def returnSyms (bs : List Byte) (eab : Bool) : List Sym :=
  [.ctl symSOP] ++ bs.map .data ++ [.ctl (if eab then symEAB else symEOP)]

/-- A stream of symbols on a lane from symbol `pos` of a block on: the marker of each block that begins is put in, and the stream
goes on after it (R189, R215). -/
def withMarkers (lane : Nat) : List Sym → Nat → Nat → List Sym
  | [], _, _ => []
  | y :: t, pos, count =>
    if 1024 ≤ pos then markerSyms lane ((count + 1) % 256) ++ y :: withMarkers lane t 5 ((count + 1) % 256)
    else y :: withMarkers lane t (pos + 1) count

end Sys2Proof.Machine
end

