-- ==== Sys2Proof/Machine/Links.lean ====
section
/-! DEFINITION. Ndorik link lanes: port states and attempts (R194 to R201), the handshake (R195), training sets (R185,
R186), markers and deskew (R189 to R193), detectors (R206), equalisers (R202, R203), bursts (R204, R205), loopbacks
(R208 to R212). -/

namespace Sys2Proof.Machine

/-! ### Lanes -/

/-- A lane of a port. -/
def State.lane (s : State) (p l : Nat) : RxLane := (s.port p).lanes.getD l RxLane.reset

/-- The state with a lane replaced. -/
def State.setLane (s : State) (p l : Nat) (x : RxLane) : State :=
  s.setPort p { s.port p with lanes := listSet (s.port p).lanes l x }

/-- Is loss of signal clear on every receive lane? -/
def State.allSignal (s : State) (p : Nat) : Bool := (rxLanes p).all fun l => !s.flag (F.PORT_LANE_STAT_LOS p l)

/-- CAP_NOW: RATE_EN less dropped rates, 3.125 Gbaud always (R199, R213). -/
def State.setCap (s : State) (p : Nat) : State :=
  let en := s.fld (F.PORT_CTRL_RATE_EN p)
  let d := (s.port p).dropped
  let keep := ([1, 2, 3].filter fun i => en.testBit i && !d.testBit i).foldl (fun a i => a + 2 ^ i) 1
  s.setFld (F.PORT_STATUS_CAP_NOW p) keep

/-- The highest rate offered by both sides (R199). -/
def State.selRate (s : State) (p : Nat) : Nat :=
  let both := s.fld (F.PORT_STATUS_CAP_NOW p) &&& s.fld (F.PORT_PARTNER_CAP p)
  (([3, 2, 1].find? fun i => both.testBit i)).getD 0

/-- A LINK event (R639): codes 0x02 and 0x03 are logged. -/
def State.linkEvent (s : State) (p code : Nat) : State :=
  if code = 2 ∨ code = 3 then s.eventLogged 2 code (s.linkEventData p) else s.event 2 code (s.linkEventData p)

/-- What every departure from UP or RETRAIN to another state does (R232, R246, R277, R533; log entry 18). -/
def State.leaveLink (s : State) (p : Nat) : State :=
  if p = 0 then
    let s1 := ((s.dropHost).discardPackets 0).abandonLink
    let s2 : State := { s1 with vid := { s1.vid with waiting := [] } }
    ((s2.setFld (F.PORT_ADDR_ADDR 0) 0x7E).noteNoHost).syncPauses
  else (s.discardPackets 1).syncPauses

/-- The transmitter starts: its block counter at COUNT 0x00 (R189). -/
def State.txStart (s : State) (p : Nat) : State :=
  s.setPort p { s.port p with ui := 0, count := 0, quiet := false, setSeen := false }

/-- The port's rate is `r` from now on: at a new rate, or after the electrical idle of RATE_CHANGE, the transmitter starts again
(R178, R189). -/
def State.toRate (s : State) (p r : Nat) : State :=
  (if s.fld (F.PORT_STATUS_RATE p) = r && !(s.port p).quiet then s else s.txStart p).setFld (F.PORT_STATUS_RATE p) r

/-- Bursts and the requests for them end with the link (R204, R205). -/
def State.noBurst (s : State) (p : Nat) : State :=
  s.setPort p { s.port p with burstReq := 0, reqDue := false, burstDue := false, burst := none }

/-- A port goes to a state: LINK_DOWN and LINK_UP with the events, and what leaving the link does (R194, R213). Out of OFF and TEST
the transmitter starts (R189). -/
def State.goPort (s : State) (p new : Nat) : State :=
  let old := s.pState p
  let s0 := if old = pOff ∨ old = pTest then s.txStart p else if new = pUp then s else s.noBurst p
  let s1 := s0.setFld (F.PORT_STATUS_STATE p) new
  let s2 := if old = pUp ∧ new ≠ pUp then (s1.setFlag (F.PORT_EVENT_LINK_DOWN p) true).linkEvent p 2 else s1
  let s3 := if new = pNoPartner ∨ new = pOff then s2.tellRetrain p stTimeout else s2
  if (old = pUp ∨ old = pRetrain) ∧ new ≠ pUp ∧ new ≠ pRetrain then s3.leaveLink p else s3

/-- A lane with no runs. -/
def RxLane.clear (l : RxLane) : RxLane :=
  { l with tsRun := 0, seenRun := 0, loopOff := 0, markerRun := 0, markerSeen := false, blockViol := 0, dwell := false }

/-- The handshake starts again: no runs, no SEEN (R195). -/
def State.clearRuns (s : State) (p : Nat) : State :=
  let x := s.port p
  let s1 := s.setPort p { x with txSeen := 0, setSeen := false, loopAck := 0, lanes := x.lanes.map RxLane.clear }
  (s1.setFlag (F.PORT_STATUS_SEEN_TX p) false).setFlag (F.PORT_STATUS_SEEN_RX p) false

/-- A lane without lock: not aligned, not deskewed. -/
def State.unlockLane (s : State) (p l : Nat) : State :=
  let x := s.lane p l
  let s1 := s.setLane p l { x with cdr := false, tsRun := 0, seenRun := 0, markerSeen := false, dwell := false }
  ((s1.setFlag (F.PORT_LANE_STAT_ALIGNED p l) false).setFlag (F.PORT_LANE_STAT_DESKEWED p l) false).setFld
    (F.PORT_LANE_STAT_SKEW p l) 0xFF

/-- Every receive lane without lock. -/
def State.unlockLanes (s : State) (p : Nat) : State := (rxLanes p).foldl (fun s l => s.unlockLane p l) s

/-- A new TRAIN_ID, not 0 and not the previous one (R196). -/
def State.newTrainId (s : State) (p : Nat) : State :=
  let (v, s1) := s.random 254
  let x := s1.port p
  let id := if x.trainId = 0 then v + 1 else if v + 1 < x.trainId then v + 1 else v + 2
  s1.setPort p { x with trainId := id, refId := s1.fld (F.PORT_PARTNER_TRAIN_ID p) }

/-- An equaliser's starting point: PEAK (R202). -/
def State.startPeaks (s : State) (p : Nat) : State :=
  (rxLanes p).foldl (fun s l => s.setFld (F.PORT_LANE_PHY_PEAK_NOW p l) (s.fld (F.PORT_LANE_PHY_PEAK p l))) s

/-- Is a near-end loop set? -/
def State.nearLoop (s : State) (p : Nat) : Bool :=
  s.fld (F.PORT_LOOP_MODE p) = 1 || s.fld (F.PORT_LOOP_MODE p) = 2

/-- Is the far-end mode in force: the Chain port only (R209)? -/
def State.farLoop (s : State) (p : Nat) : Bool := p != 0 && s.fld (F.PORT_LOOP_MODE p) = 3

/-- An attempt starts from NO_PARTNER (R196), with the reference present (R201) and no near-end loop in force (R210). -/
def State.attempt (s : State) (p : Nat) : State :=
  if s.pState p = pNoPartner ∧ s.flag (F.PORT_STATUS_REF_OK p) = true ∧ s.nearLoop p = false then
    let s1 := ((s.newTrainId p).clearRuns p).startPeaks p
    let x := s1.port p
    let s2 := s1.setPort p { x with rateChanged := false, losMask := false, retryArmed := false }
    ((s2.countUp (F.PORT_TRAIN_CNT_ATTEMPTS p)).toRate p 0).goPort p pLock
  else s

/-- A failed attempt: the rate is dropped and counted after RATE_CHANGE (R199), the retry timer is set (R197). -/
def State.failAttempt (s : State) (p : Nat) : State :=
  let x := s.port p
  let drop := x.rateChanged && x.sel != 0
  let s1 := s.setPort p { x with
    dropped := if drop then x.dropped ||| 2 ^ x.sel else x.dropped
    rateDrops := if drop then x.rateDrops + 1 else x.rateDrops
    losMask := false, retryArmed := true, nextDelay := min 1600 (2 * x.nextDelay) }
  let s2 := (s1.setFld (F.PORT_STATUS_RETRY_MS p) x.nextDelay).toRate p 0
  let s3 := if drop then (((s2.setCap p).setFlag (F.PORT_EVENT_RATE_DROP p) true).linkEvent p 3) else s2
  (s3.clearRuns p).goPort p pNoPartner

/-- Is a port in an attempt? -/
def State.inAttempt (s : State) (p : Nat) : Bool :=
  s.pState p = pLock || s.pState p = pRateChange || s.pState p = pTrain

/-- A port enters UP (R194, R197, R225, R247). -/
def State.enterUp (s : State) (p : Nat) : State :=
  let again := s.pState p = pRetrain
  let x := s.port p
  let s1 := s.setPort p { x with nextDelay := 100, retryArmed := false, losMask := false }
  let s2 := (s1.setFld (F.PORT_STATUS_RETRY_MS p) 100).countUp (F.PORT_TRAIN_CNT_UPS p)
  let s3 := ((s2.goPort p pUp).setFlag (F.PORT_EVENT_LINK_UP p) true).linkEvent p 1
  let s4 := if again then
      let y := s3.port p
      if y.tx.afreshDue then
        s3.setPort p { y with tx := { y.tx with
          unacked := y.tx.unacked.map fun k => { k with replays := 0 }
          resend := y.tx.unacked.map (·.seq)
          afresh := true
          afreshDue := false
          replayWait := y.tx.replayWait || !y.tx.unacked.isEmpty } }
      else s3
    else s3.freshPackets p
  let s5 := if p = 0 ∧ again = false then
      let v := s4.vid
      (({ s4 with vid := { v with streams := v.streams.map fun t => { t with configured := false } } } : State).noteHost).enableMb 0
    else s4
  (((if p = 1 ∧ s5.enumerated = true then s5.linkEvent 1 4 else s5).syncPauses).calPortUp p).tellRetrain p stOk

/-- A port in UP starts a retrain at its rate (R200). -/
def State.retrain (s : State) (p : Nat) : State :=
  if s.pState p = pUp then
    (((s.clearRuns p).countUp (F.PORT_RETRAIN_CNT_RETRAINS p)).goPort p pRetrain).syncPauses
  else s

/-- A retrain that fails: NO_PARTNER with a retry delay of 100 ms and a new attempt at once (R200, R231). -/
def State.failRetrain (s : State) (p : Nat) (count : Bool) : State :=
  let s1 := s.setFlag (F.PORT_EVENT_RETRAIN_FAIL p) true
  let s2 := if count then s1.countUp (F.PORT_RETRAIN_CNT_FAILED p) else s1
  let s3 := (s2.toRate p 0).goPort p pNoPartner
  (s3.setPort p { s3.port p with nextDelay := 100 }).attempt p

/-! ### The handshake (R195) -/

/-- Has the side lock? -/
def State.hasLock (s : State) (p : Nat) : Bool :=
  (rxLanes p).all fun l => (s.lane p l).cdr && s.flag (F.PORT_LANE_STAT_ALIGNED p l) && decide (8 ≤ (s.lane p l).tsRun)
    && (p != 0 || s.flag (F.PORT_LANE_STAT_DESKEWED p l))

/-- Has every equaliser had its dwell, where the state asks for one? -/
def State.dwelt (s : State) (p : Nat) : Bool :=
  s.pState p = pLock || (rxLanes p).all fun l => (s.lane p l).dwell

/-- SEEN sent and received, and the move that a complete handshake makes (R194, R195). While the far-end mode is in
force the port keeps training (R211), and an Inlet that answers LOOP_REQ goes to TEST (R212). -/
def State.handshake (s : State) (p : Nat) : State :=
  let st := s.pState p
  if st = pLock ∨ st = pTrain ∨ st = pRetrain then
    let lock := s.hasLock p
    let seenRx := (rxLanes p).all fun l => decide (8 ≤ (s.lane p l).seenRun)
    let tx := lock && s.dwelt p
    let s1 := (s.setFlag (F.PORT_STATUS_SEEN_TX p) tx).setFlag (F.PORT_STATUS_SEEN_RX p) seenRx
    if lock ∧ seenRx = true ∧ 16 ≤ (s1.port p).txSeen ∧ s1.farLoop p = false ∧ (s1.port p).loopAck = 0 then
      if st = pLock ∧ s1.selRate p ≠ 0 then
        let s2 := s1.setPort p { s1.port p with sel := s1.selRate p, rateChanged := true, losMask := true }
        ((s2.clearRuns p).unlockLanes p).goPort p pRateChange
      else s1.enterUp p
    else s1
  else s

/-! ### Loops (R209 to R212) -/

/-- The lane an Inlet watches: the lowest forward lane other than the looped one (R212). -/
def watchLane (loop : Nat) : Nat := if loop = 0 then 1 else 0

/-- The port enters TEST by request of its partner or on LOOP_ACK. -/
def State.enterTest (s : State) (p : Nat) (active : Fld) : State := (s.clearRuns p).setFlag active true |>.goPort p pTest

/-- A loop ends: the port is in NO_PARTNER. -/
def State.endLoop (s : State) (p : Nat) : State :=
  let s1 := (s.setFlag (F.PORT_LOOP_ACTIVE p) false).setFlag (F.PORT_LOOP_FAR_ACTIVE p) false
  ((s1.toRate p 0).clearRuns p).goPort p pNoPartner

/-- An Inlet's far-end loop ends and a new attempt starts (R212). -/
def State.endFar (s : State) (p : Nat) : State := (s.endLoop p).attempt p

/-! ### Training sets (R185, R186, R196, R200, R212) -/

/-- The fields of a training set by symbol number, symbols 2 to 15. -/
def tsSym (bs : List Byte) (i : Nat) : Nat := byteAt bs (i - 2)

/-- Is a training set valid (R186)? `c0` and `c1` are its symbols 0 and 1. -/
def tsValid (c0 c1 : Sym) (bs : List Byte) : Bool :=
  c0 = .ctl symCOM && c1 = .ctl symTSI && bs.length = 14 && tsSym bs 14 = crc8 (bs.take 12) && tsSym bs 9 = 1 && tsSym bs 3 < 16 && tsSym bs 4 < 4
    && tsSym bs 5 < 32 && tsSym bs 8 < 8

/-- A valid set's fields taken on a lane: the partner's registers, the runs, SEEN where ECHO_ID is this port's (R195). -/
def State.takeSet (s : State) (p l : Nat) (bs : List Byte) : State :=
  let x := s.lane p l
  let fl := tsSym bs 5
  let seen := fl.testBit 0 && tsSym bs 7 = (s.port p).trainId && tsSym bs 7 != 0
  let s1 := s.setLane p l { x with tsRun := x.tsRun + 1, seenRun := if seen then x.seenRun + 1 else 0, lastId := tsSym bs 6 }
  let s2 := ((s1.setFld (F.PORT_PARTNER_CAP p) (tsSym bs 3)).setFld (F.PORT_PARTNER_ROLE p) (fl / 2 % 2)).setFld
    (F.PORT_PARTNER_TRAIN_ID p) (tsSym bs 6)
  s2.setFld (F.PORT_PARTNER_VERSION p) 1

/-- A training set arrives on a receive lane (R186 and R194 to R212). -/
def State.trainingSet (s : State) (p l : Nat) (c0 c1 : Sym) (bs : List Byte) : State :=
  if !s.acts .link || !(rxLanes p).contains l || s.pState p = pOff then s
  else if !tsValid c0 c1 bs then
    let x := s.lane p l
    (s.setLane p l { x with tsRun := 0, seenRun := 0, loopOff := 0, tsBad := x.tsBad + 1 }).setFlag
      (F.PORT_EVENT_TS_CHECK p) true
  else
    let st := s.pState p
    let fl := tsSym bs 5
    if st = pTest then
      if s.flag (F.PORT_LOOP_FAR_ACTIVE p) ∧ l = watchLane (s.port p).loopLane then
        let x := s.lane p l
        let n := if fl.testBit 2 then 0 else x.loopOff + 1
        let s1 := s.setLane p l { x with loopOff := n }
        if 8 ≤ n then s1.endFar p else s1
      else s
    else
      let s1 := s.takeSet p l bs
      if st = pNoPartner then
        if s1.allSignal p ∧ (rxLanes p).all (fun k => (s1.lane p k).lastId != 0 && (s1.lane p k).lastId != (s1.port p).refId) then
          s1.attempt p
        else s1
      else if st = pUp then s1.retrain p
      else if st = pRateChange then s1
      else if p = 0 ∧ fl.testBit 2 = true ∧ s1.flag (F.PORT_CTRL_FAR_EN 0) = true then
        s1.setPort 0 { s1.port 0 with loopLane := tsSym bs 8, loopAck := max 1 (s1.port 0).loopAck }
      else if s1.farLoop p ∧ fl.testBit 3 = true then s1.enterTest p (F.PORT_LOOP_ACTIVE p)
      else s1.handshake p

/-! ### Markers (R189 to R193) -/

/-- The eight forward lanes deskewed, when all have given a marker of one COUNT (R191). -/
def State.deskew (s : State) : State :=
  let ls := List.range 8
  let cnt := fun l => s.fld (F.PORT_LANE_STAT_MARKER_COUNT 0 l)
  if ls.all fun l => (s.lane 0 l).markerSeen && cnt l == cnt 0 then
    let arr := ls.map fun l => (s.lane 0 l).arrival
    let lo := arr.foldl min ((s.lane 0 0).arrival)
    let hi := arr.foldl max 0
    if hi - lo ≤ 96 then
      (ls.foldl (fun s l =>
        let x := s.lane 0 l
        ((s.setLane 0 l { x with deskewPos := x.arrival, markerSeen := false }).setFlag (F.PORT_LANE_STAT_DESKEWED 0 l) true).setFld
          (F.PORT_LANE_STAT_SKEW 0 l) (x.arrival - lo)) s).handshake 0
    else
      let s1 := s.setFlag (F.PORT_EVENT_DESKEW_FAIL 0) true
      if s1.inAttempt 0 then s1.failAttempt 0 else s1
  else s

/-- A marker error in UP: counted, a retrain on the third in a row (R193). -/
def State.markerError (s : State) (p l : Nat) : State :=
  let x := s.lane p l
  let s1 := s.setLane p l { x with markerRun := x.markerRun + 1, blockViol := 0 }
  let s2 := (s1.setFlag (F.PORT_EVENT_MARKER_ERR p) true).countUp (F.PORT_LANE_ERR_MARKER_ERR p l)
  if 3 ≤ x.markerRun + 1 then s2.retrain p else s2

/-- A marker position on a lane: the marker's LANE and COUNT bytes and its arrival in UI, or no marker (R193); a block begins there,
so the count of code violations starts again (R206). DEDUCED (log entry 80): the previous COUNT is the one last received with a right
LANE byte, also where that marker was an error for its COUNT or its arrival; a missing marker leaves it. -/
def State.marker (s0 : State) (p l : Nat) (m : Option (Byte × Byte)) (arrival : Nat) : State :=
  let s := if s0.cal.laneDue.contains l then s0.laneTake l else s0
  if !s.acts .link || !(rxLanes p).contains l || s.pState p = pOff then s
  else if s.pState p = pTest then s.setLane p l { s.lane p l with blockViol := 0 }
  else
    let x := s.lane p l
    let up := s.pState p = pUp
    match m with
    | none => if up then s.markerError p l else s.setLane p l { x with blockViol := 0 }
    | some (lb, cb) =>
      let laneOk := lb.toNat = 0x50 + l
      let prev := s.fld (F.PORT_LANE_STAT_MARKER_COUNT p l)
      let cntOk := cb.toNat = (prev + 1) % 256
      let posOk := p ≠ 0 ∨ (arrival ≤ x.deskewPos + 8 ∧ x.deskewPos ≤ arrival + 8)
      let s1 := if laneOk then s.setFld (F.PORT_LANE_STAT_MARKER_COUNT p l) cb.toNat else s
      if up then
        if laneOk ∧ cntOk ∧ posOk then
          s1.setLane p l { x with markerRun := 0, blockViol := 0, arrival := arrival }
        else s1.markerError p l
      else
        let s2 := s1.setLane p l { x with blockViol := 0, arrival := arrival, markerSeen := decide laneOk }
        if p = 0 ∧ laneOk ∧ x.cdr = true then s2.deskew else s2

/-! ### Detectors (R206) -/

/-- Loss of lock on a receive lane (R206, R200, R212). -/
def State.lossOfLock (s : State) (p l : Nat) : State :=
  if !s.acts .link || !(rxLanes p).contains l then s
  else
    let s1 := ((s.setFlag (F.PORT_EVENT_LOL p) true).countUp (F.PORT_LANE_ERR_LOL_COUNT p l)).setFlag
      (F.PORT_LANE_STAT_LOL p l) true
    let st := s.pState p
    let s2 := s1.unlockLane p l
    if st = pUp then s2.retrain p
    else if st = pTest ∧ s1.flag (F.PORT_LOOP_FAR_ACTIVE p) = true ∧ l = watchLane (s1.port p).loopLane then s2.endFar p
    else if st = pLock ∨ st = pTrain ∨ st = pRetrain then s2.handshake p
    else s2

/-- A code violation: counted; 16 within one block are a loss of lock (R206). -/
def State.violation (s : State) (p l : Nat) : State :=
  if !s.acts .link || !(rxLanes p).contains l then s
  else
    let x := s.lane p l
    let s1 := (s.setLane p l { x with blockViol := x.blockViol + 1 }).countUp (F.PORT_LANE_ERR_CODE_ERR p l)
    if x.blockViol + 1 = 16 then s1.lossOfLock p l else s1

/-- The reaction of a port to loss of signal (R197, R198, R206). -/
def State.signalGone (s : State) (p : Nat) : State :=
  if (s.port p).losMask then s
  else if s.inAttempt p then s.failAttempt p
  else if s.pLinked p then (s.toRate p 0).goPort p pNoPartner
  else if s.pState p = pTest then
    if s.flag (F.PORT_LOOP_FAR_ACTIVE p) then s.endFar p else s.endLoop p
  else s

/-! ### Rows -/

/-- A write of INL_CTRL or CHN_CTRL (R194, R199, R213). -/
def State.portCtrl (s : State) (p : Nat) (v : Word) : State :=
  let was := s.flag (F.PORT_CTRL_ENABLE p)
  let en := v.toNat.testBit 0
  let s1 := s.setReg (R.PORT_CTRL p) (BitVec.ofNat 32 ((v.toNat &&& 0x6F1) ||| 0x10))
  let x := s1.port p
  let s2 := (if en ∧ was = false then s1.setPort p { x with dropped := 0 } else s1).setCap p
  let s3 :=
    if en = true ∧ s2.pState p = pOff then s2.goPort p pNoPartner
    else if en = false ∧ s2.pState p ≠ pOff then
      let s4 := ((s2.toRate p 0).clearRuns p).goPort p pOff
      (s4.setFlag (F.PORT_LOOP_ACTIVE p) false).setFlag (F.PORT_LOOP_FAR_ACTIVE p) false
    else s2
  if v.toNat.testBit 8 then s3.retrain p else s3

/-- LOSS_OF_SIGNAL on a lane (R206). -/
def execLossOfSignal (p : Fin 2) (l : Fin 9) (s : State) : Out :=
  if !s.acts .link || !(rxLanes p).contains l.val then .next s
  else
    let s1 := (s.setFlag (F.PORT_LANE_STAT_LOS p l) true).setFlag (F.PORT_EVENT_LOS p) true
    .next ((s1.unlockLane p l).signalGone p)

/-- SIGNAL_DETECT: loss of signal clears on a lane; with all lanes clear an attempt starts (R196). -/
def execSignalDetect (p : Fin 2) (l : Fin 9) (s : State) : Out :=
  if !s.acts .link || !(rxLanes p).contains l.val then .next s
  else
    let s1 := s.setFlag (F.PORT_LANE_STAT_LOS p l) false
    .next (if s1.allSignal p then s1.attempt p else s1)

/-- LOSS_OF_LOCK on a lane (R206). -/
def execLossOfLock (p : Fin 2) (l : Fin 9) (s : State) : Out := .next (s.lossOfLock p l)

/-- CDR_LOCK: CDR lock and comma alignment on a lane; the return lane then reads DESKEWED (R206, R213). -/
def execCdrLock (p : Fin 2) (l : Fin 9) (s : State) : Out :=
  if !s.acts .link || !(rxLanes p).contains l.val then .next s
  else
    let s1 := s.setLane p l { s.lane p l with cdr := true }
    let s2 := (s1.setFlag (F.PORT_LANE_STAT_LOL p l) false).setFlag (F.PORT_LANE_STAT_ALIGNED p l) true
    .next ((if l.val = 8 then s2.setFlag (F.PORT_LANE_STAT_DESKEWED p l) true else s2).handshake p)

/-- CODE_VIOLATION: what a lane's decoder meets, judged by the table of control symbols (R183, R206). -/
def execCodeViolation (p : Fin 2) (l : LaneSym) (s : State) : Out :=
  .next (if l.sym.violates then s.violation p l.lane else s)

/-- TRAINING_SET_RECEIVED: its symbols 0 and 1, and the bytes of symbols 2 to 15 (R185, R186). -/
def execTrainingSetReceived (p : Fin 2) (l : Fin 9) (ctl : Sym × Sym) (bs : List Byte) (s : State) : Out :=
  .next (s.trainingSet p l ctl.1 ctl.2 bs)

/-- ATTEMPT_TIMEOUT: 50 ms after the attempt's start, unless the far-end mode suspends it (R197, R211). -/
def execAttemptTimeout (p : Fin 2) (s : State) : Out :=
  if s.acts .link && s.inAttempt p && !s.farLoop p then
    .next ((s.setFlag (F.PORT_EVENT_TRAIN_TIMEOUT p) true).failAttempt p)
  else .next s

/-- RETRY_TIMER_EXPIRY (R196, R197). -/
def execRetryTimerExpiry (p : Fin 2) (s : State) : Out :=
  if s.acts .link && (s.port p).retryArmed then
    let s1 := s.setPort p { s.port p with retryArmed := false }
    .next (if s1.allSignal p then s1.attempt p else s1)
  else .next s

/-- PLL_LOCKED at SEL: RATE_CHANGE to TRAIN; the transmitter starts at the new rate with COUNT 0x00 (R189, R194). -/
def execPllLocked (p : Fin 2) (s : State) : Out :=
  if s.acts .link && decide (s.pState p = pRateChange) then
    .next (((s.setFld (F.PORT_STATUS_RATE p) (s.port p).sel).txStart p).goPort p pTrain)
  else .next s

/-- LOS_MASK_END: 300 µs after the entry to RATE_CHANGE loss of signal counts again (R198). -/
def execLosMaskEnd (p : Fin 2) (s : State) : Out :=
  if s.acts .link && (s.port p).losMask then
    let s1 := s.setPort p { s.port p with losMask := false }
    .next (if s1.allSignal p then s1 else s1.signalGone p)
  else .next s

/-- EQUALISER_DWELL_DONE on a lane: 200 µs in TRAIN, 100 µs in RETRAIN, counted from CDR lock (R195). -/
def execEqualiserDwellDone (p : Fin 2) (l : Fin 9) (s : State) : Out :=
  if s.acts .link && (rxLanes p).contains l.val && (s.lane p l).cdr
      && (decide (s.pState p = pTrain) || decide (s.pState p = pRetrain)) then
    .next ((s.setLane p l { s.lane p l with dwell := true }).handshake p)
  else .next s

/-- EQ_ADAPT_INTERVAL: the adapter of a lane moves its setting by at most one code: 0 stays, 1 up, 2 down (R203). -/
def execEqAdaptInterval (p : Fin 2) (l : Fin 9) (dir : Fin 3) (s : State) : Out :=
  if s.acts .link && (rxLanes p).contains l.val && s.flag (F.PORT_LANE_PHY_ADAPT p l) && !s.flag (F.PORT_LANE_STAT_LOS p l) then
    let n := s.fld (F.PORT_LANE_PHY_PEAK_NOW p l)
    .next (s.setFld (F.PORT_LANE_PHY_PEAK_NOW p l) (if dir.val = 1 then min 15 (n + 1) else if dir.val = 2 then n - 1 else n))
  else .next s

/-- LANE_MARKER_RECEIVED at a marker position of a lane (R193). -/
def execLaneMarkerReceived (p : Fin 2) (l : Fin 9) (m : Option (Byte × Byte)) (arrival : Nat) (s : State) : Out :=
  .next (s.marker p l m arrival)

/-- RETRAIN_TIMEOUT: 2 ms without UP, unless the far-end mode suspends the bound (R200, R211). -/
def execRetrainTimeout (p : Fin 2) (s : State) : Out :=
  if s.acts .link && decide (s.pState p = pRetrain) && !s.farLoop p then .next (s.failRetrain p true) else .next s

/-- IDLE_SET_RECEIVED on a lane: a wrong CHECK is a code violation; BURST_REQ is served, whatever IDLE_BURST_EN holds, by a burst
from the next packet boundary on (R187, R205). -/
def execIdleSetReceived (p : Fin 2) (l : Fin 9) (flags check : Byte) (s : State) : Out :=
  if !s.acts .link || !(rxLanes p).contains l.val then .next s
  else if check ≠ flags ^^^ 0xFF then .next (s.violation p l)
  else if flags.toNat.testBit 0 && s.pIsUp p && (s.port p).burst.isNone then
    .next (s.setPort p { s.port p with burstDue := true })
  else .next s

/-- IDLE_BURST_REQUEST: 10 ms without a qualifying symbol on any receive lane: BURST_REQ goes out in every IDLE_SET for one block,
and in one that is put in where packets wait (R204). -/
def execIdleBurstRequest (p : Fin 2) (s : State) : Out :=
  if s.acts .link && s.pIsUp p && s.flag (F.PORT_CTRL_IDLE_BURST_EN p) then
    .next (s.askBurst p)
  else .next s

/-- BURST_END: 4 µs of burst sets have been sent (R205). -/
def execBurstEnd (p : Fin 2) (s : State) : Out := .next (s.setPort p { s.port p with burst := none })

/-- A write of INL_LOOP or CHN_LOOP (R209 to R211). -/
def State.portLoop (s : State) (p : Nat) (v : Word) : State :=
  let mode := v.toNat % 4
  if (p = 0 ∧ mode = 3) ∨ (mode ≠ 0 ∧ s.mode ≠ .service) then s.setFlag (F.PORT_EVENT_BAD_WR p) true
  else
    let s1 := (s.setFld (F.PORT_LOOP_MODE p) mode).setFld (F.PORT_LOOP_LANE p) (v.toNat / 8)
    if mode = 0 then
      if s.fld (F.PORT_LOOP_MODE p) ≠ 0 ∧ s1.pState p ≠ pOff then s1.endLoop p else s1
    else if mode = 3 then
      if s1.pState p = pUp then s1.retrain p
      else if s1.pState p = pTest then s1
      else (s1.goPort p pNoPartner).attempt p
    else (s1.setFlag (F.PORT_LOOP_ACTIVE p) true).goPort p pTest

/-- A pattern generator that is switched on starts in a state the spec leaves open: any but 0, or the first bit of FIXED (R208). -/
def State.genStart (s : State) (p : Nat) : State :=
  let k := s.fld (F.PORT_PAT_PATTERN p)
  if k = 3 then s.setPort p { s.port p with gen := 0 }
  else
    let (v, s1) := s.draw (2 ^ (patternShape k).1 - 1)
    s1.setPort p { s1.port p with gen := v + 1 }

/-- A write of INL_PAT or CHN_PAT: GEN from 0 to 1, or another pattern, starts the generator; CHK from 0 to 1 clears the checker's
counts (R208). -/
def State.portPat (s : State) (p : Nat) (v : Word) : State :=
  let rise := v.toNat.testBit 3 && !s.flag (F.PORT_PAT_CHK p)
  let lock := if v.toNat.testBit 3 then s.fld (F.PORT_PAT_CHK_LOCK p) else 0
  let start := v.toNat.testBit 2 && (!s.flag (F.PORT_PAT_GEN p) || s.fld (F.PORT_PAT_PATTERN p) != v.toNat % 4)
  let s1 := (s.setReg (R.PORT_PAT p) (BitVec.ofNat 32 (v.toNat % 2 ^ 14))).setFld (F.PORT_PAT_CHK_LOCK p)
    (if rise then 0 else lock)
  let s2 := if start then s1.genStart p else s1
  if rise then (rxLanes p).foldl (fun s l => s.setReg (R.PORT_LANE_BER p l) 0) s2 else s2

/-- The reference is lost at one port: it stays in NO_PARTNER (R201). -/
def State.refLost (s : State) (p : Nat) : State :=
  let s1 := s.setFlag (F.PORT_STATUS_REF_OK p) false
  if s1.pState p = pOff ∨ s1.pState p = pNoPartner then s1
  else if s1.pState p = pTest then s1.endLoop p
  else ((s1.toRate p 0).clearRuns p).goPort p pNoPartner

/-- REFCLK_LOSS: both ports use the J1 reference (R180, R201). -/
def execRefclkLoss (s : State) : Out :=
  let s1 : State := { s with pw := { s.pw with refclk := false } }
  .next (if s.acts .link then (s1.refLost 0).refLost 1 else s1)

/-- REFCLK_RETURN: attempts may start (R201). -/
def execRefclkReturn (s : State) : Out :=
  let s0 : State := { s with pw := { s.pw with refclk := true } }
  if !s.acts .link then .next s0
  else
    let back := fun (s : State) (p : Nat) =>
      let s1 := s.setFlag (F.PORT_STATUS_REF_OK p) true
      if s1.allSignal p then s1.attempt p else s1
    .next (back (back s0 0) 1)

end Sys2Proof.Machine
end

