-- ==== Sys2Proof/Machine/Packets.lean ====
section
/-! DEFINITION. Ndorik packets: reception with sequence, replay and defects (R217 to R232), consumption and forwarding
(R41, R42, R238 to R241, R248 to R252), enumeration (R244 to R247), the sender (R229 to R237, R242). -/

namespace Sys2Proof.Machine

/-! ### Replies of the receiver (R226 to R228) -/

/-- A link-control packet is due. -/
def State.askLink (s : State) (p : Nat) (m : LinkMsg) : State :=
  let x := s.port p
  s.setPort p { x with tx := x.tx.ask m }

/-- A packet is discarded for a failed check or an early SEQ: a NAK is due, unless one for the awaited packet went out in
the last 8 µs (R228). -/
def State.discardNak (s : State) (p : Nat) : State :=
  let x := s.port p
  let due := match x.rx.nakAt with
    | none => true
    | some t => decide (1250 ≤ s.since t)
  let s1 := s.setPort p { x with rx := { x.rx with waiting := true, nakAt := if due then some s.time else x.rx.nakAt } }
  (if due then s1.askLink p .nak else s1).syncPauses

/-- A packet that takes the expected SEQ: E advances, an ACK is due after 16 packets (R226, R227). -/
def State.acceptSeq (s : State) (p : Nat) : State :=
  let s1 := s.wrapUp (F.PORT_SEQ_EXP p)
  let x := s1.port p
  let n := x.rx.sinceAck + 1
  let s2 := s1.setPort p { x with rx := { x.rx with waiting := false, nakAt := none, sinceAck := n } }
  (if 16 ≤ n then s2.askLink p .ack else s2).syncPauses

/-- A packet that carries a defect (R221): counted, with its space freed and the limit raised (R235). -/
def State.defect (s : State) (p : Nat) (k : Packet) : State :=
  let s1 := s.countUp (F.PORT_PKT_ERR_TYPE_ERR p)
  match classOf k.typ.toNat with
  | none => s1
  | some c => let (id, s2) := s1.rxTake p c k.payload.length 1; s2.rxRelease p id

/-! ### Form of a packet (R220, R221) -/

/-- ENUM operations. -/
abbrev opAssign : Nat := 1
abbrev opReply : Nat := 2
abbrev opEnd : Nat := 3

/-- Are TYPE, direction, LEN and SPEC those of R220? -/
def Packet.formOk (k : Packet) (p : Nat) : Bool :=
  let t := k.typ.toNat
  let n := k.len.toNat
  let sp := k.spec.toNat
  if t = tVideoSeg then p = 0 && 4 ≤ n && n ≤ 1024 && n % 4 = 0 && sp < 64
  else if t = tFrameReady then p = 0 && n = 8 && sp < 16
  else if t = tStreamCfg then p = 0 && n = 12 && sp < 16
  else if t = tCtrlReq then p = 0 && n = 32 && sp = 0
  else if t = tCtrlRsp then p = 1 && n = 16 && sp = 0
  else if t = tEnum then
    (p = 0 && sp = opAssign && n = 8) || (p = 1 && sp = opReply && n = 24) || (p = 1 && sp = opEnd && n = 8)
  else if t = tEvent then p = 1 && 16 ≤ n && n ≤ 256 && n % 16 = 0 && sp = 0
  else if t = tAck ∨ t = tNak then n = 4 && sp = 0
  else if t = tCredit then n = 8 && sp = 0
  else false

/-- Are the payload fields of a packet that the module consumes within R223 and R244? -/
def Packet.fieldsOk (k : Packet) : Bool :=
  let t := k.typ.toNat
  let b := k.payload
  if t = tFrameReady then leAt b 4 4 = 0
  else if t = tStreamCfg then leAt b 0 2 != 0 && leAt b 2 2 != 0 && byteAt b 6 < 2 && byteAt b 7 = 0
  else if t = tEnum then byteAt b 0 ≤ 0x40 && leAt b 1 3 = 0
  else true

/-! ### Forwarding (R41, R42, R239 to R241) -/

/-- A received packet as it is forwarded. -/
def Packet.out (k : Packet) (rel : Option Nat) : OutPkt := 
  outPkt k.typ.toNat (k.addr.toNat % 128) k.spec.toNat k.payload false rel

/-- A downstream packet queued at the Chain port; without a partner it is discarded and counted (R42). -/
def State.forwardDown (s : State) (k : Packet) (id : Nat) : State :=
  if s.pLinked 1 then s.enqueue 1 (k.out (some id))
  else (s.countUp (F.PORT_DROP_NO_PARTNER 1)).rxRelease 0 id

/-- An upstream packet queued at the Inlet, or discarded and counted while the Inlet is neither in UP nor in RETRAIN
(R241). -/
def State.forwardUp (s : State) (k : Packet) (id : Nat) : State :=
  if s.pLinked 0 then s.enqueue 0 (k.out (some id))
  else (s.countUp (F.PORT_DROP_LOST 0)).rxRelease 1 id

/-- Is a packet with a good header being forwarded by cut-through before its end has come (R41, R226, R239 to R241): its SEQ is the
awaited one, it is to be forwarded, and the other port is idle and not faster and has credits and window for the whole packet? -/
def State.cuts (s : State) (p : Nat) (k : Packet) : Bool :=
  let q := 1 - p
  let x := s.port q
  let n := k.len.toNat % 2048
  let goes := p ≠ 0 || (decide (k.addr.toNat % 128 ≠ s.address) && decide (k.typ.toNat ≠ tEnum))
  match classOf k.typ.toNat with
  | none => false
  | some c =>
    goes && decide (k.seq.toNat % 4096 = s.fld (F.PORT_SEQ_EXP p)) && s.pIsUp q && x.tx.queue.isEmpty && x.tx.links.isEmpty &&
      x.tx.resend.isEmpty && decide (s.fld (F.PORT_STATUS_RATE q) ≤ s.fld (F.PORT_STATUS_RATE p)) &&
      x.tx.hasCredit c (creditsOf n) && x.tx.hasWindow n

/-- A packet that was being cut through when its end failed, or came as EAB: the forwarded packet ends with EAB (R239). -/
def State.cutAbort (s : State) (p : Nat) (k : Packet) : State :=
  if s.cuts p k then s.putWire (1 - p) (.packet (mkPacket (k.out none) (s.fld (F.PORT_SEQ_NEXT (1 - p))) true)) else s

/-! ### Streams (R222, R248 to R252, R304) -/

/-- Must a video packet of a stream wait because two FRAME_READYs of it are outstanding (R304)? -/
def State.thirdFrame (s : State) (st : Nat) : Bool :=
  (s.stream st).frameReady.isSome && (s.stream st).nextReady.isSome

/-- A VIDEO_SEG that the module is addressed by (R248, R251, R259). None: it waits. -/
def State.videoSeg (s : State) (k : Packet) : Option State :=
  let st := k.spec.toNat % 16
  if !s.subscribed st then some s
  else if !(s.stream st).configured then some (s.countUp (F.PORT_NOCFG_NOCFG 0))
  else if s.thirdFrame st then none
  else s.segPacket st (k.spec.toNat.testBit 4) (k.spec.toNat.testBit 5) k.payload

/-- A FRAME_READY (R252, R284, R304): it clears the asleep mark (R249). None: it waits. -/
def State.frameReadyPkt (s : State) (k : Packet) : Option State :=
  let st := k.spec.toNat % 16
  if !s.subscribed st then some s
  else if s.thirdFrame st then none
  else
    let x := s.stream st
    let host := BitVec.ofNat 32 (leAt k.payload 0 4)
    let x1 : Stream := if x.frameReady.isNone then { x with frameReady := some host, readyOrder := s.vid.order, asleep := false }
      else { x with nextReady := some host, nextOrder := s.vid.order, asleep := false }
    some (((s.setStream st x1).noteReady st).completeBuilds st)

/-- A STREAM_CFG (R248, R249). None: it waits. -/
def State.streamCfg (s : State) (k : Packet) : Option State :=
  let st := k.spec.toNat % 16
  if s.thirdFrame st then none
  else
    let x := s.stream st
    let w := leAt k.payload 0 2
    let h := leAt k.payload 2 2
    let changed := x.width ≠ w ∨ x.height ≠ h
    let s1 := if changed then s.abandonCfg st else s
    some ((s1.setStream st { s1.stream st with
      configured := true, width := w, height := h, rate := leAt k.payload 4 2,
      asleep := byteAt k.payload 6 = 1, cfgId := BitVec.ofNat 32 (leAt k.payload 8 4) }).mapStores st fun x =>
        { x with geo := { x.geo with sw := w, sh := h } })

/-- A video packet consumed, or none where it must wait. -/
def State.consumeVideo (s : State) (k : Packet) : Option State :=
  let t := k.typ.toNat
  if t = tVideoSeg then s.videoSeg k
  else if t = tFrameReady then s.frameReadyPkt k
  else s.streamCfg k

/-- Video packets that waited, taken in order until one must wait again (R243, R281, R304). -/
def State.drainWaiting : Nat → State → State
  | 0, s => s
  | n + 1, s =>
    match s.vid.waiting with
    | [] => s
    | (k, id) :: t =>
      match s.consumeVideo k with
      | none => s
      | some s1 =>
        let s2 : State := { s1 with vid := { s1.vid with waiting := t } }
        State.drainWaiting n (match id with
          | some i => s2.rxRelease 0 i
          | none => s2)

/-- Every waiting video packet that can be taken is taken. -/
def State.drain (s : State) : State := State.drainWaiting s.vid.waiting.length s

/-- A video packet for the module, in order (R243). -/
def State.takeVideo (s : State) (k : Packet) (id : Nat) : State :=
  if s.vid.waiting.isEmpty then
    match s.consumeVideo k with
    | some s1 => (s1.rxRelease 0 id).drain
    | none => { s with vid := { s.vid with waiting := [(k, some id)] } }
  else { s with vid := { s.vid with waiting := s.vid.waiting ++ [(k, some id)] } }

/-! ### Enumeration (R244 to R247) -/

/-- The 24 bytes of a REPLY. -/
def State.enumReply (s : State) (addr : Nat) (id : List Byte) : List Byte :=
  [BitVec.ofNat 8 addr, 0, 0, 0] ++ id ++ leBytes 8 Config.serial.toNat ++ leBytes 4 Config.fwVersion.toNat
    ++ leBytes 4 (s.reg R.SYS_CAPS).toNat

/-- The 8 bytes of an END. -/
def enumEndBytes (count : Nat) (overflow : Bool) (id : List Byte) : List Byte :=
  [BitVec.ofNat 8 count, if overflow then 1 else 0, 0, 0] ++ id

/-- An accepted ASSIGN (R245); `rid` is its receive space. -/
def State.assign (s : State) (k : Packet) (rid : Nat) : State :=
  let next := byteAt k.payload 0
  let id := (k.payload.drop 4).take 4
  let s0 := s.setPort 0 { s.port 0 with enumId := id }
  let s1 := s0.setFlag (F.PORT_ADDR_ENUM_BUSY 0) true
  if next = 64 then (s1.sendUp tEnum opEnd (enumEndBytes 64 true id)).rxRelease 0 rid
  else
    let s2 := s1.setFld (F.PORT_ADDR_ADDR 0) next
    let s3 := s2.sendUp tEnum opReply (s2.enumReply next id)
    if s3.pIsUp 1 then
      s3.enqueue 1 (outPkt tEnum (k.addr.toNat % 128) opAssign ([BitVec.ofNat 8 (next + 1), 0, 0, 0] ++ id) false (some rid))
    else (s3.sendUp tEnum opEnd (enumEndBytes (next + 1) false id)).rxRelease 0 rid

/-! ### A packet accepted in order -/

/-- A packet with a defect, addressed to the module or to all: discarded, but forwarded unchanged where it goes to 0x7F and its
cut-through has begun (R221). -/
def State.defectDown (s : State) (k : Packet) (c : PClass) (cut : Bool) : State :=
  if k.addr.toNat % 128 = 0x7F && cut then
    let (id, s1) := (s.countUp (F.PORT_PKT_ERR_TYPE_ERR 0)).rxTake 0 c k.payload.length 1
    s1.forwardDown k id
  else s.defect 0 k

/-- A downstream packet handled by its address (R41, R221, R238); `cut` says that its cut-through had begun. -/
def State.downstream (s : State) (k : Packet) (cut : Bool) : State :=
  let t := k.typ.toNat
  let a := k.addr.toNat % 128
  let all := a = 0x7F
  let mine := all ∨ (a = s.address ∧ s.enumerated = true)
  match classOf t with
  | none => s.defect 0 k
  | some c =>
    if !k.formOk 0 then s.defectDown k c cut
    else if t = tEnum then
      if mine ∧ k.fieldsOk = true then
        let (id, s1) := s.rxTake 0 c k.payload.length 1
        s1.assign k id
      else s.defect 0 k
    else if ¬mine then
      let (id, s1) := s.rxTake 0 c k.payload.length 1
      s1.forwardDown k id
    else if !k.fieldsOk then s.defectDown k c cut
    else
      let (id, s1) := s.rxTake 0 c k.payload.length (if all then 2 else 1)
      let s2 := if all then s1.forwardDown k id else s1
      if t = tCtrlReq then s2.hostCommand k.payload id else s2.takeVideo k id

/-- An upstream packet: forwarded whatever its ADDR (R241). -/
def State.upstream (s : State) (k : Packet) : State :=
  match classOf k.typ.toNat with
  | none => s.defect 1 k
  | some c =>
    if !k.formOk 1 then s.defect 1 k
    else
      let (id, s1) := s.rxTake 1 c k.payload.length 1
      s1.forwardUp k id

/-- Does a sequence number lie in the 256 before the expected one (R226)? -/
def isDuplicate (e q : Nat) : Bool := 1 ≤ (e + 4096 - q) % 4096 && (e + 4096 - q) % 4096 ≤ 256

/-- A packet other than link-control arrives at a port in UP (R217, R219, R226, R236). -/
def State.receive (s : State) (p : Nat) (k : Packet) : State :=
  if !s.acts .link || !s.pIsUp p then s
  else if k.eab then (if k.headOk then s.cutAbort p k else s).countUp (F.PORT_PKT_ERR_EAB p)
  else if !k.headOk then (s.countUp (F.PORT_PKT_ERR_HCHK p)).discardNak p
  else if !k.bodyOk then ((s.countUp (F.PORT_PKT_ERR_CRC p)).cutAbort p k).discardNak p
  else
    let e := s.fld (F.PORT_SEQ_EXP p)
    let q := k.seq.toNat % 4096
    if q = e then
      let s1 := s.acceptSeq p
      if p = 0 then s1.downstream k (s.cuts 0 k) else s1.upstream k
    else if isDuplicate e q then s.askLink p .ack
    else s.discardNak p

/-- A packet of the row's TYPE and SPEC, one whose TYPE or SPEC is in no row, which carries a defect (R221), or one whose header
fails, of which no field is used (R219). A packet of another row is not this event. -/
def State.receiveAs (s : State) (p t : Nat) (op : Option Nat) (k : Packet) : State :=
  let same := k.typ.toNat = t ∧ (op.isNone = true ∨ op = some k.spec.toNat ∨ ¬(1 ≤ k.spec.toNat ∧ k.spec.toNat ≤ 3))
  if same ∨ knownType k.typ.toNat = false ∨ k.headOk = false then s.receive p k else s

/-! ### Link control (R224, R229 to R233) -/

/-- Checks of a link-control packet; none where it is discarded. A failing HCHK makes it malformed, and no field of its header is
used (R219); a wrong LEN is a defect: counted and ignored (R221). -/
def State.linkControl (s : State) (p t : Nat) (k : Packet) : Bool × State :=
  if !s.acts .link || !s.pIsUp p then (false, s)
  else if k.eab then (false, s.countUp (F.PORT_PKT_ERR_EAB p))
  else if !k.headOk then (false, (s.countUp (F.PORT_PKT_ERR_HCHK p)).discardNak p)
  else if k.typ.toNat ≠ t then (false, s)
  else if !k.bodyOk then (false, (s.countUp (F.PORT_PKT_ERR_CRC p)).discardNak p)
  else if !k.formOk p then (false, s.countUp (F.PORT_PKT_ERR_TYPE_ERR p))
  else (true, s)

/-- Exhaustion of replay (R231): a retrain, or with no advancing ACK since the last one the end of the link. -/
def State.exhaust (s : State) (p : Nat) : State :=
  let x := s.port p
  if x.tx.exhausted then s.failRetrain p false
  else (s.setPort p { x with tx := { x.tx with exhausted := true, afreshDue := true } }).retrain p

/-- Replay from the unacknowledged packet with `seq`, in order (R229, R231). -/
def State.replayFrom (s : State) (p seq : Nat) : State :=
  let x := s.port p
  let l := x.tx.unacked.dropWhile fun k => decide (k.seq ≠ seq)
  if l.isEmpty then s
  else if l.any fun k => decide (8 ≤ k.replays) then s.exhaust p
  else (s.setPort p { x with tx := { x.tx with resend := l.map (·.seq), afresh := false, replayWait := true } }).syncPauses

/-! ### The sender (R225, R229, R230, R233, R242) -/

/-- What a packet does as it leaves: the END of the enumeration in progress clears ENUM_BUSY, any END upstream gives CHAIN_COUNT
(R247, R255); a forwarded packet counts and frees its receive space (R235). -/
def State.leaves (s : State) (p : Nat) (o : OutPkt) : State :=
  let s1 := if o.own then s else s.countUp (F.PORT_FWD_CNT_VAL p)
  let s2 := match o.rel with
    | some id => s1.rxRelease (1 - p) id
    | none => s1
  if p = 0 ∧ o.typ = tEnum ∧ o.spec = opEnd then
    let s3 := if (o.payload.drop 4).take 4 = (s2.port 0).enumId then s2.setFlag (F.PORT_ADDR_ENUM_BUSY 0) false else s2
    (s3.setFld (F.PORT_ADDR_CHAIN_COUNT 0) (byteAt o.payload 0)).setFlag
      (F.PORT_ADDR_OVERFLOW 0) ((byteAt o.payload 1).testBit 0)
  else s2

/-- A packet of a class starts, if one waits and credits and window allow it. -/
def State.startClass (s : State) (p : Nat) (c : PClass) : Option State :=
  let x := s.port p
  match x.tx.pick p c with
  | none => none
  | some (o, rest) =>
    let n := creditsOf o.payload.length
    if !x.tx.hasCredit c n || !x.tx.hasWindow o.payload.length then none
    else
      let seq := s.fld (F.PORT_SEQ_NEXT p)
      let s1 := s.setPort p { x with tx := { x.tx with
        queue := rest, unacked := x.tx.unacked ++ [⟨o, seq, 0⟩], consumed := x.tx.consumed.add c n,
        lastOwn := x.tx.lastOwn.set c (if o.own then 1 else 0) } }
      some (((s1.wrapUp (F.PORT_SEQ_NEXT p)).putWire p (.packet (mkPacket o seq false))).leaves p o)

/-- A packet of the first class of a list that can start one. -/
def State.startFirst (s : State) (p : Nat) : List PClass → Option State
  | [] => none
  | c :: t =>
    match s.startClass p c with
    | some s1 => some s1
    | none => s.startFirst p t

/-- The next packet of a class waits for credits or for the window: each packet's wait is counted once (R230, R237). -/
def State.markWait (s : State) (p : Nat) (c : PClass) : State :=
  let x := s.port p
  match x.tx.pick p c with
  | none => s
  | some (o, _) =>
    let mark := fun (f : OutPkt → OutPkt) =>
      s.setPort p { x with tx := { x.tx with queue := replaceFirst o (f o) x.tx.queue } }
    if !x.tx.hasCredit c (creditsOf o.payload.length) then
      if o.creditStalled then s else (mark fun k => { k with creditStalled := true }).countUp (F.PORT_STALL_CREDIT_STALL p)
    else if !x.tx.hasWindow o.payload.length then
      if o.windowStalled then s else (mark fun k => { k with windowStalled := true }).countUp (F.PORT_STALL_WINDOW_STALL p)
    else s

/-- Every class whose next packet waits is marked. -/
def State.markWaits (s : State) (p : Nat) : State := ((s.markWait p .control).markWait p .event).markWait p .video

/-- The packet that leaves at a boundary (R242): link-control, then replays, then control, event, video. None: nothing can. -/
def State.nextPacket (s : State) (p : Nat) : Option State :=
  let x := s.port p
  match x.tx.links with
  | m :: t =>
    let k := mkPacket (s.linkPacket p m) 0 false
    let s1 := s.setPort p { x with
      tx := { x.tx with links := t }
      rx := if m = .ack then { x.rx with sinceAck := 0 } else x.rx }
    some (s1.putWire p (.packet k))
  | [] =>
    match x.tx.resend with
    | q :: t =>
      match x.tx.unacked.find? fun (k : SentPkt) => decide (k.seq = q) with
      | none => some (s.setPort p { x with tx := { x.tx with resend := t } })
      | some k =>
        let up := fun (j : SentPkt) => if j.seq = q ∧ x.tx.afresh = false then { j with replays := j.replays + 1 } else j
        let s1 := s.setPort p { x with tx := { x.tx with resend := t, unacked := x.tx.unacked.map up } }
        let s2 := if x.tx.afresh then s1 else s1.countUp (F.PORT_REPLAY_PACKETS p)
        some (s2.putWire p (.packet (mkPacket k.pkt q false)))
    | [] => s.startFirst p [.control, .event, .video]

/-- A burst set with the next 14 bytes of the sequence (R188). -/
def State.burstSet (s : State) (p st : Nat) : State :=
  let r := prbs7Bytes 14 st
  (s.setPort p { s.port p with burst := some r.2 }).putWire p (.burstSet r.1)

/-- A packet boundary of a transmitter (R204, R205, R216, R242). A burst that is asked for starts; a packet that can leave ends the
burst in progress, after an IDLE_SET with BURST_REQ where one is due; otherwise the burst goes on, or an IDLE_SET is sent. -/
def State.transmit (s0 : State) (p : Nat) : State :=
  let s := s0.markWaits p
  let x := s.port p
  if x.burstDue then
    (((s.setPort p { x with burstDue := false }).burstSet p burstSeed).countUp (F.PORT_IDLE_CNT_SENT p))
  else
    match s.nextPacket p with
    | some s1 =>
      if x.reqDue then (s.setPort p { x with reqDue := false, burst := none }).putWire p (.idleSet true)
      else s1.setPort p { s1.port p with burst := none }
    | none =>
      match x.burst with
      | some st => s.burstSet p st
      | none => (s.setPort p { x with reqDue := x.reqDue && x.burstReq = 0 }).putWire p (.idleSet (x.burstReq != 0 || s.calBursts p))

/-! ### Rows -/

/-- VIDEO_SEG (R222, R251). -/
def execVideoSeg (p : Fin 2) (k : Packet) (s : State) : Out := .next (s.receiveAs p tVideoSeg none k)

/-- FRAME_READY (R252). -/
def execFrameReady (p : Fin 2) (k : Packet) (s : State) : Out := .next (s.receiveAs p tFrameReady none k)

/-- STREAM_CFG (R248). -/
def execStreamCfg (p : Fin 2) (k : Packet) (s : State) : Out := .next (s.receiveAs p tStreamCfg none k)

/-- CTRL_REQ (R520). -/
def execCtrlReq (p : Fin 2) (k : Packet) (s : State) : Out := .next (s.receiveAs p tCtrlReq none k)

/-- CTRL_RSP (R241). -/
def execCtrlRsp (p : Fin 2) (k : Packet) (s : State) : Out := .next (s.receiveAs p tCtrlRsp none k)

/-- ENUM_ASSIGN (R245). -/
def execEnumAssign (p : Fin 2) (k : Packet) (s : State) : Out := .next (s.receiveAs p tEnum (some opAssign) k)

/-- ENUM_REPLY (R241). -/
def execEnumReply (p : Fin 2) (k : Packet) (s : State) : Out := .next (s.receiveAs p tEnum (some opReply) k)

/-- ENUM_END (R247). -/
def execEnumEnd (p : Fin 2) (k : Packet) (s : State) : Out := .next (s.receiveAs p tEnum (some opEnd) k)

/-- EVENT (R241). -/
def execEvent (p : Fin 2) (k : Packet) (s : State) : Out := .next (s.receiveAs p tEvent none k)

/-- ACK (R229, R231): every packet up to ACK_SEQ is acknowledged; an ACK that advances ends a recovery. -/
def execAck (p : Fin 2) (k : Packet) (s : State) : Out :=
  let (ok, s1) := s.linkControl p tAck k
  if !ok then .next s1
  else
    let q := leAt k.payload 0 2 % 4096
    let x := s1.port p
    if x.tx.unacked.any fun j => decide (j.seq = q) then
      let rest := (x.tx.unacked.dropWhile fun j => decide (j.seq ≠ q)).drop 1
      let keep := rest.map (·.seq)
      .next (s1.setPort p { x with tx := { x.tx with
        unacked := rest, resend := x.tx.resend.filter keep.contains, replayWait := false, exhausted := false } }).syncPauses
    else .next s1

/-- NAK (R229): the sender replays from EXP_SEQ. -/
def execNak (p : Fin 2) (k : Packet) (s : State) : Out :=
  let (ok, s1) := s.linkControl p tNak k
  if !ok then .next s1
  else .next ((s1.countUp (F.PORT_REPLAY_NAKS p)).replayFrom p (leAt k.payload 0 2 % 4096))

/-- CREDIT (R233): the sender's limits; the first one sets PKT_UP. -/
def execCredit (p : Fin 2) (k : Packet) (s : State) : Out :=
  let (ok, s1) := s.linkControl p tCredit k
  if !ok then .next s1
  else
    let x := s1.port p
    .next (s1.setPort p { x with tx := { x.tx with
      gotCredit := true, limit := ⟨leAt k.payload 0 2, leAt k.payload 2 2, leAt k.payload 4 2⟩ } })

/-- ACK_TIMER: 1 µs after an accepted packet (R227). -/
def execAckTimer (p : Fin 2) (s : State) : Out :=
  .next (if s.acts .link && s.pIsUp p && (s.port p).rx.sinceAck != 0 then s.askLink p .ack else s)

/-- REPLAY_TIMER: 16 µs without an ACK that advances (R229). -/
def execReplayTimer (p : Fin 2) (s : State) : Out :=
  match (s.port p).tx.unacked with
  | k :: _ =>
    if s.acts .link && s.pIsUp p then .next ((s.countUp (F.PORT_REPLAY_TIMERS p)).replayFrom p k.seq) else .next s
  | [] => .next s

/-- CREDIT_PERIODIC: 100 µs without a CREDIT (R235). -/
def execCreditPeriodic (p : Fin 2) (s : State) : Out :=
  .next (if s.acts .link && s.pIsUp p then s.askLink p .credit else s)

/-- PACKET_TRANSMIT: a packet boundary of a port's transmitter (R216, R242). -/
def execPacketTransmit (p : Fin 2) (s : State) : Out :=
  .next (if s.acts .link && s.pIsUp p then s.transmit p else s)

/-- ENUM_BUSY_TIMEOUT: 10 ms after the acceptance of an ASSIGN (R247). -/
def execEnumBusyTimeout (s : State) : Out := .next (s.setFlag (F.PORT_ADDR_ENUM_BUSY 0) false)

end Sys2Proof.Machine
end

