-- ==== Sys2Proof/Machine/Pipeline.lean ====
section
/-! DEFINITION. The arithmetic of the pixel path: composition (R348), degamma and gamma (R356, R357), gains (R360, R361),
dither (R362), demura (R369, R370), overdrive (R384, R385), and the images their tables come from (R358, R371, R388). -/

namespace Sys2Proof.Machine

/-! ### Composition (R348) -/

/-- One component of an overlay blended over the result below. -/
def blend (alpha ov below : Nat) : Nat :=
  let a := min alpha 256
  (a * ov + (256 - a) * below + 128) / 256

/-- A pixel with each component changed. -/
def Px.map (f : Nat → Nat) (p : Px) : Px := ⟨f p.r, f p.g, f p.b⟩

/-- Two pixels combined component by component. -/
def Px.zip (f : Nat → Nat → Nat) (p q : Px) : Px := ⟨f p.r q.r, f p.g q.g, f p.b q.b⟩

/-! ### DTH (R356 to R363) -/

/-- Degamma of component `i` (R356). -/
def Lut.deg (t : Lut) (en : Bool) (i v : Nat) : Nat :=
  if en then t.degamma.getD (1024 * i + v) 0 else v * 64 + v / 16

/-- A gain in 1.15 format (R360). -/
def gain15 (x g : Nat) : Nat := min 65535 ((x * g + 16384) / 32768)

/-- The local-dimming gain at a field value, in 4.12 format, rounded to nearest (R361); where field and BMIN are both 0 the
quotient is a free value (log entry 20). -/
def ldGain (target gmax bmin b : Nat) : Nat :=
  let d := max b bmin
  let g := max gmax 4096
  if d = 0 then min g (Config.ldQuotient target) else min g ((2 * 4096 * target + d) / (2 * d))

/-- A product with a 4.12 gain before the clip (R361). -/
def gain12 (x g : Nat) : Nat := (x * g + 2048) / 4096

/-- Panel gamma of component `i` (R357). -/
def Lut.gam (t : Lut) (en : Bool) (i x : Nat) : Nat :=
  if !en then x / 4
  else
    let n := if x < 4096 then x / 16 else 256 + (x - 4096) / 64
    let f := if x < 4096 then x % 16 else (x - 4096) % 64
    let sh := if x < 4096 then 4 else 6
    let e0 : Int := t.gamma.getD (1217 * i + n) 0
    let e1 : Int := t.gamma.getD (1217 * i + n + 1) 0
    (clampInt (e0 + ((e1 - e0) * f + 2 ^ (sh - 1)) / 2 ^ sh) 0 16383).toNat

/-- The dither threshold at a pixel for a phase and shift (R362). -/
def ditherAt (phi x y sh : Nat) : Nat :=
  let xx := (x + phi % 2) % 8
  let yy := (y + phi / 2) % 8
  let u := xx ^^^ yy
  let m := u % 2 * 32 + yy % 2 * 16 + u / 2 % 2 * 8 + yy / 2 % 2 * 4 + u / 4 % 2 * 2 + yy / 4 % 2
  m / 2 ^ (6 - sh)

/-- A 14-bit code reduced to the panel depth (R362). -/
def dither (en depth8 : Bool) (phi x y c : Nat) : Nat :=
  let sh := if depth8 then 6 else 4
  let t := if en then ditherAt phi x y sh else 2 ^ (sh - 1)
  min (2 ^ (14 - sh) - 1) ((c + t) / 2 ^ sh)

/-- The length of DTH's table image (R358). -/
abbrev dthImageLen : Nat := 13462

/-- A list of little-endian 16-bit entries. -/
def words16 : List Byte → List Nat
  | a :: b :: t => (a.toNat + 256 * b.toNat) :: words16 t
  | _ => []

/-- The check of a table image: 0 where it passes, else LUT_ERR_CODE (R358, R368). -/
def dthImageErr (b : List Byte) : Nat :=
  if byteAt b 0 ≠ 1 then 1
  else if leAt b 1 7 ≠ 0 ∨ leAt b 12 4 ≠ 0 then 3
  else if leAt b 8 4 ≠ crc32 ((b.take dthImageLen).drop 16) then 2
  else if (words16 ((b.take dthImageLen).drop 6160)).any fun v => decide (16384 ≤ v) then 3
  else 0

/-- The tables of an image. -/
def dthTables (b : List Byte) : Lut := ⟨words16 ((b.drop 16).take 6144), words16 ((b.drop 6160).take 7302)⟩

/-! ### Demura (R369 to R378) -/

/-- An offset of a plane value (R369). -/
def planeOffset (v scale : Nat) : Int := ((v : Int) - 16) * 2 ^ scale

/-- Demura of one component with the offsets of its three anchors (R370). -/
def demura (a0 a1 a2 : Nat) (o0 o1 o2 : Int) (c : Nat) : Nat :=
  let seg : Nat × Nat × Int × Int :=
    if c < a0 then (0, a0, 0, o0)
    else if c < a1 then (a0, a1 - a0, o0, o1)
    else if c < a2 then (a1, a2 - a1, o1, o2)
    else (a2, 16383 - a2, o2, 0)
  match seg with
  | (st, l, u, v) =>
    let rk : Int := (((2 ^ 24 + l / 2) / l : Nat) : Int)
    let off := u + ((v - u) * ((c : Int) - st) * rk + 2 ^ 23) / 2 ^ 24
    (clampInt ((c : Int) + off) 0 16383).toNat

/-- Strips of a set (R372). -/
def DmrSet.strips (d : DmrSet) : Nat := ceilDiv d.w (max 1 d.sw)

/-- The set that a header and directory spell (R371). -/
def dmrHeader (base : Nat) (b : List Byte) : DmrSet where
  base := base
  scale := byteAt b 1 % 8
  w := leAt b 2 2
  h := leAt b 4 2
  sw := leAt b 6 2
  a0 := leAt b 8 2
  a1 := leAt b 10 2
  a2 := leAt b 12 2
  bands := leAt b 14 2
  len := leAt b 16 4
  tref := leAt b 20 2
  dir := (List.range (leAt b 14 2 + 1)).map fun i => leAt b (64 + 4 * i) 4

/-- Directory entries that increase and are multiples of 4. -/
def dirRises : List Nat → Bool
  | a :: b :: t => a % 4 = 0 && a < b && dirRises (b :: t)
  | [a] => a % 4 = 0
  | [] => true

/-- The checks of R378 on a header and directory for an active size, in the order R378 lists them (log entry 91): 0, else
SET_ERR_CODE (R393). -/
def dmrErr (b : List Byte) (w h : Nat) : Nat :=
  let d := dmrHeader 0 b
  if byteAt b 0 ≠ 1 ∨ 8 ≤ byteAt b 1 ∨ leAt b 22 38 ≠ 0 then 1
  else if leAt b 60 4 ≠ crc32 (b.take 60) then 2
  else if d.w ≠ w ∨ d.h ≠ h ∨ d.sw ≠ 8 * ceilDiv d.w 32 ∨ d.bands ≠ ceilDiv d.h 16 then 3
  else if ¬(0 < d.a0 ∧ d.a0 < d.a1 ∧ d.a1 < d.a2 ∧ d.a2 < 16383) then 4
  else if ¬(dirRises d.dir = true ∧ d.dir.getLast? = some d.len ∧ d.dir.head? = some (64 + 4 * (d.bands + 1))
      ∧ d.len ≤ 8300032) then 5
  else 0

/-- Bytes of header and directory of the largest set: 135 bands (R371). -/
abbrev dmrHeadLen : Nat := 64 + 4 * 136

/-- One segment of a band decoded: its end code and its offsets (R375). `w` and `h` are its expected size. -/
def dmrSegment (b : List Byte) (x y w h : Nat) : Nat × List Px × Nat :=
  if !headCrcOk b then (endHeaderCrc, [], 0)
  else if !headLegal true b then (endIllegal, [], 0)
  else
    let g := headOf b 0 0 false
    let size := ceilDiv (20 + g.codedLen) 4 * 4
    if g.depth ≠ 5 ∨ g.q ≠ 1 ∨ g.xform = true then (endIllegal, [], size)
    else if g.x ≠ x ∨ g.y ≠ y ∨ g.w ≠ w ∨ g.h ≠ h then (endBounds, [], size)
    else
      let (px, code) := decodeWhole g ((b.drop 20).take (size - 20))
      (code, px, size)

/-- The lines of a band (R372). -/
def DmrSet.bandLines (d : DmrSet) (b : Nat) : Nat := min 16 (d.h - 16 * b)

/-- The segments of a band from their bytes: either the code and number of the first faulty one, or, per anchor, the strips'
offsets in order (R372, R376). -/
def dmrSegments (d : DmrSet) (b : Nat) : Nat → Nat → List Byte → List (List Px) → (Nat × Nat) ⊕ (List (List Px))
  | 0, _, _, acc => .inr acc.reverse
  | n + 1, i, bs, acc =>
    let ns := max 1 d.strips
    let st := i % ns
    let w := if st + 1 = ns then d.w - (ns - 1) * d.sw else d.sw
    let (code, px, size) := dmrSegment bs (st * d.sw) (16 * b) w (d.bandLines b)
    if code = endOk then dmrSegments d b n (i + 1) (bs.drop size) (px :: acc)
    else .inl (code, 4 * (i / ns) + st)

/-- The offset of a pixel of a band: strip segments joined, for anchor `a` at column `x` and line `ly` of the band. -/
def bandPixel (d : DmrSet) (segs : List (List Px)) (a x ly : Nat) : Px :=
  let ns := max 1 d.strips
  let st := min (ns - 1) (x / max 1 d.sw)
  let w := if st + 1 = ns then d.w - (ns - 1) * d.sw else d.sw
  (segs.getD (a * ns + st) []).getD (ly * w + (x - st * d.sw)) ⟨16, 16, 16⟩

/-- Demura of a pixel at column `x` of active line `y`, with the band in the buffer (R370, R374). -/
def DmrSet.apply (d : DmrSet) (segs : List (List Px)) (x y : Nat) (c : Px) : Px :=
  let o := fun a => bandPixel d segs a x (y % 16)
  let one := fun (f : Px → Nat) => demura d.a0 d.a1 d.a2 (planeOffset (f (o 0)) d.scale) (planeOffset (f (o 1)) d.scale)
    (planeOffset (f (o 2)) d.scale) (f c)
  ⟨one (·.r), one (·.g), one (·.b)⟩

/-! ### Overdrive (R384 to R390) -/

/-- A history value as a 14-bit code (R381). -/
def widenHist (h : Nat) : Nat := h * 16 + h / 64

/-- A 14-bit code as the history holds it (R385, R287). -/
def narrowHist (t : Nat) : Nat := min 1023 ((t + 8) / 16)

/-- Primary entry E[i][j] of a bin in an image (R388). -/
def odvPrim (img : List Byte) (bin i j : Nat) : Nat := leAt img (16 + 2048 * bin + 2 * (17 * i + j)) 2

/-- Trajectory entry C[x][y][z] of a bin (R388). -/
def odvTraj (img : List Byte) (bin x y z : Nat) : Int := sext 16 (leAt img (594 + 2048 * bin + 2 * (81 * x + 9 * y + z)) 2)

/-- Overdrive of one component (R384). -/
def overdrive (img : List Byte) (bin strength : Nat) (traj : Bool) (t p1 p2 : Nat) : Nat :=
  let i := t / 1024
  let fi := t % 1024
  let j := p1 / 1024
  let fj := p1 % 1024
  let top : Nat := odvPrim img bin i j * (1024 - fj) + odvPrim img bin i (j + 1) * fj
  let bot : Nat := odvPrim img bin (i + 1) j * (1024 - fj) + odvPrim img bin (i + 1) (j + 1) * fj
  let prim : Nat := (top * (1024 - fi) + bot * fi + 2 ^ 19) / 2 ^ 20
  let w := fun (v a : Nat) => if a = 0 then 2048 - v % 2048 else v % 2048
  let corner := fun (a b c : Nat) => odvTraj img bin (t / 2048 + a) (p1 / 2048 + b) (p2 / 2048 + c) * ((w t a * w p1 b * w p2 c : Nat) : Int)
  let sum := ([(0, 0, 0), (0, 0, 1), (0, 1, 0), (0, 1, 1), (1, 0, 0), (1, 0, 1), (1, 1, 0), (1, 1, 1)].map
    fun k => corner k.1 k.2.1 k.2.2).sum
  let corr := if traj then (sum + 2 ^ 32) / 2 ^ 33 else 0
  let d := ((prim : Int) + corr - t) * ((min strength 256 : Nat) : Int)
  (clampInt ((t : Int) + (d + 128) / 256) 0 16383).toNat

/-- Overdrive of one component with its two history values; a still picture passes unchanged (R385). -/
def odvComp (img : List Byte) (bin strength : Nat) (traj : Bool) (t h1 h2 : Nat) : Nat :=
  if narrowHist t = h1 ∧ narrowHist t = h2 then t
  else overdrive img bin strength traj t (widenHist h1) (widenHist h2)

/-- The length of ODV's table image (R388). -/
abbrev odvImageLen : Nat := 16400

/-- Is a bin's part of the image within its ranges (R388)? -/
def odvBinOk (img : List Byte) (bin : Nat) : Bool :=
  ((List.range 289).all fun k => decide (leAt img (16 + 2048 * bin + 2 * k) 2 < 16384)) &&
  ((List.range 729).all fun k =>
    let v := sext 16 (leAt img (594 + 2048 * bin + 2 * k) 2)
    decide (-4096 ≤ v ∧ v ≤ 4095)) &&
  decide (leAt img (2052 + 2048 * bin) 12 = 0)

/-- The check of ODV's image: 0, else LUT_ERR_CODE (R388, R394). -/
def odvImageErr (img : List Byte) : Nat :=
  if byteAt img 0 ≠ 1 ∨ byteAt img 1 ≠ 8 then 1
  else if leAt img 2 6 ≠ 0 ∨ leAt img 12 4 ≠ 0 then 3
  else if leAt img 8 4 ≠ crc32 ((img.take odvImageLen).drop 16) then 2
  else if (List.range 8).all (odvBinOk img) then 0
  else 3

/-- TH1 to TH7 in a read of the registers (R386). -/
def odvThs (get : Fld → Nat) : List Int :=
  [F.ODV_TBIN0_TH1, F.ODV_TBIN0_TH2, F.ODV_TBIN1_TH3, F.ODV_TBIN1_TH4, F.ODV_TBIN2_TH5, F.ODV_TBIN2_TH6,
    F.ODV_TBIN3_TH7].map fun f => sext 16 (get f)

/-- Strictly rising thresholds (R390). -/
def strictRises : List Int → Bool
  | a :: b :: t => decide (a < b) && strictRises (b :: t)
  | _ => true

/-- The bin for a panel temperature (R386). HYST is taken as unsigned (DESIGN CHOICE, log entry 90: the spec gives it no sign). -/
def odvBin (ths : List Int) (hyst : Int) (bin : Nat) (t : Int) : Nat :=
  let n := (ths.filter fun th => decide (th ≤ t)).length
  if n < bin ∧ ths.getD (bin - 1) 0 - hyst ≤ t then bin else n

end Sys2Proof.Machine
end

