-- ==== Sys2Proof/Machine/Slots.lean ====
section
/-! DEFINITION. Raster position, Ringmaster's slots and classes (R144 to R150), the slot table and its check (R151 to
R155), the guard tick (R146). -/

namespace Sys2Proof.Machine

/-! ### Position (R15, R16) -/

/-- The next place with a tick: on the line in progress or on the next one. -/
def State.toTick (s : State) (t : Nat) : State :=
  if s.rs.tick ≤ t then s.reachPos s.rs.line t else s.reachPos (s.rs.line + 1) t

/-- SCN_POS, from the raster (R344). -/
def State.scnPos (s : State) : Word :=
  let r := s.rs
  let v0 := s.liveFld F.SCN_VSYNC_V_START
  let act := decide (v0 ≤ r.line ∧ r.line < v0 + s.liveFld F.SCN_VTIME_V_ACTIVE)
  let b := fun (x : Bool) (i : Nat) => if x then 2 ^ i else 0
  if r.running then
    BitVec.ofNat 32 (r.line % 65536 + b act 16 + b r.hold 17 + b (decide (r.vmin ≤ r.line)) 18
      + b (decide (s.mode = .lowRate) && decide (0 < r.lrStep)) 19)
  else 0

/-- RNG_POS, from the raster (R158). -/
def State.rngPos (s : State) : Word :=
  if s.rs.running then BitVec.ofNat 32 (s.rs.line % 65536 + 65536 * s.rs.tick + 2 ^ 24 * (s.rs.tick / 4)) else 0

/-! ### Slots (R144, R150, R153, R154) -/

/-- Codes of the fixed owners. -/
abbrev ownCol : Nat := 1
abbrev ownGsq : Nat := 2
abbrev ownBld : Nat := 3
abbrev ownOpt : Nat := 4
abbrev ownSaf : Nat := 5

/-- Does the gate scan run in the current mode (R150)? The spec names no way to show a test pattern in SERVICE. -/
def State.scanMode (s : State) : Bool := s.mode.isDisplay

/-- The entry of a table's slot on a line; without a table every slot is elastic for every class (R157). DESIGN CHOICE (log
entry 34): the spec gives no map to a DEFAULT_MAP that is not below MAPS; such a line's slots are idle. -/
def slotEntry (table : Option (List Byte)) (defaultMap line slot : Nat) : Nat :=
  match table with
  | none => 0x1F
  | some b =>
    let n := byteAt b 1
    let m := match (List.range n).find? fun r => leAt b (16 + 8 * r) 2 ≤ line && line ≤ leAt b (18 + 8 * r) 2 with
      | some r => byteAt b (20 + 8 * r) % 8
      | none => defaultMap
    if m < byteAt b 2 then byteAt b (16 + 8 * n + 64 * m + slot) else 0

/-- The entry of a slot in force. -/
def State.slotAt (s : State) (line slot : Nat) : Nat := slotEntry s.rng.table (s.fld F.RNG_CTRL_DEFAULT_MAP) line slot

/-- Is a slot fixed to an owner? -/
def State.fixedTo (s : State) (owner line slot : Nat) : Bool := s.slotAt line slot = 0x80 + owner

/-- The entry after the dark reclaim (R150). -/
def State.slotUse (s : State) (line slot : Nat) : Nat :=
  let e := s.slotAt line slot
  if s.flag F.RNG_CTRL_DARK_RECLAIM && !s.scanMode && (e = 0x81 || e = 0x82 || e = 0x83) then 0x1F else e

/-- A fixed owner's event takes place in slots of a line: where one of them is not fixed to the owner, it is withheld from
elastic work and the event counted (R147). -/
def State.strayIn (s : State) (owner line : Nat) (slots : List Nat) : State :=
  match slots.filter fun n => !s.fixedTo owner line n with
  | [] => s
  | out =>
    if !s.on .pix then s
    else
      let later := s.rng.stray.filter fun p => decide (line ≤ p.1)
      ({ s with rng := { s.rng with stray := out.map (fun n => (line, n)) ++ later } } : State).countUp F.RNG_STRAY_VAL

/-- An event at one tick (R147). -/
def State.strayAct (s : State) (owner line tick : Nat) : State := s.strayIn owner line [tick / 4]

/-- The class that gets a slot: the first, in the order LOG, CAL, SCRUB, EDDY, DMA, that the entry makes eligible, that
has grant left and that has work (R148). -/
def State.slotClass (s : State) (work : Nat → Bool) (line slot : Nat) : Option Nat :=
  let e := s.slotUse line slot
  if s.rng.stray.contains (line, slot) ∨ 0x1F < e then none
  else (List.range 5).find? fun c => e.testBit c && decide (s.rng.used.getD c 0 < s.gov.cur.grants.getD c 0) && work c

/-- A slot of a class used (R149). -/
def State.useSlot (s : State) (c line slot : Nat) : State :=
  { s with rng := { s.rng with used := listSet s.rng.used c (s.rng.used.getD c 0 + 1), slot := some (line, slot) } }

/-- At line 0 the used and granted counts of the frame that has ended are latched, and the counts restart (R149, R158). -/
def State.latchUsed (s : State) : State :=
  let s1 := (List.range 5).foldl (fun s c => s.setReg (R.RNG_USED c)
    (BitVec.ofNat 32 (min 65535 (s.rng.used.getD c 0) + 65536 * min 65535 (s.gov.cur.grants.getD c 0)))) s
  { s1 with rng := { s1.rng with used := [0, 0, 0, 0, 0], slot := none, stray := [] } }

/-! ### The slot table (R151 to R155) -/

/-- Region records in order, without overlap, each with a map of the table (R152). -/
def regionsOk (b : List Byte) (maps : Nat) : Nat → Nat → Bool
  | 0, _ => true
  | n + 1, r =>
    let first := leAt b (16 + 8 * r) 2
    let last := leAt b (18 + 8 * r) 2
    decide (first ≤ last) && decide (byteAt b (20 + 8 * r) < maps) && (r = 0 || decide (leAt b (10 + 8 * r) 2 < first))
      && regionsOk b maps n (r + 1)

/-- A legal slot entry (R153). -/
def entryOk (e : Nat) : Bool := e ≤ 0x1F || (0x81 ≤ e && e ≤ 0x85)

/-- The check of a table: 0, else TABLE_ERR_CODE (R155). DESIGN CHOICE (log entry 34): R158 names no code for reserved header
or record bytes, or bits [7:3] of MAP, that are not 0, and they are not looked at. -/
def rngTableErr (b : List Byte) : Nat :=
  let n := byteAt b 1
  let m := byteAt b 2
  if byteAt b 0 ≠ 1 then 1
  else if n = 0 ∨ 16 < n ∨ m = 0 ∨ 8 < m then 2
  else if leAt b 8 4 ≠ crc32 ((b.take (rngTableLen b)).drop 16) then 3
  else if !regionsOk b m n 0 then 4
  else if (List.range (64 * m)).all fun i => entryOk (byteAt b (16 + 8 * n + i)) then 0
  else 5

end Sys2Proof.Machine
end

