-- ==== Sys2Proof/Machine/Column.lean ====
section
/-! DEFINITION. Column link: lanes and the pixel mapping (R395, R396), packets (R399 to R404), region CRCs (R405), the back
channel (R406 to R409), bring-up, retrain and the configuration's checks (R410 to R415). -/

namespace Sys2Proof.Machine

/-! ### Lanes and mapping (R396) -/

/-- A lane. -/
def State.cl (s : State) (l : Nat) : ColLane := s.col.lanes.getD l ColLane.reset

/-- The state with a lane replaced. -/
def State.setCl (s : State) (l : Nat) (x : ColLane) : State :=
  { s with col := { s.col with lanes := listSet s.col.lanes l x } }

/-- Every lane changed. -/
def State.mapCl (s : State) (f : Nat → ColLane → ColLane) : State :=
  { s with col := { s.col with lanes := s.col.lanes.mapIdx f } }

/-- Enabled lanes in force, in increasing number. -/
def State.colLanes (s : State) : List Nat :=
  (List.range 24).filter fun l => bitOf (s.live R.COL_LANES) l

/-- DUAL and DEPTH8 in force, channels per packet, subpixels per lane. -/
def State.colDual (s : State) : Bool := s.liveFlag F.COL_CFG_DUAL
def State.colDepth8 (s : State) : Bool := s.liveFlag F.COL_CFG_DEPTH8
def State.colCh (s : State) : Nat := s.liveFld F.COL_CFG_CH
def State.colSub (s : State) : Nat := (if s.colDual then 2 else 1) * s.colCh

/-- Is the REV bit of a lane's connector set? -/
def State.colRev (s : State) (l : Nat) : Bool := if l < 12 then s.liveFlag F.COL_MAP_REV_A else s.liveFlag F.COL_MAP_REV_B

/-- The panel subpixel of driver subpixel `sp` of lane `l`, the `i`-th enabled lane (R396). -/
def State.panelSub (s : State) (i l sp : Nat) : Nat :=
  i * s.colSub + if s.colRev l then s.colSub - 1 - sp else sp

/-- Component `c` of a pixel. -/
def subOf (px : List Px) (p : Nat) : Nat := (px.getD (p / 3) Px.black).comp (p % 3)

/-- The code of driver subpixel `sp`. -/
def State.driverCode (s : State) (px : List Px) (i l sp : Nat) : Nat := subOf px (s.panelSub i l sp)

/-! ### Symbols and sets (R397, R398) -/

/-- Bytes of the column link's control symbols beside COM and TSI (R397). -/
abbrev symLDI : Byte := 0xDC
abbrev symIDL : Byte := 0x7C
abbrev symSOL : Byte := 0xFB
abbrev symEOL : Byte := 0xFD
abbrev symSOC : Byte := 0xFE

/-- An IDLE set, what a lane with nothing to send sends (R398). -/
def colIdle : List Sym := [.ctl symCOM, .ctl symIDL]

/-- A LOAD set of a phase (R398). -/
def loadSet (phase : Nat) : List Sym :=
  let info : Byte := BitVec.ofNat 8 phase
  [.ctl symCOM, .ctl symLDI, .data info, .data (info ^^^ 0xFF)]

/-- A training set of lane `l` at a rate (R398): its 12 bytes framed as every training set. -/
def colTraining (l rate : Nat) : List Sym :=
  trainingSyms ([BitVec.ofNat 8 (l + 0xA0), BitVec.ofNat 8 rate] ++ List.replicate 10 0x4A)

/-- A packet between its start and end symbols (R400, R403). -/
def colFrame (start : Byte) (body : List Byte) : List Sym := [.ctl start] ++ body.map .data ++ [.ctl symEOL]

/-- What an enabled lane repeats where it sends no packet: training sets while it trains, IDLE sets else; nothing before RUN (R398,
R410, R411). -/
def State.colRepeats (s : State) (l : Nat) : List Sym :=
  if !s.on .panel || !s.flag F.COL_CTRL_RUN || !bitOf (s.live R.COL_LANES) l then []
  else if bitOf (s.reg R.COL_TRAINING) l then colTraining l (s.liveFld F.COL_CFG_RATE)
  else colIdle

/-- A transmission on the back channel: preamble, delimiter, its bytes and a CRC-8 over them (R406). -/
def backFrame (bs : List Byte) : List Byte := [0x55, 0xD5] ++ bs ++ [BitVec.ofNat 8 (crc8 bs)]

/-- SYNC of a frame (R407). -/
def State.syncOf (s : State) : List Byte := backFrame [0xA5, BitVec.ofNat 8 (s.frame.toNat % 256)]

/-! ### Packets -/

/-- POL0 of a line (R401). -/
def State.pol0 (s : State) (y : Nat) : Nat :=
  let b := s.liveFld F.COL_POL_BASE
  let a := if s.liveFlag F.COL_POL_LINE_ALT then y % 2 else 0
  let f := if s.liveFlag F.COL_POL_FRAME_ALT ∧ s.col.parity = true then 1 else 0
  (b + a + f) % 2

/-- Codes packed little-endian at `d` bits each (R400). -/
def packBits (d : Nat) (cs : List Nat) : Nat := (cs.reverse).foldl (fun a c => a * 2 ^ d + c % 2 ^ d) 0

/-- The bytes of a line packet between SOL and EOL: CFGW, payload, POLF, CRC (R400). -/
def State.linePacketOf (s : State) (y phase i l : Nat) (px : List Px) : List Byte :=
  let d := if s.colDepth8 then 8 else 10
  let ch := s.colCh
  let codes := (List.range ch).map fun k => s.driverCode px i l (if s.colDual then 2 * k + phase else k)
  let cfgw := leBytes 4 (y % 65536 + 65536 * phase + 2 ^ 24 * (s.frame.toNat % 256))
  let body := cfgw ++ leBytes (ch * d / 8) (packBits d codes)
    ++ [BitVec.ofNat 8 (s.pol0 y + 2 * s.liveFld F.COL_POL_GROUP)]
  body ++ leBytes 2 (crc16 body)

/-- The regions of lane `l`, the `i`-th enabled one, and whether more than 8 windows meet it (R404). -/
def State.regionsOf (s : State) (i l : Nat) : List Region × Bool :=
  let n := s.colSub
  let lo := i * n
  let one := fun (w : Nat) =>
    let r := s.windowRect w
    let a := max lo (3 * r.x)
    let b := min (lo + n) (3 * (r.x + r.w))
    if bitOf (s.live R.CPS_TT_EN) w = true ∧ a < b then
      let p := a - lo
      let q := b - 1 - lo
      let (x, y) := if s.colRev l then (n - 1 - q, n - 1 - p) else (p, q)
      some (⟨w, x, y, r.y, r.y + r.h - 1⟩ : Region)
    else none
  let all := (List.range 32).filterMap one
  (all.take 8, decide (8 < all.length))

/-- Lanes of a segment: 0 to 11 on A, 12 to 23 on B. -/
def sameSegment (a b : Nat) : Bool := (a < 12) == (b < 12)

/-- Reply positions in bit times after SYNC: lanes that carry a configuration, in lane order within a segment (R408). `n`
gives a lane's regions in the reported frame. -/
def replyAt (carry : List Nat) (n : Nat → Nat) (l : Nat) : Nat :=
  ((carry.filter fun k => sameSegment k l && k < l).map fun k => 48 + 16 * n k + 4).sum + 4

/-- The bytes of a configuration packet between SOC and EOL (R403). -/
def State.cfgPacketOf (s : State) (hold roll : Bool) (regs : List Region) (reply : Nat) : List Byte :=
  let flags := (if s.colDepth8 then 1 else 0) + (if s.colDual then 2 else 0) + (if hold then 4 else 0)
    + (if roll then 8 else 0)
  let body := [1, BitVec.ofNat 8 flags] ++ leBytes 2 s.colCh
    ++ [BitVec.ofNat 8 (s.liveFld F.COL_CFG_OUT_DLY), BitVec.ofNat 8 regs.length] ++ leBytes 2 reply
    ++ leBytes 4 s.frame.toNat ++ [0, 0, 0, 0]
    ++ (regs.map fun r => leBytes 2 r.sp0 ++ leBytes 2 r.sp1 ++ leBytes 2 r.l0 ++ leBytes 2 r.l1).flatten
  body ++ leBytes 2 (crc16 body)

/-! ### Region CRCs (R405) -/

/-- A region's CRC advanced over one active line of codes. -/
def State.regionLine (s : State) (px : List Px) (i l y : Nat) (r : Region) (crc : Nat) : Nat :=
  if r.l0 ≤ y ∧ y ≤ r.l1 then
    ((List.range (r.sp1 + 1 - r.sp0)).foldl (fun c k =>
      let v := s.driverCode px i l (r.sp0 + k)
      crc16Step (crc16Step c (BitVec.ofNat 8 v)) (BitVec.ofNat 8 (v / 256))) crc)
  else crc

/-! ### The checks of a configuration (R396, R402, R408, R415) -/

/-- Symbols of one packet with its LOAD set (R402). -/
def packetSymbols (ch : Nat) (depth8 : Bool) : Nat := 13 + ch * (if depth8 then 8 else 10) / 8

/-- Symbols in a line time at a rate, from H_TOTAL clocks of PCLK kHz: floor of H_TOTAL / PCLK over the symbol time, in
tenths of a nanosecond. -/
def lineSymbols (rate hTotal pclk : Nat) (half : Bool) : Nat :=
  hTotal * 10000000 / (max 1 pclk * (if rate = 0 then 32 else 16) * (if half then 2 else 1))

/-- Lines of the reply window in bit times of 20 ns, rounded down. -/
def windowBits (first last hTotal pclk : Nat) : Nat := (last + 1 - first) * hTotal * 50000 / max 1 pclk

/-- The check of a column configuration, read by `get`, for a DEPTH of DTH and the timing in force: 0, else CFG_ERR_CODE
(R416). -/
def State.colErr (s : State) (get : Fld → Nat) (lanes : Word) (dthDepth : Nat) : Nat :=
  let ch := get F.COL_CFG_CH
  let dual := get F.COL_CFG_DUAL != 0
  let d8 := get F.COL_CFG_DEPTH8 != 0
  let n := popCount lanes.toNat 24
  let pclk := s.liveFld F.SCN_PCLK_PCLK
  let first := get F.COL_BCH_FIRST
  let last := get F.COL_BCH_LAST
  if ch < 4 ∨ 960 < ch ∨ ch % 4 ≠ 0 then 4
  else if n * ((if dual then 2 else 1) * ch) ≠ 3 * s.hActive then 1
  else if lineSymbols (get F.COL_CFG_RATE) s.hTotal pclk dual < packetSymbols ch d8 + 16 then 2
  else if first < 1 ∨ 14 < last ∨ last < first ∨ windowBits first last s.hTotal pclk < 2204 then 3
  else if get F.COL_CFG_DEPTH8 ≠ dthDepth then 5
  else 0

/-- The registers that a COL hand-over moves. -/
def colShadows : List Nat := [R.COL_CFG, R.COL_LANES, R.COL_MAP, R.COL_POL, R.COL_BCH]

/-- COL's hand-over or refusal at a line 0 (R415); a refusal answers false. -/
def State.colHandOver (s : State) (holdRate : Bool) : Bool × State :=
  let code := s.colErr s.fld (s.reg R.COL_LANES) (s.liveFld F.DTH_CTRL_DEPTH)
  if code ≠ 0 then (false, (s.setFlag F.COL_STATUS_CFG_REFUSED true).setFld F.COL_STATUS_CFG_ERR_CODE code)
  else
    let was := s.live R.COL_LANES
    let rate := s.liveFld F.COL_CFG_RATE
    let s1 := s.handOverAll colShadows
    let now := s1.live R.COL_LANES
    let fresh := now &&& ~~~was
    let s2 := s1.mapCl fun l x =>
      if bitOf fresh l then { x with marked := true, retrainAt := some (s1.frame - 1), failedAt := none } else x
    let s3 := (s2.setReg R.COL_INSERVICE (s2.reg R.COL_INSERVICE &&& now)).setReg R.COL_FAILED (s2.reg R.COL_FAILED &&& now)
    let rated := holdRate ∧ s1.liveFld F.COL_CFG_RATE ≠ rate
    (true, { s3 with col := { s3.col with fits := true, rateRoll := s3.col.rateRoll || decide rated } })

/-- Does the configuration in force fit the timing set in force (R415)? Where it no longer does, or does not in a hold frame, it is
reported. -/
def State.colFits (s : State) : State :=
  let code := s.colErr s.liveFld (s.live R.COL_LANES) (s.liveFld F.DTH_CTRL_DEPTH)
  let ok := code = 0 ∨ code = 5
  let s1 : State := { s with col := { s.col with fits := decide ok } }
  if ok ∨ (s.col.fits = false ∧ s.rs.hold = false) then s1 else (s1.setFlag F.COL_STATUS_CFG_REFUSED true).setFld F.COL_STATUS_CFG_ERR_CODE 6

/-! ### Line 0 (R403, R411) -/

/-- Is lane `l` in service? -/
def State.colServes (s : State) (l : Nat) : Bool := bitOf (s.reg R.COL_INSERVICE) l

/-- A lane carries packets: it is in service, or FAILED (R412), and not training. -/
def State.colCarries (s : State) (l : Nat) : Bool :=
  (s.colServes l || (bitOf (s.reg R.COL_FAILED) l && ((s.cl l).failedAt).isSome)) && !bitOf (s.reg R.COL_TRAINING) l

/-- The lanes that are to train in this frame do so, out of service unless they are FAILED (R396, R411, R412). -/
def State.colTrain0 (s : State) : State :=
  let train := s.colLanes.filter fun l => (s.cl l).marked || s.col.rateRoll
  let n := train.length
  let s1 := (s.setReg R.COL_TRAINING (train.foldl withBit 0)).countUp F.COL_CNT_RETRAINS n
  let s2 := if n = 0 then s1 else s1.setFlag F.COL_STATUS_RETRAIN true
  if s.col.rateRoll then s2
  else s2.setReg R.COL_INSERVICE
    (train.foldl (fun a l => if ((s.cl l).failedAt).isSome then a else withBit a l) (s2.reg R.COL_INSERVICE))

/-- The regions of each lane that do not fit are noted (R404). -/
def State.colOverflow (s : State) : State :=
  let ovf := s.colLanes.mapIdx fun i l => (l, (s.regionsOf i l).2)
  let s1 := s.setReg R.COL_REGOVF (ovf.foldl (fun a p => if p.2 then withBit a p.1 else a) 0)
  if ovf.any (·.2) then s1.setFlag F.COL_STATUS_REGION_OVF true else s1

/-- The configuration packets of the lanes that carry them; the others are as after a frame without one (R402, R404, R408). -/
def State.colConfigure (s : State) (hold : Bool) : State :=
  let ls := s.colLanes
  let carry := ls.filter s.colCarries
  let nPrev := fun l => (s.cl l).regions.length
  let s1 := s.mapCl fun l x =>
    match ls.idxOf? l with
    | none => { x with carriedPrev := x.carried, carried := false, regionsPrev := x.regions, crcsPrev := x.crcs, regions := [], crcs := [], replied := false, marked := false }
    | some i =>
      let rs := (s.regionsOf i l).1
      let c := carry.contains l
      let pkt := if c then colFrame symSOC (s.cfgPacketOf hold false rs (replyAt carry nPrev l)) else []
      { x with carriedPrev := x.carried, carried := c, regionsPrev := x.regions, crcsPrev := x.crcs,
               regions := if c then rs else [], crcs := if c then rs.map fun _ => 0xFFFF else [],
               replied := false, marked := false, cfgPacket := pkt }
  if carry.isEmpty then s1 else s1.strayAct ownCol 0 0

/-- Line 0: retrains begin and end, then every lane in service sends its configuration packet (R403, R404, R411, R413).
`scan` says that line packets follow. -/
def State.colLine0 (s : State) (scan : Bool) : State :=
  if !s.on .panel || !s.flag F.COL_CTRL_RUN then s
  else
    let s1 := s.colTrain0.colOverflow
    let s2 := s1.colConfigure (!scan || !s1.col.fits)
    { s2 with col := { s2.col with load := none, synced := false, codes := none, rateRoll := s2.col.rateRoll && s2.rs.hold,
                                   parity := if scan then !s2.col.parity else s2.col.parity } }

/-! ### Lines (R399) -/

/-- The LOAD set and the packet of active line `y`, phase `phase`, on every lane that carries them, and the packer's CRCs once the
whole line has been sent. The LOAD set is that of the line before: line 0 has none, and the line after the last has it alone (R399). -/
def State.sendLine (s : State) (y phase : Nat) (px : List Px) : State :=
  let ls := s.colLanes
  let last := !s.colDual || phase = 1
  s.mapCl fun l x =>
    match ls.idxOf? l with
    | none => x
    | some i =>
      if x.carried then
        let crcs := if last && decide (y < s.vActive) then List.zipWith (fun r c => s.regionLine px i l y r c) x.regions x.crcs else x.crcs
        let load := if y = 0 then [] else loadSet phase
        let pkt := if y < s.vActive then colFrame symSOL (s.linePacketOf y phase i l px) else []
        { x with linePacket := load ++ pkt, crcs := crcs }
      else x

/-! ### Back channel (R407 to R412) -/

/-- Was a reply from a lane expected in this window (R411)? -/
def ColLane.expected (x : ColLane) : Bool := x.carried && x.carriedPrev

/-- The region CRCs of a good reply. -/
def replyCrcs (bs : List Byte) (n : Nat) : List Nat := (List.range n).map fun r => leAt bs (3 + 2 * r) 2

/-- Is a reply good: length, CHK and ID (R407, R409)? -/
def replyOk (l n : Nat) (bs : List Byte) : Bool :=
  bs.length = 4 + 2 * n && byteAt bs (3 + 2 * n) = crc8 (bs.take (3 + 2 * n)) && byteAt bs 0 = l

/-- A FAILED lane returns to service (R412). -/
def State.laneReturns (s : State) (l : Nat) : State :=
  let s1 := (s.setCl l { s.cl l with failedAt := none, retrainAt := none }).setReg R.COL_FAILED (withoutBit (s.reg R.COL_FAILED) l)
  (s1.setReg R.COL_INSERVICE (withBit (s1.reg R.COL_INSERVICE) l)).event 7 4 ([0] ++ leBytes 3 (2 ^ l))

/-- A lane's reply in this window, or none where no valid preamble and delimiter arrived (R409). The last component has
the driver's CRCs by region where the reply is good. -/
def State.columnReply (s : State) (l : Nat) (bs : Option (List Byte)) : List (Region × Nat) × State :=
  let x := s.cl l
  let n := x.regionsPrev.length
  match bs with
  | some b =>
    if replyOk l n b then
      let st := byteAt b 1
      let s1 := s.setReg (R.COL_REPLY l) (BitVec.ofNat 32 (st + 256 * byteAt b 2 + 2 ^ 16 * n + 2 ^ 20))
      let s2 := if st.testBit 2 then s1.countUp F.COL_CNT_LINE_ERR else s1
      let s3 := s2.countUp F.COL_CNT_ERR_SUM (st / 16)
      let s4 := s3.setCl l { x with replied := true, misses := if x.expected then 0 else x.misses }
      let back := x.failedAt.isSome && x.expected && st.testBit 0 && !st.testBit 3
      (List.zip x.regionsPrev (replyCrcs b n), if back then s4.laneReturns l else s4)
    else
      ([], (s.setCl l { x with replied := true, misses := if x.expected then x.misses + 1 else x.misses }).countUp
        F.COL_CNT_MISSING (if x.expected then 1 else 0))
  | none =>
    ([], (s.setCl l { x with replied := true, misses := if x.expected then x.misses + 1 else x.misses }).countUp
      F.COL_CNT_MISSING (if x.expected then 1 else 0))

/-- The mark of a lane at line LAST + 1 (R411, R412). -/
def State.markLane (s : State) (l : Nat) : State :=
  let x := s.cl l
  let valid := s.flag (F.COL_REPLY_VALID l)
  let st := s.fld (F.COL_REPLY_STATUS l)
  let lost := valid && x.expected && (!st.testBit 0 || st.testBit 3)
  let f := s.frame
  match x.failedAt with
  | some at0 =>
    if (f - at0).toNat % 64 = 0 ∧ f ≠ at0 then s.setCl l { x with marked := true, asked := false }
    else s.setCl l { x with asked := false }
  | none =>
    let mark := lost || (decide (2 ≤ x.misses) && x.expected) || x.asked
    if !mark then s.setCl l { x with asked := false }
    else
      match x.retrainAt with
      | some m =>
        if (f - m).toNat = 3 then
          let s1 := (s.setCl l { x with failedAt := some f, asked := false, misses := 0 }).setReg R.COL_FAILED
            (withBit (s.reg R.COL_FAILED) l)
          let s2 := (s1.setReg R.COL_INSERVICE (withoutBit (s1.reg R.COL_INSERVICE) l)).setFlag F.COL_STATUS_LANE_FAIL true
          s2.eventLogged 7 3 ([0] ++ leBytes 3 (2 ^ l))
        else s.setCl l { x with marked := true, retrainAt := some f, asked := false }
      | none => s.setCl l { x with marked := true, retrainAt := some f, asked := false }

/-! ### Rows -/

/-- BACK_CHANNEL_SYNC: SYNC at line FIRST on both segments; no reply of this window has arrived yet (R407). -/
def execBackChannelSync (s : State) : Out :=
  if s.on .panel && s.flag F.COL_CTRL_RUN && s.rs.running then
    let s0 := s.reachPos (s.liveFld F.COL_BCH_FIRST) 0
    let s1 := (List.range 24).foldl (fun s l => s.setFlag (F.COL_REPLY_VALID l) false) s0
    .next { s1 with col := { s1.col with synced := true, sync := s1.syncOf } }
  else .next s

/-- LANE_RETRAIN_MARK at line LAST + 1 (R411, R412). -/
def execLaneRetrainMark (s : State) : Out :=
  if s.on .panel && s.flag F.COL_CTRL_RUN && s.rs.running then
    .next (s.colLanes.foldl State.markLane (s.reachPos (s.liveFld F.COL_BCH_LAST + 1) 0))
  else .next s

/-- The packets of a roll call: ROLL and HOLD set, no regions; SYNC follows (R410). -/
def State.rollSend (s : State) : State :=
  let ls := s.colLanes
  let s1 := s.mapCl fun l x =>
    if ls.contains l then { x with cfgPacket := colFrame symSOC (s.cfgPacketOf true true [] (replyAt ls (fun _ => 0) l)) } else x
  { s1 with col := { s1.col with sync := s1.syncOf } }

/-- The roll call's outcome for the enabled lanes: those whose reply shows LOCK = 1 go into service (R410). -/
def State.rollCall (s : State) (locked : Word) : State :=
  let en := s.live R.COL_LANES
  let got := (s.reg R.COL_INSERVICE ||| (locked &&& en)) &&& en
  let s1 := (s.setReg R.COL_INSERVICE got).setReg R.COL_TRAINING (en &&& ~~~got)
  let n := s.col.rolls + 1
  let s2 : State := { s1 with col := { s1.col with rolls := n } }
  let left := (List.range 24).filter fun l => bitOf (en &&& ~~~got) l
  if left.isEmpty then
    { s2.setFlag F.COL_STATUS_BRINGUP_DONE true with col := { s2.col with bringing := false } }
  else if 10 ≤ n then
    let s3 := left.foldl (fun s l =>
      (((s.setCl l { s.cl l with failedAt := some s.frame }).setReg R.COL_FAILED (withBit (s.reg R.COL_FAILED) l)).setFlag
        F.COL_STATUS_LANE_FAIL true).eventLogged 7 3 ([0] ++ leBytes 3 (2 ^ l))) s2
    { (s3.setReg R.COL_TRAINING 0).setFlag F.COL_STATUS_BRINGUP_DONE true with col := { s3.col with bringing := false } }
  else s2

/-- ROLL_CALL: a roll call of bring-up (R410), or the one of a hold frame that changes RATE (R413); the operand has the
lanes whose reply shows LOCK = 1. -/
def execRollCall (locked : Word) (s : State) : Out :=
  if !s.on .panel || !s.flag F.COL_CTRL_RUN then .next s
  else if s.col.bringing then .next (s.rollSend.rollCall locked)
  else if s.col.rateRoll then
    let en := s.live R.COL_LANES
    let s0 := s.rollSend
    let s1 := (s0.setReg R.COL_INSERVICE (locked &&& en)).setReg R.COL_TRAINING 0
    let s2 := s1.mapCl fun l x =>
      if bitOf (en &&& ~~~locked) l then { x with marked := true, retrainAt := some s1.frame } else x
    .next { s2.setReg R.COL_INSERVICE (en &&& ~~~(s2.reg R.COL_FAILED)) with col := { s2.col with rateRoll := false } }
  else .next s

end Sys2Proof.Machine
end

