-- ==== Sys2Proof/Machine/Governor.lean ====
section
/-! DEFINITION. The energy governor: its model of power (R163 to R165), the order of sacrifice (R166 to R169), its modes
(R171, R172, R175), the debt (R162), level changes (R117 to R120). Quantities are exact rationals in W, A, s, Hz; where a
register holds fewer digits, the rounding is left open (log entry 20). -/

namespace Sys2Proof.Machine

/-! ### Exact quantities -/

/-- A rational held between two bounds. -/
def clampRat (q lo hi : Rat) : Rat := min (max q lo) hi

/-- A rational rounded up. -/
def ceilRat (q : Rat) : Nat := ((q.num + q.den - 1) / q.den).toNat

/-- A rational rounded down. -/
def floorRat (q : Rat) : Nat := (q.num / q.den).toNat

/-- Degrees Celsius of a temperature field (R9). -/
def degrees (v : Nat) : Rat := (sext 16 v : Rat) / 8

/-! ### Timing -/

/-- T_line in seconds (R318). -/
def State.tLine (s : State) : Rat := (s.hTotal : Rat) / (1000 * s.liveFld F.SCN_PCLK_PCLK : Nat)

/-- The nominal refresh in Hz (R318). -/
def State.fNom (s : State) : Rat := (1000 * s.liveFld F.SCN_PCLK_PCLK : Nat) / ((s.hTotal * s.vTotal : Nat) : Rat)

/-- Is variable refresh enabled? -/
def State.vrr (s : State) : Bool := s.liveFlag F.SCN_VRR_VRR_EN

/-- The lower end of the variable-refresh window (R318). -/
def State.fMin (s : State) : Rat :=
  if s.vrr then (1000 * s.liveFld F.SCN_PCLK_PCLK : Nat) / ((s.hTotal * s.liveFld F.SCN_VRR_V_TOTAL_MAX : Nat) : Rat)
  else s.fNom

/-- A ceiling in Hz: 0 stands for the nominal refresh. -/
def State.ceilHz (s : State) (c : Rat) : Rat := if c = 0 then s.fNom else min c s.fNom

/-- The first line after the last active line (R160). -/
def State.lineD (s : State) : Nat := s.vStart + s.vActive

/-- The governor's evaluation line (R160). -/
def State.lineE (s : State) : Nat := s.lineD - 16

/-- Blanking lines of a frame of V_TOTAL lines (R119). -/
def State.blanking (s : State) : Nat := s.vTotal - s.vActive

/-! ### Levels (R116, R117, R120) -/

/-- The pixel rate of a level in Gpixel/s (R116). -/
def levelRate : Nat → Rat
  | 0 => 16 / 5
  | 1 => 12 / 5
  | 2 => 8 / 5
  | _ => 4 / 5

/-- PR of R164 at a refresh, in Gpixel/s. -/
def State.pixRate (s : State) (f : Rat) : Rat := (s.hTotal * s.vTotal : Nat) * f / 1000000000

/-- The lowest usable level that is not below `floor` (R117, R165). -/
def State.lowestLevel (s : State) (f : Rat) (floor : Nat) : Nat :=
  (([3, 2, 1].filter fun l => l ≤ floor).find? fun l => decide (s.pixRate f ≤ levelRate l)).getD 0

/-- Is the level fixed by the timing set (R120)? -/
def State.levelFixed (s : State) : Bool := !s.vrr && s.blanking < 60

/-! ### The power model (R163 to R165) -/

/-- E_c in nJ. -/
def State.eSlot (s : State) (c : Nat) : Nat := bitsOf (s.reg R.GOV_ESLOT) (6 * c) 6

/-- The model of R164 without P_rest, in W, at a refresh. -/
def State.pModel (s : State) (level : Nat) (f : Rat) (od : Bool) (grants : List Nat) : Rat :=
  let pr := s.pixRate f
  let k := if od then (s.fld F.GOV_OD_K_OD : Rat) * pr else 0
  let slots : Nat := ((List.range 5).map fun c => grants.getD c 0 * s.eSlot c).sum
  ((s.fld (F.GOV_LEVEL_S_L level) : Rat) + (s.fld (F.GOV_LEVEL_K_L level) : Rat) * pr + k) / 1000
    + (slots : Rat) * f / 1000000000

/-- ETA (R177). -/
def State.eta (s : State) : Rat := (s.fld F.GOV_LED2_ETA : Rat) / 1000

/-- The refresh that LOW_RATE plans for the next frame, bounded by a ceiling (R172, R328). -/
def State.modelHz (s : State) (f : Rat) : Rat :=
  if s.mode = .lowRate ∧ s.vrr = true then
    let hz := clampNat (s.liveFld F.SCN_LOWRATE_LR_HZ) 30 120
    let st := max 1 (s.liveFld F.SCN_LOWRATE_LR_STEP)
    min f (max (hz : Rat) (min s.fNom f - ((s.rs.lrStep + 1) * st : Nat)))
  else f

/-- Is a temperature-triggered calibration in progress or raised (R166)? -/
def State.calTriggered (s : State) : Bool :=
  s.flag F.CAL_STATUS_PENDING || (match s.cal.run with
    | some r => r.kind = 3
    | none => false)

/-- The grants with steps 1 to `step` applied (R166). -/
def State.stepGrants (s : State) (step : Nat) : List Nat :=
  (List.range 5).map fun c =>
    let g := if step = 0 then s.fld (F.GOV_CLASS_REQ c) else s.fld (F.GOV_CLASS_FLOOR c)
    if c = 1 ∧ s.calTriggered = true then max g (s.fld F.GOV_CAL_TRIG_VAL) else g

/-- The level with steps 1 to `step` applied (R165, R166, R120). -/
def State.stepLevel (s : State) (step : Nat) (ceil : Rat) : Nat :=
  if s.levelFixed then s.lowestLevel s.fNom 3
  else s.lowestLevel ceil (if step = 0 then s.fld F.GOV_LEVEL_FLOOR_CORE_MIN else 3)

/-- What an evaluation starts from (R163): allowances, P_rest, boost plan and headroom in V, the wanted, greatest and floor
currents in mA. -/
structure GovBase where
  aIn : Rat → Rat
  pIn : Rat → Rat
  pDiss : Rat
  pRest : Rat
  vb : Rat
  vHead : Rat
  imax : Rat
  ifloor : Rat
  /-- 1 ÷ ETA. -/
  inv : Rat

/-- I_fit at a setting, with the allowances scaled by `m`: the largest current in whole mA that meets both, and whether
the dissipation set it; -1 where none does (R165). -/
def State.iFit (s : State) (b : GovBase) (step : Nat) (ceil m : Rat) : Int × Bool :=
  let f := s.modelHz ceil
  let od := !s.mode.isDark && decide (step < 2)
  let non := b.pRest + s.pModel (s.stepLevel step ceil) f od (s.stepGrants step)
  let perIn := b.vb * b.inv
  let perDiss := perIn - b.vb + b.vHead
  let lim := fun (allow per : Rat) =>
    if allow < non then (-1 : Int) else if per ≤ 0 then 4095 else min 4095 (((allow - non) * 1000 / per).floor)
  let i := lim (b.pIn f * m) perIn
  let d := lim (b.pDiss * m) perDiss
  (min i d, decide (d < i))

/-- The current that a step needs (R166). -/
def State.needAt (s : State) (b : GovBase) (step : Nat) : Rat :=
  if step < 3 then min (s.fld F.GOV_LED_LED_GOAL : Rat) b.imax
  else min (max (s.fld F.GOV_LED_LED_MIN : Rat) b.ifloor) b.imax

/-- CEIL_STEP in Hz. -/
def State.ceilStep (s : State) : Nat := max 1 (s.fld F.GOV_CEIL_CEIL_STEP)

/-- ceil_min4 (R166): the highest FRAME_READY rate of a subscribed stream over the last 16 frames. -/
def State.ceilMin4 (s : State) : Rat :=
  let log := s.gov.readyLog.take 16
  let dur : Rat := (log.map fun e => e.1).sum
  let rate := fun (st : Nat) => if dur ≤ 0 then (0 : Rat) else ((log.map fun e => e.2.getD st 0).sum : Nat) / dur
  let best := ((List.range 16).filter fun st => s.subscribed st).foldl (fun m st => max m (rate st)) 0
  max s.fMin ((s.ceilStep * ceilRat (best / s.ceilStep) : Nat) : Rat)

/-- The order of sacrifice (R166): step, ceiling and whether the frame cannot fit. -/
def State.sacrifice (s : State) (b : GovBase) : Nat → Nat → Rat → Nat × Rat × Bool
  | 0, step, ceil => (step, ceil, true)
  | n + 1, step, ceil =>
    if s.needAt b step ≤ ((s.iFit b step ceil 1).1 : Rat) then (step, ceil, false)
    else if step = 4 ∧ s.ceilMin4 < ceil then s.sacrifice b n step (max (ceil - s.ceilStep) s.ceilMin4)
    else if step = 5 ∧ s.fMin < ceil then s.sacrifice b n step (max (ceil - s.ceilStep) s.fMin)
    else if step = 5 ∨ (step = 3 ∧ s.vrr = false) then (step, ceil, true)
    else s.sacrifice b n (step + 1) ceil

/-- The setting with one step fewer (R169): within steps 4 and 5 the ceiling rises first. -/
def State.relax (s : State) (step : Nat) (ceil : Rat) : Nat × Rat :=
  let top := if step = 5 then s.ceilMin4 else s.fNom
  if 4 ≤ step ∧ ceil < top then (step, min (ceil + s.ceilStep) top)
  else (step - 1, if step ≤ 4 then s.fNom else ceil)

/-- Would the setting with one step fewer fit with the margin, with a cap of at least LED_GOAL (R169)? DEDUCED (log entry 79): the
current that fits is held against LED_GOAL, whatever current the picture wants. -/
def State.fitsBelow (s : State) (b : GovBase) (step : Nat) (ceil : Rat) : Bool :=
  let r := s.relax step ceil
  let m : Rat := 1 - (s.fld F.GOV_CEIL_HYST : Rat) / 100
  let i : Rat := ((s.iFit b r.1 r.2 m).1 : Rat)
  decide (s.needAt b r.1 ≤ i) && decide ((s.fld F.GOV_LED_LED_GOAL : Rat) ≤ i)

/-! ### Evaluation (R160, R163, R166 to R169, R175) -/

/-- A quotient of rationals; with a divisor of 0 the spec states no result: a free whole number (log entry 20). -/
def State.ratQuot (s : State) (n d : Rat) : Rat × State :=
  if d = 0 then
    let (v, s1) := s.draw 65536
    ((v : Rat), s1)
  else (n / d, s)

/-- The start of an evaluation: I_want and I_floor in mA as LDA presents them. ETA = 0 and PANEL_LIM = PANEL_START leave a quotient
without a result: a free value. -/
def State.govBase (s : State) (i : GovIn) (iWant iFloor : Nat) : GovBase × State :=
  let c := s.gov.cur
  let cf := s.modelHz (s.ceilHz c.ceil)
  let budget : Rat := (s.fld F.GOV_BUDGET_P_BUDGET : Rat) / 10
  let repay : Rat := (max 1 (s.fld F.GOV_CEIL_REPAY) : Nat)
  let pVin : Rat := (i.pVin : Rat) / 1000
  let pLed : Rat := (i.pLed : Rat) / 1000
  let die := i.die.map fun t => degrees (s.fld F.GOV_TLIM_TDIE_LIM) - degrees t
  let h := die.foldl min (degrees (s.fld F.GOV_TLIM_TCASE_LIM) - degrees i.case)
  let aIn := fun (f : Rat) => budget * 1000 / f - s.gov.debt / repay
  let span := degrees (s.fld F.GOV_TPANEL_PANEL_LIM) - degrees (s.fld F.GOV_TPANEL_PANEL_START)
  let (frac, s1) := s.ratQuot (degrees (s.fld F.GOV_TPANEL_PANEL_LIM) - degrees i.panel) span
  let (inv, s2) := s1.ratQuot 1 s.eta
  let iPanel := 2000 * clampRat frac ((s.fld F.GOV_LED2_PANEL_MIN_FRAC : Rat) / 256) 1
  ({ aIn := aIn
     pIn := fun f => aIn f * f / 1000
     pDiss := clampRat (pVin - pLed + (s.fld F.GOV_THERM_G_TH : Rat) / 100 * (h - (s.fld F.GOV_THERM_H_MARGIN : Rat))) 0 16
     pRest := max 0 (pVin - pLed * inv - s.pModel c.level cf c.od c.grants)
     vb := (s.fld F.BLD_VB_V_PLAN : Rat) / 10
     vHead := (s.liveFld F.BLD_BOOST_V_HEAD : Rat) / 100
     imax := min (iWant : Rat) iPanel
     ifloor := (iFloor : Rat)
     inv := inv }, s2)

/-- The cap (R166 to R168). DEDUCED (log entry 79): where I_panel lies below I_floor, the last line of R166's procedure would go below
the floor; R167 ("never below I_floor") and R168 ("the larger of I_fit and I_floor") are followed. -/
def capRat (b : GovBase) (ifit : Int) : Rat := max (min (max (ifit : Rat) b.ifloor) b.imax) b.ifloor

/-- One evaluation: what line E decides for the next frame, and the state with the step, its ceiling and the run of fitting
frames (R166, R169). MANUAL puts GOV_MANUAL's values in place of the procedure's; what the timing set fixes without variable
refresh (R171), and the cap of CALIBRATE, stay. DESIGN CHOICE (log entry 79): GOV_MANUAL holds no grants, and every class keeps its
requested grant. -/
def State.evaluate (s : State) (i : GovIn) (iWant iFloor : Nat) : State :=
  let (b, s0) := s.govBase i iWant iFloor
  let g := s.gov
  let start := if s.vrr ∧ 4 ≤ g.held ∧ g.heldCeil ≠ 0 then min g.heldCeil s.fNom else s.fNom
  let held0 := if s.vrr then g.held else min g.held 3
  let below := decide (0 < held0) && s.fitsBelow b held0 start
  let run := if below then g.fitRun + 1 else 0
  let go := below && decide (s.fld F.GOV_CEIL_RESTORE ≤ run)
  let from' := if go then s.relax held0 start else (held0, start)
  let r := s.sacrifice b 1024 from'.1 from'.2
  let fit := s.iFit b r.1 r.2.1 1
  let manual := s.flag F.GOV_CTRL_MANUAL
  let (capN, s1) := s0.roundOpen (capRat b fit.1)
  let cap := if s.mode = .telltaleOnly then iFloor else if s.mode = .calibrate then 0 else capN
  let auto : GovSet := ⟨s.stepLevel r.1 r.2.1, r.2.1, !s.mode.isDark && decide (r.1 < 2), cap, s.stepGrants r.1⟩
  let mCeil := if s.vrr then (s.fld F.GOV_MANUAL_CEIL : Rat) else s.fNom
  let mLevel := if s.levelFixed then s.stepLevel 0 s.fNom else s.fld F.GOV_MANUAL_LEVEL
  let mCap := if s.mode = .calibrate then 0 else s.fld F.GOV_MANUAL_LED_CAP
  let man : GovSet := ⟨mLevel, mCeil, s.flag F.GOV_MANUAL_OD, mCap, s.stepGrants 0⟩
  let res : GovResult := {
    set := if manual then man else auto
    step := if manual then 0 else r.1
    shortfall := !manual && r.2.2
    thermal := !manual && fit.2
    panelBind := !manual && decide (b.imax < (iWant : Rat)) && decide (capRat b fit.1 = b.imax)
    manual := manual
    iFloor := iFloor
    aIn := b.aIn (s.modelHz r.2.1)
    pDiss := b.pDiss
    pVin := i.pVin
    pLed := i.pLed
    die := toTwos 16 ((i.die.map (sext 16)).foldl max (sext 16 (i.die.getD 0 0)))
    case := i.case
    panel := i.panel }
  { s1 with gov := { s1.gov with
      result := some res
      held := if manual then g.held else r.1
      heldCeil := if manual then g.heldCeil else r.2.1
      fitRun := if manual then g.fitRun else if go then 0 else run } }

/-- The latch at the first line after the last active line: the GOV registers, PWR_PERF.NEXT, and the setting for the next
frame; a frame in shortfall is counted, and the first of a run raises an event (R160, R168, R639). -/
def State.govLatch (s : State) (r : GovResult) : State :=
  let (ceil, s1) := s.roundOpen r.set.ceil
  let (aIn, s2) := s1.roundOpen (max 0 r.aIn * 10)
  let (diss, s3) := s2.roundOpen (r.pDiss * 1000)
  let (vin, s4) := s3.quot r.pVin 10
  let (led, s5) := s4.quot r.pLed 10
  let b := fun (x : Bool) (i : Nat) => if x then 2 ^ i else 0
  let bad := b (s5.flag F.GOV_STATUS_BAD_WR) 8
  let st := r.step + b r.set.od 3 + b r.shortfall 4 + b r.thermal 5 + b r.panelBind 6 + b r.manual 7 + bad + 65536 * (ceil % 256)
  let s6 := s5.setReg R.GOV_STATUS (BitVec.ofNat 32 st)
  let s7 := s6.setReg R.GOV_CAP (BitVec.ofNat 32 (r.set.cap % 4096 + 65536 * (r.iFloor % 4096)))
  let s8 := s7.setReg R.GOV_ALLOW (BitVec.ofNat 32 (min aIn 65535 + 65536 * min diss 65535))
  let s9 := s8.setReg R.GOV_MEAS (BitVec.ofNat 32 (min vin 65535 + 65536 * min led 65535))
  let s10 := s9.setReg R.GOV_TEMP (BitVec.ofNat 32 (r.die % 65536 + 65536 * (r.case % 65536)))
  let s11 := s10.setReg R.GOV_TPANEL_MEAS (BitVec.ofNat 32 (r.panel % 65536))
  let s12 := (List.range 5).foldl (fun s c => s.setFld (F.GOV_GRANT_VAL c) (min 65535 (r.set.grants.getD c 0))) s11
  let s13 := s12.setFld F.PWR_PERF_NEXT r.set.level
  let s14 : State := { s13 with gov := { s13.gov with next := r.set, result := none } }
  if r.shortfall then
    let s15 := s14.countUp F.GOV_SHORT_COUNT_VAL
    if s.flag F.GOV_STATUS_SHORTFALL then s15 else s15.event 6 1 (leBytes 2 r.set.cap ++ [BitVec.ofNat 8 r.step])
  else s14

/-- A level change begins (R118, R119): the frame in progress is lengthened where its blanking is shorter than 60 lines and
the timing set lets it be. -/
def State.levelStart (s : State) : State :=
  if s.gov.next.level = s.fld F.PWR_PERF_LEVEL then s
  else if s.levelFixed ∧ s.rs.hold = false then s
  else
    let vmin := max s.rs.vmin (s.vTotal + (60 - s.blanking))
    let stretch := decide (s.rs.vmin < vmin) && s.vrr && !s.rs.hold
    let s1 := (s.setFlag F.PWR_PERF_CHANGING true).setFlag F.PWR_PERF_STRETCHED stretch
    if stretch then
      { s1 with rs := { s1.rs with stretch := vmin - s1.rs.vmin, vmin := vmin, vmax := max s1.rs.vmax vmin } }
    else s1

/-- LEVEL_CHANGE_DONE: the voltage and clock switch is complete (R118). -/
def execLevelChangeDone (s : State) : Out :=
  if s.flag F.PWR_PERF_CHANGING then
    .next ((s.setFld F.PWR_PERF_LEVEL (s.fld F.PWR_PERF_NEXT)).setFlag F.PWR_PERF_CHANGING false)
  else .next s

/-! ### Line 0 (R149, R159, R162) -/

/-- The setting before the first lit frame (R159). DEDUCED (log entry 79): the LED cap is the one that GOV_CAP reads, 0 after reset
(R177). -/
def State.govDefault (s : State) : GovSet :=
  ⟨0, 0, false, s.fld F.GOV_CAP_LED, (List.range 5).map fun c => s.fld (F.GOV_CLASS_REQ c)⟩

/-- The debt after a frame (R162): its measured energy in 0.1 mJ and its duration in s. -/
def State.govDebt (s : State) (energy : Nat) (dur : Rat) : State :=
  let d := clampRat (s.gov.debt + (energy : Rat) / 10 - (s.fld F.GOV_BUDGET_P_BUDGET : Rat) * 100 * dur) 0 (65535 / 10)
  let (v, s1) := s.roundOpen (d * 10)
  ({ s1 with gov := { s1.gov with debt := d } } : State).setFld F.GOV_DEBT_VAL v

/-- The governor at line 0: a frame that has ended, `dur` seconds long, enters the log of FRAME_READY rates, and the settings for
this frame take effect (R149, R159, R160). -/
def State.govFrame (s : State) (dur : Rat) : State :=
  let g := s.gov
  let cur := if s.pw.firstLit then g.next else s.govDefault
  { s with gov := { g with
      cur := cur
      next := cur
      result := none
      readyLog := if dur = 0 then g.readyLog else ((dur, g.readyNow) :: g.readyLog).take 16
      readyNow := List.replicate 16 0 } }

/-! ### Rows -/

/-- GOV_BUDGET_WRITE: values outside 50 to 1,200 have no effect (R177). -/
def execGovBudgetWrite (v : Word) (s : State) : Out :=
  let b := v.toNat % 65536
  if 50 ≤ b ∧ b ≤ 1200 then .next (s.setFld F.GOV_BUDGET_P_BUDGET b) else .next (s.setFlag F.GOV_STATUS_BAD_WR true)

/-- GOV_MANUAL_WRITE: a write of GOV_CTRL; MANUAL is accepted only in CALIBRATE and SERVICE (R175). -/
def execGovManualWrite (v : Word) (s : State) : Out :=
  if bitOf v 0 then
    if s.mode.isDark then .next (s.setFlag F.GOV_CTRL_MANUAL true) else .next (s.setFlag F.GOV_STATUS_BAD_WR true)
  else .next (s.setFlag F.GOV_CTRL_MANUAL false)

end Sys2Proof.Machine
end

