-- ==== Sys2Proof/Machine/Carousel.lean ====
section
/-! DEFINITION. Carousel: zones (R439, R440), row windows (R441 to R446), currents and on-times (R447 to R450), the floor and
its witness (R451 to R453), the boost stage (R454 to R457), diagnosis (R458 to R462), the expansion chain (R463 to R467). -/

namespace Sys2Proof.Machine

/-- The state with another Carousel. -/
def State.setBl (s : State) (b : Carousel) : State := { s with bl := b }

/-! ### Zones (R439) -/

/-- Zone columns and zone rows in use. -/
def State.nCol (s : State) : Nat := clampNat (s.liveFld F.BLD_GEOM_NCOL) 1 192
def State.nRow (s : State) : Nat := clampNat (s.liveFld F.BLD_GEOM_NROW) 1 24

/-- The zone index of column `c` and row `r`. -/
def zoneIx (c r : Nat) : Nat := 192 * r + c

/-- The zones in use. -/
def State.zonesUsed (s : State) : List Nat :=
  ((List.range s.nRow).map fun r => (List.range s.nCol).map fun c => zoneIx c r).flatten

/-- The panel rectangle of a zone (R439). -/
def State.zoneRect (s : State) (z : Nat) : Rect :=
  let c := z % 192
  let r := z / 192
  let x0 := c * s.hActive / s.nCol
  let y0 := r * s.vActive / s.nRow
  ⟨x0, y0, (c + 1) * s.hActive / s.nCol - x0, (r + 1) * s.vActive / s.nRow - y0⟩

/-- The sink and the row output of a zone's column and row (R440). -/
def State.sinkOf (s : State) (c : Nat) : Nat := if s.liveFlag F.BLD_GEOM_REV_SINK then s.nCol - 1 - c else c
def State.rowOf (s : State) (r : Nat) : Nat := if s.liveFlag F.BLD_GEOM_REV_ROW then s.nRow - 1 - r else r

/-- A zone's record. -/
def State.zone (s : State) (z : Nat) : Zone := mapGet (fun _ => Zone.reset) s.bl.zones z

/-- The state with a zone's record replaced. -/
def State.setZone (s : State) (z : Nat) (x : Zone) : State :=
  s.setBl { s.bl with zones := mapSet (fun _ => Zone.reset) s.bl.zones z x }

/-- Windows drawn in the frame in progress (R351). -/
def State.drawn (s : State) : List Nat :=
  (List.range 32).filter fun i => bitOf (s.live R.CPS_TT_EN) i && bitOf (s.reg R.CPS_TT_REQ) i

/-- The zones whose rectangle meets window `i` (R451). -/
def State.zonesUnder (s : State) (i : Nat) : List Nat :=
  s.zonesUsed.filter fun z => !((s.zoneRect z).meet (s.windowRect i)).empty

/-- The floor zones of the frame (R451). -/
def State.floorZones (s : State) : List Nat :=
  let ws := s.drawn.map s.windowRect
  if ws.isEmpty then [] else s.zonesUsed.filter fun z => ws.any fun w => !((s.zoneRect z).meet w).empty

/-- Z_FLOOR in force. -/
def State.zFloor (s : State) : Nat := s.liveFld F.BLD_FLOOR_Z_FLOOR

/-! ### From zone value to current and on-time (R447, R448) -/

/-- SWEEPS and SEG. -/
def State.sweeps (s : State) : Nat := 2 ^ s.liveFld F.BLD_SCAN_SWEEPS
def segCount (v : Nat) : Nat := if v = 0 then 1 else if v = 1 then 2 else 4

/-- The shortest row in lines (R445). -/
def lMin (vtot sweeps : Nat) : Nat := vtot / (24 * sweeps)

/-- CMAX in force. -/
def State.cMax (s : State) : Nat := max 2 (s.liveFld F.BLD_ZONE_CAP_CMAX)

/-- Current code and on-time of a zone value (R447). -/
def drive (cmax z : Nat) : Nat × Nat :=
  if z = 0 then (0, 0)
  else
    let c := min cmax (max 2 ((z + 4094) / 4095))
    (c, min 4095 (max 1 ((z + c / 2) / c)))

/-- The pulses of an on-time in a window of 4,096 PWM units, as start and length: `n` segments, staggered by group, or one at the
window's start (R449). -/
def pulses (n : Nat) (stagger one : Bool) (col pw : Nat) : List (Nat × Nat) :=
  if pw = 0 then []
  else if one then [(0, pw)]
  else
    let g := if stagger then col % 8 else 0
    ((List.range n).map fun j => ((4096 * j / n + 512 * g) % 4096, pw / n + if j < pw % n then 1 else 0)).filter fun p => p.2 != 0

/-- Length of a PWM unit in ticks, times 4,096 (R447). -/
def State.unitTicks (s : State) : Nat := lMin s.vTotal s.sweeps * 256 - 24

/-- One tick in seconds. -/
def State.tickTime (s : State) : Rat := s.tLine / 256

/-- PW_DIAG: 1.6 us in PWM units, rounded up (R454). -/
def State.pwDiag (s : State) : Nat :=
  let unit := (s.unitTicks : Rat) / 4096 * s.tickTime
  if unit ≤ 0 then 4096 else ceilRat (16 / 10000000 / unit)

/-- Average current of C x PW in mA (R450). -/
def State.kI (s : State) : Rat :=
  (40 : Rat) / 255 * s.sweeps * s.unitTicks / (4096 * 256 * s.vTotal : Nat)

/-! ### The cap (R450) -/

/-- Zone values scaled to the cap: floor zones keep theirs, the others are scaled, rounding down. `price` is what a value
counts. -/
def scaleTo (cap : Rat) (kI : Rat) (price : Nat → Nat) (floors : List Nat) (vals : List Nat) : Option (List Nat) :=
  let total : Rat := kI * ((vals.map price).sum : Nat)
  if total ≤ cap then none
  else
    let fl : Rat := kI * (((vals.mapIdx fun z v => if floors.contains z then price v else 0).sum : Nat) : Rat)
    let f : Rat := if cap ≤ fl then 0 else (cap - fl) / (total - fl)
    some (vals.mapIdx fun z v => if floors.contains z then v else floorRat ((v : Rat) * f))

/-- ZONE_VALUES_DELIVERED as Carousel takes it: the values for the next frame, scaled where the planned current exceeds the
governor's cap (R450). -/
def State.takeValues (s : State) (vals : List Nat) : State :=
  let price := fun (z : Nat) => (drive s.cMax z).1 * (drive s.cMax z).2
  let cap := s.fld F.GOV_CAP_LED
  let fl := s.floorZones
  let plan : Rat := s.kI * ((vals.map price).sum : Nat)
  let (mA, s1) := s.roundOpen plan
  let s2 := s1.setReg R.BLD_CAP_NOW (BitVec.ofNat 32 (cap + 65536 * (min mA 4095)))
  match scaleTo (cap : Rat) s.kI price fl vals with
  | some v => ((s2.setBl { s2.bl with valsNext := v }).setFlag F.BLD_STATUS_CAP_SCALED true).countUp F.BLD_CNT_SCALED
  | none => s2.setBl { s2.bl with valsNext := vals }

/-! ### Row clock (R441, R442) -/

/-- Line of a clock's boundary `k`, counted from line 0 of the frame in progress; none while it lies before it. -/
def RowClock.line (c : RowClock) (k : Nat) : Nat := c.a + k * c.vtot / max 1 c.rows - c.off

/-- The next boundary: its line, and the clock it belongs to (R442). -/
def Carousel.next (b : Carousel) : Option (Nat × RowClock) :=
  match b.clock, b.clockNext with
  | some c, some n => if c.line c.k < n.a then some (c.line c.k, c) else some (n.a, n)
  | some c, none => some (c.line c.k, c)
  | none, some n => some (n.a, n)
  | none, none => none

/-! ### Windows -/

/-- Is the backlight able to light a row: RUN or ramping down, boost up, no stage latch? -/
def State.blLit (s : State) : Bool :=
  s.on .light && s.bl.latch.isNone && (match s.bl.ramp with
    | .off => false
    | .rising => false
    | .ready => true
    | .up _ => true
    | .target => true
    | .down _ => true)

/-- A zone's value after the ramp (R456): rounded down while it rises; towards zero over 8 ms when it falls, where the
rounding is left open (`up` in one of the two ways). -/
def rampValue (r : Ramp) (ramp : Nat) (since : Nat) (up : Nat) (z : Nat) : Nat :=
  match r with
  | .off => 0
  | .rising => 0
  | .ready => 0
  | .up j => j * z / max 1 ramp
  | .target => z
  | .down _ =>
    let left := 1250000 - min 1250000 since
    (z * left + up * 1249999) / 1250000

/-- The value a zone runs at in a window that opens now (R451, R456, R458). `base` is its value of the window's clock. -/
def State.windowValue (s : State) (up z base : Nat) : Nat :=
  let st := (s.zone z).state
  if !s.blLit || st = 1 || st = 3 then 0
  else
    let since := match s.bl.ramp with
      | .down t => s.since t
      | _ => 0
    let ramp := max 1 (s.liveFld F.BLD_SCAN_RAMP)
    let falling := match s.bl.ramp with
      | .down _ => true
      | _ => false
    let floor := s.bl.floors.contains z
    if s.mode = .calibrate ∨ s.mode = .service then 0
    else if s.mode = .telltaleOnly then
      if floor then (if falling then rampValue s.bl.ramp ramp since up s.zFloor else s.zFloor) else 0
    else
      let v := if floor ∧ falling = true then rampValue s.bl.ramp ramp since up (max base s.zFloor)
        else rampValue s.bl.ramp ramp since up base
      if floor ∧ falling = false then max v s.zFloor else v

/-- The pulse of one zone in a window that opens now: diagnostic pulses and stretches (R459, R460), and the zone's record
after it. -/
def State.openZone (s : State) (up z base : Nat) : WinZone × Zone × Bool :=
  let x := s.zone z
  let (c, pw) := drive s.cMax (s.windowValue up z base)
  let d := s.pwDiag
  let floor := s.bl.floors.contains z
  let fresh := x.windowAt ≠ some s.bl.frames
  let fd := if fresh then 0 else x.frameDebt
  let first := x.pulseAt ≠ some s.bl.frames
  let mk := fun (pw1 : Nat) (debt fdebt : Nat) (stretched : Bool) =>
    let diag := decide (0 < pw1 ∧ d ≤ pw1) && first
    let y : Zone := { x with
      debt := debt, frameDebt := fdebt, windowAt := some s.bl.frames,
      diagAt := if diag then some s.bl.frames else x.diagAt,
      pulseAt := if diag then some s.bl.frames else x.pulseAt }
    let seg := pulses (segCount (s.liveFld F.BLD_SCAN_SEG)) (s.liveFlag F.BLD_SCAN_STAGGER_EN) (floor || diag) (z % 192) pw1
    ((⟨z % 192, c, pw1, floor, diag, s.sinkOf (z % 192), seg⟩ : WinZone), y, stretched)
  if pw = 0 then mk 0 x.debt fd false
  else if floor then
    if pw < d ∧ fresh then mk d x.debt (d - pw) true
    else mk (pw - fd) x.debt (fd - pw) false
  else if d ≤ pw then mk (pw - x.debt) (x.debt - pw) fd false
  else if fresh ∧ x.debt = 0 ∧ s.liveFlag F.BLD_DIAG_STRETCH_EN = true ∧ (s.frame.toNat + z) % 64 = 0 then
    mk d (d - pw) fd true
  else mk (pw - x.debt) (x.debt - pw) fd false

/-- The window of a row opens (R443). -/
def State.openRow (s : State) (row : Nat) (vals : List Nat) : State :=
  if s.nRow ≤ row ∨ s.blLit = false then s.setBl { s.bl with win := none }
  else
    let (up, s0) := match s.bl.ramp with
      | .down _ => s.draw 2
      | _ => (0, s)
    let r := (List.range s.nCol).foldl (fun (a : List WinZone × State) c =>
      let z := zoneIx c row
      let (w, y, st) := a.2.openZone up z (vals.getD z 0)
      let s1 := a.2.setZone z y
      (w :: a.1, if st then s1.countUp F.BLD_CNT_STRETCHED else s1)) ([], s0)
    r.2.setBl { r.2.bl with win := some ⟨row, r.2.rowOf row, r.1.reverse, []⟩ }

/-- A floor zone's checked window closes with `units` measured (R453). -/
def State.checkZone (s : State) (z : Nat) (w : WinZone) (units : Nat) : State :=
  let (cf, pf) := drive s.cMax s.zFloor
  let pass := decide (15 * cf * pf ≤ 16 * (min units w.pw * w.code))
  let x := s.zone z
  let s1 := s.setZone z { x with check := some (x.check.getD true && pass) }
  if pass then s1 else s1.countUp F.BLD_CNT_WIT_FAIL

/-! ### Diagnosis (R458) -/

/-- Is a sampled sink in regulation (R455)? -/
def HeadSample.inReg (h : HeadSample) : Bool := 250 ≤ h.mv && 90 ≤ h.percent

/-- The verdict of a diagnostic sample, given the least in-regulation headroom of its row window. -/
def diagnosis (vShort : Nat) (least : Option Nat) (h : HeadSample) : Nat :=
  if h.mv < 100 ∧ h.percent < 10 then 1
  else match least with
    | some m => if m + 2 * vShort < h.mv then 3 else if m + vShort < h.mv then 2 else 0
    | none => 0

/-- A zone enters a state: counts, status, event and fault log (R458). A state that has been entered stays until it is
cleared; from SHORT a zone may go on to OPEN or DISABLED. -/
def State.enterZone (s : State) (z st : Nat) : State :=
  let s1 := s.setZone z { s.zone z with state := st, verdict := none }
  let n := fun (l : List Nat) => (s1.bl.zones.filter fun p => l.contains p.2.state).length
  let s2 := s1.setReg R.BLD_FAULT_CNT (BitVec.ofNat 32 (n [1, 3] + 65536 * n [2]))
  (s2.setFlag F.BLD_STATUS_ZONE_FAULT true).eventLogged 8 1 (leBytes 2 z ++ [BitVec.ofNat 8 st])

/-- One diagnostic sample of zone `z`: two consecutive ones that agree move its state. -/
def State.diagnose (s : State) (z v : Nat) : State :=
  let x := s.zone z
  if v = x.state ∨ v = 0 ∨ x.state = 1 ∨ x.state = 3 then s.setZone z { x with verdict := none }
  else if x.verdict = some v then s.enterZone z v
  else s.setZone z { x with verdict := some v }

/-- The open window closes: the floor is checked with the measured units, and its diagnostic samples are judged against the
least in-regulation headroom of the window (R453, R458). `units` gives sinks that conducted less than commanded. -/
def State.closeRow (s : State) (units : List (Nat × Nat)) : State :=
  match s.bl.win with
  | none => s
  | some w =>
    let least := (w.samples.filter (·.inReg)).foldl (fun (m : Option Nat) h => some (min (m.getD h.mv) h.mv)) none
    let vs := 20 * s.liveFld F.BLD_DIAG_V_SHORT
    let s1 := w.zones.foldl (fun s z => if z.floor then
      s.checkZone (zoneIx z.col w.row) z (mapGet (fun _ => z.pw) units z.sink) else s) s
    let s2 := w.samples.foldl (fun s h =>
      if (w.zones.find? fun z => decide (z.col = h.col)).any (·.diag) then
        s.diagnose (zoneIx h.col w.row) (diagnosis vs least h)
      else s) s1
    s2.setBl { s2.bl with win := none }

/-- A raise of V_B at a boundary: 0.5 V, at most 2.0 V within a frame, at most VB_MAX (R455). -/
def State.boostRaise (s : State) : State :=
  if s.bl.short ∧ s.bl.raised < 20 then
    let vb := min (s.fld F.BLD_VB_V_B + 5) (min 420 (s.liveFld F.BLD_BOOST_VB_MAX))
    let s1 := (s.setFld F.BLD_VB_V_B vb).countUp F.BLD_CNT_BOOST_RAISE
    s1.setBl { s1.bl with short := false, raised := s1.bl.raised + 5 }
  else s.setBl { s.bl with short := false }

/-- ROW_BOUNDARY: the next boundary of the row clocks (R442, R443): windows close and open, V_B rises where a sink was short of
voltage, and new cell masks take effect (R622). -/
def execRowBoundary (units : List (Nat × Nat)) (s : State) : Out :=
  if !(s.on .light && s.rs.running) then .next s
  else
    match s.bl.next with
    | none => .next s
    | some (line, c) =>
      let s1 := s.reachPos line 24
      let s2 := (s1.strayAct ownBld line 24).strayAct ownBld line 36
      let s3 := (s2.closeRow units).boostRaise
      let s4 : State := { s3 with cal := { s3.cal with
        sinkUse := (List.range 192).map fun i =>
          if s3.cal.sinkDue.contains i then s3.fld (F.CAL_SINK_CELL_MASK i) else s3.cal.sinkUse.getD i 0
        sinkDue := [] } }
      let s5 := s4.setBl { s4.bl with
        clock := some { c with k := c.k + 1 },
        clockNext := if s.bl.clockNext = some c then none else s.bl.clockNext }
      .next (((s5.openRow (c.k % 24) c.vals).reachPos line 36))

/-! ### Headroom (R454, R455) -/

/-- HEADROOM_SAMPLE: a sink samples at the last unit of a segment of at least PW_DIAG units. -/
def execHeadroomSample (sink : Fin 192) (mv percent : Nat) (s : State) : Out :=
  match s.bl.win with
  | none => .next s
  | some w =>
    match w.zones.find? fun z => decide (z.sink = sink.val) with
    | none => .next s
    | some z =>
      if !z.pulses.any fun p => decide (s.pwDiag ≤ p.2) then .next s
      else
        let h : HeadSample := ⟨z.col, mv, percent⟩
        let ix := zoneIx z.col w.row
        let st := (s.zone ix).state
        let hmin := if st = 1 ∨ st = 3 then s.bl.hmin
          else match s.bl.hmin with
            | some (m, i) => if mv < m then some (mv, ix) else some (m, i)
            | none => some (mv, ix)
        let short := s.bl.short || (!h.inReg && decide (10 ≤ percent))
        .next (s.setBl { s.bl with win := some { w with samples := w.samples ++ [h] }, hmin := hmin, short := short })

/-- Line E: the boost voltage of the next frame (R454). -/
def State.boostPlan (s : State) : State :=
  if !s.on .light then s
  else
    let vb := s.fld F.BLD_VB_V_B
    match s.bl.hmin with
    | none => s.setFld F.BLD_VB_V_PLAN vb
    | some (m, z) =>
      let want : Int := 100 * vb + 10 * s.liveFld F.BLD_BOOST_V_HEAD - m
      let (n, s1) := s.quot want.toNat 100
      let lo := max (s.liveFld F.BLD_BOOST_VB_MIN) (vb - 5)
      let (h10, s2) := s1.quot m 10
      let s3 := s2.setReg R.BLD_HEAD (BitVec.ofNat 32 (min h10 65535 + 65536 * z))
      s3.setFld F.BLD_VB_V_PLAN (min (max n lo) (min 420 (s.liveFld F.BLD_BOOST_VB_MAX)))

/-! ### Run and stage (R456, R457) -/

/-- The floor and stage bits of BLD_STATUS, from their home in CTRL. -/
def State.stageBits (s : State) : State :=
  (s.setFlag F.BLD_STATUS_STAGE_LATCH s.bl.latch.isSome).setFld F.BLD_STATUS_STAGE_CODE (s.bl.latch.getD 0)

/-- The gains start from OPT_GAIN_INIT, at the first RUN after LIGHT has powered up (R485; DEDUCED, log entry 38). -/
def State.gainsStart (s : State) : State :=
  if s.opt.started then s
  else
    let s1 := (s.setReg R.OPT_GAIN_RG (s.reg R.OPT_GAIN_INIT_RG)).setReg R.OPT_GAIN_B (s.reg R.OPT_GAIN_INIT_B)
    { s1 with opt := { s1.opt with started := true } }

/-- RUN goes from 0 to 1: the boost rises to its plan, unless the stage is latched off (R456, R457). -/
def State.blRun (s : State) : State :=
  if !s.on .light || s.flag F.BLD_CTRL_RUN then s
  else
    let s1 := (s.setFlag F.BLD_CTRL_RUN true).gainsStart
    if s1.bl.latch.isSome then s1
    else
      let plan := max (s1.liveFld F.BLD_BOOST_VB_MIN) (s1.fld F.BLD_VB_V_PLAN)
      let s2 := (s1.setFld F.BLD_VB_V_PLAN plan).setFlag F.BLD_STATUS_RAMPING true
      s2.setBl { s2.bl with ramp := .rising }

/-- BACKLIGHT_RUN: RUN written 1 (R456). -/
def execBacklightRun (s : State) : Out :=
  .next (if s.acts .light then s.blRun else s.stallWrite R.BLD_CTRL (s.reg R.BLD_CTRL ||| 1))

/-- BOOST_READY: the boost has reached its plan; the next line 0 begins ramp frame 0 (R456). -/
def execBoostReady (s : State) : Out :=
  if s.on .light && decide (s.bl.ramp = .rising) then
    .next ((s.setFld F.BLD_VB_V_B (s.fld F.BLD_VB_V_PLAN)).setBl { s.bl with ramp := .ready })
  else .next s

/-- The boost turned down from where the ramp stands (R456). -/
def State.turnDown (s : State) : State :=
  match s.bl.ramp with
  | .off => s
  | .down _ => s
  | .rising => (s.setFlag F.BLD_STATUS_RAMPING false).setBl { s.bl with ramp := .off }
  | .ready | .up _ | .target => (s.setFlag F.BLD_STATUS_RAMPING true).setBl { s.bl with ramp := .down s.time }

/-- The backlight ramps down over 8 ms (R456). -/
def State.rampDown (s : State) : State := (s.setFlag F.BLD_CTRL_RUN false).turnDown

/-- BACKLIGHT_STOP: RUN written 0 (R456). -/
def execBacklightStop (s : State) : Out :=
  .next (if !s.acts .light then s.stallWrite R.BLD_CTRL (s.reg R.BLD_CTRL &&& 0xFFFFFFFE)
    else if s.flag F.BLD_CTRL_RUN then s.rampDown else s)

/-- The boost is off, rows and sinks are high impedance. -/
def State.blOff (s : State) : State :=
  let s1 := ((s.setFlag F.BLD_STATUS_RAMPING false).setFld F.BLD_VB_V_B 0)
  s1.setBl { s1.bl with ramp := .off, win := none }

/-- BACKLIGHT_RAMP_DOWN_DONE: the boost turns off (R456). -/
def execBacklightRampDownDone (s : State) : Out :=
  match s.bl.ramp with
  | .down _ => .next s.blOff
  | _ => .next s

/-- STAGE_FAULT: the boost is latched off, logged with its code; a second fault within 60 s leaves it so (R457). -/
def execStageFault (code : Fin 8) (s : State) : Out :=
  if !s.on .light || s.bl.latch.isSome || code.val = 0 || decide (5 < code.val) then .next s
  else
    let again := match s.bl.faultAt with
      | some t => decide (s.since t < msTicks 60000)
      | none => false
    let s1 := s.blOff
    let s2 := s1.setBl { s1.bl with latch := some code, faultAt := some s.time, cleared := again }
    .next (s2.stageBits.eventLogged 8 3 [0, 0, BitVec.ofNat 8 code])

/-- STAGE_CLR: the latch is cleared and the stage restarts (R457). `fw`: the firmware's own clear, once, 1 s after the fault,
and not after a second fault within 60 s. -/
def execStageClr (fw : Bool) (s : State) : Out :=
  let due := match s.bl.faultAt with
    | some t => decide (msTicks 1000 ≤ s.since t) && !s.bl.cleared
    | none => false
  if !s.on .light || s.bl.latch.isNone || (fw && !due) then .next s
  else
    let s1 := (s.setBl { s.bl with latch := none, cleared := s.bl.cleared || fw }).stageBits
    if s1.flag F.BLD_CTRL_RUN then .next (s1.setFlag F.BLD_CTRL_RUN false).blRun else .next s1

/-! ### Neighbour-short test (R462) -/

/-- Every zone dark? -/
def State.allDark (s : State) : Bool :=
  (match s.bl.ramp with
    | .off => true
    | .rising => true
    | _ => s.mode.isDark) || decide (s.pw.firstLit = false)

/-- NBR_START: the test starts where every zone is dark and it does not run yet. -/
def execNbrStart (s : State) : Out :=
  if s.on .light && s.bl.latch.isNone && s.allDark && !s.bl.nbr then
    .next ((s.setFlag F.BLD_STATUS_NBR_BUSY true).setBl { s.bl with nbr := true })
  else .next s

/-- A pair of neighbouring zones found: columns c and c + 1 of a row. -/
def State.nbrPair (s : State) (p : Nat × Nat) : State :=
  let z := zoneIx p.2 p.1
  let s1 := s.setZone z { s.zone z with neighbour := true }
  let s2 := s1.setZone (z + 1) { s1.zone (z + 1) with neighbour := true }
  (s2.setFlag F.BLD_STATUS_NBR_FAULT true).eventLogged 8 5 (leBytes 2 z)

/-- A running NBR_TEST completes with the number of zones marked NEIGHBOUR (R566). -/
def State.tellNbr (s : State) : State :=
  match s.mail.cmds.find? fun (c : RunCmd) => c.opcode = 0x0705 && c.phase = .waitEvent with
  | some c => s.finishCmd c.tag stOk (leBytes 2 (s.zonesUsed.filter fun z => (s.zone z).neighbour).length)
  | none => s

/-- NBR_TEST_DONE: the pairs (row, left column) found, in use. -/
def execNbrTestDone (pairs : List (Nat × Nat)) (s : State) : Out :=
  if !s.bl.nbr then .next s
  else
    let found := pairs.filter fun p => p.1 < s.nRow && p.2 + 1 < s.nCol
    let s1 := (s.setFlag F.BLD_STATUS_NBR_BUSY false).setBl { s.bl with nbr := false }
    .next (found.foldl State.nbrPair s1).tellNbr

/-! ### Expansion chain (R463 to R467) -/

/-- An error of the chain: counted, logged, and the chain counts again at the next frame (R466). -/
def State.xError (s : State) : State :=
  let s1 := ((s.setFlag F.BLD_STATUS_XCHAIN_ERR true).countUp F.BLD_XSTAT_ERRORS).setFlag F.BLD_XSTAT_CHAIN_OK false
  (s1.setBl { s1.bl with xcount := false, xqueue := [] }).eventLogged 8 4 []

/-- XCHAIN_COUNT: the module has counted `bits` (R466). -/
def execXchainCount (bits : Nat) (s : State) : Out :=
  if !(s.on .light && s.flag F.BLD_CTRL_X_EN && s.bl.xcount) then .next s
  else
    let n := bits / 64
    if 32 < n then .next s.xError
    else
      let s1 := (s.setFld F.BLD_XSTAT_CHIPS n).setFlag F.BLD_XSTAT_CHAIN_OK true
      .next (s1.setBl { s1.bl with xcount := false, xlast := List.replicate n 0, xstatus := false })

/-- The word of chip `n` for a transfer (R464). -/
def State.xWord (s : State) (k : XKind) (n : Nat) : Nat :=
  match k with
  | .pwm g => 2 ^ 60 + g * 2 ^ 58 + ((List.range 4).map fun i => s.bl.xpw.getD (16 * n + 4 * g + i) 0 * 2 ^ (12 * i)).sum
  | .current => 2 * 2 ^ 60 + (s.reg (R.BLD_XCUR n)).toNat
  | .status => 3 * 2 ^ 60
  | .nop => 0
  | .sync => 4 * 2 ^ 60

/-- Does a returned STATUS word carry a good CRC-8 over [63:8] (R464)? -/
def xStatusOk (w : Nat) : Bool := crc8 ((leBytes 8 w).reverse.take 7) = w % 256

/-- XCHAIN_TRANSFER: the transfer in turn shifts its words; what returns is the words of the transfer before, or after a
STATUS transfer the chips' status words (R465, R466). -/
def execXchainTransfer (ret : List (BitVec 64)) (s : State) : Out :=
  match s.bl.xqueue with
  | [] => .next s
  | k :: t =>
    if !(s.on .light && s.flag F.BLD_CTRL_X_EN && s.flag F.BLD_XSTAT_CHAIN_OK) then .next s
    else
      let n := s.fld F.BLD_XSTAT_CHIPS
      let words := (List.range n).map fun i => s.xWord k (n - 1 - i)
      let got := ret.map (·.toNat)
      let ok := if s.bl.xstatus then got.length = n && got.all xStatusOk else decide (got = s.bl.xlast)
      let s0 := if k = .sync then s.reachPos (s.vStart + s.liveFld F.BLD_SCAN_ROW_DELAY) 0 else s
      let s1 := s0.setBl { s0.bl with xqueue := t, xlast := words, xstatus := decide (k = .status) }
      .next (if ok then s1 else s1.xError)

/-! ### Line 0 -/

/-- The chain's transfers of a frame (R465), with on-times as they stand at line 0 (R467); after an error the chain counts again
(R466). -/
def State.xFrame (s : State) : State :=
  if !s.flag F.BLD_CTRL_X_EN then s
  else if !s.flag F.BLD_XSTAT_CHAIN_OK then s.setBl { s.bl with xcount := true }
  else
    let pw := (List.range (16 * s.fld F.BLD_XSTAT_CHIPS)).map fun j =>
      if s.flag (F.BLD_XCH_FOLLOW j) then (drive s.cMax (s.bl.vals.getD (s.fld (F.BLD_XCH_SRC j)) 0)).2
      else s.fld (F.BLD_XCH_PW j)
    let q := [XKind.pwm 0, .pwm 1, .pwm 2, .pwm 3] ++ (if s.bl.xdirty then [XKind.current] else [])
      ++ (if s.bl.xframes % 16 = 0 then [XKind.status, .nop] else []) ++ [XKind.sync]
    s.setBl { s.bl with xpw := pw, xqueue := q, xdirty := false, xframes := s.bl.xframes + 1 }

/-- The witness of the frame that has ended, number `f` (R453); its bits for windows drawn in it set WITNESS_FAIL. -/
def State.witnessLatch (s : State) (f : Word) (drawn : List Nat) : State :=
  let ok := fun (i : Nat) =>
    let zs := s.zonesUnder i
    !zs.isEmpty && s.bl.latch.isNone && zs.all fun z => (s.zone z).check = some true
  let map := (List.range 32).foldl (fun (w : Word) i => if ok i then withBit w i else w) 0
  let s1 := (s.setReg R.BLD_WITNESS map).setReg R.BLD_WITNESS_FRAME f
  let s2 := if drawn.any fun i => !bitOf map i then s1.setFlag F.BLD_STATUS_WITNESS_FAIL true else s1
  s2.setBl { s2.bl with zones := s2.bl.zones.filterMap fun p =>
    let y := { p.2 with check := none }
    if y = Zone.reset then none else some (p.1, y) }

/-- The ramp advances by a frame (R456). True where this frame is the first with every zone at its target. -/
def State.rampFrame (s : State) : Bool × State :=
  let n := max 1 (s.liveFld F.BLD_SCAN_RAMP)
  match s.bl.ramp with
  | .ready => (false, s.setBl { s.bl with ramp := .up 0 })
  | .up j =>
    if n ≤ j + 1 then (true, (s.setFlag F.BLD_STATUS_RAMPING false).setBl { s.bl with ramp := .target })
    else (false, s.setBl { s.bl with ramp := .up (j + 1) })
  | _ => (false, s)

/-- Carousel at line 0 of a frame: the boost moves to its plan (R454), the ramp advances, floor zones are derived (R451), the
frame's row clock is set up (R441, R442, R446). `len` is the length of the frame that has ended in lines. -/
def State.carouselFrame (s : State) (len : Nat) (hold : Bool) : State :=
  if !s.on .light then s
  else
    let (_, s1) := s.rampFrame
    let s2 := if s1.blLit then s1.setFld F.BLD_VB_V_B (s1.fld F.BLD_VB_V_PLAN) else s1
    let b := s2.bl
    let vals := if hold ∨ b.valsNext.isEmpty then b.vals else b.valsNext
    let old := b.clock.map fun c => { c with off := c.off + len }
    let new : RowClock := ⟨s2.vTotal, 24 * s2.sweeps, s2.vStart + s2.liveFld F.BLD_SCAN_ROW_DELAY, 0, 0, vals⟩
    let s3 := s2.setBl { b with
      frames := b.frames + 1, floors := s2.floorZones, vals := vals, clock := old, clockNext := some new,
      hmin := none, short := false, raised := 0 }
    s3.xFrame

/-! ### Views and the zone commands -/

/-- A zone's age in frames since its last diagnostic pulse, or since LIGHT powered up (R461). -/
def State.zoneAge (s : State) (z : Nat) : Nat := min 65535 (s.bl.frames - (s.zone z).diagAt.getD 0)

/-- Is a zone UNVERIFIED (R461, R468)? -/
def State.zoneUnverified (s : State) (z : Nat) : Bool := (s.zone z).diagAt.isNone || decide (64 < s.zoneAge z)

/-- BLD_ZSTAT of a zone. -/
def State.zstat (s : State) (z : Nat) : Word :=
  let x := s.zone z
  let b := fun (y : Bool) (i : Nat) => if y then 2 ^ i else 0
  BitVec.ofNat 32 (x.state + b (s.zoneUnverified z) 2 + b x.neighbour 3 + b (s.bl.floors.contains z) 4
    + 32 * min x.debt 2047 + 65536 * s.zoneAge z)

/-- BLD_UNVER. -/
def State.unver (s : State) : Word :=
  let zs := s.zonesUsed.filter s.zoneUnverified
  BitVec.ofNat 32 (zs.length + 65536 * (s.zonesUsed.foldl (fun m z => max m (s.zoneAge z)) 0))

/-- A zone back to OK (R458). -/
def State.clearZone (s : State) (z : Nat) : State :=
  let s1 := s.setZone z { s.zone z with state := 0, verdict := none }
  let n := fun (l : List Nat) => (s1.bl.zones.filter fun p => l.contains p.2.state).length
  (s1.setReg R.BLD_FAULT_CNT (BitVec.ofNat 32 (n [1, 3] + 65536 * n [2]))).eventLogged 8 2 (leBytes 2 z)

/-- LIGHT loses its registers and zone states; the stage latch stays (R457, R458, R468). -/
def State.lightLost (s : State) : State :=
  let b := s.bl
  ({ (s.resetBlk .bld).resetBlk .opt with opt := Optics.reset } : State).setBl { Carousel.reset with latch := b.latch, faultAt := b.faultAt, cleared := b.cleared }

end Sys2Proof.Machine
end

