-- ==== Sys2Proof/Machine/Dimming.lean ====
section
/-! DEFINITION. The local dimming analyser: statistics (R469, R470), the zone decision (R471 to R476), the light field (R477 to
R479); the optical loop (R480 to R485). -/

namespace Sys2Proof.Machine

/-! ### Statistics (R469, R470) -/

/-- A zone with nothing counted. -/
def ZStat.reset : ZStat := ⟨0, 0, 0, List.replicate 16 0⟩

/-- One pixel of value `v` counted. -/
def ZStat.add (z : ZStat) (v : Nat) : ZStat :=
  let b := v / 4096 % 16
  ⟨min (z.cnt + 1) (2 ^ 24 - 1), Nat.max z.max v, z.sum + v, listSet z.hist b (min (z.hist.getD b 0 + 1) (2 ^ 24 - 1))⟩

/-- MEAN (R470). -/
def ZStat.mean (z : ZStat) : Nat := if z.cnt = 0 then 0 else (2 * z.sum + z.cnt) / (2 * z.cnt)

/-- The zone column or row of a coordinate: the zone whose span of R439 holds it. -/
def zoneOf (x size n : Nat) : Nat := ((x + 1) * n - 1) / max 1 size

/-- The statistics of a line: `vs` are the values of its pixels, none inside a drawn window (R469). -/
def State.countLine (s : State) (y : Nat) (vs : List (Option Nat)) : State :=
  let r := zoneOf y s.vActive s.nRow
  let add := fun (st : List ZStat) (p : Option Nat × Nat) =>
    match p.1 with
    | some v =>
      let z := zoneIx (zoneOf p.2 s.hActive s.nCol) r
      let st1 := padTo ZStat.reset (max st.length (z + 1)) st
      listSet st1 z ((st1.getD z ZStat.reset).add v)
    | none => st
  { s with lda := { s.lda with stats := vs.zipIdx.foldl add s.lda.stats } }

/-! ### Decision (R471 to R473) -/

/-- Does LDA run (R476)? -/
def State.ldaRuns (s : State) : Bool :=
  s.on .light && decide (s.mode ≠ .telltaleOnly ∧ s.mode ≠ .calibrate ∧ s.mode ≠ .service)

/-- The light a zone needs (R471): the peak that leaves at most `t` pixels to clip, or the weighted mean. -/
def zoneNeed (st : ZStat) (clipFrac meanW : Nat) : Nat :=
  let t := st.cnt * clipFrac / 1024
  let tail := fun (b : Nat) => ((st.hist.drop b).map id).sum
  let pk := match ([15, 14, 13, 12, 11, 10, 9, 8, 7, 6, 5, 4, 3, 2, 1, 0].find? fun b => decide (t < tail b)) with
    | some b => min st.max (b * 4096 + 4095)
    | none => 0
  max pk (st.mean * meanW / 64)

/-- The zone value a need asks for (R471). -/
def zoneAsk (need target zgain : Nat) : Nat := min 1044225 ((need * target * zgain + 2 ^ 27) / 2 ^ 28)

/-- The filtered value (R471). -/
def zoneFilter (zp zr a : Nat) : Nat := ((zp : Int) + (((zr : Int) - zp) * a + 128) / 256).toNat

/-- The values that the statistics decide, before the cap, by zone index; and whether the frame is a scene cut (R471). -/
def State.zoneDecide (s : State) : List Nat × Bool :=
  let l := s.lda
  let st := fun (z : Nat) => l.stats.getD z ZStat.reset
  let sum := (l.stats.map fun z => z.sum).sum
  let cnt := (l.stats.map fun z => z.cnt).sum
  let diff : Int := (sum : Int) * l.prevCnt - (l.prevSum : Int) * cnt
  let cut := decide (s.liveFld F.LDA_CUT_CUT * cnt * l.prevCnt < diff.natAbs)
  let mode := s.liveFld F.LDA_CTRL_MODE
  let ask := fun (z : Nat) => zoneAsk (zoneNeed (st z) (s.liveFld F.LDA_DECIDE_CLIP_FRAC) (s.liveFld F.LDA_DECIDE_MEAN_W))
    (s.liveFld F.DTH_LD_LD_TARGET) (s.liveFld F.LDA_ZGAIN_ZGAIN)
  let used := s.zonesUsed
  let top := if mode = 1 then used.foldl (fun m z => max m (ask z)) 0 else 0
  let floors := s.floorZones
  let one := fun (z : Nat) =>
    let zr := if mode = 1 then top else if mode = 2 then s.liveFld F.LDA_FIXED_FIXED_Z else ask z
    let zp := l.zp.getD z 0
    let a := if cut then 256 else min 256 (if zp < zr then s.liveFld F.LDA_FILT_RISE else s.liveFld F.LDA_FILT_FALL)
    let zf := zoneFilter zp zr a
    if floors.contains z then max zf s.zFloor else zf
  let vals := (List.range (24 * 192)).map fun z => if z % 192 < s.nCol ∧ z / 192 < s.nRow then one z else 0
  (vals, cut)

/-- KI x a sum of zone values, in mA (R472). -/
def State.currentOf (s : State) (vals : List Nat) : Rat := s.kI * (vals.sum : Nat)

/-- Line E: I_want and I_floor in mA, from the statistics so far (R475). In a hold frame, and where LDA does not run, the last
decision stands; the floor is that of the frame. -/
def State.ldaPartial (s : State) : (Nat × Nat) × State :=
  let vals := if s.rs.hold || !s.ldaRuns then s.lda.zp else s.zoneDecide.1
  let vals1 := if s.on .light then vals else []
  let (want, s1) := s.roundOpen (s.currentOf vals1)
  let (fl, s2) := s1.roundOpen (s.kI * ((s.zFloor * s.floorZones.length : Nat) : Rat))
  let w := min want 4095
  let f := if s.on .light then min fl 4095 else 0
  ((w, f), s2.setReg R.LDA_IWANT (BitVec.ofNat 32 (w + 65536 * f)))

/-- Line D: the zone decision, held to the cap (R471, R472). -/
def State.ldaDecide (s : State) : State :=
  if s.rs.hold || !s.ldaRuns then { s with lda := { s.lda with due := !s.lda.zp.isEmpty && s.ldaRuns } }
  else
    let (vals, cut) := s.zoneDecide
    let l := s.lda
    let sum := (l.stats.map fun z => z.sum).sum
    let cnt := (l.stats.map fun z => z.cnt).sum
    let s1 := if cut then s.countUp F.LDA_CNT_CUTS else s
    let capped := scaleTo (s.gov.next.cap : Rat) s.kI id s.floorZones vals
    let s2 := match capped with
      | some _ => (s1.setFlag F.LDA_STATUS_CAPPED true).countUp F.LDA_CNT_SCALED
      | none => s1
    let s3 : State := { s2 with lda := { s2.lda with zp := capped.getD vals, due := true, prevSum := sum, prevCnt := cnt } }
    s3.setReg R.LDA_DEC_FRAME s3.frame

/-- ZONE_VALUES_DELIVERED: LDA delivers its decision to Carousel, and the values the field is built from: zones OPEN or
DISABLED enter as 0 (R473, R474). -/
def execZoneValuesDelivered (s : State) : Out :=
  if !(s.lda.due && s.on .light) then .next s
  else
    let vals := s.lda.zp
    let model := vals.mapIdx fun z v => if (s.zone z).state = 1 ∨ (s.zone z).state = 3 then 0 else v
    let s1 : State := { s with lda := { s.lda with due := false, model := some model } }
    .next (s1.takeValues vals)

/-! ### The field (R477 to R479) -/

/-- A tap of the horizontal or vertical profile; index 32 is 0 (R477). -/
def State.tapH (s : State) (a : Nat) : Nat :=
  if 32 ≤ a then 0 else if a % 2 = 0 then s.liveFld (F.LDA_KH_KH (a / 2)) else s.liveFld (F.LDA_KH_KH_HI (a / 2))
def State.tapV (s : State) (a : Nat) : Nat :=
  if 32 ≤ a then 0 else if a % 2 = 0 then s.liveFld (F.LDA_KV_KV (a / 2)) else s.liveFld (F.LDA_KV_KV_HI (a / 2))

/-- The 16-bit drive of a zone value (R477). -/
def drive16 (z : Nat) : Nat := (z * 65535 + 522112) / 1044225

/-- Distance of a grid point from the centre of zone `c` of `n` along an axis, in eighths of a zone (R477). Points beyond the
edge are clamped to it. -/
def gridDist (i c n size : Nat) : Nat :=
  let p := min (32 * i) (2 * size)
  let mid := c * size / max 1 n + (c + 1) * size / max 1 n
  min 32 (4 * (if p < mid then mid - p else p - mid) * n / max 1 size)

/-- Grid row `j` of the field (R477). -/
def State.gridRow (s : State) (vals : List Nat) (j : Nat) : List Nat :=
  let kv := (List.range s.nRow).map fun r => s.tapV (gridDist j r s.nRow s.vActive)
  let col := (List.range s.nCol).map fun c =>
    ((List.range s.nRow).map fun r => drive16 (vals.getD (zoneIx c r) 0) * kv.getD r 0).sum
  (List.range (ceilDiv s.hActive 16 + 1)).map fun i =>
    let sum := (col.zipIdx.map fun p => p.1 * s.tapH (gridDist i p.2 s.nCol s.hActive)).sum
    min 65535 ((s.liveFld F.LDA_FSCALE_FSCALE * sum + 2 ^ 43) / 2 ^ 44)

/-- Grid rows of a frame. -/
def State.gridRows (s : State) : Nat := ceilDiv s.vActive 16 + 1

/-- FIELD_ROW_BUILD: the next grid row, in increasing j (R479). -/
def execFieldRowBuild (s : State) : Out :=
  match s.lda.model with
  | some m =>
    if s.ldaRuns && s.rs.running && decide (s.lda.grid.length < s.gridRows) then
      .next { s with lda := { s.lda with grid := s.lda.grid ++ [s.gridRow m s.lda.grid.length] } }
    else .next s
  | none => .next s

/-- Is the field of line `y` ready: its two grid rows are formed, or LDA delivers nothing (R476, R478, R479)? -/
def State.fieldReady (s : State) (y : Nat) : Bool := decide (y / 16 + 1 < s.lda.grid.length)

/-- B at a pixel (R478); 65,535 where the field is not in use or not ready (R476, R479). -/
def State.fieldB (s : State) (x y : Nat) : Nat :=
  if s.ldaRuns && s.lda.model.isSome && s.fieldReady y then
    let fx := x % 16
    let fy := y % 16
    let g := fun (i j : Nat) => (s.lda.grid.getD j []).getD i 0
    let i := x / 16
    let j := y / 16
    ((g i j * (16 - fx) + g (i + 1) j * fx) * (16 - fy) + (g i (j + 1) * (16 - fx) + g (i + 1) (j + 1) * fx) * fy + 128) / 256
  else 65535

/-- A line whose field is not ready is counted (R479). -/
def State.fieldLate (s : State) (y : Nat) : State :=
  if s.ldaRuns && s.lda.model.isSome && !s.fieldReady y then
    (s.setFlag F.LDA_STATUS_FIELD_LATE true).countUp F.LDA_CNT_FIELD_LATE
  else s

/-- LDA at line 0: statistics restart, the grid of the new frame is empty (R470, R479). In a hold frame the statistics stay as
they are, since none are counted. -/
def State.ldaFrame (s : State) : State :=
  { s with lda := { s.lda with
      stats := []
      grid := []
      model := if s.ldaRuns then s.lda.model else none } }

/-! ### Photodiodes (R480 to R482) -/

/-- Does the line in progress hold a row boundary (R443, R480)? Its boundary may still be due or be taken already. -/
def State.boundaryLine (s : State) (line : Nat) : Bool :=
  let here := fun (c : RowClock) => decide (c.line c.k = line) || (0 < c.k && decide (c.line (c.k - 1) = line))
  (match s.bl.next with
    | some (l, _) => decide (l = line)
    | none => false) || s.bl.clock.any here

/-- PD_SAMPLE: one sample of the three channels over ticks 40 to 47 (R480, R482); in a line whose slots 10 and 11 are not both
fixed to OPT it takes place all the same and is stray (R147). -/
def execPdSample (r g b : Nat) (s : State) : Out :=
  let s1 := if s.rs.tick ≤ 47 then s else s.reachPos (s.rs.line + 1) 0
  let line := s1.rs.line
  if !(s.on .light && s.rs.running) then .next s
  else
    let s2 := (s1.reachPos line 47).strayIn ownOpt line [10, 11]
    let raw := [r, g, b].map fun v => min v 65535
    let o := s2.opt
    let addAll := fun (l m : List Nat) => l.zipWith (· + ·) m
    if s2.boundaryLine line then .next { s2 with opt := { o with dark := addAll o.dark raw, darkN := o.darkN + 1 } }
    else
      let cor := raw.zipIdx.map fun p => p.1 - s2.fld (F.OPT_PD_OFS_VAL p.2)
      if raw.any fun v => decide (65000 < v) then .next (s2.countUp F.OPT_CNT_SATURATED)
      else if cor.all fun v => decide (s2.liveFld F.OPT_SIG_MIN_SIGNAL ≤ v) then
        .next (({ s2 with opt := { o with light := addAll o.light cor } } : State).countUp F.OPT_CNT_VALID)
      else .next s2

/-! ### Line 0: dark samples and the loop (R481, R483 to R485) -/

/-- The dark means and count of the frame that has ended are latched (R481), and join the last 16 (R621). -/
def State.darkLatch (s : State) : State :=
  let o := s.opt
  let r := o.dark.foldl (fun (a : List Nat × State) v =>
    let (m, s1) := a.2.quot v o.darkN
    (a.1 ++ [m], s1)) ([], s)
  let s1 := r.1.zipIdx.foldl (fun s p => s.setReg (R.OPT_DARK p.2) (BitVec.ofNat 32 (min p.1 65535 + 65536 * min o.darkN 65535))) r.2
  { s1 with
    opt := { o with dark := [0, 0, 0], darkN := 0 }
    cal := { s1.cal with dark := ((r.1, o.darkN) :: s1.cal.dark).take 16 } }

/-- The gains in force: R, G, B. -/
def State.gains (s : State) : List Nat := [s.fld F.OPT_GAIN_RG_R, s.fld F.OPT_GAIN_RG_G, s.fld F.OPT_GAIN_B_B]

/-- A quotient of R483; with a divisor of 0 the spec states no result: a free value of 16 bits. -/
def State.divOpen (s : State) (n d : Nat) : Nat × State := if d = 0 then s.draw 65536 else (n / d, s)

/-- The gains of one update (R483), from nr and nb: new gains, and whether GAIN_MIN binds. -/
def loopGains (g : List Nat) (nr nb step gmin : Nat) : List Nat × Bool :=
  let n0 := [nr, 32768, nb]
  let m := n0.foldl max 0
  let n1 := n0.map fun n => n * 32768 / m
  let n2 := n1.zipIdx.map fun p => clampNat p.1 (g.getD p.2 0 - step) (g.getD p.2 0 + step)
  (n2.map fun n => clampNat n gmin 32768, n2.any fun n => decide (n < gmin))

/-- The colour loop at line 0 of a scanned frame (R483, R484). -/
def State.colourLoop (s : State) : State :=
  let o := s.opt
  let n := o.periodFrames + 1
  if n < max 1 (s.liveFld F.OPT_LOOP_PERIOD) then { s with opt := { o with periodFrames := n } }
  else
    let valid := s.fld F.OPT_CNT_VALID
    let s0 : State := ({ s with opt := { o with periodFrames := 0, light := [0, 0, 0] } } : State).setFld F.OPT_CNT_VALID 0
    if !s.flag F.OPT_CTRL_LOOP_EN || decide (valid < s.liveFld F.OPT_LOOP_MIN_SAMPLES) then
      (s0.countUp F.OPT_CNT_UPDATE_SKIP).setFlag F.OPT_STATUS_SKIPPED true
    else
      let (mr, sa) := s0.divOpen (o.light.getD 0 0 * 16384) (o.light.getD 1 0)
      let (mb, sb) := sa.divOpen (o.light.getD 2 0 * 16384) (o.light.getD 1 0)
      let (nr, sc) := sb.divOpen (s.liveFld F.OPT_TARGET_TR * 32768) mr
      let (nb, sd) := sc.divOpen (s.liveFld F.OPT_TARGET_TB * 32768) mb
      let (g, lim) := loopGains s.gains nr nb (s.liveFld F.OPT_LIMIT_STEP_MAX) (s.liveFld F.OPT_LIMIT_GAIN_MIN)
      let s1 := sd.setReg R.OPT_GAIN_RG (BitVec.ofNat 32 (g.getD 0 0 + 65536 * g.getD 1 0))
      let s2 := s1.setReg R.OPT_GAIN_B (BitVec.ofNat 32 (g.getD 2 0))
      let s3 := s2.setReg R.OPT_MEAS (BitVec.ofNat 32 (min mr 65535 + 65536 * min mb 65535))
      let s4 := (s3.setFlag F.OPT_STATUS_UPDATED true).setFlag F.OPT_STATUS_LIMIT lim
      if lim then s4.event 9 1 ((g.map (leBytes 2)).flatten) else s4

/-- The gains in force for the frame (R360): with LOOP_GAIN those that the loop presents, while LIGHT is on. -/
def State.gainsNow (s : State) : State :=
  if s.liveFlag F.DTH_CTRL_LOOP_GAIN then
    if s.on .light then (s.setReg R.DTH_GAIN_NOW_RG (s.reg R.OPT_GAIN_RG)).setReg R.DTH_GAIN_NOW_B (s.reg R.OPT_GAIN_B)
    else s
  else (s.setReg R.DTH_GAIN_NOW_RG (s.live R.DTH_GAIN_RG)).setReg R.DTH_GAIN_NOW_B (s.live R.DTH_GAIN_B)

/-- The optical loop at line 0: the gains presented so far go to DTH (R360, R483), then the loop runs. -/
def State.opticsFrame (s : State) (scan : Bool) : State :=
  let s1 := s.gainsNow
  if !s.on .light then s1
  else
    let s2 := s1.darkLatch
    if scan then s2.colourLoop else s2

end Sys2Proof.Machine
end

