-- ==== Sys2Proof/Machine/Gate.lean ====
section
/-! DEFINITION. The gate sequencer: its program and commit check (R426, R427), the nine instructions (R420 to R424), the
scan-end result (R428). -/

namespace Sys2Proof.Machine

/-! ### The image (R426, R427) -/

/-- NPHASE: 0 and values above 12 stand for 12 (R437). -/
def nPhase (v : Nat) : Nat := if v = 0 ∨ 12 < v then 12 else v

/-- The instructions of an image. -/
def gateWords (b : List Byte) : List Word :=
  (List.range (leAt b 2 2)).map fun i => BitVec.ofNat 32 (leAt b (16 + 4 * i) 4)

/-- Opcode of an instruction. -/
def gOp (w : Word) : Nat := bitsOf w 28 4

/-- The bits an opcode names; none where it is reserved (R420). -/
def gNamed : Nat → Option Nat
  | 0 => some 0 | 1 => some 0xFFFF | 2 => some 0xFF | 3 => some 0x0FFFFFFF | 4 => some 0x03FE0FF7 | 5 => some 0xFFFF
  | 6 => some 0 | 7 => some 1 | 8 => some 0xF
  | _ => none

/-- Reserved opcodes and bits, ACT 0b11 among them. -/
def gReserved (w : Word) : Bool :=
  match gNamed (gOp w) with
  | none => true
  | some m => (w.toNat % 2 ^ 28) &&& m != w.toNat % 2 ^ 28 || (gOp w = 3 && bitsOf w 26 2 = 3)

/-- LOOP and NEXT balanced, at most two deep. -/
def gNested : List Word → Nat → Bool
  | [], d => d = 0
  | w :: t, d =>
    if gOp w = 5 then d < 2 && gNested t (d + 1)
    else if gOp w = 6 then d != 0 && gNested t (d - 1)
    else gNested t d

/-- A phase field out of range, or one clock both raised and lowered. -/
def gPhaseBad (np : Nat) (w : Word) : Bool :=
  if gOp w = 4 then
    decide (np ≤ bitsOf w 8 4) || decide (np ≤ bitsOf w 4 4) || (bitsOf w 1 2 = 3 && bitsOf w 8 4 = bitsOf w 4 4)
  else gOp w = 8 && decide (np ≤ bitsOf w 0 4)

/-- The check of a gate program image for an NPHASE: 0, else PROG_ERR_CODE (R427, R437). -/
def gateErr (b : List Byte) (np : Nat) : Nat :=
  let n := leAt b 2 2
  if byteAt b 0 ≠ 1 ∨ n = 0 ∨ 512 < n then 1
  else if byteAt b 1 ≠ 0 ∨ leAt b 4 4 ≠ 0 ∨ leAt b 12 4 ≠ 0 then 3
  else if leAt b 8 4 ≠ crc32 ((b.take (16 + 4 * n)).drop 16) then 2
  else
    let ws := gateWords b
    if ws.any gReserved then 3
    else if !gNested ws 0 then 4
    else if ws.any (gPhaseBad np) then 5
    else if ws.any fun w => gOp w = 5 && bitsOf w 0 16 = 0 then 7
    else 0

/-! ### Running -/

/-- The program in force. -/
def State.gProgram (s : State) : List Word := s.gate.banks.getD (s.fld F.GSQ_STATUS_BANK) []

/-- The state with another gate record. -/
def State.setGate (s : State) (g : Gate) : State := { s with gate := g }

/-- Every program output low (R418). -/
def State.gLow (s : State) : State := s.setFld F.GSQ_OUT_LEVELS 0

/-- The program stops with every output low (R420, R424). -/
def State.gStop (s : State) : State := s.gLow.setFlag F.GSQ_PC_RUNNING false

/-- The next start of tick `t` strictly after a position (R421). -/
def nextTick (line tick t : Nat) : Nat × Nat := if tick < t then (line, t) else (line + 1, t)

/-- The instruction completes at a position: the eight-per-tick bound may slip it to the next tick (R421). -/
def State.gAt (s : State) (line tick : Nat) : State :=
  let g := s.gate
  let same := decide (line = g.line ∧ tick = g.tick)
  let n := if same then g.inTick else 0
  let s1 := if 8 ≤ n then
      let (l, t) := if tick = 255 then (line + 1, 0) else (line, tick + 1)
      ((s.setGate { g with line := l, tick := t, inTick := 1 }).setFlag F.GSQ_STATUS_SLIP true).countUp F.GSQ_CNT_SLIP
    else s.setGate { g with line := line, tick := tick, inTick := n + 1 }
  s1.reachPos s1.gate.line s1.gate.tick

/-- The program goes on at index `pc`; past its last instruction it stops as though END followed (R424). -/
def State.gGoto (s : State) (pc : Nat) : State :=
  if s.gProgram.length ≤ pc then
    (s.setGate { s.gate with ended := true }).gStop.setFld F.GSQ_PC_PC (s.gProgram.length - 1)
  else s.setFld F.GSQ_PC_PC pc

/-- The next instruction. -/
def State.gNext (s : State) : State := s.gGoto (s.fld F.GSQ_PC_PC + 1)

/-- The instruction in turn, if the program runs and it has opcode `op`. -/
def State.gFetch (s : State) (op : Nat) : Option Word :=
  if s.on .panel && s.flag F.GSQ_PC_RUNNING then
    match s.gProgram[s.fld F.GSQ_PC_PC]? with
    | some w => if gOp w = op then some w else none
    | none => none
  else none

/-- An action takes place at a position; outside a slot fixed to GSQ it is stray (R147, R425). -/
def State.gAct (s : State) (now : Bool) (t : Nat) : State :=
  let p := if now then (s.gate.line, s.gate.tick) else nextTick s.gate.line s.gate.tick t
  let s1 := s.gAt p.1 p.2
  s1.strayAct ownGsq s1.gate.line s1.gate.tick

/-- Can the frame in progress still have a line? A wait for a line that it cannot have goes on until line 0 cuts the program off
(R424). -/
def State.gInFrame (s : State) (line : Nat) : Bool := decide (line < max s.rs.vmin s.rs.vmax)

/-- The line of an action (R421). -/
def State.gActLine (s : State) (now : Bool) (t : Nat) : Nat :=
  if now then s.gate.line else (nextTick s.gate.line s.gate.tick t).1

/-- A level of one output. -/
def gDrive (levels i : Nat) (v : Bool) : Nat :=
  if v then levels ||| 2 ^ i else levels - (if levels.testBit i then 2 ^ i else 0)

/-! ### Rows -/

/-- END (R420). -/
def execGateEnd (s : State) : Out :=
  match s.gFetch 0 with
  | none => .next s
  | some _ =>
    let s1 := s.gAt s.gate.line s.gate.tick
    .next (s1.setGate { s1.gate with ended := true }).gStop

/-- WAIT_LINE (R420, R423). -/
def execGateWaitLine (s : State) : Out :=
  match s.gFetch 1 with
  | none => .next s
  | some w =>
    let l := bitsOf w 0 16
    let g := s.gate
    if !s.gInFrame (max g.line l) then .next s
    else if g.line < l then .next (s.gAt l 0).gNext
    else
      let onTime := g.line = l ∧ g.tick = 0
      let s1 := s.gAt g.line g.tick
      let s2 := if onTime then s1 else (s1.setFlag F.GSQ_STATUS_LATE_WAIT true).countUp F.GSQ_CNT_LATE_WAIT
      .next s2.gNext

/-- WAIT_TICK (R420, R421). -/
def execGateWaitTick (s : State) : Out :=
  match s.gFetch 2 with
  | none => .next s
  | some w =>
    let p := nextTick s.gate.line s.gate.tick (bitsOf w 0 8)
    .next (if s.gInFrame p.1 then (s.gAt p.1 p.2).gNext else s)

/-- OUT (R420). -/
def execGateOut (s : State) : Out :=
  match s.gFetch 3 with
  | none => .next s
  | some w =>
    if !s.gInFrame (s.gActLine (bitsOf w 17 1 = 1) (bitsOf w 18 8)) then .next s
    else
      let s1 := s.gAct (bitsOf w 17 1 = 1) (bitsOf w 18 8)
      let mask := bitsOf w 0 17
      let act := bitsOf w 26 2
      let lv := s1.fld F.GSQ_OUT_LEVELS
      let one := fun (a i : Nat) =>
        if mask.testBit i then gDrive a i (if act = 0 then true else if act = 1 then false else !a.testBit i) else a
      .next (s1.setFld F.GSQ_OUT_LEVELS ((List.range 17).foldl one lv)).gNext

/-- CLK (R422). -/
def execGateClk (s : State) : Out :=
  match s.gFetch 4 with
  | none => .next s
  | some w =>
    if !s.gInFrame (s.gActLine (bitsOf w 17 1 = 1) (bitsOf w 18 8)) then .next s
    else
      let s1 := s.gAct (bitsOf w 17 1 = 1) (bitsOf w 18 8)
      let np := nPhase (s1.liveFld F.GSQ_CTRL_NPHASE)
      let ph := s1.fld F.GSQ_PC_PH
      let lv := s1.fld F.GSQ_OUT_LEVELS
      let lv1 := if bitsOf w 1 1 = 1 then gDrive lv ((ph + bitsOf w 8 4) % np) true else lv
      let lv2 := if bitsOf w 2 1 = 1 then gDrive lv1 ((ph + bitsOf w 4 4) % np) false else lv1
      let s2 := s1.setFld F.GSQ_OUT_LEVELS lv2
      .next (if bitsOf w 0 1 = 1 then s2.setFld F.GSQ_PC_PH ((ph + 1) % np) else s2).gNext

/-- LOOP (R420, R423). -/
def execGateLoop (s : State) : Out :=
  match s.gFetch 5 with
  | none => .next s
  | some w =>
    let s1 := s.gAt s.gate.line s.gate.tick
    .next (s1.setGate { s1.gate with loops := (s1.fld F.GSQ_PC_PC + 1, bitsOf w 0 16) :: s1.gate.loops }).gNext

/-- NEXT (R420). -/
def execGateNext (s : State) : Out :=
  match s.gFetch 6 with
  | none => .next s
  | some _ =>
    let s1 := s.gAt s.gate.line s.gate.tick
    match s1.gate.loops with
    | (body, n) :: t =>
      if 1 < n then .next ((s1.setGate { s1.gate with loops := (body, n - 1) :: t }).gGoto body)
      else .next (s1.setGate { s1.gate with loops := t }).gNext
    | [] => .next s1.gNext

/-- SENSE (R428). -/
def execGateSense (s : State) : Out :=
  match s.gFetch 7 with
  | none => .next s
  | some w =>
    let s1 := s.gAt s.gate.line s.gate.tick
    let o := bitsOf w 0 1 = 1
    let done := s1.gate.windowDone || (!o && s1.flag F.GSQ_PC_SENSE_OPEN)
    .next ((s1.setGate { s1.gate with windowDone := done }).setFlag F.GSQ_PC_SENSE_OPEN o).gNext

/-- PH_SET (R420). -/
def execGatePhSet (s : State) : Out :=
  match s.gFetch 8 with
  | none => .next s
  | some w => .next ((s.gAt s.gate.line s.gate.tick).setFld F.GSQ_PC_PH (bitsOf w 0 4)).gNext

/-- SCAN_END_CROSSING: a rising crossing held for `ns`; shorter than 200 ns it is ignored (R428). -/
def execScanEndCrossing (ns : Nat) (s : State) : Out :=
  if s.on .panel && s.flag F.GSQ_PC_SENSE_OPEN && decide (200 ≤ ns) then
    .next (s.setGate { s.gate with crossings := s.gate.crossings + 1 })
  else .next s

/-! ### Line 0 (R418, R424, R428) -/

/-- SCAN_OK of the frame that has ended (R428). -/
def Gate.scanOk (g : Gate) (cut : Bool) : Bool := g.ran && g.ended && !cut && g.windowDone && g.crossings = 1

/-- The frame that has ended: a program still running is cut off, and the scan-end result is latched (R424, R428). `f` is
the number of that frame. -/
def State.gLatch (s : State) (f : Word) : State :=
  if !s.on .panel then s
  else
    let cut := s.flag F.GSQ_PC_RUNNING
    let s1 := if cut then (s.gStop.setFlag F.GSQ_STATUS_OVERRUN true).countUp F.GSQ_CNT_OVERRUN else s
    let g := s1.gate
    let ok := g.scan && g.scanOk cut
    let v := (if ok then 1 else 0) + (if g.scan then 0 else 2) + (if g.windowDone then 4 else 0) + 8 * min 7 g.crossings
      + 2 ^ 16 * (f.toNat % 2 ^ 16)
    let s2 := s1.setReg R.GSQ_SENSE (BitVec.ofNat 32 v)
    if g.scan && !ok then s2.countUp F.GSQ_CNT_SCAN_BAD else s2

/-- The program of a frame starts at line 0, or no program runs (R418). -/
def State.gStart (s : State) (scan : Bool) : State :=
  if !s.on .panel then s
  else
    let run := scan && !s.gProgram.isEmpty
    let s0 := if s.flag F.BIAS_STATUS_UP_DONE then s.gLow else s
    let s1 := s0.setGate { s.gate with
      line := 0, tick := 0, inTick := 0, loops := [], ran := run, ended := false, windowDone := false, crossings := 0, scan := scan }
    let s2 := ((s1.setFld F.GSQ_PC_PC 0).setFld F.GSQ_PC_PH 0).setFlag F.GSQ_PC_SENSE_OPEN false
    s2.setFlag F.GSQ_PC_RUNNING run

end Sys2Proof.Machine
end

