-- ==== Sys2Proof/Machine/Tightrope.lean ====
section
/-! DEFINITION. Tightrope: requests (R488 to R491), holds (R495), witnesses and excused frames (R496 to R499), the proof record
and its MAC (R500 to R502), CAN FD messages (R503 to R505), escalation (R506 to R508), absence of the core (R509). -/

namespace Sys2Proof.Machine

/-- The state with another Tightrope. -/
def State.setSaf (s : State) (t : Tightrope) : State := { s with saf := t }

/-! ### Requests (R488 to R490) -/

/-- The live request bitmap of a partner bitmap and exclusive control (R488). -/
def State.liveOf (s : State) (partner : Word) (excl : Bool) : Word :=
  if excl then partner else partner ||| s.reg R.SAF_HOST_REQ

/-- SAF_REQ_LIVE: the live request bitmap. -/
def State.reqLive (s : State) : Word := s.liveOf (s.reg R.SAF_PARTNER_REQ) (s.flag F.SAF_STATUS_EXCL)

/-- Requests that ended on the bus at least 10 us ago are settled (R489). -/
def State.settleReq (s : State) : State :=
  let t := s.saf
  let old := t.recent.filter fun r => decide (1563 ≤ s.since r.1)
  s.setSaf { t with
    settled := match old.getLast? with
      | some r => r.2
      | none => t.settled
    recent := t.recent.filter fun r => decide (s.since r.1 < 1563) }

/-- Any bit requested, or exclusive control claimed (R107)? -/
def State.ttAsked (s : State) : Bool := s.reqLive != 0 || s.flag F.SAF_STATUS_EXCL

/-- A tell-tale request in CALIBRATE or SERVICE ends the mode (R106): rows 16 and 19, and the run's command is aborted. -/
def State.ttYield (s : State) : State :=
  if s.reqLive = 0 then s
  else if s.mode = .calibrate then
    (s.latch 16 none).setCmds (s.mail.cmds.map fun c => if c.fullRun then { c with killed := true } else c)
  else if s.mode = .service then s.latch 19 none
  else s

/-- A new partner bitmap, from the bus or from a TT_HOST_REQ over MB2 (R488, R491, R569). -/
def State.partnerReq (s : State) (bits : Word) (excl : Bool) : State :=
  let t := s.saf
  let s1 := ((s.setReg R.SAF_PARTNER_REQ bits).setFlag F.SAF_STATUS_EXCL excl).setFlag F.SAF_STATUS_PARTNER_SEEN true
  (s1.setSaf { t with recent := t.recent ++ [(s.time, bits, excl)] }).ttYield

/-- SAF_PARTNER_REQ_WRITE: accepted only while PARTNER_SEEN is 0 (R491). -/
def execSafPartnerReqWrite (v : Word) (s : State) : Out :=
  if !s.on .ctrl || s.flag F.SAF_STATUS_PARTNER_SEEN then .next s
  else .next ((s.setReg R.SAF_PARTNER_REQ v).setSaf { s.saf with settled := (v, s.saf.settled.2) }).ttYield

/-! ### CAN FD messages (R503 to R505) -/

/-- Does the CAN FD controller work: with CTRL on, and in STANDBY (R73, R121)? -/
def State.canUp (s : State) : Bool := s.on .ctrl || decide (s.mode = .standby)

/-- The offset of a frame's identifier from BASE, where it is one of this module's (R503). -/
def State.canOffset (s : State) (f : CanFrame) : Option Nat :=
  if s.canUp && decide (f.id / 16 = s.fld F.SAF_CAN_ID_BASE) && !s.flag F.SAF_STATUS_BUS_OFF then some (f.id % 16) else none

/-- A message discarded and counted (R505). -/
def State.canDiscard (s : State) : State := s.countUp F.SAF_CAN_CNT_DISCARDED

/-- The reserved bits of a TT_REQUEST (R504, R505). -/
def ttReservedBad (d : List Byte) : Bool := 2 ≤ byteAt d 4 || byteAt d 6 != 0 || byteAt d 7 != 0

/-- A received frame for the row with identifier offset `k` and length `len`: none where it is another message's, else
whether it is good. Frames with the module's own identifiers are discarded (R505). -/
def State.canTake (s : State) (f : CanFrame) (k len : Nat) : Option (Bool × State) :=
  match s.canOffset f with
  | none => none
  | some o =>
    if o = 8 ∨ o = 9 then some (false, s.canDiscard)
    else if o ≠ k then none
    else if f.classical || f.data.length != len || (k = 0 && ttReservedBad f.data) then some (false, s.canDiscard)
    else some (true, s)

/-- A good TT_REQUEST (R488, R490, R504). -/
def State.takeRequest (s : State) (d : List Byte) : State :=
  let s1 := s.countUp F.SAF_CAN_CNT_TT_REQUEST
  (s1.setSaf { s1.saf with counter := byteAt d 5 }).partnerReq (BitVec.ofNat 32 (leAt d 0 4)) (byteAt d 4 = 1)

/-- TT_KEY: the first one after a full reset whose KCV matches is accepted (R502). -/
def execTtKey (f : CanFrame) (s : State) : Out :=
  match s.canTake f 1 20 with
  | none => .next s
  | some (false, s1) => .next s1
  | some (true, s1) =>
    let key := f.data.take 16
    if s1.saf.key.isNone && decide ((aes128 key (List.replicate 16 0#8)).take 4 = f.data.drop 16) then
      .next ((s1.setSaf { s1.saf with key := some key }).setFlag F.SAF_STATUS_KEY_OK true)
    else
      let s2 := (s1.setFlag F.SAF_STATUS_KEY_REJECT true).countUp F.SAF_CAN_CNT_TT_KEY
      .next (if s2.on .ctrl then s2.eventLogged 4 5 [0, 0, 0, 0, BitVec.ofNat 8 s2.mode.code] else s2)

/-- MB2_CMD (R504, R520): in STANDBY Tightrope answers it itself, and writes nothing to the rings (R545). -/
def execMb2Cmd (f : CanFrame) (s : State) : Out :=
  match s.canTake f 2 32 with
  | none => .next s
  | some (false, s1) => .next s1
  | some (true, s1) =>
    .next (if s1.on .ctrl then s1.partnerCommand f.data else s1.ownRsp stNotInMode (leAt f.data 0 2) (leAt f.data 2 2))

/-- TT_PROOF: the queued record is transmitted (R505). -/
def execTtProof (s : State) : Out :=
  if s.on .ctrl && !s.flag F.SAF_STATUS_BUS_OFF then .next (s.setSaf { s.saf with proof := none }) else .next s

/-- MB2_RSP: the oldest queued response is transmitted; one from the completion ring is consumed there (R520). -/
def execMb2Rsp (s : State) : Out :=
  if !s.canUp || s.flag F.SAF_STATUS_BUS_OFF then .next s
  else
    match s.mail.rsp with
    | [] => .next s
    | (_, ring) :: t =>
      let s1 : State := { s with mail := { s.mail with rsp := t } }
      .next (if ring then s1.consume 2 1 else s1)

/-- BUS_OFF: the controller enters bus-off (R505). A frame cut short stays in its queue place. -/
def execBusOff (s : State) : Out :=
  if !s.canUp || s.flag F.SAF_STATUS_BUS_OFF then .next s
  else .next ((s.setFlag F.SAF_STATUS_BUS_OFF true).countUp F.SAF_CAN_CNT_BUS_OFF)

/-- BUS_OFF_RECOVERY: transmission goes on from the queue places (R505). -/
def execBusOffRecovery (s : State) : Out := .next (if s.canUp then s.setFlag F.SAF_STATUS_BUS_OFF false else s)

/-! ### Holds (R495) -/

/-- SAF_HOLD_WRITE: a hold of 1 to 4 frames, unless one is pending or in force. -/
def execSafHoldWrite (v : Word) (s : State) : Out :=
  if !s.on .ctrl then .next s
  else if s.fld F.SAF_HOLD_LEFT != 0 || s.flag F.SAF_STATUS_HOLD then .next (s.setFlag F.SAF_STATUS_HOLD_BUSY true)
  else
    let n := v.toNat % 8
    .next ((s.setFld F.SAF_HOLD_FRAMES n).setFld F.SAF_HOLD_LEFT (clampNat n 1 4))

/-- The hold at line 0: LEFT counts the held frames that have not begun. -/
def State.holdFrame (s : State) : State :=
  let n := s.fld F.SAF_HOLD_LEFT
  if n = 0 then s.setFlag F.SAF_STATUS_HOLD false
  else (s.setFld F.SAF_HOLD_LEFT (n - 1)).setFlag F.SAF_STATUS_HOLD true

/-! ### Window parts (R493) -/

/-- The part of window `w` that lane `l` has in a frame; 2 where the frame has none there. -/
def partIx (lanes : List (List Nat)) (w l : Nat) : Nat := ((lanes.getD w []).idxOf? l).getD 2

/-- The packer's part CRCs of the frame that has ended: window, part, CRC (R405, R496). -/
def State.packParts (s : State) (lanes : List (List Nat)) : List (Nat × Nat × Nat) :=
  (s.colLanes.map fun l => (List.zip (s.cl l).regionsPrev (s.cl l).crcsPrev).map fun q =>
    (q.1.win, partIx lanes q.1.win l, q.2)).flatten

/-- The lanes that a window's parts lie on, lowest first, in the frame in progress. -/
def State.partLanes (s : State) (w : Nat) : List Nat :=
  s.colLanes.zipIdx.filterMap fun p => if (s.regionsOf p.2 p.1).1.any fun r => decide (r.win = w) then some p.1 else none

/-- SAF_WIN_LANES at line 0 (R493). -/
def State.winLanes (s : State) : State :=
  (List.range 32).foldl (fun s w =>
    let ls := s.partLanes w
    let v := ls.getD 0 0 + (if 2 ≤ ls.length then 256 * ls.getD 1 0 + 65536 else 0)
    s.setReg (R.SAF_WIN_LANES w) (BitVec.ofNat 32 v)) s

/-- Tightrope takes a reply in the first SAF slot after it ends (R408); where the line in progress has none, the reply is taken
all the same, and is stray (R147). -/
def State.takeReply (s : State) : State :=
  if (List.range 64).any fun n => s.fixedTo ownSaf s.rs.line n then s else s.strayAct ownSaf s.rs.line s.rs.tick

/-- COLUMN_REPLY: a driver's reply is taken, or is missing (R407 to R409); its CRCs become the driver's witness (R496). -/
def execColumnReply (lane : Fin 24) (bs : Option (List Byte)) (s : State) : Out :=
  let x := s.cl lane
  if !(s.on .panel && s.col.synced) || x.replied || !bitOf (s.live R.COL_LANES) lane then .next s
  else
    let (crcs, s1) := s.takeReply.columnReply lane bs
    let b := bs.getD []
    let n := (s1.frame - 1).toNat % 256
    let ok := (byteAt b 1).testBit 1 && decide (byteAt b 2 = n)
    let lanes := match s.saf.last with
      | some p => p.lanes
      | none => []
    let new := crcs.map fun p => (p.1.win, partIx lanes p.1.win lane, p.2, ok)
    .next (s1.setSaf { s1.saf with replies := s1.saf.replies ++ new })

/-! ### The record (R496 to R501) -/

/-- Part CRCs of a window in a list. -/
def partCrc (l : List (Nat × Nat × Nat)) (w p : Nat) : Option Nat :=
  (l.find? fun e => decide (e.1 = w ∧ e.2.1 = p)).map fun e => e.2.2

/-- The witnesses of one tell-tale: W1, W2 (R496), and whether its only failing parts under W1 and W2 lie on lanes in an
excused retrain (R499). -/
def State.witness (s : State) (p : ProofFrame) (i : Nat) : Bool × Bool × Bool :=
  let n := p.frame
  let pack := s.packParts p.lanes
  let lanes := p.lanes.getD i []
  let parts := List.range (min 2 lanes.length)
  let exp := fun (k : Nat) => bitsOf (p.exp.getD i 0) (16 * k) 16
  let drv := fun (k : Nat) => (s.saf.replies.find? fun r => decide (r.1 = i ∧ r.2.1 = k)).map fun r => r.2.2
  let same := fun (k : Nat) => match partCrc pack i k, drv k with
    | some a, some (b, ok) => decide (a = b) && ok
    | _, _ => false
  let w1 := fun (k : Nat) => if p.held then same k else decide (partCrc pack i k = some (exp k))
  let w2 := fun (k : Nat) => if p.held then same k else match drv k with
    | some (b, ok) => decide (b = exp k) && ok
    | none => false
  let excusing := fun (l : Nat) => (s.cl l).failedAt.isNone && (match (s.cl l).retrainAt with
    | some m => decide (n = m) || decide (n = m + 1)
    | none => false)
  let bad := parts.filter fun k => !(w1 k && w2 k)
  let onRetrain := !bad.isEmpty && bad.all fun k => excusing (lanes.getD k 0)
  (!parts.isEmpty && parts.all w1, !parts.isEmpty && parts.all w2, onRetrain)

/-- U_i (R506). -/
def State.unproven (s : State) (i : Nat) : Nat := bitsOf (s.reg (R.SAF_UNPROVEN (i / 16))) (2 * (i % 16)) 2

/-- The state with U_i replaced. -/
def State.setUnproven (s : State) (i v : Nat) : State := s.setFld ⟨R.SAF_UNPROVEN (i / 16), 2 * (i % 16), 2⟩ v

/-- A bitmap of the tell-tales with a property. -/
def bitmap (f : Nat → Bool) : Word := (List.range 32).foldl (fun (w : Word) i => if f i then withBit w i else w) 0

/-- The safe-state latch set or cleared, with its event (R507, R639). -/
def State.safeLatch (s : State) (b : Bool) : State :=
  if s.flag F.SAF_STATUS_SAFE_LATCH = b then s
  else (s.setFlag F.SAF_STATUS_SAFE_LATCH b).eventLogged 4 (if b then 3 else 4) [0, 0, 0, 0, BitVec.ofNat 8 s.mode.code]

/-- Is FAULT_N driven low (R64, R507)? -/
def State.faultLow (s : State) : Bool := s.pw.faultHeld || s.flag F.SAF_STATUS_FAULT

/-- The unproven count of one tell-tale at a record (R506). -/
def State.countProof (s : State) (req proven excused : Word) (i : Nat) : State :=
  if !bitOf req i || bitOf proven i then s.setUnproven i 0
  else if bitOf excused i then s
  else (s.setUnproven i (min 3 (s.unproven i + 1))).countUp F.SAF_CNT_UNPROVEN

/-- STATUS of a record (R500). -/
def State.proofStatus (s : State) (p : ProofFrame) (excused : Word) : Nat :=
  let b := fun (x : Bool) (i : Nat) => if x then 2 ^ i else 0
  b s.saf.key.isSome 0 + b p.held 1 + b p.holdFrame 2 + b (excused != 0) 3 + b (s.flag F.SAF_STATUS_SAFE_LATCH) 4
    + b s.faultLow 5 + b (s.flag F.SAF_STATUS_EXCL) 6 + b (s.flag F.SAF_ABSENT_ABSENT) 7 + 256 * s.mode.code
    + 65536 * s.saf.counter

/-- MAC bytes of a record (R501). -/
def proofMac (key : Option (List Byte)) (body : List Byte) (status : Nat) : List Byte :=
  match key with
  | some k => (cmac k (body ++ leBytes 4 status)).take 4
  | none => [0, 0, 0, 0]

/-- Escalation at a record (R507): `new` are the tell-tales whose count has just reached 3. -/
def State.escalate (s : State) (p : ProofFrame) (new proven w1 w2 w3 : Word) (scan : Bool) : State :=
  if new = 0 then s
  else
    let s1 := (s.setFlag F.SAF_STATUS_FAULT true).setReg R.SAF_FAULT_TT (s.reg R.SAF_FAULT_TT ||| new)
    let data := leBytes 4 (s1.reg R.SAF_FAULT_TT).toNat ++ [BitVec.ofNat 8 s1.mode.code, 0]
    let s2 := s1.event 4 1 data
    let part := fun (bs : List Byte) => [4#8, 1#8, 0#8] ++ padTo 0#8 12 bs ++ [0#8]
    let s3 := s2.postRecord [s2.logPart0 4 1, logPart1 4 1 data (leBytes 4 p.req.toNat ++ [if scan then 1 else 0]),
      part (leBytes 4 proven.toNat ++ leBytes 4 w1.toNat ++ leBytes 4 w2.toNat), part (leBytes 4 w3.toNat)]
    if s3.flag F.SAF_CTRL_FAULT_ACTION then s3.safeLatch true else s3

/-- The run of good records, the release of FAULT_N after escalation (R508) and after a start or sleep (R64). -/
def State.proofRun (s : State) (p : ProofFrame) (good excused : Bool) : State :=
  let n := if good && !excused then min 8 (s.saf.run + 1) else 0
  let s1 := s.setSaf { s.saf with run := n }
  let s2 := if n = 8 ∧ s1.flag F.SAF_STATUS_FAULT = true then
      (s1.setFlag F.SAF_STATUS_FAULT false).eventLogged 4 2 [0, 0, 0, 0, BitVec.ofNat 8 s1.mode.code]
    else s1
  if !p.dark && good && !excused && s2.pw.faultHeld && s2.pw.faultFrame.isSome then { s2 with pw := { s2.pw with faultHeld := false } } else s2

/-- The registers that show a record and its witnesses (R498). -/
def State.showProof (s : State) (bs : List Byte) (status : Nat) (w1 w2 w3 excused : Word) : State :=
  let s1 := (List.range 4).foldl (fun s k => s.setReg (R.SAF_PROOF k) (BitVec.ofNat 32 (leAt bs (4 * k) 4))) s
  ((((s1.setReg R.SAF_PROOF_STAT (BitVec.ofNat 32 status)).setReg R.SAF_WIT_PACK w1).setReg R.SAF_WIT_DRV w2).setReg
    R.SAF_WIT_FLOOR w3).setReg R.SAF_EXCUSED excused

/-- The two part CRCs of a window as a register shows them; 65535 stands for a part that has none. -/
def partWord (l : List (Nat × Nat × Nat)) (i : Nat) : Word :=
  BitVec.ofNat 32 ((partCrc l i 0).getD 65535 + 65536 * (partCrc l i 1).getD 65535)

/-- SAF_PACK and SAF_DRV of each window. -/
def State.showParts (s : State) (lanes : List (List Nat)) : State :=
  let pack := s.packParts lanes
  let drv := s.saf.replies.map fun r => (r.1, r.2.1, r.2.2.1)
  (List.range 32).foldl (fun s i => (s.setReg (R.SAF_PACK i) (partWord pack i)).setReg (R.SAF_DRV i) (partWord drv i)) s

/-- A record counted and put in line for its frame on the bus (R498, R500). -/
def State.sendProof (s : State) (p : ProofFrame) (bs : List Byte) (status : Nat) (excused : Word) : State :=
  let s1 := (s.countUp F.SAF_CNT_EXCUSED (popCount excused.toNat 32)).countUp F.SAF_CNT_HELD (if p.held then 1 else 0)
  let s2 := if s1.saf.proof.isSome then (s1.countUp F.SAF_CNT_PROOF_DROP).setFlag F.SAF_STATUS_PROOF_DROP true else s1
  s2.setSaf { s2.saf with proof := some (bs ++ leBytes 4 status), last := none, replies := [] }

/-- The record of the frame that has ended (R498 to R501, R505 to R508). Its event stands before those of class 4 that the record raises
(R638). -/
def State.proofRecord (s : State) (p : ProofFrame) : State :=
  let n := p.frame
  let wit := (List.range 32).map fun i => s.witness p i
  let w1 := bitmap fun i => (wit.getD i (false, false, false)).1
  let w2 := bitmap fun i => (wit.getD i (false, false, false)).2.1
  let lane := bitmap fun i => (wit.getD i (false, false, false)).2.2
  let w3 := if s.reg R.BLD_WITNESS_FRAME = n then s.reg R.BLD_WITNESS else 0
  let sense := s.reg R.GSQ_SENSE
  let scan := bitOf sense 0 && decide (sense.toNat / 65536 = n.toNat % 65536)
  let drawn := p.req &&& p.en &&& ~~~p.err
  let pass3 := if scan then w3 else 0
  let proven := if p.holdFrame then 0 else drawn &&& w1 &&& w2 &&& pass3
  let open' := p.req &&& ~~~proven
  let only := drawn &&& pass3 &&& lane
  let excused := if p.dark || p.holdFrame || p.darkMode then open' else open' &&& only
  let old := (List.range 32).map s.unproven
  let s1 := (List.range 32).foldl (fun s i => s.countProof p.req proven excused i) s
  let new := bitmap fun i => decide (s1.unproven i = 3) && decide (old.getD i 0 ≠ 3)
  let judge := fun (s : State) => (s.escalate p new proven w1 w2 w3 scan).proofRun p (decide (open' = 0)) (excused != 0)
  let status := (judge s1).proofStatus p excused
  let body := leBytes 4 n.toNat ++ leBytes 4 p.req.toNat ++ leBytes 4 proven.toNat
  let rec' := body ++ proofMac s.saf.key body status
  let s3 := judge (s1.event 3 0 (leBytes 4 status) (some rec'))
  let s4 := s3.showProof rec' status w1 w2 w3 excused
  let s5 := s4.setReg R.SAF_WIT_SCAN (BitVec.ofNat 32 ((if scan then 1 else 0) + (if bitOf sense 1 then 2 else 0)))
  (s5.showParts p.lanes).sendProof p rec' status excused

/-- SAFE_SET: SAF_CTRL.SAFE_SET written 1 (R507, R511). -/
def execSafeSet (s : State) : Out := .next (if s.on .ctrl then s.safeLatch true else s)

/-- SAFE_CLR: SAF_CTRL.SAFE_CLR written 1 (R507, R511). -/
def execSafeClr (s : State) : Out := .next (if s.on .ctrl then s.safeLatch false else s)

/-! ### Absence (R509) -/

/-- The absence count starts at a lockstep reset. -/
def State.absentStart (s : State) : State :=
  ((s.setSaf { s.saf with absent := true }).setFld F.SAF_ABSENT_COUNT 0).setFlag F.SAF_ABSENT_ABSENT true

/-- SAF_ALIVE: ALIVE written 1 ends the count (R509). -/
def execSafAlive (s : State) : Out :=
  if !s.saf.absent then .next s
  else .next ((s.setSaf { s.saf with absent := false }).setFlag F.SAF_ABSENT_ABSENT false)

/-- The absence count at line 0 (R509). -/
def State.absentFrame (s : State) : State := if s.saf.absent then s.countUp F.SAF_ABSENT_COUNT else s

/-! ### Line 0 (R489, R497) -/

/-- The frame that has ended is closed; the windows with an uncorrectable icon read in it go to CPS_TT_ERR (R355). -/
def State.proofClose (s : State) : State :=
  let t := s.saf
  (s.setSaf { t with cur := none, last := t.cur.map fun p => { p with err := s.pipe.iconErr } }).setReg R.CPS_TT_ERR s.pipe.iconErr

/-- The bitmap in force is presented to CPS (R489). -/
def State.present (s : State) : State :=
  let s1 := s.settleReq
  s1.setReg R.CPS_TT_REQ (s1.liveOf s1.saf.settled.1 s1.saf.settled.2)

/-- What Tightrope latches of the frame that begins. -/
def State.proofOpen (s : State) (hold : Bool) : State :=
  let dark := s.pw.faultFrame.isNone
  let p : ProofFrame := {
    frame := s.frame, req := s.reg R.CPS_TT_REQ, en := s.live R.CPS_TT_EN, err := 0
    held := s.flag F.SAF_STATUS_HOLD, holdFrame := hold, dark := dark, darkMode := s.mode.isDark
    lanes := (List.range 32).map s.partLanes
    exp := (List.range 32).map fun i => s.live (R.SAF_EXP i) }
  s.setSaf { s.saf with cur := some p, replies := [] }

end Sys2Proof.Machine
end

