-- ==== Sys2Proof/Machine/Domains.lean ====
section
/-! DEFINITION. Power domains going off and on: what each loses and what each starts with (R47, R111 to R115, R458, R626,
R649). -/

namespace Sys2Proof.Machine

/-- The blocks of a domain, by index. -/
def blocksOf (d : Domain) : List Blk := ((List.range 22).filterMap Blk.ofIndex).filter fun b => decide (b.domain = d)

/-- The registers of a domain's blocks back at their reset values, and their commits gone (R112). -/
def State.lostRegs (s : State) (d : Domain) : State :=
  let s1 := (blocksOf d).foldl State.resetBlk s
  { s1 with commits := s1.commits.filter fun c => decide (c.blk.domain ≠ d) }

/-- PIX loses the frame store and everything of its blocks (R112). -/
def State.pixLost (s : State) : State :=
  { (s.lostRegs .pix).clearMem fstBase (fstBase + fstSize) with
    rs := Raster.reset
    rng := Ringmaster.reset
    vid := { Video.reset with streams := s.vid.streams, planes := s.vid.planes }
    pipe := Pipe.reset
    lda := Dimming.reset }

/-- LINK loses both ports (R112); what leaving the link does comes first (R232). -/
def State.linkLost (s : State) : State :=
  let s1 := if s.pLinked 1 then s.leaveLink 1 else s
  let s2 := if s1.pLinked 0 then s1.leaveLink 0 else s1
  { s2.lostRegs .link with inl := PortSt.reset, chn := PortSt.reset }

/-- PANEL loses its link, its gate program and its rails (R112). -/
def State.panelLost (s : State) : State :=
  { s.lostRegs .panel with col := Column.reset, gate := Gate.reset, bias := Bias.reset }

/-- LIGHT loses its blocks, but for the stage latch (R112, R457). -/
def State.lightGone (s : State) : State := { (s.lostRegs .light).lightLost with opt := Optics.reset }

/-- CTRL loses the ponds and everything of its blocks (R112). -/
def State.ctrlLost (s : State) : State :=
  { (s.lostRegs .ctrl).clearMem pondALo pondCHi with
    timeHi := ⟨0, 0, 0⟩
    log := State.reset.log
    mail := Mail.reset
    saf := Tightrope.reset
    dma := Juggler.reset
    eddy := Eddy.reset
    cal := Calibration.reset
    fw := Firmware.reset
    bl := { s.bl with latch := none, faultAt := none, cleared := false } }

/-- What a domain loses with its power (R112). -/
def State.domainLost (s : State) (d : Domain) : State :=
  match d with
  | .aon => s
  | .ctrl => s.ctrlLost
  | .pix => s.pixLost
  | .link => s.linkLost
  | .panel => s.panelLost
  | .light => s.lightGone

/-- A domain powers down (R47, R112, R626). -/
def State.domainOff (s : State) (d : Domain) : State :=
  if !s.on d then s
  else
    let s1 := ((s.setFlag d.onFld false).setFlag d.demandFld false).calDomainOff d
    s1.domainLost d

/-! ### Waking -/

/-- The STATE of zone `z` in the zone summary (R644). -/
def State.summaryZone (s : State) (z : Nat) : Nat := (s.byte (zoneSummary + z / 4)).toNat / 4 ^ (z % 4) % 4

/-- Is the zone summary's CRC right (R644)? -/
def State.summaryOk (s : State) : Bool := s.mle zoneSummaryCrc 4 = crc32 (s.bytes zoneSummary 1152)

/-- The summary rebuilt from the BACKLIGHT records of the ring, oldest first (R649); `n` counts down to the newest. -/
def State.rebuildSummary : Nat → State → State
  | 0, s => s
  | n + 1, s =>
    match s.logEntryAddr n with
    | none => rebuildSummary n s
    | some a =>
      let e := s.bytes a 16
      let hit := byteAt e 0 % 32 = 8 ∧ (byteAt e 1 = 1 ∨ byteAt e 1 = 2) ∧ byteAt e 2 % 4 = 1
      rebuildSummary n (if hit then s.putZoneSummary (leAt e 3 2) (byteAt e 5) else s)

/-- The firmware restores the zone states at a LIGHT wake (R458, R649). -/
def State.restoreZones (s : State) : State :=
  let s1 := if s.summaryOk then s
    else State.rebuildSummary (s.mle (flogHead + 10) 2) (s.clearMem zoneSummary (zoneSummary + 1152))
  let zs := (List.range 4608).filterMap fun z =>
    let st := s1.summaryZone z
    if st = 0 then none else some (z, { Zone.reset with state := st })
  let n := fun (l : List Nat) => (zs.filter fun p => l.contains p.2.state).length
  (s1.setBl { s1.bl with zones := zs }).setReg R.BLD_FAULT_CNT (BitVec.ofNat 32 (n [1, 3] + 65536 * n [2]))

/-- A domain is powered and clocked: its blocks stand at their reset values, CAL's values are applied, the ports see whether
a reference is there (R47, R52, R111, R113, R626). -/
def State.domainOn (s : State) (d : Domain) : State :=
  if s.on d then s
  else
    let s1 := { s.setFlag d.onFld true with pw := { s.pw with waking := s.pw.waking.filter (· != d) } }
    let s2 := s1.calApply d
    match d with
    | .link => (s2.setFlag (F.PORT_STATUS_REF_OK 0) s.pw.refclk).setFlag (F.PORT_STATUS_REF_OK 1) s.pw.refclk
    | .light => s2.stageBits.restoreZones
    | .aon | .ctrl | .pix | .panel => s2

/-- The domains that a mode requires (R77); LINK in SPLASH and TELLTALE_ONLY from step 8 on with the Inlet enabled. -/
def State.required (s : State) (m : Mode) (d : Domain) : Bool :=
  match d with
  | .aon => true
  | .ctrl => m ≠ .dormant
  | .pix => m ≠ .dormant ∧ m ≠ .standby
  | .panel | .light => m ≠ .dormant ∧ m ≠ .standby ∧ m ≠ .boot
  | .link => match m with
    | .linkUp | .live | .selfRefresh | .lowRate | .calibrate | .service | .update => true
    | .splash | .telltaleOnly => s.fld F.BOOT_STATUS_STEP = 8 && s.inletEnabled
    | .dormant | .standby | .boot => false

end Sys2Proof.Machine
end

