-- ==== Sys2Proof/Machine/Bias.lean ====
section
/-! DEFINITION. Panel bias: rails, faults, the power-up and power-down sequences (R55, R429 to R436). -/

namespace Sys2Proof.Machine

/-- The state with another bias record. -/
def State.setBias (s : State) (b : Bias) : State := { s with bias := b }

/-- The step of the sequence in progress (BIAS_STATUS.SEQ_STEP). -/
def State.biasStep (s : State) (n : Nat) : State := s.setFld F.BIAS_STATUS_SEQ_STEP n

/-- Does a sequence run? -/
def State.biasBusy (s : State) : Bool := s.fld F.BIAS_STATUS_SEQ_STEP != 0

/-- Does the power-up sequence run? -/
def State.biasRising (s : State) : Bool := s.biasBusy && s.flag F.BIAS_STATUS_DIR

/-- ALL_ON (R417, R434, R435). -/
def State.allOn (s : State) (b : Bool) : State := s.setFlag ⟨R.GSQ_OUT, 16, 1⟩ b

/-- Column link bring-up begins: every enabled lane trains (R410). -/
def State.colBringUp (s : State) : State :=
  let s1 := ((s.setFlag F.COL_CTRL_RUN true).setFlag F.COL_STATUS_BRINGUP_DONE false).setReg R.COL_INSERVICE 0
  let s2 := (s1.setReg R.COL_TRAINING (s1.live R.COL_LANES)).setReg R.COL_FAILED 0
  { s2 with col := { Column.reset with bringing := true, parity := s2.col.parity, fits := s2.col.fits } }

/-- Lanes and CREF go high impedance (R435 step 7). -/
def State.colStop (s : State) : State :=
  let s1 := ((s.setFlag F.COL_CTRL_RUN false).setFlag F.COL_STATUS_BRINGUP_DONE false).setReg R.COL_INSERVICE 0
  { s1.setReg R.COL_TRAINING 0 with col := { Column.reset with parity := s1.col.parity, fits := s1.col.fits } }

/-- Has a power-down step its rails to act on, so that it is not skipped (R436)? -/
def Bias.downStep (b : Bias) (n : Nat) : Bool :=
  match n with
  | 2 => b.vgh && b.vgl
  | 3 => b.vcom
  | 4 => b.avdd
  | 5 => b.vgh
  | 6 => b.vgl
  | 7 => b.vddPl || b.vddPlB
  | _ => true

/-- The first power-down step from `n` on that is not skipped. -/
def Bias.nextDown (b : Bias) (n : Nat) : Nat :=
  (((List.range 9).filter fun k => n ≤ k && b.downStep k).head?).getD 8

/-- A power-down step begins: ALL_ON is high from step 2 through step 5 (R435). -/
def State.downBegin (s : State) (n : Nat) : State :=
  let k := s.bias.nextDown n
  let s1 := if k = 2 then s.allOn true else if 6 ≤ k then s.allOn false else s
  s1.biasStep k

/-- The power-down sequence starts (R435). -/
def State.biasDownStart (s : State) : State :=
  ((s.setFlag F.BIAS_STATUS_DIR false).setFlag F.BIAS_STATUS_UP_DONE false).downBegin 1

/-- The power-up sequence starts; PANEL is on, so that step 1 is complete (R434). -/
def State.biasUpStart (s : State) : State :=
  (s.setFlag F.BIAS_STATUS_DIR true).biasStep 2

/-- A power-up request (R434, R436). -/
def State.biasUp (s : State) : State :=
  let s1 := s.setFlag F.BIAS_CTRL_UP true
  if s1.biasRising then s1.setBias { s1.bias with next := none }
  else if s1.biasBusy then s1.setBias { s1.bias with next := some true }
  else if s1.flag F.BIAS_STATUS_UP_DONE then s1
  else s1.biasUpStart

/-- A power-down request (R435, R436). -/
def State.biasDown (s : State) : State :=
  let s1 := s.setFlag F.BIAS_CTRL_UP false
  if s1.biasRising then s1.setBias { s1.bias with next := some false }
  else if s1.biasBusy then s1.setBias { s1.bias with next := none }
  else s1.biasDownStart

/-- A sequence has ended with the rails up or down: a PANEL_POWER that waits for it completes (R563). One that asked for the
other direction finds a fault in its way. -/
def State.tellPanel (s : State) (up : Bool) : State :=
  s.mail.cmds.foldl (fun (s : State) (c : RunCmd) =>
    if c.opcode = 0x0502 ∧ c.phase = .waitEvent ∧ c.status.isNone = true then
      s.finishCmd c.tag (if decide (byteAt c.params 0 = 1) = up then stOk else stFault) []
    else s) s

/-- Step 9 of power-up (R434). -/
def State.biasUpDone (s : State) : State := ((s.setFlag F.BIAS_STATUS_UP_DONE true).biasStep 0).tellPanel true

/-- A power-up step is complete; a power-down request takes over there (R434, R436). -/
def State.upStepDone (s : State) : State :=
  let b := s.bias
  let n := s.fld F.BIAS_STATUS_SEQ_STEP
  let s1 := match n with
    | 2 => ((s.setBias { b with vddPl := true, vddPlB := true }).colBringUp).biasStep 4
    | 4 => (s.setBias { b with avdd := true }).biasStep 5
    | 5 => (s.setBias { b with vgl := true }).biasStep 6
    | 6 => ((s.setBias { b with vgh := true }).setFld F.GSQ_OUT_LEVELS 0).allOn true |>.setFlag F.GSQ_OUT_DIR_F
        (s.liveFlag F.GSQ_CTRL_DIR_FWD) |>.biasStep 7
    | 7 => (s.allOn false).biasStep 8
    | 8 =>
      let s2 := s.setBias { b with vcom := true }
      if s2.flag F.COL_STATUS_BRINGUP_DONE then s2.biasUpDone else s2.biasStep 3
    | 3 => if s.flag F.COL_STATUS_BRINGUP_DONE then s.biasUpDone else s
    | _ => s
  if s1.bias.next = some false ∧ s1.fld F.BIAS_STATUS_SEQ_STEP ≠ n then
    (s1.setBias { s1.bias with next := none }).biasDownStart
  else s1

/-- Power-down is complete: PANEL loses its power after a fault, a waiting power-up request starts (R435, R436). -/
def State.downDone (s : State) : State :=
  let s1 := s.biasStep 0
  if s1.bias.panelOff then (s1.domainOff .panel).tellPanel false
  else if s1.bias.next = some true then (s1.setBias { s1.bias with next := none }).biasUpStart
  else s1.tellPanel false

/-- A power-down step is complete (R435). -/
def State.downStepDone (s : State) : State :=
  let b := s.bias
  match s.fld F.BIAS_STATUS_SEQ_STEP with
  | 1 => s.gStop.downBegin 2
  | 2 => s.downBegin 3
  | 3 => (s.setBias { b with vcom := false }).downBegin 4
  | 4 => (s.setBias { b with avdd := false }).downBegin 5
  | 5 => (s.setBias { b with vgh := false }).downBegin 6
  | 6 => (s.setBias { b with vgl := false }).downBegin 7
  | 7 => ((s.setBias { b with vddPl := false, vddPlB := false }).colStop).downBegin 8
  | 8 => s.downDone
  | _ => s

/-- BIAS_POWER_UP: BIAS_CTRL.UP written 1 (R434). -/
def execBiasPowerUp (s : State) : Out :=
  .next (if s.acts .panel then s.biasUp else s.stallWrite R.BIAS_CTRL (s.reg R.BIAS_CTRL ||| 1))

/-- BIAS_POWER_DOWN: BIAS_CTRL.UP written 0 (R435). -/
def execBiasPowerDown (s : State) : Out :=
  .next (if s.acts .panel then s.biasDown else s.stallWrite R.BIAS_CTRL (s.reg R.BIAS_CTRL &&& 0xFFFFFFFE))

/-- BIAS_STEP_DONE: the step in progress completes; the operands are the measured voltages (R434, R435, R438). -/
def execBiasStepDone (m0 m1 m2 : Word) (s : State) : Out :=
  if !s.on .panel || !s.biasBusy then .next s
  else
    let s1 := ((s.setReg R.BIAS_MEAS0 m0).setReg R.BIAS_MEAS1 m1).setReg R.BIAS_MEAS2 m2
    .next (if s1.flag F.BIAS_STATUS_DIR then s1.upStepDone else s1.downStepDone)

/-! ### Domains that a mode needs (R57, R77, R114) -/

/-- Is a bias rail or VDD_PL up, or a sequence in progress, so that PANEL may power down only after the power-down sequence
(R57)? -/
def State.railsUp (s : State) : Bool :=
  s.bias.vddPl || s.bias.vddPlB || s.bias.avdd || s.bias.vgl || s.bias.vgh || s.bias.vcom || s.biasBusy

/-- A domain that is not needed powers down: PANEL with rails up runs the power-down sequence first (R57, R114). -/
def State.powerOff (s : State) (d : Domain) : State :=
  if d = .panel && s.railsUp then
    { s with bias := { s.bias with panelOff := true } }.biasDown
  else s.domainOff d

/-- A change of mode: domains that the new mode requires are no longer on by an access only. Of the others, those that the
mode before required power down, and with PWR_IDLE_OFF at 0 also those on by an access (R77, R114). -/
def State.demandMode (s : State) (m : Mode) : State :=
  [Domain.pix, .link, .panel, .light].foldl (fun s d =>
    if s.required m d then s.setFlag d.demandFld false
    else if s.flag d.demandFld && s.fld F.PWR_IDLE_OFF_VAL != 0 then s
    else s.powerOff d) s

/-- IDLE_OFF_TIMEOUT: an on-demand domain has had no access for PWR_IDLE_OFF ms (R114). -/
def execIdleOffTimeout (d : Domain) (s : State) : Out :=
  if s.flag d.demandFld && s.on d && s.fld F.PWR_IDLE_OFF_VAL != 0 then .next (s.powerOff d) else .next s

/-! ### Mode changes -/

/-- A transition completes: the mode, MODE_SEQ, the event (R109, R639), the on-demand domains (R114), and MANUAL, which
holds in dark modes only (R175). `row` is the row of R80. -/
def State.enterMode (s : State) (m : Mode) (row : Nat) : State :=
  let was := s.mode
  let org := if m.isDark || m = .update then s.pw.origin else none
  let s1 : State := { s with pw := { s.pw with mode := m, modeSeq := s.pw.modeSeq + 1, origin := org } }
  let s2 := s1.demandMode m
  let s3 := if was.isDark ∧ ¬ m.isDark then s2.setFlag F.GOV_CTRL_MANUAL false else s2
  s3.event 10 0 [BitVec.ofNat 8 m.code, BitVec.ofNat 8 ((org.map Mode.code).getD 0), BitVec.ofNat 8 row]

/-! ### Faults (R55, R433) -/

/-- A sleep entry or restart goes on without the panel. -/
def Transition.panelGone : Transition → Transition
  | .entering e => .entering { e with rasterRan := false, panelUp := false, lit := false }
  | .restarting e => .restarting { e with rasterRan := false, panelUp := false, lit := false }
  | .startUp => .startUp
  | .none => .none

/-- BOOT and the frames before the first lit frame run at P0 (R117, R159). -/
def State.levelP0 (s : State) : State :=
  (((s.setFld F.PWR_PERF_LEVEL 0).setFld F.PWR_PERF_NEXT 0).setFlag F.PWR_PERF_CHANGING false).setFlag F.PWR_PERF_STRETCHED false

/-- The module goes to the last mode that does not require the panel, BOOT, and stays there (R55, log entry 22): the
backlight and the raster stop, LINK powers down, PANEL follows the power-down sequence. A sleep entry or restart that is in
progress goes on. FAULT_N is driven low until the next start (DESIGN CHOICE, log entry 22). -/
def State.panelFault (s : State) : State :=
  let s1 := (((s.domainOff .light).domainOff .link).setFlag F.SCN_CTRL_RUN false).levelP0
  let s2 : State := { s1 with
    rs := { s1.rs with running := false }
    pw := { s1.pw with
      panelFault := true, trans := s1.pw.trans.panelGone, trigs := [], lightAt := none, firstLit := false
      faultHeld := true, faultFrame := none }
    bias := { s1.bias with panelOff := true, next := none } }
  if s2.mode = .boot then s2 else s2.enterMode .boot 0

/-- RAIL_FAULT: a rail out of its limits (R433), coded as FAULT_RAIL. -/
def execRailFault (rail : Fin 8) (s : State) : Out :=
  if !s.on .panel || rail = 0 || !(s.flag F.BIAS_STATUS_UP_DONE || s.biasBusy) then .next s
  else
    let log := fun (s : State) => s.eventLogged 7 1 [BitVec.ofNat 8 rail.val]
    if s.biasBusy ∧ s.biasRising = false then .next (log s)
    else .next (log ((s.setFlag F.BIAS_STATUS_RAIL_FAULT true).setFld F.BIAS_STATUS_FAULT_RAIL rail.val)).biasDownStart.panelFault

/-- VDD_PL_OVERLOAD: more than 1.8 A for more than 1 ms on J3 (0) or J4 (1) (R55). -/
def execVddPlOverload (conn : Fin 2) (s : State) : Out :=
  let up := if conn = 0 then s.bias.vddPl else s.bias.vddPlB
  let rising := s.biasRising && decide (s.fld F.BIAS_STATUS_SEQ_STEP = 2)
  if !s.on .panel || !(up || rising) then .next s
  else
    let s1 := s.setBias (if conn = 0 then { s.bias with vddPl := false } else { s.bias with vddPlB := false })
    let s2 := s1.eventLogged 7 2 [BitVec.ofNat 8 (conn.val + 1)]
    .next (if s.biasBusy ∧ s.biasRising = false then s2 else s2.biasDownStart).panelFault

end Sys2Proof.Machine
end

