-- ==== Sys2Proof/Machine/Commits.lean ====
section
/-! DEFINITION. Commits (R334 to R338, R671): which registers each moves, its window, its load, its check, its hand-over; the
timing set (R318 to R320). -/

namespace Sys2Proof.Machine

/-! ### The commit bits of the blocks -/

/-- A commit bit, its lock, the status bits and the register of its block (R334). -/
structure CommitBits where
  commit : Fld
  locked : Fld
  lockedWr : Fld
  late : Fld
  lateFrame : Nat
  busy : Option Fld

/-- The commit of a block, ordinary or privileged (R335). -/
def commitBits (b : Blk) (priv : Bool) : Option CommitBits :=
  match b, priv with
  | .scn, false => some ⟨F.SCN_COMMIT_COMMIT, F.SCN_COMMIT_LOCKED, F.SCN_STATUS_SHADOW_LOCKED_WR, F.SCN_STATUS_LATE_COMMIT, R.SCN_LATE_FRAME, none⟩
  | .scn, true => some ⟨F.SCN_COMMIT_TCOMMIT, F.SCN_COMMIT_TLOCKED, F.SCN_STATUS_SHADOW_LOCKED_WR, F.SCN_STATUS_LATE_COMMIT, R.SCN_LATE_FRAME, none⟩
  | .rng, false => some ⟨F.RNG_COMMIT_COMMIT, F.RNG_COMMIT_LOCKED, F.RNG_STATUS_SHADOW_LOCKED_WR, F.RNG_STATUS_LATE_COMMIT, R.RNG_LATE_FRAME, none⟩
  | .cps, false => some ⟨F.CPS_COMMIT_COMMIT, F.CPS_COMMIT_LOCKED, F.CPS_STATUS_SHADOW_LOCKED_WR, F.CPS_STATUS_LATE_COMMIT, R.CPS_LATE_FRAME, none⟩
  | .cps, true => some ⟨F.CPS_COMMIT_PCOMMIT, F.CPS_COMMIT_PLOCKED, F.CPS_STATUS_SHADOW_LOCKED_WR, F.CPS_STATUS_LATE_COMMIT, R.CPS_LATE_FRAME, none⟩
  | .dth, false => some ⟨F.DTH_COMMIT_COMMIT, F.DTH_COMMIT_LOCKED, F.DTH_STATUS_SHADOW_LOCKED_WR, F.DTH_STATUS_LATE_COMMIT, R.DTH_LATE_FRAME, some F.DTH_COMMIT_LUT_BUSY⟩
  | .odv, false => some ⟨F.ODV_COMMIT_COMMIT, F.ODV_COMMIT_LOCKED, F.ODV_STATUS_SHADOW_LOCKED_WR, F.ODV_STATUS_LATE_COMMIT, R.ODV_LATE_FRAME, some F.ODV_COMMIT_LUT_BUSY⟩
  | .dmr, false => some ⟨F.DMR_COMMIT_COMMIT, F.DMR_COMMIT_LOCKED, F.DMR_STATUS_SHADOW_LOCKED_WR, F.DMR_STATUS_LATE_COMMIT, R.DMR_LATE_FRAME, none⟩
  | .col, false => some ⟨F.COL_COMMIT_COMMIT, F.COL_COMMIT_LOCKED, F.COL_STATUS_SHADOW_LOCKED_WR, F.COL_STATUS_LATE_COMMIT, R.COL_LATE_FRAME, none⟩
  | .gsq, false => some ⟨F.GSQ_COMMIT_COMMIT, F.GSQ_COMMIT_LOCKED, F.GSQ_STATUS_SHADOW_LOCKED_WR, F.GSQ_STATUS_LATE_COMMIT, R.GSQ_LATE_FRAME, some F.GSQ_COMMIT_LOAD_BUSY⟩
  | .bias, false => some ⟨F.BIAS_COMMIT_COMMIT, F.BIAS_COMMIT_LOCKED, F.BIAS_STATUS_SHADOW_LOCKED_WR, F.BIAS_STATUS_LATE_COMMIT, R.BIAS_LATE_FRAME, none⟩
  | .bld, false => some ⟨F.BLD_COMMIT_COMMIT, F.BLD_COMMIT_LOCKED, F.BLD_STATUS_SHADOW_LOCKED_WR, F.BLD_STATUS_LATE_COMMIT, R.BLD_LATE_FRAME, none⟩
  | .bld, true => some ⟨F.BLD_COMMIT_PCOMMIT, F.BLD_COMMIT_PLOCKED, F.BLD_STATUS_SHADOW_LOCKED_WR, F.BLD_STATUS_LATE_COMMIT, R.BLD_LATE_FRAME, none⟩
  | .lda, false => some ⟨F.LDA_COMMIT_COMMIT, F.LDA_COMMIT_LOCKED, F.LDA_STATUS_SHADOW_LOCKED_WR, F.LDA_STATUS_LATE_COMMIT, R.LDA_LATE_FRAME, none⟩
  | .opt, false => some ⟨F.OPT_COMMIT_COMMIT, F.OPT_COMMIT_LOCKED, F.OPT_STATUS_SHADOW_LOCKED_WR, F.OPT_STATUS_LATE_COMMIT, R.OPT_LATE_FRAME, none⟩
  | .saf, false => some ⟨F.SAF_COMMIT_COMMIT, F.SAF_COMMIT_LOCKED, F.SAF_STATUS_SHADOW_LOCKED_WR, F.SAF_STATUS_LATE_COMMIT, R.SAF_LATE_FRAME, none⟩
  | _, _ => none

/-- Is a shadow register in its block's privileged set (R335)? -/
def privileged (a : Nat) : Bool :=
  (R.SCN_HTIME ≤ a && a ≤ R.SCN_PCLK) || a = R.CPS_TT_EN || (R.CPS_TT_POS 0 ≤ a && a < Blk.dth.base) || a = R.BLD_FLOOR

/-- The addresses of a row. -/
def RegRow.addrs (r : RegRow) : List Nat := (List.range r.count).map fun i => r.base + i * r.stride

/-- The shadow registers that a commit of a block moves (R12, R335). -/
def shadowRegs (b : Blk) (priv : Bool) : List Nat :=
  (((blockRows b.index).filter (·.shadowed)).map RegRow.addrs).flatten.filter fun a => privileged a == priv

/-- Is the shadow register at `a` of block `b` locked by a commit (R334)? -/
def State.locked (s : State) (b : Blk) (a : Nat) : Bool :=
  match commitBits b (privileged a) with
  | some c => s.flag c.locked
  | none => false

/-! ### The timing set (R318, R319, R340) -/

/-- The check of a timing set read by `get`, with the active size in force: 0, else TIMING_ERR_CODE (R344). -/
def State.timingErr (s : State) (get : Fld → Nat) : Nat :=
  let ha := get F.SCN_HTIME_H_ACTIVE
  let ht := get F.SCN_HTIME_H_TOTAL
  let hs := get F.SCN_HSYNC_H_START
  let hw := get F.SCN_HSYNC_H_SYNC
  let va := get F.SCN_VTIME_V_ACTIVE
  let vt := get F.SCN_VTIME_V_TOTAL
  let vs := get F.SCN_VSYNC_V_START
  let vw := get F.SCN_VSYNC_V_SYNC
  let vm := get F.SCN_VRR_V_TOTAL_MAX
  let vrr := get F.SCN_VRR_VRR_EN != 0
  let pc := get F.SCN_PCLK_PCLK
  if ha < 8 ∨ 7680 < ha ∨ ha % 8 ≠ 0 ∨ ht < ha + 64 ∨ 16383 < ht ∨ hw < 1 ∨ ht < hs + ha then 1
  else if va < 1 ∨ 2160 < va ∨ vs < 24 ∨ 255 < vs ∨ vw < 1 ∨ vs < vw + 1 ∨ vt < vs + va + 4 then 2
  else if vrr ∧ (vm < vt ∨ 3334 * pc < vm * ht * 100) then 3
  else if 2100000 < pc ∨ pc * 1000 < 30 * ht * vt ∨ 121 * ht * vt < pc * 1000 then 4
  else if s.mode.isDisplay ∧ (ha ≠ s.hActive ∨ va ≠ s.vActive) then 5
  else 0

/-- Does a timing set differ from the one in force only in V_TOTAL, within the variable-refresh window (R340)? -/
def State.vtotalOnly (s : State) : Bool :=
  [R.SCN_HTIME, R.SCN_HSYNC, R.SCN_VSYNC, R.SCN_VRR, R.SCN_PCLK].all (fun a => s.reg a == s.live a) &&
  s.fld F.SCN_VTIME_V_ACTIVE == s.vActive && s.liveFlag F.SCN_VRR_VRR_EN &&
  decide (s.vTotal ≤ s.fld F.SCN_VTIME_V_TOTAL) && decide (s.fld F.SCN_VTIME_V_TOTAL ≤ s.liveFld F.SCN_VRR_V_TOTAL_MAX)

/-- Is a timing set the one in force in every field? -/
def State.sameTiming (s : State) : Bool := (shadowRegs .scn true).all fun a => s.reg a == s.live a

/-- A new active size: the stores are laid out anew, empty, and the subscriptions stay (R299, R300, R319). -/
def State.relay (s : State) : State :=
  let geo := fun (i : Nat) => s.mkGeo i (s.storeStream i) (s.storeRect i)
  { s with vid := { s.vid with
      kept := [none, none, none]
      stores := (List.range 3).map fun i => { Store.reset with geo := geo i, shownGeo := geo i } } }

/-- The timing set handed over or refused (R318, R319); true where it makes a hold frame (R340). -/
def State.timingHandOver (s : State) : Bool × Bool × State :=
  let code := s.timingErr s.fld
  if code ≠ 0 then (false, false, (s.setFlag F.SCN_STATUS_TIMING_REFUSED true).setFld F.SCN_STATUS_TIMING_ERR_CODE code)
  else
    let hold := s.rs.running && !s.sameTiming && !s.vtotalOnly
    let size := decide (s.fld F.SCN_HTIME_H_ACTIVE ≠ s.hActive ∨ s.fld F.SCN_VTIME_V_ACTIVE ≠ s.vActive)
    let s1 := s.handOverAll (shadowRegs .scn true)
    let s2 : State := { s1 with rs := { s1.rs with timed := true } }
    (true, hold, if size then s2.relay else s2)

/-- The order in which commits due at once are handed over: privileged ones first, and COL last, whose check looks at the timing set
and at DTH_CTRL.DEPTH (R364, R415). -/
def inOrder (cs : List Commit) : List Commit :=
  let isCol := fun (c : Commit) => decide (c.blk = .col)
  (cs.filter fun c => c.priv) ++ (cs.filter fun c => !c.priv && !isCol c) ++ cs.filter fun c => !c.priv && isCol c

/-! ### The checks of the other sets -/

/-- Does a tell-tale window set, as its shadows hold it, break R350? The windows of the set are those whose CPS_TT_EN bit it sets
(DESIGN CHOICE, log entry 89). -/
def State.windowsBad (s : State) : Bool :=
  (List.range 32).any fun i =>
    let x := s.fld (F.CPS_TT_POS_X i)
    let y := s.fld (F.CPS_TT_POS_Y i)
    let w := s.fld (F.CPS_TT_SIZE_W i)
    let h := s.fld (F.CPS_TT_SIZE_H i)
    bitOf (s.reg R.CPS_TT_EN) i &&
      (x % 8 != 0 || y % 8 != 0 || w % 8 != 0 || h % 8 != 0 || decide (w < 8) || decide (256 < w) || decide (h < 8) ||
        decide (256 < h) || decide (s.hActive < x + w) || decide (s.vActive < y + h))

/-- Does a Weir allocation break R331? -/
def State.weirBad (s : State) : Bool :=
  let b := s.fld F.SCN_WEIR_BASE_BUF
  let o1 := s.fld F.SCN_WEIR_OV1_BUF
  let o2 := s.fld F.SCN_WEIR_OV2_BUF
  let short := fun (i n : Nat) => (s.plane i).stream.isSome && decide (n < 2)
  decide (8 < b + o1 + o2) || short 0 b || short 1 o1 || short 2 o2

/-- L_min of a BLD set under the timing in force (R445). -/
def State.rowMin (s : State) : Nat := s.vTotal / (24 * 2 ^ s.fld F.BLD_SCAN_SWEEPS)

/-- Does a BLD set break R445 or a field range (R468)? -/
def State.bldBad (s : State) : Bool :=
  let nc := s.fld F.BLD_GEOM_NCOL
  let nr := s.fld F.BLD_GEOM_NROW
  decide (nc < 1) || decide (192 < nc) || decide (nr < 1) || decide (24 < nr) || s.fld F.BLD_SCAN_SEG == 3 ||
    decide (s.fld F.BLD_BOOST_VB_MIN < 60) || decide (420 < s.fld F.BLD_BOOST_VB_MAX) ||
    decide (s.vTotal ≤ s.vStart + s.fld F.BLD_SCAN_ROW_DELAY) || decide (s.rowMin < 4)

/-- The voltages of the gamma taps must not rise from GMA1 to GMA14 (R430), in units of 10 mV / 1,023. -/
def State.tapsBad (s : State) : Bool :=
  let av : Int := 1000 + 5 * s.fld F.BIAS_AVDD_CODE
  let hav2 : Int := av + 2 * sext 6 (s.fld F.BIAS_AVDD_HAV_TRIM)
  let g := fun (k : Nat) => ((bitsOf (s.reg (R.BIAS_GMA (k / 2))) (if k % 2 = 0 then 0 else 16) 10 : Nat) : Int)
  let v := fun (k : Nat) =>
    if k < 7 then hav2 * 1023 + (2 * (av - 20) - hav2) * g k
    else 40 * 1023 + (hav2 - 40) * g k
  (List.range 13).any fun k => decide (v k < v (k + 1))

/-- Does a BIAS set break R429 or R430? -/
def State.biasBad (s : State) : Bool :=
  decide (200 < s.fld F.BIAS_VGH_CODE) || decide (100 < s.fld F.BIAS_VGL_CODE) || decide (160 < s.fld F.BIAS_AVDD_CODE) ||
    decide (800 < s.fld F.BIAS_VCOM_CODE) || s.tapsBad

/-! ### Loads (R155, R359, R378, R389, R427) -/

/-- Frame store or Pond C address that a block's load reads, and how many bytes; none where its commit loads nothing. -/
def State.loadFrom (s : State) (b : Blk) (lut : Bool) : Option (Nat × Nat) :=
  match b with
  | .rng => some (pondCLo + 16 * s.fld F.RNG_TABLE_BASE_VAL, 656)
  | .dth => if lut then some (pondCLo + 16 * s.fld F.DTH_LUT_BASE_VAL, dthImageLen) else none
  | .odv => if lut then some (fstBase + 64 * s.fld F.ODV_LUT_BASE_VAL, odvImageLen) else none
  | .dmr =>
    if s.flag F.DMR_CTRL_EN then
      some (fstBase + 64 * s.fld (if s.fld F.DMR_CTRL_SET = 0 then F.DMR_BASE0_VAL else F.DMR_BASE1_VAL), dmrHeadLen)
    else none
  | .gsq => some (pondCLo + 16 * s.fld F.GSQ_PROG_BASE_VAL, 2064)
  | _ => none

/-- The error of a loaded image: 0 where it passes; `bad` is an uncorrectable read. -/
def State.imageErr (s : State) (b : Blk) (img : List Byte) (bad : Bool) : Nat :=
  match b with
  | .rng => if bad then 6 else rngTableErr img
  | .dth => if bad then 4 else dthImageErr img
  | .odv => if bad then 4 else odvImageErr img
  | .dmr => if bad then 6 else dmrErr img s.hActive s.vActive
  | .gsq => if bad then 6 else
      let n := s.fld F.GSQ_CTRL_NPHASE
      gateErr img (if n = 0 ∨ 12 < n then 12 else n)
  | _ => 0

/-- A refused table: the status bit with its code. -/
def State.tableRefused (s : State) (b : Blk) (code : Nat) : State :=
  match b with
  | .rng => (s.setFlag F.RNG_STATUS_TABLE_ERR true).setFld F.RNG_STATUS_TABLE_ERR_CODE code
  | .dth => (s.setFlag F.DTH_STATUS_LUT_ERR true).setFld F.DTH_STATUS_LUT_ERR_CODE code
  | .odv => (s.setFlag F.ODV_STATUS_LUT_ERR true).setFld F.ODV_STATUS_LUT_ERR_CODE code
  | .dmr => (s.setFlag F.DMR_STATUS_SET_ERR true).setFld F.DMR_STATUS_SET_ERR_CODE code
  | .gsq => (s.setFlag F.GSQ_STATUS_PROG_ERR true).setFld F.GSQ_STATUS_PROG_ERR_CODE code
  | _ => s

/-! ### Hand-over -/

/-- The other one of two banks. -/
def otherBank (b : Nat) : Nat := if b = 0 then 1 else 0

/-- What a hand-over of a block does beside its shadow registers: banks switch, sets come into force; DIR_F, once it is driven, follows
DIR_FWD (R419, R434). -/
def State.applySet (s : State) (c : Commit) : State :=
  match c.blk with
  | .rng => { s with rng := { s.rng with table := some c.image } }
  | .dth =>
    if c.lut then
      let n := otherBank (s.fld F.DTH_STATUS_BANK)
      let s1 := s.setFld F.DTH_STATUS_BANK n
      { s1 with pipe := { s1.pipe with dth := listSet s1.pipe.dth n (dthTables c.image) } }
    else s
  | .odv =>
    if c.lut then
      let n := otherBank (s.fld F.ODV_STATUS_BANK)
      let s1 := s.setFld F.ODV_STATUS_BANK n
      { s1 with pipe := { s1.pipe with odv := listSet s1.pipe.odv n (c.image.take odvImageLen), odvLoaded := true } }
    else s
  | .dmr =>
    let k := s.liveFld F.DMR_CTRL_SET
    if s.liveFlag F.DMR_CTRL_EN then
      let d := dmrHeader (64 * s.liveFld (if k = 0 then F.DMR_BASE0_VAL else F.DMR_BASE1_VAL)) c.image
      let s1 := (s.setReg R.DMR_ANCHOR01 (BitVec.ofNat 32 (d.a0 + 65536 * d.a1))).setReg R.DMR_ANCHOR2
        (BitVec.ofNat 32 (d.a2 + 65536 * d.scale))
      { s1.setFld F.DMR_STATUS_SET_NOW k with pipe := { s1.pipe with dmr := some d, bands := [] } }
    else { s with pipe := { s.pipe with dmr := none, bands := [] } }
  | .gsq =>
    let n := otherBank (s.fld F.GSQ_STATUS_BANK)
    let s1 := s.setFld F.GSQ_STATUS_BANK n
    let s2 : State := { s1 with gate := { s1.gate with banks := listSet s1.gate.banks n (gateWords c.image) } }
    if s2.bias.vgh then s2.setFlag F.GSQ_OUT_DIR_F (s2.liveFlag F.GSQ_CTRL_DIR_FWD) else s2
  | _ => s

/-- The hand-over of a commit: its check, its shadow registers, what comes with them; whether it was taken and whether a
timing change makes a hold frame. -/
def State.handOverSet (s : State) (c : Commit) : Bool × Bool × State :=
  let plain := fun (s : State) => (true, false, (s.handOverAll (shadowRegs c.blk c.priv)).applySet c)
  let no := fun (s : State) => (false, false, s)
  match c.blk, c.priv with
  | .scn, true => s.timingHandOver
  | .scn, false =>
    if s.weirBad then no ((s.setFlag F.SCN_STATUS_TIMING_REFUSED true).setFld F.SCN_STATUS_TIMING_ERR_CODE 6) else plain s
  | .cps, true => if s.windowsBad then no (s.setFlag F.CPS_STATUS_WINDOW_REFUSED true) else plain s
  | .bld, false => if s.bldBad then no (s.setFlag F.BLD_STATUS_CFG_REFUSED true) else plain s
  | .bld, true =>
    if 1044225 < s.fld F.BLD_FLOOR_Z_FLOOR then no (s.setFlag F.BLD_STATUS_CFG_REFUSED true) else plain s
  | .bias, _ => if s.biasBad then no (s.setFlag F.BIAS_STATUS_SET_REFUSED true) else plain s
  | .odv, _ => if strictRises (odvThs s.fld) then plain s else no (s.tableRefused .odv 5)
  | .col, _ =>
    let r := s.colHandOver s.rs.hold
    (r.1, false, r.2)
  | _, _ => plain s

/-- A command that waits for hand-overs learns of one: its scratch words are 1 after a refusal, then the commits it still
waits for (R548). -/
def State.tellCommands (s : State) (b : Blk) (priv ok : Bool) : State :=
  let code := 2 * b.index + (if priv then 1 else 0)
  s.setCmds (s.mail.cmds.map fun (c : RunCmd) =>
    if c.phase = .waitCommit ∧ c.note.tail.contains code then
      { c with note := (if ok then c.note.headD 0 else 1) :: c.note.tail.erase code }
    else c)

/-- Commands whose hand-overs are all done complete with SCN_FRAME, or BAD_PARAM after a refusal (R548); TIMING_SET says with
it whether a hold frame was inserted (R559), and step 4 of DMR_LOAD is not its last (R564). -/
def State.commitsDone (s : State) : State :=
  s.mail.cmds.foldl (fun s (c : RunCmd) =>
    match s.cmd c.tag with
    | some c =>
      if c.phase = .waitCommit ∧ c.note.length = 1 ∧ c.status.isNone then
        if c.note.headD 0 = 0 ∧ c.opcode = 0x0600 ∧ c.step = 3 then s.stepDone c.tag []
        else if c.note.headD 0 = 0 then
          s.finishCmd c.tag stOk (leBytes 4 s.frame.toNat ++ if c.opcode = 0x0402 then padTo 0#8 1 c.result else [])
        else s.finishCmd c.tag stBadParam []
      else s
    | none => s) s

/-- A commit ends: its bits clear and it is no longer waiting. -/
def State.clearCommit (s : State) (c : Commit) : State :=
  let s1 : State := { s with commits := s.commits.erase c }
  match commitBits c.blk c.priv with
  | some b =>
    let s2 := (s1.setFlag b.commit false).setFlag b.locked false
    match b.busy with
    | some f => s2.setFlag f false
    | none => s2
  | none => s1

/-- A commit's load and check are done: a table in error ends the commit (R155, R359, R378, R389, R427). -/
def State.loadDone (s : State) (c : Commit) (bad : Bool) : State :=
  let err := s.imageErr c.blk c.image bad
  if err ≠ 0 then ((s.clearCommit c).tableRefused c.blk err).tellCommands c.blk c.priv false
  else
    let s1 : State := { s with commits := s.commits.map fun d => if d = c then { c with loading := false } else d }
    match commitBits c.blk c.priv with
    | some b => match b.busy with
      | some f => s1.setFlag f false
      | none => s1
    | none => s1

/-- A commit is handed over or refused (R334, R337); true where it makes a hold frame. -/
def State.handOverCommit (s : State) (c : Commit) : Bool × State :=
  let s1 := s.clearCommit c
  let r := s1.handOverSet c
  (r.2.1, r.2.2.tellCommands c.blk c.priv r.1)

/-- While the raster is stopped a commit is handed over once its load is done (R671). -/
def State.handNow (s : State) : State :=
  if s.rs.running then s
  else
    let ready := s.commits.filter fun c => !c.loading
    ((inOrder ready).foldl (fun s c => (s.handOverCommit c).2) s).commitsDone

/-! ### Setting a commit -/

/-- The close line of the ordinary window (R337, R344). -/
def State.closeLine (s : State) : Nat :=
  let n := s.liveFld F.SCN_CLOSE_CLOSE_LINES
  let c := if n < 16 ∨ 1023 < n then 64 else n
  if s.vActive ≤ c then s.vStart else s.vStart + s.vActive - c

/-- Is the ordinary window of the frame in progress closed? -/
def State.windowClosed (s : State) : Bool := s.rs.running && decide (s.closeLine ≤ s.rs.line)

/-- A COMMIT bit of a block is written 1 (R334, R336, R337): the shadows are locked, a load begins, and with the raster
stopped a set without a load is handed over at once (R671). -/
def State.commit (s : State) (b : Blk) (priv lut : Bool) : State :=
  match commitBits b priv with
  | none => s
  | some f =>
    if s.flag f.commit then s
    else
      let late := !priv && s.windowClosed
      let from' := if priv then none else s.loadFrom b lut
      let img := match from' with
        | some (a, n) => s.bytes a n
        | none => []
      let s1 := (s.setFlag f.commit true).setFlag f.locked true
      let s2 := if late then
          let s3 := (s1.setFlag f.late true).setReg f.lateFrame s.frame
          if b = .scn then s3.countUp F.SCN_FLIP_CNT_LATE_COMMITS else s3
        else s1
      let s4 := match f.busy, from' with
        | some g, some _ => s2.setFlag g true
        | _, _ => s2
      let s5 : State := { s4 with commits := s4.commits ++ [⟨b, priv, s.frame, late, from'.isSome, lut, img, 0⟩] }
      s5.handNow

/-- Is a commit due at the line 0 of the frame that begins: one set before it, a late one a frame later, or at the line 0 that ends a
hold frame (R336 to R338, R342)? -/
def State.due (s : State) (c : Commit) : Bool :=
  decide (c.frame ≠ s.frame) && (c.priv || !c.late || s.rs.heldBefore || decide (c.frame + 1 ≠ s.frame))

/-! ### Rows -/

/-- The block's commit by a register write, or its stall while the domain is off (R113). -/
def State.commitWrite (s : State) (b : Blk) (priv lut : Bool) (v : Word) : State :=
  if s.acts b.domain then s.commit b priv lut
  else match commitBits b priv with
    | some f => s.stallWrite f.commit.reg v
    | none => s

/-- SHADOW_COMMIT: COMMIT of a block written 1, without a table load (R337). -/
def execShadowCommit (b : Blk) (s : State) : Out := .next (s.commitWrite b false false 1)

/-- PRIVILEGED_COMMIT: PCOMMIT of CPS or BLD written 1 (R336). -/
def execPrivilegedCommit (b : Blk) (s : State) : Out :=
  match b with
  | .cps | .bld => .next (s.commitWrite b true false 2)
  | _ => .next s

/-- TIMING_COMMIT: TCOMMIT written 1 (R319, R336). -/
def execTimingCommit (s : State) : Out := .next (s.commitWrite .scn true false 2)

/-- RNG_TABLE_COMMIT (R155, R156). -/
def execRngTableCommit (s : State) : Out := .next (s.commitWrite .rng false false 1)

/-- LUT_LOAD_COMMIT: COMMIT with LUT_LOAD at DTH or ODV (R359, R389). -/
def execLutLoadCommit (b : Blk) (s : State) : Out :=
  match b with
  | .dth | .odv => .next (s.commitWrite b false true 3)
  | _ => .next s

/-- DEMURA_SET_COMMIT (R378). -/
def execDemuraSetCommit (s : State) : Out := .next (s.commitWrite .dmr false false 1)

/-- GATE_PROGRAM_COMMIT (R427). -/
def execGateProgramCommit (s : State) : Out := .next (s.commitWrite .gsq false false 1)

/-- COMMIT_LOAD_DONE: a block's load and check finish; `bad` says that a read of it was uncorrectable (R671). -/
def execCommitLoadDone (b : Blk) (bad : Bool) (s : State) : Out :=
  match s.commits.find? fun c => c.blk = b && c.loading with
  | none => .next s
  | some c => .next ((s.loadDone c bad).handNow.commitsDone)

end Sys2Proof.Machine
end

