-- ==== Sys2Proof/Machine/Power.lean ====
section
/-! DEFINITION. Sleep and wake: the vote, its refusal and restart, requests that overlap, resets and wakes (R80 rows 1 to 3, 5, 18
and 23, R121 to R142, R651). -/

namespace Sys2Proof.Machine

/-- The state with other modes and power. -/
def State.setPw (s : State) (p : Power) : State := { s with pw := p }

/-- The state with another transition. -/
def State.setTrans (s : State) (t : Transition) : State := s.setPw { s.pw with trans := t }

/-! ### Full resets (R80 rows 1 and 23, R651) -/

/-- The wake record and the wake time (R142). Every latch counts in WAKE_COUNT: each start, the one at power-on included, and each
lockstep restart (DESIGN CHOICE, log entry 75). -/
def State.wakeLatch (s : State) (source : Nat) (fromD fromS entry : Bool) (t : Time × Bool) : State :=
  let s1 := ((s.setFld F.WAKE_RECORD_SOURCE source).setFlag F.WAKE_RECORD_FROM_DORMANT fromD).setFlag
    F.WAKE_RECORD_FROM_STANDBY fromS
  let s2 := ((s1.setFlag F.WAKE_RECORD_DURING_ENTRY entry).setFlag F.WAKE_RECORD_OSC_TIME t.2).wrapUp
    F.WAKE_RECORD_WAKE_COUNT
  (s2.setFld F.WAKE_TIME_LO_VAL t.1.toNat).setFld F.WAKE_TIME_HI_VAL (t.1.toNat / 2 ^ 32)

/-- Step 1 of a start (R85, R110, R117, R142): BOOT at P0, the wake record, FAULT_N low. The transition from STANDBY counts in
MODE_SEQ; a full reset clears the count (R109). -/
def State.startStep1 (s : State) (source : Nat) (fromD fromS entry : Bool) (t : Time × Bool) : State :=
  let s1 := ((s.wakeLatch source fromD fromS entry t).setReg R.BOOT_STATUS 0xFFFF0000).levelP0
  let s2 := s1.setFld F.BOOT_STATUS_STEP 1
  s2.setPw { s2.pw with
    modeSeq := if fromS then s2.pw.modeSeq + 1 else s2.pw.modeSeq
    mode := .boot, trans := .startUp, origin := none, trigs := [], faultHeld := true, faultFrame := none
    firstLit := false, startTime := s.time, resume := fromS, revote := none }

/-- What a full reset leaves: the always-on records, PWR_SPRING, the count of refused votes, module time, the log store and
the flash, and what is outside the module; all else is at its reset value (R137, R633, R651). -/
def State.afterReset (s : State) : State :=
  let keep := s.regs.filter fun p => decide (0xF0000000 ≤ p.1)
  let s1 : State := { State.reset with
    regs := keep
    mem := s.mem.filter fun p => decide (logBase ≤ p.1)
    time := s.time
    pending := s.pending
    free := s.free
    pw := { State.reset.pw with supplied := true, refclk := s.pw.refclk, modeSeq := 0 } }
  (s1.setReg R.PWR_SPRING (s.reg R.PWR_SPRING)).setFld F.PWR_SLEEP_RESULT_REFUSE_COUNT
    (s.fld F.PWR_SLEEP_RESULT_REFUSE_COUNT)

/-- A full reset with its causes and SOURCE: BOOT with WAKE above the rising threshold, else DORMANT, where the wake record
shows the reset's source (R80 rows 1 and 23, R138). -/
def State.fullReset (s : State) (causes : List Fld) (source : Nat) : State :=
  let t := (s.time, s.oscTime)
  let s1 := causes.foldl (fun s f => s.setFlag f true) s.afterReset
  if s1.flag F.PWR_SPRING_LEVEL then s1.startStep1 source false false false t
  else
    let s2 := s1.setFld F.WAKE_RECORD_SOURCE source
    s2.setPw { s2.pw with mode := .dormant }

/-- A wake from DORMANT: a full reset and the full start (R122). -/
def State.dormantWake (s : State) (source : Nat) (entry : Bool) (t : Time × Bool) : State :=
  (s.afterReset.setFlag F.RESET_CAUSE_DORMANT_WAKE true).startStep1 source true false entry t

/-- A wake from STANDBY: step 1 of the resume (R90, R123). After CAN and SPI the timeout of R126 is armed. -/
def State.standbyWake (s : State) (source : Nat) (entry : Bool) (t : Time × Bool) : State :=
  let s1 := s.startStep1 source false true entry t
  s1.setPw { s1.pw with noWakeArmed := source != 1 && !s.flag F.PWR_SPRING_LEVEL }

/-! ### Sleep (R127 to R132) -/

/-- REFUSER code of a domain (R143). -/
def Domain.refuser : Domain → Nat
  | .aon => 0 | .light => 1 | .panel => 2 | .pix => 3 | .link => 4 | .ctrl => 5

/-- Does a command erase or program flash in the step it is at (R129, R576)? -/
def RunCmd.flashes (c : RunCmd) : Bool :=
  c.phase = .work && c.status.isNone && (c.opcode = 0x0C01 || (c.opcode = 0x0C03 && c.step = 1))

/-- Is a flash erase or program step in progress? After a refusal for one no new step starts (R132). -/
def State.flashStep (s : State) : Bool :=
  if s.pw.noFlash then s.pw.flashBusy else s.mail.cmds.any RunCmd.flashes

/-- Has a SERVICE test not reached its safe point: is a test command inside a step? -/
def State.testStep (s : State) : Bool :=
  s.mode = .service && s.mail.cmds.any fun (c : RunCmd) =>
    (c.opcode = 0x0304 || c.opcode = 0x0502 || c.opcode = 0x0705) && c.phase ≠ .boundary && c.phase ≠ .entry

/-- Does the chain's enumeration run (R129)? -/
def State.enumBusy (s : State) : Bool := s.flag (F.PORT_ADDR_ENUM_BUSY 0) || s.flag (F.PORT_ADDR_ENUM_BUSY 1)

/-- TARGET of PWR_SLEEP_RESULT. -/
def SleepTarget.code : SleepTarget → Nat
  | .standby => 0 | .dormant => 1

/-- The mode of a sleep target. -/
def SleepTarget.mode : SleepTarget → Mode
  | .standby => .standby | .dormant => .dormant

/-- The MODE_SET that asked for a sleep completes. -/
def State.tellSleep (s : State) (src : SleepSource) (status : Nat) (result : List Byte) : State :=
  match src with
  | .modeSet tag => s.finishCmd tag status result
  | .wakeFall | .timeout => s

/-- Domains restart (R130): LINK's ports retrain, the raster runs on from a new frame, the bias sequence runs; the backlight
follows one scanned frame later. -/
def State.restartAll (s : State) (e : SleepEntry) (l : List Domain) : State :=
  let s1 := if l.contains .link then [0, 1].foldl (fun s p => if s.pIsUp p then s.retrain p else s) s else s
  let s2 : State := if l.contains .pix ∧ e.rasterRan = true then
      { s1 with rs := { s1.rs with running := true, ended := true } }
    else s1
  if l.contains .panel ∧ e.panelUp = true then s2.biasUp else s2

/-- A domain refuses (R129 to R132, R143). What had stopped restarts; a domain that did not stop in time had begun to, so it
restarts too. -/
def State.refuseSleep (s : State) (e : SleepEntry) (d : Domain) (reason : Nat) : State :=
  let s1 := ((s.setFld F.PWR_SLEEP_RESULT_STATUS stBusy).setFld F.PWR_SLEEP_RESULT_REFUSER d.refuser).setFld
    F.PWR_SLEEP_RESULT_REASON reason
  let s2 := (s1.setFld F.PWR_SLEEP_RESULT_TARGET e.target.code).countUp F.PWR_SLEEP_RESULT_REFUSE_COUNT
  let s3 := s2.eventLogged 6 2 (leBytes 4 (s2.reg R.PWR_SLEEP_RESULT).toNat)
  let hold := decide (reason = 2) && (match e.source with | .modeSet _ => false | _ => true)
  let busy := hold && s3.mail.cmds.any RunCmd.flashes
  let s4 := s3.setPw { s3.pw with trans := .restarting e, noFlash := hold, flashBusy := busy, lightAt := none }
  s4.restartAll e (if reason = 0xF then d :: e.stopped else e.stopped)

/-- CTRL's reason to refuse, or 0 (R129). -/
def State.ctrlReason (s : State) : Nat := if s.flashStep then 2 else if s.testStep then 3 else 0

/-- LINK votes (R127, R129, R131): it refuses during enumeration. For a MODE_SET, CTRL's vote is fixed here, so that one whose
vote is going to succeed completes with OK before LINK stops; until CTRL has stopped no new flash step starts (log entry 72). -/
def State.linkVotes (s : State) (e : SleepEntry) : State :=
  if s.on .link && s.enumBusy then s.refuseSleep e .link 1
  else
    match e.source with
    | .modeSet _ =>
      let r := s.ctrlReason
      let s1 := s.setTrans (.entering { e with ctrl := some r })
      if r = 0 then
        (s1.setPw { s1.pw with noFlash := true, flashBusy := false }).tellSleep e.source stOk
          [BitVec.ofNat 8 e.target.mode.code]
      else s1
    | .wakeFall | .timeout => s

/-- CTRL votes (R127, R129): where its vote is not fixed yet, by what is in progress now. One that agrees starts no new flash step
and lets Juggler's channels come to their end. -/
def State.ctrlVotes (s : State) (e : SleepEntry) : State :=
  match e.ctrl with
  | some r => if r = 0 then s.dmaSleep else s
  | none =>
    let r := s.ctrlReason
    let s1 := s.setTrans (.entering { e with ctrl := some r })
    if r = 0 then (s1.setPw { s1.pw with noFlash := true, flashBusy := false }).dmaSleep else s1

/-- The stop action of a domain begins (R127). -/
def State.stopBegin (s : State) (e : SleepEntry) (d : Domain) : State :=
  match d with
  | .light => if s.flag F.BLD_CTRL_RUN then s.rampDown else s
  | .panel => if s.on .panel && s.railsUp then s.biasDown else s
  | .link => s.linkVotes e
  | .ctrl => s.ctrlVotes e
  | .aon | .pix => s

/-- The vote goes on to the next domain; one that is off votes yes at once, and a wake on demand of it is given up (R45). `n`
bounds the domains. -/
def State.voteOn : Nat → State → State
  | 0, s => s
  | n + 1, s =>
    match s.pw.trans with
    | .entering e =>
      match voteOrder.drop e.voted with
      | [] => s
      | d :: _ =>
        let s1 := s.stopBegin e d
        if s.on d then s1
        else
          match s1.pw.trans with
          | .entering e1 => voteOn n ((s1.cancelWake d).setTrans (.entering { e1 with voted := e1.voted + 1 }))
          | _ => s1
    | _ => s

/-- A sleep request is accepted (R127). A sleep that waits to be voted again stays waiting where a MODE_SET comes first (R132). -/
def State.acceptSleep (s : State) (t : SleepTarget) (src : SleepSource) : State :=
  let e : SleepEntry := ⟨t, src, 0, [], s.rs.running, s.flag F.BIAS_STATUS_UP_DONE || s.biasRising, s.flag F.BLD_CTRL_RUN, none, none⟩
  let again := match src with
    | .modeSet _ => s.pw.revote
    | .wakeFall | .timeout => none
  let s1 := s.setPw { s.pw with
    trans := .entering e, faultHeld := true, faultFrame := none, revote := again, noWakeArmed := false }
  s1.voteOn 6

/-- CTRL agrees (R127, R533, R534): every command in flight ends with ABORTED, open ledger entries are written, the sleep
record is written, the code digest is taken for STANDBY. -/
def State.ctrlAgrees (s : State) (e : SleepEntry) : State :=
  let s1 := s.dmaSleep.disableAll
  let s2 := s1.mail.cmds.foldl (fun s (c : RunCmd) => if c.status.isNone then s.endCmd c.tag stAborted [] else s) s1
  let s3 := (s2.logWriteAll s2.log.logQ.length).settle.writePersist 1
  let s4 := ((s3.setFld F.PWR_SLEEP_RESULT_STATUS stOk).setFld F.PWR_SLEEP_RESULT_REFUSER 0).setFld
    F.PWR_SLEEP_RESULT_REASON 0
  let s5 := s4.setFld F.PWR_SLEEP_RESULT_TARGET e.target.code
  s5.setPw { s5.pw with
    firmware := false, noFlash := false, flashBusy := false
    codeDigest := if e.target = .standby then some (sha256 (s5.bytes pondALo Config.codeLen)) else none }

/-- DOMAIN_STOPPED: the domain that votes has stopped, or has not stopped within 20 ms (R127, R129). A domain that has stopped
acts no more (`State.acts`). -/
def execDomainStopped (d : Domain) (stuck : Bool) (s : State) : Out :=
  match s.pw.trans with
  | .entering e =>
    if voteOrder[e.voted]? ≠ some d then .next s
    else if stuck then .next (s.refuseSleep e d 0xF)
    else if d = .panel ∧ s.biasBusy = true then .next s
    else if d = .ctrl ∧ e.ctrl.getD 0 ≠ 0 then .next (s.refuseSleep e d (e.ctrl.getD 0))
    else if d = .ctrl ∧ s.dmaEnds = true then .next s
    else
      let s1 := match d with
        | .light => s.blOff
        | .pix => { s with rs := { s.rs with running := false } }
        | .ctrl => s.ctrlAgrees e
        | .panel | .link | .aon => s
      .next ((s1.setTrans (.entering { e with voted := e.voted + 1, stopped := d :: e.stopped })).voteOn 6)
  | _ => .next s

/-! ### Requests (R133 to R136) -/

/-- A sleep that is not taken: its MODE_SET completes with ABORTED (R133). -/
def State.dropSleep (s : State) : State :=
  match s.pw.pendReq with
  | some (.sleep _ (.modeSet tag)) => s.endCmd tag stAborted []
  | _ => s

/-- A request served: a sleep is accepted, or discarded and counted where it waited and the module sleeps; a wake starts the
module where it sleeps (R134, R136). -/
def State.serve (s : State) (r : PowerReq) (entry : Bool) (t : Time × Bool) : State :=
  match r, s.mode with
  | .sleep _ _, .dormant => s.countUp F.PWR_PEND_DROP_VAL
  | .sleep _ _, .standby => s.countUp F.PWR_PEND_DROP_VAL
  | .sleep tg src, _ => s.acceptSleep tg src
  | .wake source, .dormant => s.dormantWake source entry t
  | .wake source, .standby => s.standbyWake source entry t
  | .wake _, _ => s

/-- The pending request is served at the end of a transition (R134). -/
def State.servePending (s : State) (entry : Bool) (t : Time × Bool) : State :=
  match s.pw.pendReq with
  | none => s
  | some r => (s.setPw { s.pw with pendReq := none }).serve r entry t

/-- A sleep request: taken at once, or the one pending request while a transition is in progress (R133). A sleeping module
has no transition for it. -/
def State.requestSleep (s : State) (t : SleepTarget) (src : SleepSource) : State :=
  if s.pw.trans ≠ .none then
    let s1 := s.dropSleep
    s1.setPw { s1.pw with pendReq := some (.sleep t src) }
  else if s.mode = .dormant ∨ s.mode = .standby then s
  else s.acceptSleep t src

/-- A wake: it replaces a pending sleep; during a sleep entry it waits, with the time of the crossing (R133, R135, R136). -/
def State.requestWake (s : State) (source : Nat) : State :=
  let t := (s.time, s.oscTime)
  match s.pw.trans with
  | .none => s.serve (.wake source) false t
  | .entering e =>
    let s1 := s.dropSleep
    s1.setPw { s1.pw with pendReq := some (.wake source), trans := .entering { e with wakeAt := some t } }
  | .startUp | .restarting _ =>
    match s.pw.pendReq with
    | some (.sleep _ _) =>
      let s1 := s.dropSleep
      s1.setPw { s1.pw with pendReq := some (.wake source) }
    | _ => s

/-- FALL_TARGET. -/
def State.fallTarget (s : State) : SleepTarget := if s.flag F.PWR_WAKE_EN_FALL_TARGET then .dormant else .standby

/-! ### Rows -/

/-- VIN_POWER_ON: row 1 of R80; `wakeAbove` says that WAKE is above the rising threshold. -/
def execVinPowerOn (wakeAbove : Bool) (s : State) : Out :=
  if s.pw.supplied then .next s
  else
    let s1 := (s.setFlag F.PWR_SPRING_LEVEL wakeAbove).setPw { s.pw with supplied := true }
    .next (if wakeAbove then s1.startStep1 0 false false false (s.time, s.oscTime)
      else s1.setPw { s1.pw with mode := .dormant })

/-- WAKE_RISE: a filtered rising crossing (R122, R123, R135, R136). -/
def execWakeRise (s : State) : Out :=
  if !s.pw.supplied then .next s
  else
    let s1 := s.setFlag F.PWR_SPRING_LEVEL true
    .next ((s1.setPw { s1.pw with noWakeArmed := false, revote := none, noFlash := false, flashBusy := false }).requestWake 1)

/-- WAKE_FALL: a filtered falling crossing requests sleep (R125). -/
def execWakeFall (s : State) : Out :=
  if !s.pw.supplied || !s.flag F.PWR_SPRING_LEVEL then .next s
  else
    let s1 := s.setFlag F.PWR_SPRING_LEVEL false
    .next (s1.requestSleep s1.fallTarget .wakeFall)

/-- NOWAKE_TIMEOUT: the time of R126 has passed. -/
def execNowakeTimeout (s : State) : Out :=
  if s.pw.noWakeArmed && !s.flag F.PWR_SPRING_LEVEL && s.fld F.PWR_NOWAKE_TIMEOUT_VAL != 0 then
    .next ((s.setPw { s.pw with noWakeArmed := false }).requestSleep s.fallTarget .timeout)
  else .next s

/-- SLEEP_RESTART_DONE: the restart after a refused vote is complete (R130 to R132). -/
def execSleepRestartDone (s : State) : Out :=
  match s.pw.trans with
  | .restarting e =>
    let panel := !e.panelUp || s.flag F.BIAS_STATUS_UP_DONE
    let light := !e.lit || decide (s.bl.ramp = .target) || s.bl.latch.isSome
    if panel && light then
      let again := match e.source with
        | .modeSet _ => none
        | src => some (e.target, src)
      let s1 := s.setPw { s.pw with trans := .none, lightAt := none, revote := if again.isSome then again else s.pw.revote }
      let s2 := s1.tellSleep e.source stBusy (leBytes 4 (s1.reg R.PWR_SLEEP_RESULT).toNat)
      .next (s2.servePending false (s.time, s.oscTime))
    else .next s
  | _ => .next s

/-- SLEEP_REVOTE: 100 ms after the restart, while WAKE stays low (R132). -/
def execSleepRevote (s : State) : Out :=
  match s.pw.revote with
  | none => .next s
  | some (t, src) =>
    if s.pw.trans ≠ .none then .next s
    else if s.flag F.PWR_SPRING_LEVEL then .next (s.setPw { s.pw with revote := none, noFlash := false, flashBusy := false })
    else .next (s.acceptSleep t src)

/-- SLEEP_STATE_REACHED: the stopped domains lose their power and the sleep state is reached (R45, R121, R128, R134 to R136,
R535). -/
def execSleepStateReached (s : State) : Out :=
  match s.pw.trans with
  | .entering e =>
    if e.voted < 5 then .next s
    else
      let row := if s.mode = .boot then 5 else 18
      let s1 := (((s.domainOff .light).domainOff .panel).domainOff .pix).domainOff .link
      let s2 := match e.target with
        | .dormant => s1.domainOff .ctrl
        | .standby => s1.lockMb3.setFlag Domain.ctrl.onFld false
      let s3 := s2.setPw { s2.pw with trans := .none, trigs := [], lightAt := none, firstLit := false, rom := false
                                      panelFault := false, waking := [], stalled := [] }
      .next ((s3.enterMode e.target.mode row).servePending e.wakeAt.isSome (e.wakeAt.getD (s.time, s.oscTime)))
  | _ => .next s

/-- VIN_BROWN_OUT (R139). -/
def execVinBrownOut (s : State) : Out :=
  if s.pw.supplied && s.mode ≠ .dormant then .next (s.fullReset [F.RESET_CAUSE_VIN_BOR] 2) else .next s

/-- AON_BROWN_OUT (R138). -/
def execAonBrownOut (s : State) : Out :=
  if s.pw.supplied then .next (s.fullReset [F.RESET_CAUSE_AON_BOR] 2) else .next s

/-- WATCHDOG: the watchdog expires (R80 row 23). -/
def execWatchdog (s : State) : Out :=
  if s.on .ctrl then .next (s.fullReset [F.RESET_CAUSE_WATCHDOG] 3) else .next s

/-- LOCKSTEP_RESET: the core alone is reset (R84, R142, R509). -/
def execLockstepReset (s : State) : Out :=
  if !s.on .ctrl || !s.pw.firmware then .next s
  else
    let s1 := (s.setFlag F.RESET_CAUSE_LOCKSTEP true).wakeLatch 5 false false false (s.time, s.oscTime)
    .next ((s1.setPw { s1.pw with firmware := false }).absentStart)

/-- TT_HOLD_EXPIRY: the absence count has reached 64 (R84, R509). -/
def execTtHoldExpiry (s : State) : Out :=
  if s.saf.absent && decide (64 ≤ s.fld F.SAF_ABSENT_COUNT) then
    .next (s.fullReset [F.RESET_CAUSE_TT_HOLD_EXPIRY, F.RESET_CAUSE_WATCHDOG] 3)
  else .next s

/-- SPI_CS_WAKE: a falling SPI_CS_N in STANDBY (R123, R124). -/
def execSpiCsWake (s : State) : Out :=
  if s.mode = .standby ∧ s.flag F.PWR_WAKE_EN_SPI_CS = true then .next (s.requestWake 7) else .next s

/-- TT_REQUEST (R121, R123, R488, R504): in STANDBY the message is received, and a bitmap that is not zero wakes the
module. -/
def execTtRequest (f : CanFrame) (s : State) : Out :=
  let asleep := decide (s.mode = .standby)
  match s.canTake f 0 8 with
  | none => .next s
  | some (good, s1) =>
    let s2 := if good then s1.takeRequest f.data else s1
    .next (if asleep && good && s2.flag F.PWR_WAKE_EN_CAN_TT && decide (leAt f.data 0 4 ≠ 0) then s2.requestWake 6 else s2)

/-- THERM_STANDBY_READ: every 10 s in STANDBY the panel temperature is read (R160), as R9 codes it. -/
def execThermStandbyRead (temp : BitVec 16) (s : State) : Out :=
  if s.mode = .standby then
    .next ({ s with cal := { s.cal with panel := temp.toNat } })
  else .next s

end Sys2Proof.Machine
end

