-- ==== Sys2Proof/Machine/Ledger.lean ====
section
/-! DEFINITION. What the firmware does with the ledger when it starts: the scan and its open list (R540), MARK (R541), BOOTS
(R537), the restart after a lockstep reset (R542). -/

namespace Sys2Proof.Machine

/-- Does a ledger entry have a correct CHECK and the GEN `gen`? -/
def ledgerOk (e : List Byte) (gen : Nat) : Bool :=
  byteAt e 0 / 16 = gen % 16 && decide (byteAt e 15 = crc8 (e.take 15))

/-- Ledger entry `i`, 16 bytes. -/
def State.ledgerAt (s : State) (i : Nat) : List Byte := s.bytes (ledgerBase + 16 * i) 16

/-- From NEXT on, entries of the current pass that a reset kept out of the header are accepted; at most `n` (R540). -/
def State.ledgerScan : Nat → State → State
  | 0, s => s
  | n + 1, s =>
    let next := s.ledgerNext
    let gen := s.ledgerGen
    if ledgerOk (s.ledgerAt next) gen then
      let boots := s.mle (ledgerBase + 4) 4
      ledgerScan n (if next = ledgerSize then s.ledgerHeader 1 (genNext gen) boots else s.ledgerHeader (next + 1) gen boots)
    else s

/-- The entries back to the last MARK, oldest first, and whether there was one: `i` and `gen` name the next one to read. -/
def State.ledgerBack (s : State) : Nat → Nat → Nat → List (List Byte) → List (List Byte) × Bool
  | 0, _, _, acc => (acc, false)
  | n + 1, i, gen, acc =>
    let j := if i ≤ 1 then ledgerSize else i - 1
    let g := if i ≤ 1 then (gen + 15) % 16 else gen
    let e := s.ledgerAt j
    if !ledgerOk e g then (acc, false)
    else if byteAt e 0 % 4 = 0 then (acc, true)
    else s.ledgerBack n j g (e :: acc)

/-- One entry taken into an open list of entries (mailbox, tag, opcode, cookie, step, time): a START opens a command, a STEP
moves it on, a FINISH closes it. -/
def openStep (l : List (List Nat)) (e : List Byte) : List (List Nat) :=
  let mb := byteAt e 0 / 4 % 4
  let tag := byteAt e 1 % 64
  let mine := fun (c : List Nat) => decide (c.getD 0 0 = mb ∧ c.getD 1 0 = tag)
  let row := [mb, tag, leAt e 2 2, leAt e 6 2, leAt e 4 2, leAt e 8 6]
  match byteAt e 0 % 4 with
  | 1 => l ++ [row]
  | 2 => l.map fun c => if mine c then row else c
  | 3 =>
    match l.reverse.find? mine with
    | some c => (l.reverse.erase c).reverse
    | none => l
  | _ => l

/-- A MARK entry (R538, R541). -/
def State.ledgerMark (s : State) : State :=
  s.postLedger (ledgerEntry 0 0 0 0 (s.mle (ledgerBase + 4) 4 % 65536) 0 s.time 0) 64

/-- The scan at a start or a lockstep restart (R540, R541): `boot` counts a full start. -/
def State.ledgerStart (s : State) (boot : Bool) : State :=
  let s1 := s.ledgerScan ledgerSize
  let s2 := if boot then s1.ledgerHeader s1.ledgerNext s1.ledgerGen (s1.mle (ledgerBase + 4) 4 + 1) else s1
  let (l, mark) := s2.ledgerBack ledgerSize s2.ledgerNext s2.ledgerGen []
  let opn := l.foldl openStep []
  let s3 : State := { s2 with mail := { s2.mail with openList := opn, openOverflow := !mark, ledgerAck := opn.isEmpty } }
  if opn.isEmpty then s3.ledgerMark else s3.event 12 3 [BitVec.ofNat 8 (min 255 opn.length)]

/-- Rings and indices as a full start leaves them (R515). -/
def State.ringsStart (s : State) : State :=
  let s1 := (List.range 4).foldl (fun (s : State) n => s.clearMem (cplAddr n 0) (cplAddr n 0 + 0x100)) s
  let s2 := s1.resetRegs (R.MBX_DB 0) (R.MBX_DB 0 + 0x80)
  { s2 with mail := { s2.mail with boxes := Mail.reset.boxes, cmds := [], hostWait := [], rsp := [] } }

/-- Every mailbox that a condition disabled is enabled again (R533). -/
def State.enableAll (s : State) : State := (((s.enableMb 0).enableMb 1).enableMb 2).enableMb 3

/-- The core has resumed after a lockstep reset (R509, R540, R542): the commands that were running complete with FAULT. -/
def State.lockstepResume (s : State) : State :=
  let s1 := (s.setPw { s.pw with firmware := true }).ledgerStart false
  let back := fun (c : RunCmd) => if c.phase = .boundary then { c with step := c.step - 1 } else c
  let s2 := s1.mail.cmds.foldl (fun s (c : RunCmd) =>
    if c.status.isNone then (s.setCmd (back c)).endCmd c.tag stFault [] else s) s1
  s2.eventLogged 12 1 [BitVec.ofNat 8 (s.fld F.SAF_ABSENT_COUNT)]

/-- SAF_ALIVE: ALIVE written 1 by the restarted core (R509, R542). -/
def execSafAliveWrite (s : State) : Out :=
  match execSafAlive s with
  | .next s1 => .next (if s.on .ctrl && s.saf.absent && !s.pw.firmware then s1.lockstepResume else s1)
  | o => o

end Sys2Proof.Machine
end

