-- ==== Sys2Proof/Machine/Lines.lean ====
section
/-! DEFINITION. The pixel path of a frame, line by line (R26): Weir's fetches (R331 to R333, R310, R326), the planes (R346 to
R355), tone (R356 to R366), demura bands (R374 to R377), overdrive and its history (R287 to R291, R381 to R387), and the
packets of the column link (R399). -/

namespace Sys2Proof.Machine

/-- The state with another pixel path. -/
def State.setPipe (s : State) (p : Pipe) : State := { s with pipe := p }

/-! ### Weir -/

/-- The frame that a plane keeps on the glass after a move (R305). -/
def State.keptOf (s : State) (p : Nat) : Option Kept := s.vid.kept.getD p none

/-- The subscription by which a plane shows its picture: the one of the frame that it keeps, else its own (R305). -/
def State.shownPlane (s : State) (p : Nat) : Plane :=
  match s.keptOf p with
  | some k => k.plane
  | none => s.plane p

/-- The width of a plane's lines (R332). -/
def State.planeWidth (s : State) (p : Nat) : Nat := if p = 0 then s.hActive else (s.shownPlane p).w

/-- Does a plane show a line: the base plane every one, an overlay that is enabled and subscribed those of its destination
rectangle (R332, R346, R347)? -/
def State.planeLine (s : State) (p y : Nat) : Bool :=
  if p = 0 then true
  else
    let q := s.shownPlane p
    q.stream.isSome && s.liveFlag (if p = 1 then F.CPS_CTRL_OV1_EN else F.CPS_CTRL_OV2_EN) &&
      decide (q.destY ≤ y ∧ y < q.destY + q.h)

/-- Does a plane take its lines from Sluice, not from a slot (R27)? -/
def State.bypassed (s : State) (p : Nat) : Bool := p = 0 && (s.plane 0).bypass && (s.plane 0).stream.isSome

/-- A line of the bypass stream whose pixels have all arrived (R326). -/
def State.bypassLine (s : State) (y : Nat) : Option (List Px) :=
  (s.vid.bypassLines.find? fun l => decide (l.1 = y ∧ s.hActive ≤ l.2.length)).map (·.2)

/-- Is a place of a geometry inside its rectangle and inside the stream (R250)? -/
def Geo.inside (g : Geo) (lx ly : Nat) : Bool :=
  decide (lx < g.rect.w ∧ ly < g.rect.h) && (g.stream.isNone || decide (g.rect.x + lx < g.sw ∧ g.rect.y + ly < g.sh))

/-- Column and line of pixel `x` of panel line `y` in the displayed frame of a plane (R250, R305). -/
def State.storeAt (s : State) (p x y : Nat) (g : Geo) : Nat × Nat :=
  let q := s.plane p
  if p = 0 then (x, y) else (q.cropX - g.rect.x + x, q.cropY - g.rect.y + (y - q.destY))

/-- The frame store offset of the stored line that holds pixel `x` of panel line `y`, with its column there and its tile; none where
nothing is stored for it, and none where the base plane has no stream subscribed and no splash (R346). -/
def State.fetchAt (s : State) (p x y : Nat) : Option (Nat × Nat × Nat) :=
  let st := s.store (s.storeOf p)
  let g := st.shownGeo
  let (lx, ly) := s.storeAt p x y g
  let blank := decide (p = 0) && (s.plane 0).stream.isNone && g.stream.isSome
  if st.shown && !blank && g.inside lx ly then some (g.line (slotIn st.displayed (g.tile lx ly)) ly, lx, g.tile lx ly) else none

/-- Weir's limit of a plane in pixels: its buffers (R331). -/
def State.weirCap (s : State) (p : Nat) : Nat :=
  let b := s.liveFld (if p = 0 then F.SCN_WEIR_BASE_BUF else if p = 1 then F.SCN_WEIR_OV1_BUF else F.SCN_WEIR_OV2_BUF)
  b * s.planeWidth p

/-- The fill level of a plane compared with its watermarks (R332): URGENT below WM_LO, back to RASTER at WM_HI. -/
def State.weirLevel (s : State) (p fill : Nat) : State :=
  let lo := decide (16 * fill < s.liveFld F.SCN_WEIR_WM_LO * s.weirCap p)
  let hi := decide (s.liveFld F.SCN_WEIR_WM_HI * s.weirCap p ≤ 16 * fill)
  let was := s.vid.weirUrgent.getD p false
  let now := if was then !hi else lo
  let s1 : State := { s with vid := { s.vid with weirFill := listSet s.vid.weirFill p fill, weirUrgent := listSet s.vid.weirUrgent p now } }
  if now && !was then s1.countUp F.SCN_WEIR_CNT_URGENT else s1

/-- The tiles that hold a pixel of an uncorrectable codeword, marked POISON (R310). -/
def State.poisonTiles (s : State) (p y : Nat) (bad : List Nat) : State :=
  let tiles := ((List.range (s.planeWidth p)).filterMap fun x =>
    match s.fetchAt p x y with
    | some (line, lx, t) => if (pixelWords line lx).any bad.contains then some t else none
    | none => none).dedup
  tiles.foldl (fun s t => s.poison (s.storeOf p) t) s

/-- A line of a plane read from the slots that its DISPLAYED map names: a pixel of an uncorrectable codeword is that of the line
fetched before (R301, R308, R310). The line that a plane keeps after a move is not read from a slot (R305). -/
def State.slotLine (s : State) (p y : Nat) : List Px × State :=
  match s.keptOf p with
  | some k => (k.rows.getD (y - k.plane.destY) [], s)
  | none =>
    let at' := (List.range (s.planeWidth p)).map fun x => s.fetchAt p x y
    let words := (at'.filterMap fun o => o.map fun q => pixelWords q.1 q.2.1).flatten
    let rd := s.readWords .weir false words.contains
    let v := rd.st.seen rd.left
    let above := s.pipe.last.getD p []
    let px := at'.zipIdx.map fun (o, x) =>
      match o with
      | none => Px.black
      | some (line, lx, _) => if (pixelWords line lx).any rd.bad.contains then above.getD x Px.black else v.rawPixel line lx
    let s1 := rd.st.ask (if s.vid.weirUrgent.getD p false then rankUrgent else rankRaster) words.dedup.length
    (px, if rd.bad.isEmpty then s1 else s1.poisonTiles p y rd.bad)

/-- A line in Weir's buffers of a plane. -/
def State.holdLine (s : State) (p y : Nat) (px : List Px) : State :=
  let s1 := s.setPipe { s.pipe with
    lines := listSet s.pipe.lines p (s.pipe.lines.getD p [] ++ [(y, px)])
    last := listSet s.pipe.last p px }
  s1.weirLevel p (s.vid.weirFill.getD p 0 + s.planeWidth p)

/-- The bypass lines from `y` on. -/
def State.dropBypass (s : State) (y : Nat) : State :=
  { s with vid := { s.vid with bypassLines := s.vid.bypassLines.filter fun l => decide (y < l.1) } }

/-- WEIR_LINE_FETCH: a plane's next line is fetched whole into its buffers (R310, R326, R331, R332). A line in bypass is there once
its pixels have all arrived; until then it waits for its raster position. `ups` are errors that have struck the store. -/
def execWeirLineFetch (plane : Fin 3) (y : Nat) (ups : Upsets) (s0 : State) : Out :=
  let s := s0.upset ups
  let p := plane.val
  let next := match (s.pipe.lines.getD p []).getLast? with
    | some (l, _) => decide (l < y)
    | none => true
  if !s.scanning || !decide (y < s.vActive) || !s.planeLine p y || !next ||
      decide (s.weirCap p < s.vid.weirFill.getD p 0 + s.planeWidth p) || decide (s.vStart + y < s.rs.line) then .next s
  else
    let s1 := s.reachPos (s.vStart - 4) 0
    if s1.bypassed p then
      .next (match s1.bypassLine y with
        | some px => (s1.holdLine p y px).dropBypass y
        | none => s1)
    else
      let (px, s2) := s1.slotLine p y
      .next (s2.holdLine p y px)

/-- A bypass line at its raster position: as it has arrived, else late: shown from the DISPLAYED map and counted (R326). -/
def State.bypassNow (s : State) (y : Nat) : List Px × State :=
  match s.bypassLine y with
  | some px => (px, s.dropBypass y)
  | none =>
    let (px, s1) := s.slotLine 0 y
    (px, ((s1.setFlag F.SCN_STATUS_BYPASS_LATE true).countUp F.SCN_FLIP_CNT_BYPASS_LATE).dropBypass y)

/-- The line of a plane for the pixel path: the fetched one, or the line fetched before it (black before the first), with
UNDERRUN (R333); lines up to it leave the buffers. -/
def State.takeLine (s : State) (p y : Nat) : List Px × State :=
  if !s.planeLine p y then ([], s)
  else
    let held := s.pipe.lines.getD p []
    let rest := held.filter fun l => decide (y < l.1)
    let s1 := s.setPipe { s.pipe with lines := listSet s.pipe.lines p rest }
    let s2 := s1.weirLevel p ((rest.length) * s.planeWidth p)
    match held.find? fun l => decide (l.1 = y) with
    | some (_, px) => (px, s2)
    | none =>
      if s.bypassed p then
        let (px, s3) := s2.bypassNow y
        (px, s3.setPipe { s3.pipe with last := listSet s3.pipe.last p px })
      else
        let before := (held.filter fun l => decide (l.1 < y)).getLast?
        let px := match before with
          | some (_, px) => px
          | none => if y = 0 then [] else s.pipe.last.getD p []
        (px, (s2.setFlag F.SCN_STATUS_UNDERRUN true).countUp F.SCN_WEIR_CNT_UNDERRUN)

/-! ### Planes -/

/-- Are the base plane and the overlays black (R349)? -/
def State.blackPlanes (s : State) : Bool := s.mode = .telltaleOnly || s.mode.isDark

/-- The drawn window at a panel pixel, the lowest of several (R353). -/
def State.windowAt (s : State) (x y : Nat) : Option Nat := s.drawn.find? fun i => (s.windowRect i).has x y

/-- The frame store offset of the icon pixel of window `i` at a panel pixel (R354). -/
def State.iconAt (s : State) (i x y : Nat) : Nat :=
  let r := s.windowRect i
  64 * s.liveFld (F.CPS_TT_ICON_ADDR i) + 4 * ((y - r.y) * r.w + (x - r.x))

/-- A pixel from 30 bits of a word. -/
def pxOfWord (v : Nat) : Px := Px.unpack (v % 2 ^ 30)

/-- An overlay over what lies below it; a pixel outside its stream is transparent (R250, R347, R348). -/
def State.overlay (s : State) (p : Nat) (line : List Px) (x y : Nat) (below : Px) : Px :=
  let q := s.shownPlane p
  if x < q.destX ∨ q.destX + q.w ≤ x then below
  else
    let (sw, sh) := match s.keptOf p with
      | some k => (k.sw, k.sh)
      | none => let g := (s.store (s.storeOf p)).shownGeo; (g.sw, g.sh)
    let out := decide (sw ≤ q.cropX + (x - q.destX) ∨ sh ≤ q.cropY + (y - q.destY))
    match (line.drop (x - q.destX)).head? with
    | none => below
    | some ov =>
      let key := pxOfWord (s.liveFld (if p = 1 then F.CPS_OV1_KEY_KEY else F.CPS_OV2_KEY_KEY))
      let keyed := s.liveFlag (if p = 1 then F.CPS_OV1_BLEND_KEY_EN else F.CPS_OV2_BLEND_KEY_EN)
      if out || (keyed && decide (ov = key)) then below
      else Px.zip (blend (s.liveFld (if p = 1 then F.CPS_OV1_BLEND_ALPHA else F.CPS_OV2_BLEND_ALPHA))) ov below

/-- The composed pixel of panel line `y` from the lines of the three planes (R346 to R353, R355). -/
def State.compose (s : State) (lines : List (List Px)) (x y : Nat) : Px :=
  let below := if s.blackPlanes then Px.black
    else
      let b := (lines.getD 0 []).getD x Px.black
      let o1 := if s.planeLine 1 y then s.overlay 1 (lines.getD 1 []) x y b else b
      if s.planeLine 2 y then s.overlay 2 (lines.getD 2 []) x y o1 else o1
  match s.windowAt x y with
  | none => below
  | some i =>
    let off := s.iconAt i x y
    if s.pipe.iconBad.contains (off / 64) then below
    else
      let v := s.mle (fstBase + off) 4
      if v.testBit 30 then pxOfWord v else pxOfWord (s.liveFld (F.CPS_TT_BG_BG i))

/-- A codeword that the icons of windows `hit` are read from, in the mode of FST_CTRL.ICON_DETECT; an uncorrectable one marks the windows
(R308, R355). The errors left in what is read. -/
def State.iconWord (s : State) (hit : List Nat) (cw : Nat) : SymErrs × State :=
  match s.readWord (some .icon) (s.flag F.FST_CTRL_ICON_DETECT) cw with
  | (some l, s1) => (l, s1)
  | (none, s1) =>
    let s2 := s1.setFlag F.CPS_STATUS_ICON_ERR true
    ([], s2.setPipe { s2.pipe with iconBad := cw :: s2.pipe.iconBad, iconErr := hit.foldl withBit s2.pipe.iconErr })

/-- The icon codewords that a line reads (R295, R354): those with errors, and the errors left in what is read. -/
def State.iconReads (s : State) (y : Nat) : Upsets × State :=
  let rows := s.drawn.filterMap fun i =>
    let r := s.windowRect i
    if r.y ≤ y ∧ y < r.y + r.h then some (i, s.iconAt i r.x y, 4 * r.w) else none
  let one := fun (a : Upsets × State) (p : Nat × SymErrs) =>
    let hit := rows.filter fun r => decide (r.2.1 < 64 * p.1 + 64 ∧ 64 * p.1 < r.2.1 + r.2.2)
    if hit.isEmpty then a
    else
      let (l, s1) := a.2.iconWord (hit.map (·.1)) p.1
      (if l.isEmpty then a.1 else a.1 ++ [(p.1, l)], s1)
  s.vid.flips.foldl one ([], s.ask rankRaster (rows.map fun r => wordsOf r.2.1 r.2.2).sum)

/-! ### Tone (R356 to R366) -/

/-- The tables in use. -/
def State.lut (s : State) : Lut := s.pipe.dth.getD (s.fld F.DTH_STATUS_BANK) ⟨[], []⟩

/-- A pixel with each component changed by its number. -/
def Px.mapI (f : Nat → Nat → Nat) (p : Px) : Px := ⟨f 0 p.r, f 1 p.g, f 2 p.b⟩

/-- Steps 3 and 4: linear light with the gains of the frame, or the window gains (R356, R360, R365). -/
def State.linear (s : State) (pinned : Bool) (p : Px) : Px :=
  let g := if pinned then [s.liveFld F.DTH_TT_GAIN_RG_R, s.liveFld F.DTH_TT_GAIN_RG_G, s.liveFld F.DTH_TT_GAIN_B_B]
    else [s.fld F.DTH_GAIN_NOW_RG_R, s.fld F.DTH_GAIN_NOW_RG_G, s.fld F.DTH_GAIN_NOW_B_B]
  p.mapI fun i v => gain15 (s.lut.deg (s.liveFlag F.DTH_CTRL_DEGAMMA_EN) i v) (g.getD i 0)

/-- The gain of step 5 (R361, R365). -/
def State.ldGainAt (s : State) (pinned : Bool) (x y : Nat) : Nat :=
  if pinned then s.liveFld F.DTH_TT_GAIN_B_TT_LDG
  else if s.liveFlag F.DTH_CTRL_LD_EN then
    ldGain (s.liveFld F.DTH_LD_LD_TARGET) (s.liveFld F.DTH_LD_GMAX) (s.liveFld F.DTH_LD_BMIN_BMIN) (s.fieldB x y)
  else 4096

/-- Steps 5 and 6: compensation, clip and panel gamma (R357, R361). -/
def State.toned (s : State) (g : Nat) (p : Px) : Px :=
  p.mapI fun i v => s.lut.gam (s.liveFlag F.DTH_CTRL_GAMMA_EN) i (min 65535 (gain12 v g))

/-- Components that step 5 clips (R361). -/
def clipped (g : Nat) (p : Px) : Nat := ([p.r, p.g, p.b].filter fun v => decide (65535 < gain12 v g)).length

/-- Step 9: dither to the panel depth, with phase 0 inside windows (R362, R363, R365). -/
def State.dithered (s : State) (pinned : Bool) (x y : Nat) (p : Px) : Px :=
  let f := s.fld F.DTH_PHASE_VAL
  p.mapI fun i v => dither (s.liveFlag F.DTH_CTRL_DITHER_EN) (s.liveFlag F.DTH_CTRL_DEPTH) (if pinned then 0 else (f + i) % 4) x y v

/-! ### Demura bands (R374 to R377) -/

/-- Does the active size differ from that of the set in force (R377)? -/
def State.dmrMisfit (s : State) : Bool :=
  match s.pipe.dmr with
  | some d => decide (d.w ≠ s.hActive ∨ d.h ≠ s.vActive)
  | none => false

/-- A band that gets zero offsets is counted and recorded (R376, R393). -/
def State.dmrZero (s : State) (band code seg : Nat) : State :=
  let v := code + 16 * (band % 256) + 4096 * (seg % 16) + 65536 * (s.frame.toNat % 65536)
  let s1 := (s.setReg R.DMR_LAST_ERR (BitVec.ofNat 32 v)).setFlag F.DMR_STATUS_BAND_ZERO true
  if code = 14 then s1.countUp F.DMR_CNT_LATE
  else
    let s2 := s1.countUp F.DMR_CNT_ZEROED
    if code = 15 then s2 else s2.countUp F.DMR_CNT_SEG_ERR

/-- The bands kept: the one applied now and the one fetched ahead. -/
def keepBands (l : List DmrBand) : List DmrBand := l.drop (l.length - 2)

/-- DEMURA_BAND_FETCH: the next band is fetched and decoded into the band buffer (R374 to R376). -/
def execDemuraBandFetch (band : Nat) (ups : Upsets) (s' : State) : Out :=
  let s := s'.upset ups
  match s.pipe.dmr with
  | none => .next s
  | some d =>
    if !s.scanning || s.dmrMisfit || decide (d.bands ≤ band) || s.pipe.bands.any (fun b => decide (b.band = band)) then .next s
    else
      let s0 := if band = 0 then s.reachPos (s.vStart - 20) 0 else s.reachPos (s.vStart + 16 * (band - 1)) 0
      let lo := d.base + d.dir.getD band 0
      let n := d.dir.getD (band + 1) 0 - d.dir.getD band 0
      let rd := (s0.ask rankRaster (wordsOf lo n)).readWords .dmr false fun cw => decide (lo / 64 ≤ cw ∧ cw ≤ (lo + n - 1) / 64)
      let s1 := rd.st
      let put := fun (s : State) (o : Option (List (List Px))) =>
        s.setPipe { s.pipe with bands := keepBands (s.pipe.bands ++ [⟨band, o⟩]) }
      if !rd.bad.isEmpty then
        let s2 := s1.setPipe { s1.pipe with dmrBad := s1.pipe.dmrBad ++ [band] }
        .next (put (s2.dmrZero band 15 0) none)
      else
        match dmrSegments d band (3 * d.strips) 0 ((s1.seen rd.left).fstRead lo n) [] with
        | .inl (code, seg) => .next (put (s1.dmrZero band code seg) none)
        | .inr segs => .next (put s1 (some segs))

/-- The offsets of the band of an active line; a band that is not in the buffer at its first line is late (R376). -/
def State.bandFor (s : State) (y : Nat) : Option (List (List Px)) × State :=
  match s.pipe.dmr with
  | none => (none, s)
  | some _ =>
    if s.dmrMisfit then (none, s)
    else
      match s.pipe.bands.find? fun b => decide (b.band = y / 16) with
      | some b => (b.offs, s)
      | none =>
        let s1 := s.dmrZero (y / 16) 14 0
        (none, s1.setPipe { s1.pipe with bands := keepBands (s1.pipe.bands ++ [⟨y / 16, none⟩]) })

/-- Step 7 (R370). -/
def State.demuraPx (s : State) (o : Option (List (List Px))) (x y : Nat) (p : Px) : Px :=
  match s.pipe.dmr, o with
  | some d, some segs => d.apply segs x y p
  | _, _ => p

/-! ### Overdrive and history (R287 to R291, R381 to R387) -/

/-- Bytes of a history line slot (R288). -/
def histSlot (w : Nat) : Nat := 64 * ceilDiv (w * 15) 512

/-- Frame store offsets of line `y` and its index entry in a history area (R290). -/
def State.histLine (s : State) (area y : Nat) : Nat :=
  64 * s.fld (if area = 0 then F.SLU_HIST_BASE0_VAL else F.SLU_HIST_BASE1_VAL) + histSlot s.hActive * y
def State.histIdx (s : State) (area y : Nat) : Nat :=
  64 * s.fld (if area = 0 then F.SLU_HIST_IDX0_VAL else F.SLU_HIST_IDX1_VAL) + 2 * y

/-- The header that a history line is coded under (R288). -/
def histHead (w len q : Nat) : SegHead :=
  { order := 0, stream := 0, segId := 0, x := 0, y := 0, w := w, h := 1, codedLen := len, raw := false, depth := 10, q := q
    xform := false, pred0 := 0, toNext := false }

/-- A coded line of `w` pixels decoded from the start of its slot: up to its last pixel, padding to 8 bytes not looked at. -/
def histTokens (w len q : Nat) (bs : List Byte) : Option (List Px) :=
  let d := decodeTokens (8 * bs.length + w + 1) (Seg.start (histHead w len q) bs true) []
  if d.seg.done = w then some d.px.reverse else none

/-- A RAW5 line widened (R289). -/
def raw5Line (bs : List Byte) : Nat → Nat → List Px → List Px
  | 0, _, acc => acc.reverse
  | n + 1, p, acc =>
    match rawPx bs 5 p with
    | .ok px p1 => raw5Line bs n p1 (px.map (fun v => 32 * v + 16) :: acc)
    | _ => raw5Line bs n p acc

/-- A history line by its index entry; none where it is unusable (R383). -/
def histDecode (w entry : Nat) (bs : List Byte) : Option (List Px) :=
  let form := entry % 4
  let len := 8 * (entry / 16)
  if histSlot w < len ∨ entry / 8 % 2 = 1 then none
  else if form = 3 then some (raw5Line bs w 0 [])
  else histTokens w len (2 * form + 1) (bs.take len)

/-- Does a line cross the window of a configured tell-tale (R288)? -/
def State.crossesWindow (s : State) (y : Nat) : Bool := s.configuredWindows.any fun r => decide (r.y ≤ y ∧ y < r.y + r.h)

/-- Does a candidate coding of a line stand for it: it decodes, whole, to within (q - 1) / 2 of each value, and fits its
slot (R288)? -/
def histFits (px : List Px) (q : Nat) (bs : List Byte) : Bool :=
  let w := px.length
  decide (bs.length ≤ histSlot w) &&
    match histTokens w bs.length q bs with
    | none => false
    | some out => (List.zipWith (fun (a b : Px) =>
        decide (max a.r b.r - min a.r b.r ≤ q / 2 ∧ max a.g b.g - min a.g b.g ≤ q / 2 ∧ max a.b b.b - min a.b b.b ≤ q / 2)) px out).all id

/-- The RAW5 bytes of a line (R289). -/
def raw5Bytes (px : List Px) : List Byte :=
  let c := fun (v : Nat) => min 31 ((v + 16) / 32)
  let bits := (px.map fun p => [c p.r, c p.g, c p.b]).flatten.foldl (fun a v => 32 * a + v) 0
  let n := 15 * px.length
  let len := ceilDiv n 8
  (leBytes len (bits * 2 ^ (8 * len - n))).reverse

/-- Active line `y` stored in the first form that fits, then its index entry; the codings are those of the three encoders at q = 1, 3
and 5 (R287 to R291). -/
def State.histWrite (s : State) (y : Nat) (c1 c3 c5 : List Byte) : State :=
  match s.pipe.targets.find? fun t => decide (t.1 = y) with
  | none => s
  | some (_, line) =>
    let px := line.map fun p => p.map narrowHist
    let tt := s.crossesWindow y
    let near := !tt && s.flag F.SLU_CTRL_NEAR_HIST_EN
    let (form, bs) := if histFits px 1 c1 then (0, c1)
      else if near && histFits px 3 c3 then (1, c3)
      else if near && histFits px 5 c5 then (2, c5)
      else (3, raw5Bytes px)
    let area := s.frame.toNat % 2
    let entry := form + (if tt then 4 else 0) + 16 * ceilDiv bs.length 8
    let s1 := (s.fstWrite (s.histLine area y) bs).fstWrite (s.histIdx area y) (leBytes 2 entry)
    let s2 := s1.countUp (match form with
      | 0 => F.SLU_HIST_CNT0_Q1
      | 1 => F.SLU_HIST_CNT0_Q3
      | 2 => F.SLU_HIST_CNT1_Q5
      | _ => F.SLU_HIST_CNT1_RAW5)
    let s3 := s2.setPipe { s2.pipe with targets := s2.pipe.targets.filter fun t => decide (t.1 ≠ y) }
    { s3 with vid := { s3.vid with histWritten := s3.vid.histWritten + 1 } }

/-- HISTORY_LINE_FETCH: line `y` of both areas with its index entries (R381, R383). P1 is in area (n - 1) mod 2, P2 in area n
mod 2. -/
def execHistoryLineFetch (y : Nat) (ups : Upsets) (s' : State) : Out :=
  let s := s'.upset ups
  if !s.scanning || decide (s.vActive ≤ y) || s.fld F.ODV_STATE_BYPASS ≠ 0 || s.pipe.hist.any (fun h => decide (h.y = y)) then .next s
  else
    let w := s.hActive
    let s0 := s.reachPos (s.vStart + y - 6) 0
    let n := s.frame.toNat % 2
    let one := fun (s : State) (area : Nat) =>
      let lo := s.histLine area y
      let ix := s.histIdx area y
      let rd := (s.ask rankRaster (wordsOf lo (histSlot w) + 1)).readWords .odv false
        fun cw => decide (lo / 64 ≤ cw ∧ cw ≤ (lo + histSlot w - 1) / 64) || decide (cw = ix / 64)
      let v := rd.st.seen rd.left
      let e := v.mle (fstBase + ix) 2
      let r := if rd.bad.isEmpty then histDecode w e (v.fstRead lo (histSlot w)) else none
      (r, if rd.bad.isEmpty && decide (e % 4 = 3) then rd.st.countUp F.ODV_CNT_RAW5 else rd.st)
    let (p1, s1) := one s0 (1 - n)
    let (p2, s2) := one s1 n
    let s3 := s2.setPipe { s2.pipe with hist := s2.pipe.hist ++ [⟨y, p1, p2⟩] }
    let s4 : State := { s3 with vid := { s3.vid with histFetched := s3.vid.histFetched ++ [y] } }
    .next (match s4.vid.histHeld.find? fun h => decide (h.1 = y) with
      | some (_, c1, c3, c5) =>
        ({ s4 with vid := { s4.vid with histHeld := s4.vid.histHeld.filter fun h => decide (h.1 ≠ y) } }).histWrite y c1 c3 c5
      | none => s4)

/-- The history of a line for ODV: both lines, or none with HIST_ERR (R383). -/
def State.histFor (s : State) (y : Nat) : Option (List Px × List Px) × State :=
  if s.fld F.ODV_STATE_BYPASS ≠ 0 then (none, s)
  else
    let s1 := s.setPipe { s.pipe with hist := s.pipe.hist.filter fun h => decide (y < h.y) }
    match s.pipe.hist.find? fun h => decide (h.y = y) with
    | some ⟨_, some a, some b⟩ => (some (a, b), s1)
    | _ => (none, (s1.setFlag F.ODV_STATUS_HIST_ERR true).countUp F.ODV_CNT_UNCHANGED)

/-- Step 8 of one pixel (R384, R385, R387). -/
def State.overdrivePx (s : State) (h : Option (List Px × List Px)) (x : Nat) (p : Px) : Px :=
  match h with
  | none => p
  | some (a, b) =>
    let img := s.pipe.odv.getD (s.fld F.ODV_STATUS_BANK) []
    let h1 := a.getD x Px.black
    let h2 := b.getD x Px.black
    p.mapI fun i v => odvComp img (s.fld F.ODV_STATE_BIN) (s.liveFld F.ODV_CTRL_STRENGTH) (s.liveFlag F.ODV_CTRL_TRAJ_EN) v
      (h1.comp i) (h2.comp i)

/-- HISTORY_LINE_WRITE: the line encoder stores active line `y`; a write that would come before ODV's fetch of the line waits for it,
and is counted once (R287 to R291). The operands are the codings its three encoders found, at q = 1, 3 and 5: the spec leaves their
tokens to them. -/
def execHistoryLineWrite (y : Nat) (c1 c3 c5 : List Byte) (s : State) : Out :=
  if !s.scanning || !s.flag F.SLU_STATUS_HIST_ON || !(s.pipe.targets.any fun t => decide (t.1 = y)) ||
      s.vid.histHeld.any (fun h => decide (h.1 = y)) then .next s
  else if decide (s.fld F.ODV_STATE_BYPASS = 0) && !s.vid.histFetched.contains y then
    let s1 := (s.setFlag F.SLU_EVENT_HIST_WAIT true).countUp F.SLU_HIST_WAIT_VAL
    .next { s1 with vid := { s1.vid with histHeld := s1.vid.histHeld ++ [(y, c1, c3, c5)] } }
  else .next (s.histWrite y c1 c3 c5)

/-! ### A line -/

/-- One pixel of a line through steps 2 to 9: the linear value for LDA's statistics (none inside a window), clips, the code
after demura, the code for the panel. -/
def State.pixelAt (s : State) (lines : List (List Px)) (band : Option (List (List Px))) (hist : Option (List Px × List Px))
    (x y : Nat) : Option Nat × Nat × Px × Px :=
  let pinned := (s.windowAt x y).isSome
  let lin := s.linear pinned (s.compose lines x y)
  let g := s.ldGainAt pinned x y
  let dem := s.demuraPx band x y (s.toned g lin)
  let ov := if pinned then dem else s.overdrivePx hist x dem
  (if pinned then none else some (max lin.r (max lin.g lin.b)), clipped g lin, dem, s.dithered pinned x y ov)

/-- An active line through the pixel path (R26): the codes for the column link, the statistics, the line encoder's input. -/
def State.lineCodes (s : State) (y : Nat) : List Px × State :=
  let (l0, s1) := s.takeLine 0 y
  let (l1, s2) := s1.takeLine 1 y
  let (l2, s3) := s2.takeLine 2 y
  let (left, s4) := s3.iconReads y
  let s5 := if s4.liveFlag F.DTH_CTRL_LD_EN then s4.fieldLate y else s4
  let (band, s6) := s5.bandFor y
  let (hist, s7) := s6.histFor y
  let v := s7.seen left
  let out := (List.range s7.hActive).map fun x => v.pixelAt [l0, l1, l2] band hist x y
  let s8 := s7.countUp F.DTH_CNT_LD_CLIP ((out.map fun o => o.2.1).sum)
  let s9 := s8.countLine y (out.map fun o => o.1)
  let s10 := if s9.flag F.SLU_STATUS_HIST_ON then
      s9.setPipe { s9.pipe with targets := s9.pipe.targets ++ [(y, out.map fun o => o.2.2.1)] }
    else s9
  (out.map fun o => o.2.2.2, s10)

/-- COLUMN_LINE_SEND: the line packet of an active line after the LOAD set of the line before, phase 0 or, in dual mode, 1; in the
line after the last active one the LOAD set alone (R399 to R402, R405).
`ups` are errors that have struck the frame store. -/
def execColumnLineSend (y : Nat) (phase : Fin 2) (ups : Upsets) (s' : State) : Out :=
  let s := s'.upset ups
  let p := phase.val
  let due := match s.col.load with
    | none => decide (y = 0 ∧ p = 0)
    | some (y0, p0) => if s.colDual ∧ p0 = 0 then decide (y = y0 ∧ p = 1) else decide (y = y0 + 1 ∧ p = 0)
  if !s.on .panel || !s.flag F.COL_CTRL_RUN || !s.flag F.BIAS_STATUS_UP_DONE || !s.scanning || !s.col.fits || !due || decide (s.vActive < y) then .next s
  else
    let s0 := (s.reachPos (s.vStart + y) (128 * p)).strayAct ownCol (s.vStart + y) (128 * p)
    let (px, s1) := if y = s.vActive then ([], s0) else if p = 1 then (match s0.col.codes with
        | some (_, px) => (px, s0)
        | none => ([], s0))
      else s0.lineCodes y
    let s2 := s1.sendLine y p px
    .next { s2 with col := { s2.col with load := some (y, p), codes := some (y, px) } }

end Sys2Proof.Machine
end

