-- ==== Sys2Proof/Machine/Bus.lean ====
section
/-! DEFINITION. The address space as its masters see it (R10 to R14, R25, R31, R113, R115, R309, R316, R601 to R609): what a
register read gives, what a register write does, and reads and writes of memory. -/

namespace Sys2Proof.Machine

/-- The state after a row that always goes on. -/
def after (o : Out) (s : State) : State :=
  match o with
  | .next t => t
  | .fault _ => s
  | .refused _ => s

/-- The index of the register at `a` among `count` registers from `base`, `stride` bytes apart. -/
def regIx (base stride count a : Nat) : Option Nat :=
  if base ≤ a ∧ (a - base) % stride = 0 ∧ (a - base) / stride < count then some ((a - base) / stride) else none

/-! ### Reads -/

/-- The live counters of R635. -/
def liveCounters : List Nat :=
  ([0, 1].map fun p => ((List.range 9).map fun l => R.PORT_LANE_ERR p l) ++
    [R.PORT_PKT_ERR p, R.PORT_REPLAY p, R.PORT_STALL p, R.PORT_FWD_CNT p]).flatten ++
  [R.SLU_ERR_CNT0, R.SLU_ERR_CNT1, R.SLU_SEG_CNT, R.SLU_PIX_CNT, R.SLU_HIST_CNT0, R.SLU_HIST_CNT1, R.SLU_HIST_WAIT,
    R.FST_ECC_CNT, R.FST_COPY_CNT, R.FST_SCRUB_CNT, R.SCN_WEIR_CNT, R.SCN_FLIP_CNT, R.SCN_EXT_CNT,
    R.RNG_USED 0, R.RNG_USED 1, R.RNG_USED 2, R.RNG_USED 3, R.RNG_USED 4,
    R.DTH_CNT, R.DMR_CNT, R.ODV_CNT, R.COL_CNT, R.GSQ_CNT, R.BLD_CNT, R.LDA_CNT, R.SAF_CNT, R.DMA_CNT, R.DMA_BYTES,
    R.SYS_POND_ECC, R.SYS_POND_CONF_A, R.SYS_POND_CONF_A2, R.SYS_POND_CONF_B, R.SYS_POND_CONF_B2, R.SYS_POND_CONF_C,
    R.SYS_POND_CONF_C2, R.SYS_POND_SPLIT, R.SYS_EDDY_CNT]

/-- The latched value of a live counter (R635). -/
def State.snapOf (s : State) (a : Nat) : Word := mapGet (fun _ => 0) s.snap a

/-- INL_PKT_STATUS and CHN_PKT_STATUS (R255). -/
def State.pktStatus (s : State) (p : Nat) : Nat :=
  let x := (s.port p).tx
  let b := fun (v : Bool) (i : Nat) => if v then 2 ^ i else 0
  let next := [PClass.video, .control, .event].filterMap fun c => (x.pick p c).map fun o => (c, o.1.payload.length)
  let waits := next.any fun o => !x.hasCredit o.1 (creditsOf o.2)
  let window := decide (256 ≤ x.unacked.length) || next.any fun o => !x.hasWindow o.2
  b (s.pIsUp p && x.gotCredit) 0 + b (!x.resend.isEmpty && !x.afresh) 1 + b (s.recovering p) 2 + b waits 3 + b window 4 +
    2 ^ 8 * min 15 ((x.unacked.map fun k => k.replays).foldl max 0)

/-- INL_CREDIT and CHN_CREDIT (R255), each field held at its greatest value. -/
def State.pktCredit (s : State) (p : Nat) : Nat :=
  let x := (s.port p).tx
  min 4095 (x.avail .video) + 2 ^ 12 * min 1023 (x.avail .control) + 2 ^ 22 * min 1023 (x.avail .event)

/-- MBX_STATUS (R543). -/
def State.mbxStatus (s : State) : Nat :=
  ((List.range 4).map fun n => if s.mbDisabled n then 2 ^ n else 0).sum + (if s.mail.unlocked then 16 else 0) +
    256 * ((List.range 4).map fun n => s.outstanding n).sum

/-- SYS_INT_STATUS (R642). -/
def State.intStatus (s : State) : Nat :=
  (if 0 < (s.mb 1).unread then 1 else 0) + (if 0 < (s.mb 3).unread then 2 else 0) + (if s.logUnread then 4 else 0)

/-- Is INT_N driven low (R642)? -/
def State.intLow (s : State) : Bool := (s.intStatus &&& (s.reg R.SYS_INT_EN).toNat) != 0

/-- SYS_PINS (R651, R64). -/
def State.pins (s : State) : Nat :=
  (if s.intLow then 1 else 0) + (if s.faultLow then 2 else 0) + 4 * s.fld F.PWR_SPRING_LEVEL

/-- The copy of SYS_TIME_HI of a master (R634). -/
def State.timeCopy (s : State) (m : Master) : Word :=
  match m with
  | .core | .seq => s.timeHi.core
  | .dma => s.timeHi.dma
  | .port => s.timeHi.port

/-- The registers that show state held elsewhere; none for the others. -/
def State.view (s : State) (m : Master) (a : Nat) : Option Nat :=
  match blkOf a with
  | some .inl => if a = R.PORT_PKT_STATUS 0 then some (s.pktStatus 0)
    else if a = R.PORT_CREDIT 0 then some (s.pktCredit 0)
    else if a = R.PORT_SUBS 0 then some s.subs
    else none
  | some .chn => if a = R.PORT_PKT_STATUS 1 then some (s.pktStatus 1)
    else if a = R.PORT_CREDIT 1 then some (s.pktCredit 1)
    else none
  | some .slu => if a = R.SLU_HIST_LINE then some (histSlot s.hActive) else none
  | some .fst => if a = R.FST_STATUS then some (1 + (if s.vid.scrubFly.isSome then 2 else 0) + if s.poisoned then 4 else 0) else none
  | some .scn => if a = R.SCN_POS then some s.scnPos.toNat else none
  | some .rng => if a = R.RNG_POS then some s.rngPos.toNat else none
  | some .bld =>
    if a = R.BLD_UNVER then some s.unver.toNat
    else (regIx (R.BLD_ZSTAT 0) 4 4608 a).map fun z => (s.zstat z).toNat
  | some .lda => (regIx (R.LDA_ZVAL 0) 4 4608 a).map fun z => s.lda.zp.getD z 0
  | some .saf => if a = R.SAF_REQ_LIVE then some s.reqLive.toNat else none
  | some .mbx =>
    if a = R.MBX_STATUS then some s.mbxStatus
    else (regIx (R.MBX_OUT 0) 32 4 a).map fun n => s.outstanding n
  | some .dma =>
    if a = R.DMA_STATUS then some s.dmaStatus
    else (regIx (R.DMA_CH_STATUS 0) 64 16 a).map fun n =>
      s.chanState n + 8 * s.fld (F.DMA_CH_STATUS_EMPTY n) + if heavy n then 16 else 0
  | some .sys =>
    if a = R.SYS_MODE then some s.sysMode.toNat
    else if a = R.SYS_SERIAL_LO then some (Config.serial.toNat % 2 ^ 32)
    else if a = R.SYS_SERIAL_HI then some (Config.serial.toNat / 2 ^ 32)
    else if a = R.SYS_TIME_LO then some (s.time.toNat % 2 ^ 32)
    else if a = R.SYS_TIME_HI then some (s.timeCopy m).toNat
    else if a = R.SYS_SNAP_DATA then
      let c := (s.reg R.SYS_SNAP_ADDR).toNat
      some (if liveCounters.contains c then (s.snapOf c).toNat else 0)
    else if a = R.SYS_INT_STATUS then some s.intStatus
    else if a = R.SYS_PINS then some s.pins
    else if a = R.SYS_LOG_STATUS then
      let n := s.log.logQ.length
      some (n % 64 + (if 32 ≤ n then 64 else 0) + 128 * s.fld F.SYS_LOG_STATUS_SCANNED)
    else (regIx (R.SYS_FUSE 0) 4 6 a).map fun k => (Config.fuse k).toNat
  | _ => none

/-- What a read of a register gives (R12 to R14). -/
def State.peek (s : State) (m : Master) (a : Nat) : Word :=
  match s.view m a with
  | some v => BitVec.ofNat 32 v
  | none => s.reg a

/-- SYS_TIME_LO is read: its master's copy of the high bits is taken (R634). -/
def State.copyTime (s : State) (m : Master) : State :=
  let v := BitVec.ofNat 32 (s.time.toNat / 2 ^ 32 + if s.oscTime then 65536 else 0)
  match m with
  | .core | .seq => { s with timeHi := { s.timeHi with core := v } }
  | .dma => { s with timeHi := { s.timeHi with dma := v } }
  | .port => { s with timeHi := { s.timeHi with port := v } }

/-- What an access comes to: it stalls for a domain, it is refused under R115, it completes with a bus error, or with bytes. -/
inductive Access where
  | stalls
  | refused
  | error
  | done (bs : List Byte)
deriving DecidableEq, Repr

/-- A domain that is off, or has stopped for a sleep entry, is accessed (R113, R115). -/
def State.wake (s : State) (d : Domain) : Access × State :=
  let (stalls, s1) := s.demand d
  (if stalls then .stalls else .refused, s1)

/-- A read of a register (R25, R113, R115, R634). A refused one reads 0. -/
def State.regRead (s : State) (m : Master) (a : Nat) : Access × State :=
  match blkOf a with
  | none => (.done (leBytes 4 (s.peek m a).toNat), s)
  | some b =>
    if !s.acts b.domain then s.wake b.domain
    else (.done (leBytes 4 (s.peek m a).toNat), if a = R.SYS_TIME_LO then s.copyTime m else s)

/-! ### Writes -/

/-- A plain write: RW bits are stored, W1C bits written 1 clear, all others stay (R12, R13). -/
def State.store1 (s : State) (r : RegRow) (a : Nat) (v : Word) : State :=
  let rw := BitVec.ofNat 32 r.rw
  let w1c := BitVec.ofNat 32 r.w1c
  s.setReg a ((s.reg a &&& ~~~rw &&& ~~~(w1c &&& v)) ||| (v &&& rw))

/-- A write to a register without an effect of its own; a locked shadow register keeps its value and SHADOW_LOCKED_WR is set
(R334). -/
def State.plainWrite (s : State) (a : Nat) (v : Word) : State :=
  match regRow? a, blkOf a with
  | none, _ => s
  | some r, some b =>
    if r.shadowed && s.locked b a then
      match commitBits b (privileged a) with
      | some c => s.setFlag c.lockedWr true
      | none => s
    else s.store1 r a v
  | some r, none => s.store1 r a v

/-- A write to a block's COMMIT register (R334 to R338). -/
def State.commitReg (s : State) (b : Blk) (v : Word) : State :=
  match b with
  | .dth | .odv => if bitOf v 0 then s.commit b false (bitOf v 1) else s
  | .scn | .cps | .bld =>
    let s1 := if bitOf v 1 then s.commit b true false else s
    if bitOf v 0 then s1.commit b false false else s1
  | _ => if bitOf v 0 then s.commit b false false else s

/-- RUN of SCN_CTRL written 1; a commit that still loads is due at the first line 0 (R320, R671). -/
def State.rasterStart (s : State) : State :=
  if s.flag F.SCN_CTRL_RUN then s
  else if s.rs.timed then
    let s1 := s.setFlag F.SCN_CTRL_RUN true
    if s1.rs.running then s1
    else
      { s1.setReg R.SCN_FRAME (s1.reg R.SCN_FRAME_LOAD) with
        rs := { s1.rs with running := true, ended := true, first := true }
        commits := s1.commits.map fun c => { c with frame := s1.reg R.SCN_FRAME_LOAD - 1, late := false } }
  else (s.setFlag F.SCN_STATUS_TIMING_REFUSED true).setFld F.SCN_STATUS_TIMING_ERR_CODE 7

/-- A write of SCN_CTRL: RUN = 0 stops the raster at the end of the frame in progress (R320). -/
def State.scnCtrl (s : State) (v : Word) : State :=
  let s1 := (s.setFlag F.SCN_CTRL_FOLLOW (bitOf v F.SCN_CTRL_FOLLOW.lo)).setFlag
    F.SCN_CTRL_FS_EVENT (bitOf v F.SCN_CTRL_FS_EVENT.lo)
  if bitOf v 0 then s1.rasterStart else s1.setFlag F.SCN_CTRL_RUN false

/-- A write of BLD_CTRL (R456, R457, R462, R466). -/
def State.bldCtrl (s : State) (v : Word) : State :=
  let x := bitOf v F.BLD_CTRL_X_EN.lo
  let rise := x && !s.flag F.BLD_CTRL_X_EN
  let s1 := s.setFlag F.BLD_CTRL_X_EN x
  let s2 := if rise then (s1.setBl { s1.bl with xcount := true }).setFlag F.BLD_XSTAT_CHAIN_OK false else s1
  let s3 := if bitOf v F.BLD_CTRL_STAGE_CLR.lo then after (execStageClr false s2) s2 else s2
  let s4 := if bitOf v F.BLD_CTRL_RUN.lo then (if s3.flag F.BLD_CTRL_RUN then s3 else after (execBacklightRun s3) s3)
    else after (execBacklightStop s3) s3
  if bitOf v F.BLD_CTRL_NBR_START.lo then after (execNbrStart s4) s4 else s4

/-- A write of OPT_CTRL: LOOP_EN = 0 freezes the gains, 1 resumes at the next full period (R485). -/
def State.optCtrl (s : State) (v : Word) : State :=
  let rise := bitOf v 0 && !s.flag F.OPT_CTRL_LOOP_EN
  let s1 := s.setFlag F.OPT_CTRL_LOOP_EN (bitOf v 0)
  if rise then ({ s1 with opt := { s1.opt with light := [0, 0, 0], periodFrames := 0 } } : State).setFld F.OPT_CNT_VALID 0 else s1

/-- A write of SAF_CTRL (R507). -/
def State.safCtrl (s : State) (v : Word) : State :=
  let s1 := (s.setFlag F.SAF_CTRL_FAULT_ACTION (bitOf v F.SAF_CTRL_FAULT_ACTION.lo)).setFlag F.SAF_CTRL_PROOF_EV
    (bitOf v F.SAF_CTRL_PROOF_EV.lo)
  let s2 := if bitOf v F.SAF_CTRL_SAFE_SET.lo then s1.safeLatch true else s1
  if bitOf v F.SAF_CTRL_SAFE_CLR.lo then s2.safeLatch false else s2

/-- A write of MBX_CTRL: a mailbox whose EN is written 0 is disabled (R533, R534). -/
def State.mbxCtrl (s : State) (v : Word) : State :=
  let was := s.fld F.MBX_CTRL_EN
  let s1 := s.setFld F.MBX_CTRL_EN (v.toNat % 16)
  (List.range 4).foldl (fun s n =>
    if was.testBit n && !v.toNat.testBit n && !(s.mb n).disabledBy then s.disableActs n else s) s1

/-- A write of PWR_SPRING (R137). -/
def State.springWrite (s : State) (v : Word) : State :=
  let t := v.toNat % 128
  let s1 := if bitOf v F.PWR_SPRING_BAD_WR.lo then s.setFlag F.PWR_SPRING_BAD_WR false else s
  if 0x46 < t then s1.setFlag F.PWR_SPRING_BAD_WR true else s1.setFld F.PWR_SPRING_THRESH t

/-- A write of SYS_SNAP_ADDR (R637). -/
def State.snapAddr (s : State) (v : Word) : State :=
  (s.setReg R.SYS_SNAP_ADDR v).setFlag F.SYS_SNAP_THI_SNAP_BAD (!liveCounters.contains v.toNat)

/-- A write of SYS_LOG_POSTk; the fourth queues the part (R647). -/
def State.logPostWrite (s : State) (k : Nat) (v : Word) : State :=
  let st := listSet (padTo 0 4 s.log.logStage) k v
  let s1 : State := { s with log := { s.log with logStage := st } }
  if k = 3 then s1.postFirmwarePart (st.map fun w => leBytes 4 w.toNat).flatten else s1

/-- A write of COL_RETRAIN names lanes (R411). -/
def State.askRetrain (s : State) (v : Word) : State :=
  s.mapCl fun l x => if bitOf v l then { x with asked := true } else x

/-- A write of CAL_LANE_MAP, CAL_LANE_TRIM or CAL_SINK (R626, R632), or another register of CAL. -/
def State.calWrite (s : State) (a : Nat) (v : Word) : State :=
  if (regIx (R.CAL_LANE_MAP 0) 4 11 a).isSome || (regIx (R.CAL_LANE_TRIM 0) 4 11 a).isSome || (regIx (R.CAL_SINK 0) 4 192 a).isSome then
    after (execCalElementWrite (BitVec.ofNat 32 a) v s) s
  else s.plainWrite a v

/-- A write of a register of Juggler (R590 to R592, R600). -/
def State.dmaWrite (s : State) (a : Nat) (v : Word) : State :=
  match regIx (R.DMA_CH_CTRL 0) 64 16 a, regIx (R.DMA_CH_DESC 0) 64 16 a, regIx (R.DMA_CH_COUNT 0) 64 16 a,
      regIx (R.DMA_CH_COUNT_ADD 0) 64 16 a with
  | some n, _, _, _ => s.chanCtrl n v
  | _, some n, _, _ => s.chanDesc n v
  | _, _, some n, _ => s.chanCount n v
  | _, _, _, some n => s.chanAdd n v
  | none, none, none, none =>
    match regIx (R.DMA_QADD 0) 4 4 a, regIx (R.DMA_QSUB 0) 4 4 a with
    | some q, _ => s.queueMove q (v.toNat % 2 ^ 24) 0
    | _, some q => s.queueMove q 0 (v.toNat % 2 ^ 24)
    | none, none => s.plainWrite a v

/-- A write of a mailbox register (R517, R518, R533). -/
def State.mbxWrite (s : State) (a : Nat) (v : Word) : State :=
  if a = R.MBX_CTRL then s.mbxCtrl v
  else
    match regIx (R.MBX_DB 0) 32 4 a, regIx (R.MBX_CPL_HEAD 0) 32 4 a with
    | some n, _ => s.ring n (v.toNat % 16)
    | _, some n => s.consume n ((v.toNat % 16 + 16 - s.fld (F.MBX_CPL_HEAD_CPL_HEAD n)) % 16)
    | none, none => s.plainWrite a v

/-- A write of a register of Tightrope (R488, R491, R495, R507, R509). -/
def State.safWrite (s : State) (a : Nat) (v : Word) : State :=
  if a = R.SAF_CTRL then s.safCtrl v
  else if a = R.SAF_PARTNER_REQ then after (execSafPartnerReqWrite v s) s
  else if a = R.SAF_HOST_REQ then (s.setReg a v).ttYield
  else if a = R.SAF_HOLD then after (execSafHoldWrite v s) s
  else if a = R.SAF_ALIVE then (if bitOf v 0 then after (execSafAliveWrite s) s else s)
  else s.plainWrite a v

/-- A write of a register of PWR, the governor included (R137, R175, R177). -/
def State.pwrWrite (s : State) (a : Nat) (v : Word) : State :=
  if a = R.PWR_SPRING then s.springWrite v
  else if a = R.GOV_BUDGET then after (execGovBudgetWrite v s) s
  else if a = R.GOV_CTRL then after (execGovManualWrite v s) s
  else s.plainWrite a v

/-- A write of a register of SYS. -/
def State.sysWrite (s : State) (a : Nat) (v : Word) : State :=
  if a = R.SYS_SNAP_ADDR then s.snapAddr v
  else match regIx (R.SYS_LOG_POST 0) 4 4 a with
    | some k => s.logPostWrite k v
    | none => s.plainWrite a v

/-- A write of a lane's PHY register. With ADAPT = 0 the equaliser of a receive lane holds PEAK (R202). -/
def State.portPhy (s : State) (p l : Nat) (v : Word) : State :=
  let s1 := s.plainWrite (R.PORT_LANE_PHY p l) v
  if (rxLanes p).contains l && !s1.flag (F.PORT_LANE_PHY_ADAPT p l) then
    s1.setFld (F.PORT_LANE_PHY_PEAK_NOW p l) (s1.fld (F.PORT_LANE_PHY_PEAK p l))
  else s1

/-- A write of a register of a port (R194, R202, R208, R210). -/
def State.portWrite (s : State) (p : Fin 2) (a : Nat) (v : Word) : State :=
  if a = R.PORT_CTRL p then s.portCtrl p v
  else if a = R.PORT_LOOP p then s.portLoop p v
  else if a = R.PORT_PAT p then s.portPat p v
  else
    match regIx (R.PORT_LANE_PHY p 0) 4 9 a with
    | some l => s.portPhy p l v
    | none => s.plainWrite a v

/-- What a write to a register of a block that is on does. -/
def State.blkWrite (s : State) (b : Blk) (a : Nat) (v : Word) : State :=
  if (commitBits b false).any fun c => decide (c.commit.reg = a) then s.commitReg b v
  else
    match b with
    | .inl => s.portWrite 0 a v
    | .chn => s.portWrite 1 a v
    | .scn => if a = R.SCN_CTRL then s.scnCtrl v else s.plainWrite a v
    | .col =>
      if a = R.COL_CTRL then
        (if bitOf v 0 && !s.flag F.COL_CTRL_RUN then s.colBringUp
          else if !bitOf v 0 && s.flag F.COL_CTRL_RUN then s.colStop else s)
      else if a = R.COL_RETRAIN then s.askRetrain v
      else s.plainWrite a v
    | .bias =>
      if a = R.BIAS_CTRL then
        let s1 := s.setFlag F.BIAS_CTRL_VCOM_CL (bitOf v F.BIAS_CTRL_VCOM_CL.lo)
        if bitOf v 0 then s1.biasUp else s1.biasDown
      else s.plainWrite a v
    | .bld =>
      if a = R.BLD_CTRL then s.bldCtrl v
      else if (regIx (R.BLD_XCUR 0) 4 32 a).isSome then (s.plainWrite a v).setBl { (s.plainWrite a v).bl with xdirty := true }
      else s.plainWrite a v
    | .opt => if a = R.OPT_CTRL then s.optCtrl v else s.plainWrite a v
    | .saf => s.safWrite a v
    | .mbx => s.mbxWrite a v
    | .dma => s.dmaWrite a v
    | .pwr => s.pwrWrite a v
    | .cal => s.calWrite a v
    | .sys => s.sysWrite a v
    | .slu | .fst | .rng | .cps | .dth | .odv | .dmr | .gsq | .lda => s.plainWrite a v

/-- A write of a register: it stalls while its domain wakes, or has no effect where the wake is refused (R25, R113, R115). -/
def State.regWrite (s : State) (a : Nat) (v : Word) : State :=
  match blkOf a with
  | none => if 0xF0000000 ≤ a then s.plainWrite a v else s
  | some b => if s.acts b.domain then s.blkWrite b a v else s.stallWrite a v

/-! ### Ponds (R603 to R605, R608, R613) -/

/-- Code of a master in SYS_POND_ERR_INFO (R615). -/
def Master.code : Master → Nat
  | .core => 0 | .dma => 1 | .port => 2 | .seq => 3

/-- First address of Eddy's slice `i` of 0 to 2,303 (R612). -/
def sliceAddr (i : Nat) : Nat :=
  if i < 1536 then 256 * i else if i < 2048 then pondBLo + 256 * (i - 1536) else pondCLo + 256 * (i - 2048)

/-- Is an address in the slice that Eddy has borrowed (R613)? -/
def State.borrowed (s : State) (a : Nat) : Bool :=
  s.flag F.SYS_EDDY_STATUS_BORROWED && decide (sliceAddr s.eddy.slice ≤ a ∧ a < sliceAddr s.eddy.slice + 256)

/-- An uncorrectable pond word; one that the core meets in Pond A is fatal to the firmware (R604, log entry 93). -/
def State.pondUncorr (s' : State) (m : Master) (a : Nat) : State :=
  let s := if m = .core ∧ regionOf a = .pondA then s'.setPw { s'.pw with fatal := true } else s'
  let info := m.code + (if s.borrowed a then 4 else 0) + 65536 * (s.frame.toNat % 65536)
  let s1 := (s.countUp F.SYS_POND_ECC_UNCORR).setReg R.SYS_POND_ERR_ADDR (BitVec.ofNat 32 a)
  (s1.setReg R.SYS_POND_ERR_INFO (BitVec.ofNat 32 info)).eventLogged 5 4 (leBytes 4 a ++ [BitVec.ofNat 8 m.code])

/-- A word read with `bits` wrong bits beside an error it already held: counted and corrected, or uncorrectable (R604). -/
def State.pondCheck (s : State) (m : Master) (a bits : Nat) : Bool × State :=
  let w := a / 8 * 8
  let weak := s.pondWeak.contains w
  let n := bits + if weak then 1 else 0
  if 2 ≤ n then (false, s.pondUncorr m w)
  else if n = 1 then
    (true, { s.countUp F.SYS_POND_ECC_CORR with pondWeak := if weak then s.pondWeak else w :: s.pondWeak })
  else (true, s)

/-- Is an access aligned to its size of 1, 2, 4 or 8 bytes (R605)? -/
def aligned (a n : Nat) : Bool := (n = 1 || n = 2 || n = 4 || n = 8) && a % n = 0

/-- A read of up to 8 bytes within a pond word (R603, R604). -/
def State.pondRead (s : State) (m : Master) (a n bits : Nat) : Access × State :=
  let (ok, s1) := s.pondCheck m a bits
  if ok then (.done (s1.bytes a n), s1) else (.error, s1)

/-- The slot of a mailbox ring that an address lies in, if any (R513, R519). -/
def ringSlot (a : Nat) : Option (Nat × Nat) :=
  if pondBLo ≤ a ∧ a < pondBLo + 0x1000 ∧ a % 0x400 < 0x200 then some ((a - pondBLo) / 0x400, a % 0x400 / 32) else none

/-- A write of up to 8 bytes within a pond word; fewer than 8 read the word first (R603, R604). A host control port write to a
slot that the module owns is dropped (R519), and a write to a borrowed slice abandons its test (R613). -/
def State.pondWrite (s : State) (m : Master) (a : Nat) (bs : List Byte) (bits : Nat) : Access × State :=
  let owned := m = .port && (match ringSlot a with
    | some (n, k) => s.slotOwned n k
    | none => false)
  if owned then (.done [], (s.countUp F.MBX_PORT_CNT_OWNED_WR).setFlag F.MBX_EVENT_OWNED_WR true)
  else
    let (ok, s1) := if bs.length = 8 then (true, s) else s.pondCheck m a bits
    if !ok then (.error, s1)
    else
      let s2 := s1.setBytes a bs
      let s3 : State := { s2 with pondWeak := s2.pondWeak.filter fun w => decide (w ≠ a / 8 * 8) }
      (.done [], if s3.borrowed a then { s3 with eddy := { s3.eddy with abandoned := true } } else s3)

/-- A master that had to wait for a pond's port is counted (R607). -/
def State.pondConflict (s : State) (m : Master) (a : Nat) : State :=
  match regionOf a, m with
  | .pondA, .core => s.countUp F.SYS_POND_CONF_A_CORE
  | .pondA, .dma => s.countUp F.SYS_POND_CONF_A_DMA
  | .pondA, .port => s.countUp F.SYS_POND_CONF_A2_VAL
  | .pondB, .core => s.countUp F.SYS_POND_CONF_B_CORE
  | .pondB, .dma => s.countUp F.SYS_POND_CONF_B_DMA
  | .pondB, .port => s.countUp F.SYS_POND_CONF_B2_VAL
  | .pondC, .core => s.countUp F.SYS_POND_CONF_C_CORE
  | .pondC, .dma => s.countUp F.SYS_POND_CONF_C_DMA
  | .pondC, .port => s.countUp F.SYS_POND_CONF_C2_PORT
  | .pondC, .seq => s.countUp F.SYS_POND_CONF_C2_SEQ
  | _, _ => s

/-! ### The frame store window (R309, R310, R315, R316) -/

/-- The FST_WPROT bit of the area of a frame store offset (R298, R316, R317); none outside the five areas. The line indexes
lie where SLU_HIST_IDX0 and SLU_HIST_IDX1 place them, one entry of 2 bytes for each of up to 2,160 lines (R290). -/
def State.areaBit (s : State) (off : Nat) : Option Nat :=
  let ix := fun (f : Fld) => decide (64 * s.fld f ≤ off ∧ off < 64 * s.fld f + 4320)
  if off < histArea0 then some 0
  else if off < demuraArea0 then some 1
  else if off < lutArea then some 2
  else if spillArea ≤ off ∧ off < overlayArea then some 4
  else if overlayArea ≤ off ∧ off < overlayArea + overlaySize then some 3
  else if off < spillArea && (ix F.SLU_HIST_IDX0_VAL || ix F.SLU_HIST_IDX1_VAL) then some 1
  else none

/-- A window read, in the WINDOW class (R295, R310). -/
def State.windowRead (s : State) (a len : Nat) : Access × State :=
  let cw := (a - fstBase) / 64
  match (s.ask rankWindow 1).readWord (some .window) false cw with
  | (none, s1) => (.error, s1)
  | (some l, s1) => (.done ((s1.flipData cw l).bytes a len), s1)

/-- A write at an offset of the frame store window (R309, R316). -/
def State.offsetWrite (s : State) (off : Nat) (bs : List Byte) : Access × State :=
  let prot := match s.areaBit off with
    | some i => bitOf (s.reg R.FST_WPROT) i
    | none => false
  if prot then (.error, s.setFlag F.FST_EVENT_WPROT true)
  else
    let (bad, s1) := (s.ask rankWindow 1).fstStore (some .window) off bs
    (if bad.isEmpty then .done [] else .error, s1)

/-- A window write. -/
def State.windowWrite (s : State) (a : Nat) (bs : List Byte) : Access × State := s.offsetWrite (a - fstBase) bs

/-! ### Any address (R601, R602) -/

/-- Register reads of `n` bytes, 4 or 8. -/
def State.regReads (s : State) (m : Master) (a n : Nat) : Access × State :=
  if n = 8 then
    match s.regRead m a with
    | (.done lo, s1) =>
      match s1.regRead m (a + 4) with
      | (.done hi, s2) => (.done (lo ++ hi), s2)
      | r => r
    | r => r
  else s.regRead m a

/-- A read of `n` bytes by a master; `e` is the number of wrong bits of the pond word, or of wrong symbols of the codeword. A
read that R115 refuses gives zeros. -/
def State.busRead (s : State) (m : Master) (a n e : Nat) : Access × State :=
  match regionOf a with
  | .pondA | .pondB => if m = .seq || !aligned a n then (.error, s) else s.pondRead m a n e
  | .pondC => if !aligned a n then (.error, s) else s.pondRead m a n e
  | .frameStore =>
    if m = .seq || !aligned a n then (.error, s)
    else if !s.acts .pix then s.wake .pix
    else s.windowRead a n
  | .regs => if m = .seq || !aligned a n || decide (n < 4) then (.error, s) else s.regReads m a n
  | .logStore | .flash => if m = .seq || !aligned a n then (.error, s) else (.done (s.bytes a n), s)
  | .alwaysOn => if (m = .core || m = .port) && aligned a n && decide (n = 4) then s.regRead m a else (.error, s)
  | .unaligned | .unassigned => (.error, s)

/-- 4 or 8 bytes written to registers, the lower word first. -/
def State.wordsWrite (s : State) (a : Nat) (bs : List Byte) : Access × State :=
  let s1 := s.regWrite a (BitVec.ofNat 32 (leAt bs 0 4))
  (.done [], if bs.length = 8 then s1.regWrite (a + 4) (BitVec.ofNat 32 (leAt bs 4 4)) else s1)

/-- A write of bytes by a master. -/
def State.busWrite (s : State) (m : Master) (a : Nat) (bs : List Byte) (e : Nat) : Access × State :=
  let n := bs.length
  match regionOf a with
  | .pondA | .pondB | .pondC => if m = .seq || !aligned a n then (.error, s) else s.pondWrite m a bs e
  | .frameStore =>
    if m = .seq || !aligned a n then (.error, s)
    else if !s.acts .pix then s.wake .pix
    else s.windowWrite a bs
  | .regs =>
    if m = .seq || !aligned a n || decide (n < 4) then (.error, s)
    else
      match blkOf a with
      | some b => if s.acts b.domain then s.wordsWrite a bs else s.wake b.domain
      | none => s.wordsWrite a bs
  | .logStore => if m = .core && aligned a n then (.done [], s.setBytes a bs) else (.error, s)
  | .flash => (.error, { s with flashWrites := s.flashWrites + 1 })
  | .alwaysOn =>
    if (m = .core || m = .port) && aligned a n && decide (n = 4) then (.done [], s.regWrite a (BitVec.ofNat 32 (leAt bs 0 4)))
    else (.error, s)
  | .unaligned | .unassigned => (.error, s)

/-- The answer that an access of `n` bytes gives its master; one that stalls is kept until its domain is ready (R113). -/
def State.answered (r : Access × State) (n : Nat) (x : Stall) : State :=
  match r with
  | (.stalls, s) => { s with pw := { s.pw with stalled := s.pw.stalled ++ [x] } }
  | (.refused, s) => { s with answer := ⟨List.replicate n 0#8, false⟩ }
  | (.error, s) => { s with answer := ⟨[], true⟩ }
  | (.done bs, s) => { s with answer := ⟨bs, false⟩ }

/-- A master's read, with its answer. -/
def State.readAccess (s : State) (m : Master) (a n e : Nat) : State := State.answered (s.busRead m a n e) n (.read m a n e)

/-- A master's write, with its answer. -/
def State.writeAccess (s : State) (m : Master) (a : Nat) (bs : List Byte) (e : Nat) : State :=
  State.answered (s.busWrite m a bs e) 0 (.write m a bs e)

/-- An access that has stalled takes place (R25, R113). -/
def State.replay1 (s : State) (x : Stall) : State :=
  match x with
  | .put a v => s.regWrite a v
  | .read m a n e => s.readAccess m a n e
  | .write m a bs e => s.writeAccess m a bs e

/-- A domain is powered and the accesses that stall for it take place, in their order (R113). -/
def State.powerOn (s : State) (d : Domain) : State :=
  let s1 := s.domainOn d
  let now := s1.pw.stalled.filter fun x => decide (x.domain = d)
  now.foldl State.replay1 (s1.setPw { s1.pw with stalled := s1.pw.stalled.filter fun x => decide (x.domain ≠ d) })

/-! ### The alias (R609) -/

/-- A read through the alias: one or two pond accesses. `e0` and `e1` are the wrong bits of the words. -/
def State.aliasRead (s : State) (m : Master) (a n e0 e1 : Nat) : Access × State :=
  let p := a - aliasBase
  let k := min n (8 - p % 8)
  match s.pondRead m p k e0 with
  | (.done lo, s1) =>
    if k = n then (.done lo, s1)
    else
      match (s1.countUp F.SYS_POND_SPLIT_VAL).pondRead m (p + k) (n - k) e1 with
      | (.done hi, s2) => (.done (lo ++ hi), s2)
      | r => r
  | r => r

/-- A write through the alias: an access that crosses a word writes the lower word first. -/
def State.aliasWrite (s : State) (m : Master) (a : Nat) (bs : List Byte) (e0 e1 : Nat) : Access × State :=
  let p := a - aliasBase
  let k := min bs.length (8 - p % 8)
  match s.pondWrite m p (bs.take k) e0 with
  | (.done _, s1) =>
    if k = bs.length then (.done [], s1)
    else (s1.countUp F.SYS_POND_SPLIT_VAL).pondWrite m (p + k) (bs.drop k) e1
  | r => r

/-- May an access through the alias proceed: the master, the size, the end of the pond (R601, R609)? -/
def aliasOk (m : Master) (a n : Nat) : Bool :=
  (m = .core || m = .port) && (n = 2 || n = 4 || n = 8) && decide (regionOf a = .unaligned) &&
    decide (a - aliasBase + n ≤ (pondOf (a - aliasBase)).2)

/-! ### Rows -/

/-- POND_ACCESS: a direct access of a master, read (`bs` none) or write (R603 to R608, R613). `e` is the number of wrong bits of
the word, `waited` says that another master held the port. -/
def execPondAccess (m : Master) (a : BitVec 32) (n : Nat) (bs : Option (List Byte)) (e : Nat) (waited : Bool) (s : State) : Out :=
  if !s.on .ctrl || !inPond a.toNat || (m = .seq && decide (regionOf a.toNat ≠ .pondC)) then .next s
  else
    let s1 := if waited then s.pondConflict m a.toNat else s
    match bs with
    | none => .next (s1.readAccess m a.toNat n e)
    | some l => .next (s1.writeAccess m a.toNat l e)

/-- ALIAS_ACCESS (R609). -/
def execAliasAccess (m : Master) (a : BitVec 32) (n : Nat) (bs : Option (List Byte)) (e0 e1 : Nat) (waited : Bool) (s : State) : Out :=
  if !s.on .ctrl || decide (regionOf a.toNat ≠ .unaligned) then .next s
  else
    let len := match bs with
      | none => n
      | some l => l.length
    if !aliasOk m a.toNat len then .next { s with answer := ⟨[], true⟩ }
    else
      let s1 := if waited then s.pondConflict m (a.toNat - aliasBase) else s
      match bs with
      | none => .next (State.answered (s1.aliasRead m a.toNat n e0 e1) n (.read m a.toNat n e0))
      | some l => .next (State.answered (s1.aliasWrite m a.toNat l e0 e1) 0 (.write m a.toNat l e0))

/-- POND_ECC_WRITEBACK: a corrected word is rewritten, with ECC_WB = 1 and unless a master has written it (R604). -/
def execPondEccWriteback (a : BitVec 32) (s : State) : Out :=
  if s.on .ctrl && s.flag F.SYS_POND_CTRL_ECC_WB then
    .next { s with pondWeak := s.pondWeak.filter fun w => decide (w ≠ a.toNat / 8 * 8) }
  else .next s

/-- UNASSIGNED_ACCESS: an address that the map does not list, or not for this master (R602). -/
def execUnassignedAccess (m : Master) (a : BitVec 32) (n : Nat) (bs : Option (List Byte)) (s : State) : Out :=
  let listed := match regionOf a.toNat, m with
    | .unassigned, _ => false
    | .unaligned, .dma => false
    | .alwaysOn, .dma => false
    | .pondC, .seq => true
    | _, .seq => false
    | .logStore, .core => true
    | .logStore, _ => bs.isNone
    | _, _ => true
  if !s.on .ctrl || listed then .next s
  else .next (match bs with
    | none => s.readAccess m a.toNat n 0
    | some l => s.writeAccess m a.toNat l 0)

/-- FLASH_WINDOW_WRITE (R31, R594): no effect, counted, completed with an error. -/
def execFlashWindowWrite (m : Master) (a : BitVec 32) (bs : List Byte) (s : State) : Out :=
  if s.on .ctrl && decide (regionOf a.toNat = .flash) && decide (m ≠ .seq) then
    .next (s.writeAccess m a.toNat bs 0)
  else .next s

/-- FRAME_STORE_WINDOW_ACCESS (R309, R310, R315, R316); `ups` are errors that have struck the store. -/
def execFrameStoreWindowAccess (m : Master) (a : BitVec 32) (n : Nat) (bs : Option (List Byte)) (ups : Upsets) (s' : State) : Out :=
  let s := s'.upset ups
  if !s.on .ctrl || decide (regionOf a.toNat ≠ .frameStore) || m = .seq then .next s
  else
    match bs with
    | none => .next (s.readAccess m a.toNat n 0)
    | some l => .next (s.writeAccess m a.toNat l 0)

/-- REGISTER_WRITE: a 32-bit write to a register or an unassigned offset (R10 to R14, R25, R113, R115, R334). -/
def execRegisterWrite (a : BitVec 32) (v : Word) (s : State) : Out :=
  if s.on .ctrl && a.toNat % 4 = 0 && (regionOf a.toNat = .regs || regionOf a.toNat = .alwaysOn) then .next (s.regWrite a.toNat v)
  else .next s

/-- A register write by name, while the control core can make it. -/
def State.coreWrite (s : State) (a : Nat) (v : Word) : State := if s.on .ctrl then s.regWrite a v else s

/-- PORT_ENABLE_WRITE: a write of INL_CTRL or CHN_CTRL (R194). -/
def execPortCtrlWrite (p : Fin 2) (v : Word) (s : State) : Out := .next (s.coreWrite (R.PORT_CTRL p) v)

/-- RETRAIN written 1 (R200). -/
def execRetrainWrite (p : Fin 2) (s : State) : Out := .next (s.coreWrite (R.PORT_CTRL p) (s.reg (R.PORT_CTRL p) ||| 0x100))

/-- LOOP_MODE_WRITE (R210). -/
def execLoopWrite (p : Fin 2) (v : Word) (s : State) : Out := .next (s.coreWrite (R.PORT_LOOP p) v)

/-- PATTERN_CHECKER_WRITE (R208). -/
def execPatternWrite (p : Fin 2) (v : Word) (s : State) : Out := .next (s.coreWrite (R.PORT_PAT p) v)

/-- SLU_ENABLE_WRITE (R280). -/
def execSluEnableWrite (v : Word) (s : State) : Out := .next (s.coreWrite R.SLU_CTRL v)

/-- RASTER_START (R320). -/
def execRasterStart (s : State) : Out := .next (s.coreWrite R.SCN_CTRL (s.reg R.SCN_CTRL ||| 1))

/-- RASTER_STOP (R320). -/
def execRasterStop (s : State) : Out := .next (s.coreWrite R.SCN_CTRL (s.reg R.SCN_CTRL &&& 0xFFFFFFFE))

/-- NBR_START (R462). -/
def execNbrStartWrite (s : State) : Out := .next (s.coreWrite R.BLD_CTRL (s.reg R.BLD_CTRL ||| BitVec.ofNat 32 (2 ^ F.BLD_CTRL_NBR_START.lo)))

/-- PWR_SPRING_WRITE (R137). -/
def execPwrSpringWrite (v : Word) (s : State) : Out := .next (s.coreWrite R.PWR_SPRING v)

/-- DOORBELL: the sender writes MBX_DBn (R518, R534). -/
def execDoorbell (n : Fin 4) (t : Fin 16) (s : State) : Out := .next (s.coreWrite (R.MBX_DB n) (BitVec.ofNat 32 t))

/-- CPL_HEAD_WRITE (R517). -/
def execCplHeadWrite (n : Fin 4) (v : Fin 16) (s : State) : Out := .next (s.coreWrite (R.MBX_CPL_HEAD n) (BitVec.ofNat 32 v))

/-- MBX_EN_WRITE (R533). -/
def execMbxEnWrite (v : Word) (s : State) : Out := .next (s.coreWrite R.MBX_CTRL v)

/-- SNAP_ADDR_WRITE (R637). -/
def execSnapAddrWrite (v : Word) (s : State) : Out := .next (s.coreWrite R.SYS_SNAP_ADDR v)

/-- SYS_TIME_LO_READ by a master (R634). -/
def execSysTimeLoRead (m : Master) (s : State) : Out :=
  if s.on .ctrl && decide (m ≠ .seq) then .next (s.readAccess m R.SYS_TIME_LO 4 0) else .next s

/-- LOG_POST: the firmware writes a part, SYS_LOG_POST3 last (R647). -/
def execLogPost (w0 w1 w2 w3 : Word) (s : State) : Out :=
  .next ((((s.coreWrite (R.SYS_LOG_POST 0) w0).coreWrite (R.SYS_LOG_POST 1) w1).coreWrite (R.SYS_LOG_POST 2) w2).coreWrite
    (R.SYS_LOG_POST 3) w3)

/-! ### SPI (R521, R522) -/

/-- What SPI reaches: the rings of MB1 and MB3, the MBX registers of MB1 and MB3, MBX_STATUS, SYS_MODE, BOOT_STATUS. -/
def spiReach (a : Nat) : Bool :=
  (pondBLo + 0x400 ≤ a && a < pondBLo + 0x800) || (pondBLo + 0xC00 ≤ a && a < pondBLo + 0x1000) ||
    (R.MBX_DB 1 ≤ a && a < R.MBX_DB 2) || (R.MBX_DB 3 ≤ a && a < R.MBX_DB 3 + 0x20) ||
    a = R.MBX_STATUS || a = R.SYS_MODE || a = R.BOOT_STATUS

/-- An access outside R522. -/
def State.spiRange (s : State) : State := (s.countUp F.MBX_PORT_CNT_SPI).setFlag F.MBX_EVENT_SPI_RANGE true

/-- One word of an SPI write. -/
def State.spiWord (s : State) (a : Nat) (v : Word) : State :=
  if a = R.SYS_MODE ∨ a = R.BOOT_STATUS then s
  else if !spiReach a then s.spiRange
  else (s.busWrite .port a (leBytes 4 v.toNat) 0).2

/-- Words at addresses that rise by 4. -/
def State.spiWords (a : Nat) : List Word → State → State
  | [], s => s
  | v :: t, s => spiWords (a + 4) t (s.spiWord a v)

/-- `n` words read by SPI. -/
def State.spiReads : Nat → Nat → State → List Byte → List Byte × State
  | 0, _, s, acc => (acc, s)
  | n + 1, a, s, acc =>
    if !spiReach a then spiReads n (a + 4) s.spiRange (acc ++ List.replicate 4 0#8)
    else
      match s.busRead .port a 4 0 with
      | (.done bs, s1) => spiReads n (a + 4) s1 (acc ++ bs)
      | (_, s1) => spiReads n (a + 4) s1 (acc ++ List.replicate 4 0#8)

/-- Is an SPI transaction discarded whole: CTRL is off, or the firmware has not restarted yet on the resume path (R124)? -/
def State.spiDeaf (s : State) : Bool :=
  !s.on .ctrl || (s.pw.resume && decide (s.pw.trans = .startUp) && decide (s.fld F.BOOT_STATUS_STEP < 3))

/-- SPI_WRITE: a transaction with an OP, an address and the words it completes; a partial word is dropped with the rest, and
an OP other than 0x02 and 0x03 is counted and the rest ignored (R521, R522). The address is taken as a multiple of 4. -/
def execSpiWrite (op : Byte) (a : BitVec 32) (ws : List Word) (s : State) : Out :=
  if s.spiDeaf then .next s
  else if op = 0x02#8 then .next (State.spiWords (a.toNat / 4 * 4) ws s)
  else if op = 0x03#8 then .next s
  else .next (s.countUp F.MBX_PORT_CNT_SPI_OP)

/-- SPI_READ: `n` whole words at an address (R521, R522). -/
def execSpiRead (a : BitVec 32) (n : Nat) (s : State) : Out :=
  if s.spiDeaf then .next s
  else
    let (bs, s1) := State.spiReads n (a.toNat / 4 * 4) s []
    .next { s1 with answer := ⟨bs, false⟩ }

end Sys2Proof.Machine
end

