-- ==== Sys2Proof/Machine/Expected.lean ====
section
/-! DEFINITION. The expected CRCs of the tell-tale windows, which the firmware computes from the change that it puts in force
(R365, R494), and the hold that goes with a change (R495, R550). -/

namespace Sys2Proof.Machine

/-- What the pipeline is once the waiting commits that shape windows are handed over (R494). -/
def State.foreseen (s : State) : State :=
  let v := s.commits.foldl (fun (v : State) c =>
    match c.blk with
    | .cps | .dth | .dmr | .col => (v.handOverAll (shadowRegs c.blk c.priv)).applySet c
    | _ => v) s
  v.setLive R.CPS_TT_EN v.saf.configured

/-- The offsets of a band of the set in force, read whole; none where they are zero (R376, R377). -/
def State.bandOf (v : State) (band : Nat) : Option (List (List Px)) :=
  match v.pipe.dmr with
  | none => none
  | some d =>
    if v.dmrMisfit || decide (d.bands ≤ band) then none
    else
      let lo := d.dir.getD band 0
      match dmrSegments d band (3 * d.strips) 0 (v.fstRead (d.base + lo) (d.dir.getD (band + 1) 0 - lo)) [] with
      | .inl _ => none
      | .inr segs => some segs

/-- Line `y` of window `w` through the pinned pipeline, black left of the window (R365, R494). -/
def State.pinnedLine (v : State) (w y : Nat) : List Px :=
  let r := v.windowRect w
  let band := v.bandOf (y / 16)
  List.replicate r.x Px.black ++ (List.range r.w).map fun k =>
    let x := r.x + k
    let c := v.mle (fstBase + v.iconAt w x y) 4
    let p := if c.testBit 30 then pxOfWord c else pxOfWord (v.liveFld (F.CPS_TT_BG_BG w))
    v.dithered true x y (v.demuraPx band x y (v.toned (v.ldGainAt true x y) (v.linear true p)))

/-- The CRC of window `w`'s part on lane `l`, the `i`-th enabled one (R404, R405). -/
def State.pinnedCrc (v : State) (w i l : Nat) : Option Nat :=
  match (v.regionsOf i l).1.find? fun r => decide (r.win = w) with
  | none => none
  | some r => some ((List.range (r.l1 + 1 - r.l0)).foldl (fun c k =>
      v.regionLine (v.pinnedLine w (r.l0 + k)) i l (r.l0 + k) r c) 0xFFFF)

/-- The expected CRCs of window `w`: part A in the low half, part B, or 0, in the high half. -/
def State.pinnedParts (v : State) (w : Nat) : Word :=
  let l := v.colLanes.zipIdx.filterMap fun p => v.pinnedCrc w p.2 p.1
  BitVec.ofNat 32 (l.getD 0 0 + 65536 * l.getD 1 0)

/-- The firmware writes the expected CRCs of every configured window, with the pipeline as in `v`, to SAF_EXP and commits SAF
(R494). -/
def State.putExpectedOf (s v : State) : State :=
  let s1 := ((List.range 32).filter fun w => bitOf s.saf.configured w).foldl (fun (s : State) w =>
    s.regWrite (R.SAF_EXP w) (v.pinnedParts w)) s
  s1.regWrite R.SAF_COMMIT 1

/-- The same with the pipeline as the waiting commits will leave it. -/
def State.putExpected (s : State) : State := s.putExpectedOf s.foreseen

/-- The firmware recomputes, commits SAF and starts a hold of two frames; the CRC resource stays held (R550). -/
def State.recompute (s : State) : State :=
  let s1 := s.putExpected.regWrite R.SAF_HOLD 2
  { s1 with mail := { s1.mail with crcHeld := true } }

/-- Is the CRC resource held after a recomputation (R550)? -/
def State.crcHolds (s : State) : Bool :=
  s.mail.crcHeld && (s.fld F.SAF_HOLD_LEFT != 0 || s.commits.any fun c =>
    match c.blk with
    | .cps | .saf | .dth | .bld | .dmr => true
    | _ => false)

/-- The hold on the CRC resource ends. -/
def State.crcRelease (s : State) : State :=
  if s.mail.crcHeld && !s.crcHolds then { s with mail := { s.mail with crcHeld := false } } else s

/-- TT_LDG for a brightness floor: the gain of the light-spread model over the windows, of which the spec gives no value
(log entry 2). -/
def State.floorGain (s : State) : Nat × State := s.draw 65536

end Sys2Proof.Machine
end

