-- ==== Sys2Proof/Machine/Flash.lean ====
section
/-! DEFINITION. What the boot ROM and the firmware read from flash: the images (R92), the assets
(R98 to R101) and the panel data (R94, R670). -/

namespace Sys2Proof.Machine

/-! ### Images (R92) -/

/-- The bytes of image 1 (A) or 2 (B). -/
def State.imageBytes (s : State) (k : Nat) : List Byte := s.bytes (if k = 2 then imageB else imageA) imageSize

/-- Does an image pass R92? -/
def State.imageOk (s : State) (k : Nat) : Bool :=
  let b := s.imageBytes k
  Config.imageSigned b && decide (Config.rollback ≤ Config.imageVersion b)

/-! ### Assets (R94, R98) -/

/-- Do bytes match their digest in the manifest of image `k`? -/
def State.inManifest (s : State) (k kind id : Nat) (bs : List Byte) : Bool :=
  Config.manifest (s.imageBytes k) kind id == some (sha256 bs)

/-- Is the directory sound: VERSION, COUNT and CRC (R98)? -/
def State.dirOk (s : State) : Bool :=
  let n := s.mle (assetBase + 2) 2
  s.mle assetBase 1 = 1 && 1 ≤ n && n ≤ 1024 && decide (s.mle (assetBase + 4) 4 = crc32 (s.bytes (assetBase + 16) (16 * n)))

/-- An asset by KIND and ID that passes its check (R94). -/
def State.asset (s : State) (kind id : Nat) : Option (List Byte) :=
  if !s.dirOk then none
  else
    let es := (List.range (s.mle (assetBase + 2) 2)).map fun i => s.bytes (assetBase + 16 + 16 * i) 16
    match es.find? fun e => decide (byteAt e 0 = kind ∧ leAt e 2 2 = id) with
    | none => none
    | some e =>
      let off := leAt e 4 4
      let len := leAt e 8 4
      if off % 16 ≠ 0 ∨ assetSize < off + len then none
      else
        let bs := s.bytes (assetBase + off) len
        if s.inManifest s.fw.image kind id bs then some bs else none

/-- The colour that the last covering segment gives a panel pixel; black where none covers it (R99). -/
def splashPixel (l : List (SegHead × List Px)) (x y : Nat) : Px :=
  match l.reverse.find? fun p => p.1.rect.has x y with
  | none => Px.black
  | some (g, px) => px.getD ((y - g.y) * g.w + (x - g.x)) Px.black

/-- The base plane's DISPLAYED map made of slots that no other map uses, and the segments written there (R99, R346). -/
def State.showPixels (s : State) (l : List (SegHead × List Px)) : State :=
  let st := s.store 0
  let g : Geo := ⟨none, ⟨0, 0, s.hActive, s.vActive⟩, 0, linePitch s.hActive, slotPitch, s.hActive, s.vActive⟩
  let used := fun (t : Nat) => (match st.ready with
    | some m => [slotIn m t]
    | none => []) ++ (if st.building then [slotIn st.build t] else []) ++ (if st.nextTiles.isEmpty then [] else [slotIn st.next t])
  let m := (List.range (g.cols * ceilDiv s.vActive 16)).filterMap fun t =>
    let k := freeSlot (used t)
    if k = 0 then none else some (t, (⟨k, false⟩ : TileAt))
  let s1 := s.setStore 0 { st with displayed := m, shown := true, shownGeo := g, host := 0 }
  (List.range s.vActive).foldl (fun (s : State) y => (List.range s.hActive).foldl (fun (s : State) x =>
    s.setRawPixel (g.line (slotIn m (g.tile x y)) y) x (splashPixel l x y)) s) s1

/-- The base plane shows black: nothing is displayed (R94). -/
def State.showNothing (s : State) : State :=
  let st := s.store 0
  s.setStore 0 { st with displayed := [], shown := false, shownGeo := Geo.reset, host := 0 }

/-- A segment of a splash asset at the start of `bs` fed to Sluice: what it covers, the bytes it takes, its end code, and the
place of a fault. The format of R99 asks for QSTEP 0b00: another is an illegal code of the asset. -/
def splashSegment (bs : List Byte) (w h : Nat) : SegHead × List Px × Nat × Nat × (Nat × Nat × Nat) :=
  let g := headOf bs 0 0 false
  let size := ceilDiv (20 + g.codedLen) 4 * 4
  if !headCrcOk bs then (g, [], size, endHeaderCrc, (0, 0, 0))
  else if !headLegal false bs || decide (g.q ≠ 1) then (g, [], size, endIllegal, (0, 0, 0))
  else if !headInside g w h then (g, [], size, endBounds, (0, 0, 0))
  else if g.raw && decide (g.codedLen ≠ ceilDiv (g.total * 3 * g.depth) 8) then (g, [], size, endOverrun, (0, 0, 0))
  else
    let data := (bs.drop 20).take (size - 20)
    let d := decodeTokens (8 * data.length + g.total + 1) (Seg.start g data true) []
    (g, (d.px.map fun p => (toRgb g.depth g.xform p).map (widen g.depth)).reverse, size, d.code, d.place)

/-- The segments of a splash asset fed to Sluice in turn, with its counts and error registers; those that ended OK, or none at the
first that does not (R94, R99, R293). The stream's number is left open. -/
def State.feedSplash : Nat → List Byte → State → Option (List (SegHead × List Px)) × State
  | 0, _, s => (none, s)
  | n + 1, bs, s =>
    if bs.isEmpty then (some [], s)
    else
      let (g, px, size, code, place) := splashSegment bs s.hActive s.vActive
      let s1 := s.countUp F.SLU_PIX_CNT_VAL px.length
      if code ≠ endOk then
        let (st, s2) := s1.draw 16
        (none, s2.noteEnd st (if code = endHeaderCrc then 0 else g.segId) code place.1 place.2.1 place.2.2)
      else
        let r := State.feedSplash n (bs.drop size) (s1.countEnd endOk)
        (r.1.map fun l => (g, px) :: l, r.2)

/-- The splash asset that START names, fed to Sluice; none where it fails (R94). -/
def State.splash (s : State) : Option (List (SegHead × List Px)) × State :=
  match s.cfgRec 0x07 with
  | none => (none, s)
  | some st =>
    match s.asset 1 (leAt st 2 2) with
    | none => (none, s)
    | some bs => State.feedSplash (bs.length + 1) bs s

/-- The splash image, or the black base plane, is put on the glass (R94, R99); whether it passed. -/
def State.showSplash (s : State) : Bool × State :=
  match s.splash with
  | (some l, s1) => (true, s1.showPixels l)
  | (none, s1) => (false, s1.showNothing)

/-! ### Icons and window sets (R100, R101, R492) -/

/-- A Sluice segment of an asset at the start of `bs`: its header, its pixels as 10-bit colours and the bytes it takes;
none unless it ends OK (R100). -/
def assetSegment (bs : List Byte) (w h : Nat) : Option (SegHead × List Px × Nat) :=
  if bs.length < 20 || !headCrcOk bs || !headLegal false bs || byteAt bs 1 / 16 % 4 != 0 then none
  else
    let g := headOf bs 0 0 false
    let size := ceilDiv (20 + g.codedLen) 4 * 4
    if !headInside g w h || g.depth != 10 || decide (bs.length < 20 + g.codedLen) then none
    else
      let (px, code) := decodeWhole g ((bs.drop 20).take (size - 20))
      if code ≠ endOk then none else some (g, px.map (Px.map (widen g.depth)), size)

/-- An icon decoded: W, H and its pixels as words of R354; none where it fails (R94, R100). -/
def State.icon (s : State) (id : Nat) : Option (Nat × Nat × List Nat) :=
  match s.asset 2 id with
  | none => none
  | some bs =>
    let w := leAt bs 0 2
    let h := leAt bs 2 2
    if w % 8 ≠ 0 ∨ h % 8 ≠ 0 ∨ w < 8 ∨ 256 < w ∨ h < 8 ∨ 256 < h then none
    else
      match assetSegment (bs.drop 4) w h with
      | none => none
      | some (g, px, size) =>
        let mask := (bs.drop 4).drop size
        if g.x ≠ 0 ∨ g.y ≠ 0 ∨ g.w ≠ w ∨ g.h ≠ h ∨ mask.length ≠ h * (w / 8) then none
        else some (w, h, px.zipIdx.map fun p =>
          p.1.pack + (if dataBit mask p.2 = some true then 2 ^ 30 else 0))

/-- An entry of a window set: tell-tale ID, icon, X, Y and BG (R101). -/
structure WinEntry where
  id : Nat
  icon : Nat
  x : Nat
  y : Nat
  bg : Nat
deriving DecidableEq, Repr

/-- The entries of a window set asset (R101); none where it is missing, failed or holds more than 32. -/
def State.windowSet (s : State) (k : Nat) : Option (List WinEntry) :=
  match s.asset 3 k with
  | none => none
  | some bs =>
    let n := byteAt bs 0
    if n < 1 ∨ 32 < n ∨ leAt bs 1 3 ≠ 0 ∨ bs.length ≠ 4 + 16 * n then none
    else some ((List.range n).map fun i =>
      let e := (bs.drop (4 + 16 * i)).take 16
      ⟨byteAt e 0, leAt e 2 2, leAt e 4 2, leAt e 6 2, leAt e 8 4 % 2 ^ 30⟩)

/-- The window rectangle of an entry. -/
def State.entryRect (s : State) (e : WinEntry) : Option Rect := (s.icon e.icon).map fun i => ⟨e.x, e.y, i.1, i.2.1⟩

/-- Does a rectangle meet the subpixels of the `i`-th enabled lane? -/
def State.rectOnLane (s : State) (r : Rect) (i : Nat) : Bool :=
  decide (max (i * s.colSub) (3 * r.x) < min ((i + 1) * s.colSub) (3 * (r.x + r.w)))

/-- Does a list of rectangles hold two that overlap? -/
def rectsOverlap : List Rect → Bool
  | [] => false
  | r :: t => t.any (fun q => !(Rect.meet r q).empty) || rectsOverlap t

/-- Does a window set pass every check of R492? -/
def State.windowSetOk (s : State) (l : List WinEntry) : Bool :=
  let rs := l.filterMap s.entryRect
  let lanes := List.range s.colLanes.length
  rs.length = l.length && keysOnce (l.map fun e => (e.id, 0)) && l.all (fun e => e.id < 32) && !rectsOverlap rs
    && rs.all (fun r => r.x % 8 = 0 && r.y % 8 = 0 && r.x + r.w ≤ s.hActive && r.y + r.h ≤ s.vActive
      && (lanes.filter fun i => s.rectOnLane r i).length ≤ 2)
    && lanes.all fun i => (rs.filter fun r => s.rectOnLane r i).length ≤ 8

/-- Frame store offset of an icon bank (R551). -/
def bankAddr (b : Nat) : Nat := if b = 0 then 0x1E800000 else 0x1F000000

/-- Bytes that the firmware copies into the frame store (R295, R297). -/
def State.fstLoad (s : State) (off : Nat) (bs : List Byte) : State :=
  ((s.fstStore (some .window) off bs).2).ask rankWindow (wordsOf off bs.length)

/-- The words of an icon stored from an offset on, through the window (R100, R295, R354). -/
def State.putIcon (s : State) (off : Nat) (px : List Nat) : State :=
  (s.fstLoad off (px.map (leBytes 4)).flatten)

/-- Icons put one after another from an offset on, each once; the places as (icon, offset). -/
def State.storeIcons : List Nat → Nat → List (Nat × Nat) → State → List (Nat × Nat) × State
  | [], _, acc, s => (acc, s)
  | i :: t, off, acc, s =>
    if acc.any fun p => decide (p.1 = i) then State.storeIcons t off acc s
    else
      match s.icon i with
      | none => State.storeIcons t off acc s
      | some (_, _, px) =>
        State.storeIcons t (off + 64 * ceilDiv px.length 16) (acc ++ [(i, off)]) (s.putIcon off px)

/-- The icons of a window set are loaded into bank `b` (R100). -/
def State.loadIcons (s : State) (b : Nat) (l : List WinEntry) : List (Nat × Nat) × State :=
  State.storeIcons (l.map (·.icon)) (bankAddr b) [] s

/-- The shadow registers of a window set are written, with CPS_TT_EN of exactly its IDs (R351, R492). -/
def State.writeWindows (s : State) (b : Nat) (l : List WinEntry) (places : List (Nat × Nat)) : State :=
  let ids := l.foldl (fun w e => withBit w e.id) (0 : Word)
  let s1 := l.foldl (fun (s : State) e =>
    match s.icon e.icon with
    | none => s
    | some (w, h, _) =>
      let off := ((places.find? fun p => decide (p.1 = e.icon)).map (·.2)).getD 0
      ((((s.regWrite (R.CPS_TT_POS e.id) (BitVec.ofNat 32 (e.x + 65536 * e.y))).regWrite (R.CPS_TT_SIZE e.id)
        (BitVec.ofNat 32 (w + 65536 * h))).regWrite (R.CPS_TT_ICON e.id) (BitVec.ofNat 32 off)).regWrite
        (R.CPS_TT_BG e.id) (BitVec.ofNat 32 e.bg))) s
  let s2 := s1.regWrite R.CPS_TT_EN ids
  { s2 with saf := { s2.saf with configured := ids }, fw := { s2.fw with iconBank := b, icons := places } }

/-! ### Panel data (R94, R670) -/

/-- The offset that PANEL_DATA gives for image `i` (R96). -/
def State.panelOffset (s : State) (i : Nat) : Option Nat := (s.cfgRec 0x26).map fun v => leAt v (4 * i) 4

/-- A panel data image of a known length that passes its digest in the manifest of firmware image `k`: 0 and 1 demura sets,
2 overdrive, 3 gamma (R94). -/
def State.panelImageIn (s : State) (k i len : Nat) : Option (List Byte) :=
  match s.panelOffset i with
  | none => none
  | some off =>
    if panelSize < off + len then none
    else
      let bs := s.bytes (panelBase + off) len
      if s.inManifest k (4 + i) 0 bs then some bs else none

/-- A panel data image that passes its digest in the manifest of the running firmware (R94). -/
def State.panelImage (s : State) (i len : Nat) : Option (List Byte) := s.panelImageIn s.fw.image i len

/-- A demura set image; its header states its length (R371). -/
def State.demuraImage (s : State) (i : Nat) : Option (List Byte) :=
  match s.panelOffset i with
  | none => none
  | some off => s.panelImage i (s.mle (panelBase + off + 16) 4)

/-- The largest number not above `hi` with a property that holds below it, by halving. -/
def largest (p : Nat → Bool) : Nat → Nat → Nat → Nat
  | 0, lo, _ => lo
  | n + 1, lo, hi =>
    let m := (lo + hi + 1) / 2
    if p m then largest p n m hi else largest p n lo (m - 1)

/-- Degamma entry `v` of the built-in gamma: the greatest n with n - 1/2 at most the exact value (R670). -/
def builtDegamma (v : Nat) : Nat :=
  largest (fun n => n = 0 || decide ((2 * n - 1) ^ 5 * 1023 ^ 11 ≤ (2 * 65535) ^ 5 * v ^ 11)) 17 0 65535

/-- Gamma knot `n` of the built-in gamma (R357, R670). -/
def builtKnot (n : Nat) : Nat :=
  let x := min (if n ≤ 256 then 16 * n else 4096 + 64 * (n - 256)) 65535
  largest (fun k => k = 0 || decide ((2 * k - 1) ^ 11 * 65535 ^ 5 ≤ (2 * 16383) ^ 11 * x ^ 5)) 15 0 16383

/-- The built-in gamma as a table image (R358, R670). -/
def builtGamma : List Byte :=
  let d := ((List.range 1024).map fun v => leBytes 2 (builtDegamma v)).flatten
  let g := ((List.range 1217).map fun n => leBytes 2 (builtKnot n)).flatten
  let body := d ++ d ++ d ++ g ++ g ++ g
  [1, 0, 0, 0, 0, 0, 0, 0] ++ leBytes 4 (crc32 body) ++ [0, 0, 0, 0] ++ body

end Sys2Proof.Machine
end

