-- ==== Sys2Proof/Machine/Startup.lean ====
section
/-! DEFINITION. The start-up timeline: START_UP_STEP_COMPLETE for steps 2 to 6 (R85 to R94), what the firmware loads at step 4
(R94 to R101, R380, R389, R491, R670, R672), and DOMAIN_WAKE_DONE (R113). Steps 7 and 8 come with their frame start and their
proof record. -/

namespace Sys2Proof.Machine

/-! ### Writes of the firmware -/

/-- Little-endian words written to registers (R672). -/
def State.putWords (s : State) : List Nat → List Byte → State
  | [], _ => s
  | a :: t, bs => (s.regWrite a (BitVec.ofNat 32 (leAt bs 0 4))).putWords t (bs.drop 4)

/-- The addresses of `n` registers in a row. -/
def regRun (a n : Nat) : List Nat := (List.range n).map fun i => a + 4 * i

/-- A commit while the raster is stopped: its load and check are done at once (R671). -/
def State.commitNow (s : State) (b : Blk) (priv lut : Bool) : State :=
  let s1 := s.commit b priv lut
  match s1.commits.find? fun c => c.blk = b && c.priv = priv && c.loading with
  | some c => (s1.loadDone c false).handNow
  | none => s1

/-- A failure that the firmware logs: a SYSTEM record whose code and data the spec does not give (R94, R672, log entry 2). -/
def State.logTrouble (s : State) : State :=
  let (c, s1) := s.draw 256
  let (d, s2) := s1.draw (2 ^ 48)
  s2.logFault 12 c (leBytes 6 d)

/-- `act` with the refusal bit `f` watched: a refusal is logged (R672). The bit stays as it was where nothing is refused. -/
def State.watched (s : State) (f : Fld) (act : State → State) : State :=
  let s1 := act (s.setFlag f false)
  if s1.flag f then s1.logTrouble else if s.flag f then s1.setFlag f true else s1

/-! ### Loads of step 4 -/

/-- Where the firmware keeps the images it stages in Pond C: slot table, gate program, tone tables (R602). -/
abbrev pondTable : Nat := 0x0000
abbrev pondGate : Nat := 0x0400
abbrev pondTone : Nat := 0x1000

/-- The shadow registers of a timing set and of its companions in PIX are written (R97); the slot table goes to Pond C. -/
def State.writeTimingPix (s : State) (t : List Byte) : State :=
  let s1 := s.putWords (regRun R.SCN_HTIME 6) (t.drop 4)
  let s2 := s1.putWords [R.SCN_LOWRATE, R.SCN_WEIR, R.SCN_CLOSE] (t.drop 28)
  let s3 := s2.putWords [R.DTH_CTRL] (t.drop 72)
  let table := (cfgAt s.cfg 0x11 (byteAt t 1)).getD []
  (s3.setBytes (pondCLo + pondTable) (table.drop 4)).regWrite R.RNG_TABLE_BASE (BitVec.ofNat 32 pondTable)

/-- The companions of a timing set in PANEL and LIGHT are written (R97); the gate program goes to Pond C. -/
def State.writeTimingPanel (s : State) (t : List Byte) : State :=
  let s1 := s.putWords (regRun R.COL_CFG 5) (t.drop 40)
  let s2 := s1.putWords [R.GSQ_CTRL, R.BLD_SCAN, R.BLD_GEOM] (t.drop 60)
  let gate := (cfgAt s.cfg 0x12 (byteAt t 2)).getD []
  (s2.setBytes (pondCLo + pondGate) (gate.drop 4)).regWrite R.GSQ_PROG_BASE (BitVec.ofNat 32 pondGate)

/-- All of a timing set and its companions (R97, R342). -/
def State.writeTiming (s : State) (t : List Byte) : State := (s.writeTimingPix t).writeTimingPanel t

/-- The bytes of the TIMING record that START names (R97). -/
def State.startTiming (s : State) : List Byte := (cfgAt s.cfg 0x10 (byteAt ((s.cfgRec 0x07).getD []) 0)).getD []

/-- The timing set of START, its slot table and its tone control, put in force with the raster stopped. -/
def State.loadTiming (s : State) : State :=
  let s1 := (s.writeTimingPix s.startTiming).watched F.SCN_STATUS_TIMING_REFUSED (·.commitNow .scn true false)
  let s2 := s1.watched F.SCN_STATUS_TIMING_REFUSED (·.commitNow .scn false false)
  (s2.watched F.RNG_STATUS_TABLE_ERR (·.commitNow .rng false false)).commitNow .dth false false

/-- The companions in PANEL and LIGHT, which stand at their reset values until those domains are on. -/
def State.loadPanel (s : State) : State :=
  let s0 := (s.writeTimingPanel s.startTiming).watched F.COL_STATUS_CFG_REFUSED (·.commitNow .col false false)
  let s1 := (s0.watched F.GSQ_STATUS_PROG_ERR (·.commitNow .gsq false false)).watched F.BLD_STATUS_CFG_REFUSED
    (·.commitNow .bld false false)
  let s2 := match s1.cfgRec 0x20 with
    | none => s1
    | some v =>
      let a := s1.putWords (regRun R.BIAS_VGH 11) v
      let b := a.regWrite R.GSQ_ALLON (BitVec.ofNat 32 (leAt v 44 2))
      ({ b with bias := { b.bias with vddPl33 := decide (byteAt v 47 % 2 = 1) } } : State).watched F.BIAS_STATUS_SET_REFUSED
        (·.commitNow .bias false false)
  let s3 := match s2.cfgRec 0x22 with
    | none => s2
    | some v =>
      let a := s2.putWords [R.BLD_ZONE_CAP, R.BLD_DIAG, R.BLD_FLOOR, R.BLD_BOOST] v
      (a.watched F.BLD_STATUS_CFG_REFUSED (·.commitNow .bld false false)).watched F.BLD_STATUS_CFG_REFUSED
        (·.commitNow .bld true false)
  let s4 := match s3.cfgRec 0x24 with
    | none => s3
    | some v => (s3.putWords (regRun R.OPT_TARGET 4) v).commitNow .opt false false
  match s4.persistLast 1024 with
  | none => s4
  | some (i, _) =>
    let a := persistBase + 64 * i
    (s4.regWrite R.OPT_GAIN_INIT_RG (BitVec.ofNat 32 (s4.mle (a + 12) 4))).regWrite R.OPT_GAIN_INIT_B
      (BitVec.ofNat 32 (s4.mle (a + 16) 2))

/-- The records of always-on, CTRL and PIX registers (R96). -/
def State.loadRegs (s : State) : State :=
  let s1 := match s.cfgRec 0x03 with
    | none => s
    | some v =>
      (((s.watched F.PWR_SPRING_BAD_WR (·.regWrite R.PWR_SPRING (BitVec.ofNat 32 (byteAt v 0)))).regWrite R.PWR_WAKE_EN (BitVec.ofNat 32 (byteAt v 1))).regWrite
        R.PWR_NOWAKE_TIMEOUT (BitVec.ofNat 32 (leAt v 2 2))).regWrite R.PWR_IDLE_OFF (BitVec.ofNat 32 (leAt v 4 2))
  let s2 := match s1.cfgRec 0x05 with
    | none => s1
    | some v => s1.regWrite R.SAF_CTRL (BitVec.ofNat 32 (byteAt v 5 % 4))
  let s3 := match s2.cfgRec 0x06 with
    | none => s2
    | some v => s2.putWords [R.SYS_INT_EN, R.SYS_EVT_EN] v
  let s4 := match s3.cfgRec 0x21 with
    | none => s3
    | some v =>
      let a := s3.watched F.GOV_STATUS_BAD_WR (·.putWords [R.GOV_BUDGET] v)
      a.putWords (regRun (R.GOV_BUDGET + 4) 7 ++ regRun (R.GOV_CLASS 0) 5 ++ [R.GOV_CAL_TRIG]) (v.drop 4)
  let s5 := match s4.cfgRec 0x22 with
    | none => s4
    | some v => s4.putWords [R.LDA_CTRL, R.LDA_DECIDE, R.LDA_FILT, R.LDA_CUT] (v.drop 16)
  let s6 := match s5.cfgRec 0x23 with
    | none => s5
    | some v => s5.putWords ([R.LDA_ZGAIN, R.LDA_FSCALE] ++ regRun (R.LDA_KH 0) 16 ++ regRun (R.LDA_KV 0) 16) v
  let s7 := s6.commitNow .lda false false
  let s8 := match s7.cfgRec 0x25 with
    | none => s7
    | some v =>
      let a := s7.putWords ([R.DTH_LD, R.DTH_LD_BMIN, R.DTH_TT_GAIN_RG, R.DTH_TT_GAIN_B, R.ODV_CTRL] ++ regRun R.ODV_TBIN0 4) v
      (a.commitNow .dth false false).watched F.ODV_STATUS_LUT_ERR (·.commitNow .odv false false)
  match s8.cfgRec 0x27 with
  | none => s8
  | some v => s8.putWords [R.CAL_CTRL] v

/-- A panel data failure: its flag, and the failure logged (R94). -/
def State.panelDataFail (s : State) : State := (s.setFlag F.BOOT_STATUS_PANEL_DATA_FAIL true).logTrouble

/-- An asset failure: its flag, and the failure logged (R94). -/
def State.assetFail (s : State) : State := (s.setFlag F.BOOT_STATUS_ASSET_FAIL true).logTrouble

/-- The panel gamma image, or the built-in one (R94, R670), loaded into DTH. -/
def State.loadGamma (s : State) : State :=
  let (img, s1) := match s.panelImage 3 dthImageLen with
    | some b => (b, s)
    | none => (builtGamma, s.panelDataFail)
  let s2 := (s1.setBytes (pondCLo + pondTone) img).regWrite R.DTH_LUT_BASE (BitVec.ofNat 32 pondTone)
  s2.commitNow .dth false true

/-- Where the overdrive tables lie in the LUT storage area, behind the two history indexes (R298). -/
abbrev odvStore : Nat := 0x13878600

/-- The overdrive tables (R389); bypassed without them (R94). -/
def State.loadOverdrive (s : State) : State :=
  match s.panelImage 2 odvImageLen with
  | none => s.panelDataFail
  | some b => ((s.fstLoad odvStore b).regWrite R.ODV_LUT_BASE (BitVec.ofNat 32 odvStore)).commitNow .odv false true

/-- The demura set that the panel temperature selects of those that passed (R380). -/
def State.demuraPick (s : State) : Option Nat :=
  let t := fun (i : Nat) => sext 16 (s.mle (fstBase + (if i = 0 then demuraArea0 else demuraArea1) + 20) 2)
  let d := fun (i : Nat) => (sext 16 s.cal.panel - t i).natAbs
  match s.fw.dmrOk.getD 0 false, s.fw.dmrOk.getD 1 false with
  | false, false => none
  | true, false => some 0
  | false, true => some 1
  | true, true => some (if d 1 < d 0 then 1 else 0)

/-- The shadow of DMR_CTRL for a set, or for none. -/
def dmrCtrl : Option Nat → Word
  | none => 0
  | some k => BitVec.ofNat 32 (1 + 2 * k)

/-- Both demura sets, and the commit of the one chosen (R94, R380). -/
def State.loadDemura (s : State) : State :=
  let put := fun (s : State) (i : Nat) =>
    match s.demuraImage i with
    | none => s.panelDataFail
    | some b =>
      let s1 := s.fstLoad (if i = 0 then demuraArea0 else demuraArea1) b
      { s1 with fw := { s1.fw with dmrOk := listSet s1.fw.dmrOk i true } }
  let s1 := put (put s 0) 1
  let s2 := (s1.regWrite R.DMR_CTRL (dmrCtrl s1.demuraPick)).commitNow .dmr false false
  { s2 with fw := { s2.fw with dmrAuto := true, dmrCheck := s2.time } }

/-- The bin that the temperature of step 4 chooses (R85, R386). -/
def State.chooseBin (s : State) : State :=
  s.setFld F.ODV_STATE_BIN (odvBin (odvThs s.liveFld) (s.liveFld F.ODV_TBIN3_HYST) (s.fld F.ODV_STATE_BIN) (sext 16 s.cal.panel))

/-- The splash image on the base plane (R94, R99). -/
def State.loadSplash (s : State) : State :=
  let (ok, s1) := s.showSplash
  if ok then s1 else s1.assetFail

/-- What PANEL's registers will hold once step 5 has powered it, which the checks and the CRCs of step 4 rest on. -/
def State.withPanel (s : State) : State := (s.domainOn .panel).loadPanel

/-- The window set that TELLTALE names (R492). -/
def State.loadWindows (s : State) : State :=
  match s.windowSet (byteAt ((s.cfgRec 0x05).getD []) 4) with
  | none => s.assetFail
  | some l =>
    if !s.withPanel.windowSetOk l then s.assetFail
    else
      let (places, s1) := s.loadIcons 0 l
      (s1.writeWindows 0 l places).commitNow .cps true false

/-- The on-at-wake bitmap, unless the partner has spoken (R87, R491). -/
def State.wakeBitmap (s : State) : State :=
  match s.cfgRec 0x05 with
  | none => s
  | some v => s.regWrite R.SAF_PARTNER_REQ (BitVec.ofNat 32 (leAt v 0 4))

/-- The work of step 4: tables, demura sets, splash image, windows, expected CRCs and on-at-wake bitmap (R85, R94). -/
def State.loadPicture (s : State) : State :=
  let s1 := ((s.loadGamma.loadOverdrive.loadDemura).chooseBin).loadSplash
  let s2 := s1.loadWindows
  (s2.putExpectedOf s2.withPanel.foreseen).wakeBitmap

/-- Step 5 begins: PANEL and LIGHT are powered, their registers loaded, and the bias rises with VCOM's regulation point as
configured (R85, R431). -/
def State.raisePanel (s : State) : State :=
  let s1 := ((s.powerOn .panel).powerOn .light).loadPanel
  let cl := match s1.cfgRec 0x20 with
    | some v => byteAt v 46 % 2
    | none => s1.fld F.BIAS_CTRL_VCOM_CL
  s1.regWrite R.BIAS_CTRL (BitVec.ofNat 32 (1 + 2 * cl))

/-- Where history is kept, and the number of the first frame: one more than the last one recorded, or SCN_FRAME_LOAD's reset
value where none is (R290, R321, R650). -/
def State.loadAreas (s : State) : State :=
  let s1 := (s.regWrite R.SLU_HIST_BASE0 (BitVec.ofNat 32 histArea0)).regWrite R.SLU_HIST_BASE1 (BitVec.ofNat 32 histArea1)
  let s2 := (s1.regWrite R.SLU_HIST_IDX0 (BitVec.ofNat 32 lutArea)).regWrite R.SLU_HIST_IDX1 (BitVec.ofNat 32 (lutArea + 0x1100))
  match s2.frameRes with
  | some f => s2.regWrite R.SCN_FRAME_LOAD (f + 1)
  | none => s2

/-! ### The steps -/

/-- The last step completed. -/
def State.bootStep (s : State) : Nat := s.fld F.BOOT_STATUS_STEP

/-- A step is complete. -/
def State.stepTo (s : State) (n : Nat) : State := s.setFld F.BOOT_STATUS_STEP n

/-- The boot ROM stays in ROM recovery (R93). -/
def State.romRecovery (s : State) (noConfig : Bool) : State :=
  let s1 := (s.setFlag F.BOOT_STATUS_ROM_RECOVERY true).setFlag F.BOOT_STATUS_CONFIG_FAIL noConfig
  let s2 := s1.ringsStart.setPw { s1.pw with rom := true, trans := .none }
  s2.servePending false (s2.time, s2.oscTime)

/-- The firmware starts: log and ledger are scanned, the mailboxes run (R515, R533, R540, R648). `boot` is a full start. -/
def State.firmwareStart (s : State) (image : Nat) (boot : Bool) : State :=
  let s1 := s.setFld F.BOOT_STATUS_IMAGE image
  let s2 := s1.setPw { s1.pw with firmware := true }
  let s3 : State := { s2 with fw := { s2.fw with image := image } }
  let s4 := if boot then s3.ringsStart else s3.enableAll
  ((s4.logStart).ledgerStart boot).stepTo 3

/-- A full start's verification of the images (R92, R93). -/
def State.fullStart (s : State) : State :=
  match s.cfgChoice with
  | none => s.romRecovery true
  | some (c, bs) =>
    let s1 : State := { s with fw := { s.fw with cfg := bs, copy := some c } }
    let first := if byteAt ((s1.cfgRec 0x01).getD []) 0 % 4 = 2 then 2 else 1
    let fail := fun (s : State) (k : Nat) => s.setFlag (if k = 2 then F.BOOT_STATUS_B_FAIL else F.BOOT_STATUS_A_FAIL) true
    if s1.imageOk first then s1.firmwareStart first true
    else
      let s2 := fail s1 first
      if s2.imageOk (3 - first) then s2.firmwareStart (3 - first) true
      else (fail s2 (3 - first)).romRecovery false

/-- Step 2: CTRL and PIX are up, Tightrope's receiver is enabled with the configuration's identifier (R85, R503). -/
def State.step2 (s : State) : State :=
  let s1 := (s.powerOn .ctrl).powerOn .pix
  let rs := match s1.cfgChoice with
    | some (_, bs) => (cfgRecords (bs.length + 1) bs).getD []
    | none => []
  let s2 := match cfgGet rs 0x04 with
    | some v => (s1.regWrite R.SAF_CAN_ID (BitVec.ofNat 32 (leAt v 0 2))).regWrite R.SAF_CAN_BT (BitVec.ofNat 32 (byteAt v 2))
    | none => s1
  s2.stepTo 2

/-- Step 3: the resume path with its digest, or a full start (R90, R92). -/
def State.step3 (s : State) : State :=
  if !s.pw.resume then s.fullStart
  else if s.pw.codeDigest = some (sha256 (s.bytes pondALo Config.codeLen)) then
    match s.cfgChoice with
    | none => s.romRecovery true
    | some (c, bs) =>
      let s1 : State := { s with fw := { s.fw with cfg := bs, copy := some c } }
      (s1.setFlag F.BOOT_STATUS_RESUME true).firmwareStart s1.fw.image false
  else ((s.setFlag F.BOOT_STATUS_RESUME_MISMATCH true).setPw { s.pw with resume := false }).fullStart

/-- Step 4: everything is loaded; SPLASH, or the sleep that waits, or BOOT where the panel has failed (R55, R80 rows 4 and 5,
R134). `therm` and `die` are the temperatures read, as R9 codes them. -/
def State.step4 (s : State) (therm : Nat) (die : List Nat) : State :=
  let s1 : State := { s with cal := { s.cal with panel := therm, die := die }, fw := { s.fw with dmrOk := [false, false] } }
  let s2 := (((s1.loadRegs).loadTiming).loadAreas.loadPicture).stepTo 4
  match s2.pw.pendReq with
  | some (.sleep _ _) => (s2.setTrans .none).servePending false (s2.time, s2.oscTime)
  | _ =>
    let s3 := s2.setPw { s2.pw with trans := .none, pendReq := none }
    if s3.pw.panelFault then s3 else (s3.enterMode .splash 4).raisePanel

/-- START_UP_STEP_COMPLETE: the next of steps 2 to 6 is complete (R85). -/
def execStartUpStepComplete (therm : BitVec 16) (die : List (BitVec 16)) (s : State) : Out :=
  match s.bootStep, s.pw.trans with
  | 1, .startUp => .next s.step2
  | 2, .startUp => .next (if s.pw.rom then s else s.step3)
  | 3, .startUp => .next (s.step4 therm.toNat (padTo 0 5 (die.map (·.toNat))))
  | 4, .none => .next (if s.flag F.BIAS_STATUS_UP_DONE then (s.stepTo 5).regWrite R.SCN_CTRL (s.reg R.SCN_CTRL ||| 1) else s)
  | 5, .none =>
    if s.rs.frames = 0 then .next s
    else
      let s1 := (s.stepTo 6).blRun
      .next (if !s1.pw.resume && s1.flag F.CAL_CTRL_BOOT_EN && s1.cal.run.isNone then
        s1.calStart calStartUp (calSinks ++ calPhotodiodes ++ [.backChannel]) true else s1)
  | _, _ => .next s

/-- DOMAIN_WAKE_DONE: a domain that an access demanded is ready: it is on by an access only unless the mode requires it, LIGHT
brings the boost to its minimum output, and the accesses that stalled for it take place (R113, R114, R143). -/
def execDomainWakeDone (d : Domain) (s : State) : Out :=
  if !s.pw.waking.contains d then .next s
  else
    let s1 := s.setFlag d.demandFld (!s.required s.mode d)
    let s2 := if d = .light then s1.setFld F.BLD_VB_V_B (s1.liveFld F.BLD_BOOST_VB_MIN) else s1
    .next (s2.powerOn d)

end Sys2Proof.Machine
end

