-- ==== Sys2Proof/Machine/Modes.lean ====
section
/-! DEFINITION. The mode change fixed for a frame start: which row of R80 is taken by rank (R83), its guard and its target (R101
to R108), and the rows LOW_RATE_ENTRY and NO_HOST_TIMEOUT that only latch a trigger. -/

namespace Sys2Proof.Machine

/-- Is LOW_RATE enabled: LR_EN, and variable refresh in the timing set in force (R328)? -/
def State.lowRateOn (s : State) : Bool := s.liveFlag F.SCN_LOWRATE_LR_EN && s.liveFlag F.SCN_VRR_VRR_EN

/-- Does the base plane's stream have a complete frame ready to flip (R80 row 7), or, in bypass, lines assembled (R306)? -/
def State.baseReady (s : State) : Bool :=
  (s.plane 0).stream.isSome && ((s.store 0).ready.isSome || ((s.plane 0).bypass && (s.store 0).building))

/-- Is the base plane's stream asleep (R249)? -/
def State.baseAsleep (s : State) : Bool :=
  match (s.plane 0).stream with
  | some k => (s.stream k).asleep
  | none => false

/-- The modes of set V (R545). -/
def Mode.isV : Mode → Bool
  | .splash | .linkUp | .live | .selfRefresh | .lowRate => true
  | _ => false

/-- The rows of R80 whose trigger is latched; the others are conditions that hold at the frame start. -/
def rowLatched (row : Nat) : Bool := row != 7 && row != 8 && row != 13 && row != 14

/-- Do the source mode and the guard of a row hold now (R80)? -/
def State.rowOpen (s : State) (row : Nat) : Bool :=
  let m := s.mode
  match row with
  | 6 => m = .splash && s.inletEnabled
  | 7 => m = .linkUp && s.linkUp && s.enumerated && s.baseReady
  | 8 => m = .live && (s.baseAsleep || !s.linkUp) && s.hostFrame
  | 9 => m = .selfRefresh && s.linkUp
  | 10 => (m = .live || m = .selfRefresh) && s.lowRateOn
  | 11 => m = .lowRate && s.linkUp
  | 12 => (m = .selfRefresh || m = .lowRate) && !s.hostFrame && !s.linkUp
  | 13 => (m.isV || m = .update) && s.flag F.SAF_STATUS_SAFE_LATCH
  | 14 => m = .telltaleOnly && !s.flag F.SAF_STATUS_SAFE_LATCH && 8 ≤ s.saf.run
  | 15 => m.isV && !s.ttAsked
  | 16 => m = .calibrate
  | 17 => m.isV && !s.ttAsked && s.mail.unlocked
  | 19 => m = .service
  | 20 => m.isV
  | 22 => m = .update
  | _ => false

/-- Is a row triggered? -/
def State.rowSet (s : State) (row : Nat) : Bool := !rowLatched row || s.pw.trigs.any fun t => decide (t.row = row)

/-- The rows in the order of their rank (R83): entry to TELLTALE_ONLY, the return from a dark mode for a tell-tale request, the
exit from TELLTALE_ONLY, all others by number. -/
def State.rowOrder (s : State) : List Nat :=
  (if s.reqLive != 0 then [13, 16, 19, 14] else [13, 14]) ++ [6, 7, 8, 9, 10, 11, 12, 15, 16, 17, 19, 20, 22]

/-- The target of the exit from TELLTALE_ONLY (R105). -/
def State.safeExit (s : State) : Mode :=
  if s.linkUp && (s.baseReady || s.hostShown) then .live
  else if s.hostFrame then .selfRefresh
  else if s.inletEnabled then .linkUp
  else .splash

/-- The mode that a dark mode returns to (R79, R106). -/
def State.darkExit (s : State) : Mode :=
  match s.pw.origin with
  | some .live => if s.linkUp then .live else .selfRefresh
  | some m => m
  | none => .splash

/-- The target of a row. -/
def State.rowTarget (s : State) (row : Nat) : Mode :=
  match row with
  | 6 => .linkUp
  | 7 | 9 | 11 => .live
  | 8 => .selfRefresh
  | 10 => .lowRate
  | 12 => .splash
  | 13 => .telltaleOnly
  | 14 => s.safeExit
  | 15 => .calibrate
  | 16 | 19 => s.darkExit
  | 17 => .service
  | 20 => .update
  | _ => s.pw.origin.getD .splash

/-- The splash image comes back onto the glass, unless it is there (R99, R102, R105). -/
def State.splashAgain (s : State) : State :=
  let st := s.store 0
  if st.shown && st.shownGeo.stream.isNone then s else s.showSplash.2

/-- The update session ends: its partitions close, its commands end at their next boundary (R80 row 22, R103). -/
def State.endUpdate (s : State) : State :=
  { s with mail := { s.mail with
    updOpen := 0
    cmds := s.mail.cmds.map fun (c : RunCmd) =>
      if c.opcode = 0x0C01 ∨ c.opcode = 0x0C02 ∨ c.opcode = 0x0C03 then { c with killed := true } else c } }

/-- Test commands of SERVICE end at their next boundary (R106). -/
def State.endTests (s : State) : State :=
  s.setCmds (s.mail.cmds.map fun (c : RunCmd) =>
    if c.opcode = 0x0304 ∨ c.opcode = 0x0502 ∨ c.opcode = 0x0705 then { c with killed := true } else c)

/-- What leaving the mode for the target of a row does beside the change itself. -/
def State.leaveFor (s : State) (row : Nat) (m : Mode) : State :=
  let s1 : State := if m.isDark ∨ m = .update then s.setPw { s.pw with origin := some s.mode } else s
  let s2 := if m.isDark && s1.flag F.BLD_CTRL_RUN then s1.rampDown else s1
  let s3 := if s.mode = .update then s2.endUpdate else s2
  let s4 := if s.mode = .service then s3.endTests else s3
  let s5 := if row = 16 && s4.cal.run.any (fun r => decide (r.kind = calFull)) then s4.calDrop else s4
  let s6 : State := { s5 with rs := { s5.rs with lrStep := 0 } }
  s6

/-- LINK_CFG is put into the control registers of both ports (R96). Their other fields stay. -/
def State.portsOn (s : State) : State :=
  let v := (s.cfgRec 0x02).getD []
  let put := fun (s : State) (p : Nat) =>
    s.regWrite (R.PORT_CTRL p) (withBits (withBits (s.reg (R.PORT_CTRL p)) 0 1 (if s.portEnabled p then 1 else 0)) 4 4
      (byteAt v (2 + p) % 16))
  if v.isEmpty then s else put (put s 0) 1

/-- A mode that requires LINK powers it, with the ports as the configuration has them (R77, R89, log entry 76). -/
def State.linkFor (s : State) : State :=
  if s.required s.mode .link && !s.on .link then (s.powerOn .link).portsOn else s

/-- Panel and backlight run again after a dark mode (R106). In a sleep entry or restart they follow with the restart. -/
def State.relit (s : State) : State :=
  match s.pw.trans with
  | .entering e => s.setTrans (.entering { e with panelUp := true, lit := true })
  | .restarting e => (if s.flag F.BIAS_STATUS_UP_DONE then s else s.biasUp).setTrans (.restarting { e with panelUp := true, lit := true })
  | .none | .startUp => (if s.flag F.BIAS_STATUS_UP_DONE then s else s.biasUp).blRun

/-- What arriving in the target does. -/
def State.arrive (s : State) (was : Mode) : State :=
  let m := s.mode
  let s0 := s.linkFor
  let s1 := if (was = .telltaleOnly && (m = .linkUp || m = .splash)) || ((was = .selfRefresh || was = .lowRate) && m = .splash) then
      s0.splashAgain
    else s0
  if was.isDark && m.isDisplay then s1.relit else s1

/-- The command that waited for a row completes: the mode entered, the figures of a full run, or ABORTED for a run that was
ended (R554, R570, R571). -/
def State.rowDone (s : State) (row tag : Nat) : State :=
  match s.cmd tag with
  | none => s
  | some c =>
    if row = 15 then s.waitIn tag .waitEvent []
    else if row = 16 then
      if c.killed then s.endCmd tag stAborted []
      else s.finishCmd tag stOk (leBytes 2 (c.note.getD 0 0) ++ leBytes 2 (c.note.getD 1 0))
    else s.finishCmd tag stOk [BitVec.ofNat 8 s.mode.code]

/-- A row is taken (R80). -/
def State.takeRow (s : State) (row : Nat) : State :=
  let m := s.rowTarget row
  let cmd := ((s.pw.trigs.find? fun t => decide (t.row = row)).map (·.cmd)).getD none
  let was := s.mode
  let s1 := s.leaveFor row m
  let s2 := (s1.setPw { s1.pw with trigs := s1.pw.trigs.filter fun t => decide (t.row ≠ row) }).enterMode m row
  let s3 := s2.arrive was
  let s4 := match cmd with
    | some tag => s3.rowDone row tag
    | none => s3
  if row = 16 then
    match s4.calCmd with
    | some c => if c.killed then s4.endCmd c.tag stAborted [] else s4
    | none => s4
  else s4

/-- A trigger whose condition no longer holds is given up; its command is refused (R81, R83, R107). -/
def State.dropTrig (s : State) (t : ModeTrig) : State :=
  let s1 := s.setPw { s.pw with trigs := s.pw.trigs.erase t }
  match t.cmd with
  | none => s1
  | some tag =>
    let st := if (t.row = 15 ∨ t.row = 17) ∧ s.mode.isV = true then stDenied else stNotInMode
    s1.endCmd tag st []

/-- Has the vote of a sleep entry succeeded, or is a start-up under way, so that no other transition is taken (R83, R133)? -/
def State.modeHeld (s : State) : Bool :=
  match s.pw.trans with
  | .none | .restarting _ => false
  | .startUp => true
  | .entering e => decide (5 ≤ e.voted)

/-- The mode change of a frame start: one row by rank; the other triggers stay while their conditions hold (R83). -/
def State.modeChange (s : State) : State :=
  if s.modeHeld then s
  else
    let s1 := match s.rowOrder.find? fun row => s.rowSet row && s.rowOpen row with
      | some row => s.takeRow row
      | none => s
    (s1.pw.trigs.filter fun t => !s1.rowOpen t.row && !(t.row = 6 && (s1.mode.isDark || s1.mode = .update))).foldl State.dropTrig s1

/-- LOW_RATE_ENTRY: no FRAME_READY and no change of the request bitmap for LR_ENTRY frames (R80 row 10). -/
def execLowRateEntry (s : State) : Out :=
  if (s.mode = .live || s.mode = .selfRefresh) && s.lowRateOn && decide (s.liveFld F.SCN_LOWRATE_LR_ENTRY ≤ s.pw.quietFrames) then
    .next (s.latch 10 none)
  else .next s

/-- NO_HOST_TIMEOUT: 200 ms without a host and no complete host frame to show (R80 row 12, R102). -/
def execNoHostTimeout (s : State) : Out := .next (if s.rowOpen 12 then s.latch 12 none else s)

end Sys2Proof.Machine
end

