-- ==== Sys2Proof/Machine/Planes.lean ====
section
/-! DEFINITION. The subscription of a plane to a stream (R250, R305, R560): what PLANE_SUB refuses, what it changes and when. -/

namespace Sys2Proof.Machine

/-- The subscription that the parameters of PLANE_SUB ask for (R559). -/
def planeOf (p : List Byte) : Plane where
  stream := if byteAt p 1 = 0xFF then none else some (byteAt p 1)
  bypass := decide (byteAt p 2 = 1)
  cropX := leAt p 4 2
  cropY := leAt p 6 2
  w := leAt p 8 2
  h := leAt p 10 2
  destX := leAt p 12 2
  destY := leAt p 14 2

/-- The state with a plane's subscription replaced. -/
def State.withPlane (s : State) (i : Nat) (p : Plane) : State :=
  { s with vid := { s.vid with planes := listSet s.vid.planes i p } }

/-- Bytes that the overlay streams take (R305). -/
def State.overlayBytes (s : State) : Nat :=
  (([1, 2].filter fun i => (s.storeStream i).isSome).map fun i => 4 * overlaySlot (s.storeRect i)).sum

/-- Does PLANE_SUB complete with BAD_PARAM (R20, R559, R560)? -/
def State.planeSubBad (s : State) (ps : List Byte) : Bool :=
  let i := byteAt ps 0
  let p := planeOf ps
  let k := byteAt ps 1
  decide (2 < i) || (decide (15 < k) && k != 0xFF) ||
    (if i = 0 then p.w != 0 || p.h != 0 || p.destX != 0 || p.destY != 0
      else p.w = 0 || p.h = 0 || p.bypass || decide (s.hActive < p.destX + p.w) || decide (s.vActive < p.destY + p.h) ||
        decide (overlaySize < (s.withPlane i p).overlayBytes))

/-! ### A plane moves (R305) -/

/-- The rows of a plane's picture as it stands on the glass, black where nothing is stored. -/
def State.planeRows (s : State) (p : Nat) : List (List Px) :=
  let q := s.shownPlane p
  match s.keptOf p with
  | some k => k.rows
  | none => (List.range q.h).map fun v => (List.range q.w).map fun u =>
      match s.fetchAt p u (q.destY + v) with
      | some (line, lx, _) => s.rawPixel line lx
      | none => Px.black

/-- The frame that overlay plane `p` shows stays on the glass until build `from'` of its new storage; a plane that shows none shows
none until then. -/
def State.keepFrame (s : State) (p from' : Nat) : State :=
  let st := s.store (s.storeOf p)
  let k : Kept := match s.keptOf p with
    | some k => { k with from' := from' }
    | none =>
      if st.shown then ⟨s.plane p, st.shownGeo.sw, st.shownGeo.sh, s.planeRows p, from'⟩ else ⟨Plane.reset, 0, 0, [], from'⟩
  { s with vid := { s.vid with kept := listSet s.vid.kept p (some k) } }

/-- The tiles of an old geometry that tile `t` of a new one meets. -/
def Geo.tilesUnder (old new : Geo) (t : Nat) : List Nat :=
  let r := new.tileRect t
  let abs : Rect := ⟨r.x + new.rect.x, r.y + new.rect.y, r.w, r.h⟩
  (List.range (old.cols * ceilDiv old.rect.h 16)).filter fun u =>
    let q := old.tileRect u
    !(abs.meet ⟨q.x + old.rect.x, q.y + old.rect.y, q.w, q.h⟩).empty

/-- The picture of a map of a store over another rectangle of its stream, black where nothing is stored. -/
def State.mapRows (s : State) (old : Geo) (m : TileMap) (r : Rect) : List (List Px) :=
  (List.range r.h).map fun v => (List.range r.w).map fun u =>
    if old.rect.has (r.x + u) (r.y + v) then
      let lx := r.x + u - old.rect.x
      let ly := r.y + v - old.rect.y
      s.rawPixel (old.line (slotIn m (old.tile lx ly)) ly) lx
    else Px.black

/-- Rows written into a slot of a geometry, encoded afresh. -/
def State.putRows (s : State) (g : Geo) (k : Nat) (rows : List (List Px)) : State :=
  rows.zipIdx.foldl (fun s row =>
    row.1.zipIdx.foldl (fun s p => s.setRawPixel (g.line k row.2) p.2 p.1) s)
    (s.freshTile g k ⟨0, 0, g.rect.w, g.rect.h⟩)

/-- Store `b` takes over the frames of store `a` under a new geometry: DISPLAYED, READY, BUILD and NEXT keep their content, each in a
slot of its own (R305: the plane that did not move keeps its frames; log entry 84). -/
def State.moveStore (s : State) (a b : Nat) (g : Geo) : State :=
  let st := s.store a
  let tiles := List.range (g.cols * ceilDiv g.rect.h 16)
  let all := fun (old : Geo) (m : TileMap) (k : Nat) => tiles.foldl (fun (n : TileMap) t =>
    setTile n t ⟨k, (old.tilesUnder g t).any fun u => (tileIn m u).poison⟩) []
  let nextIn := tiles.filter fun t => (st.geo.tilesUnder g t).any (flagIn st.nextTiles)
  let nextMap := st.nextTiles.foldl (fun m p => setTile m p.1 (tileIn st.next p.1)) st.build
  let s1 := s.putRows g 0 (s.mapRows st.shownGeo st.displayed g.rect)
  let s2 := match st.ready with
    | some m => s1.putRows g 1 (s.mapRows st.geo m g.rect)
    | none => s1
  let s3 := if st.building then s2.putRows g 2 (s.mapRows st.geo st.build g.rect) else s2
  let s4 := if nextIn.isEmpty then s3 else s3.putRows g 3 (s.mapRows st.geo nextMap g.rect)
  s4.setStore b { st with
    displayed := all st.shownGeo st.displayed 0
    ready := st.ready.map fun m => all st.geo m 1
    build := if st.building then all st.geo st.build 2 else []
    built := []
    next := nextIn.foldl (fun n t => setTile n t (tileIn (all st.geo nextMap 3) t)) []
    nextTiles := nextIn.foldl (fun n t => mapSet (fun _ => false) n t true) []
    geo := g
    shownGeo := { g with sw := st.shownGeo.sw, sh := st.shownGeo.sh } }

/-- A plane moves. A store that changes its stream or its place gives up its back slots, the frame that the plane displays stays on
the glass until the first complete frame in its own storage, and the other overlay plane keeps its frames (R305). -/
def State.subscribe (s : State) (i : Nat) (p : Plane) : State :=
  let s1 := s.withPlane i p
  let geo := fun (k : Nat) => s1.mkGeo k (s1.storeStream k) (s1.storeRect k)
  if i = 0 then
    (if (s.store 0).geo = geo 0 then s1 else s1.setStore 0 { (s.store 0).abandon with geo := geo 0 })
  else
    let j := 3 - i
    let a := s.storeOf j
    let b := s1.storeOf j
    let c := s1.storeOf i
    let same := decide (s.storeOf i = c ∧ (s.plane i).stream = p.stream ∧ s.crop i = s1.crop i)
    let s2 := if (s.plane j).stream.isNone || (a = b && decide ((s.store a).geo = geo b)) then s1 else s1.moveStore a b (geo b)
    if same then s2
    else
      let shared := decide (b = c) && (s.plane j).stream.isSome
      let s3 := if shared then s2 else s2.setStore c { (s.store c).abandon with geo := geo c, shown := false, displayed := [] }
      let x := s3.store c
      let kept := (s.keepFrame i (if shared && (x.building || !x.nextTiles.isEmpty) then x.seq + 1 else x.seq)).vid.kept
      let s4 : State := { s3 with vid := { s3.vid with kept := if p.stream.isSome then kept else listSet s.vid.kept i none } }
      if s4.storeStream 2 = none then s4.setStore 2 { Store.reset with geo := geo 2, shownGeo := geo 2 } else s4

/-- The subscription of a PLANE_SUB takes effect and the command completes with the frame (R548, R560). -/
def State.subscribeCmd (s : State) (c : RunCmd) : State :=
  (s.subscribe (byteAt c.params 0) (planeOf c.params)).finishCmd c.tag stOk (leBytes 4 s.frame.toNat)

/-! ### Commands that complete at a frame start (R548, R569) -/

/-- A command whose effect belongs to a frame start waits for it: its scratch words are the frame it was given in, whether it
missed that frame's window, and the low bits of the module time. With the raster stopped it takes effect at once (R671). -/
def State.waitFrame (s : State) (c : RunCmd) (late : Bool) : State :=
  let c1 := { c with phase := .waitEvent, note := [s.frame.toNat, if late then 1 else 0, s.time.toNat] }
  if s.rs.running then s.setCmd c1
  else if c.opcode = 0x0400 then s.subscribeCmd c
  else s.finishCmd c.tag stOk (leBytes 4 s.frame.toNat)

/-- Is a waiting command due at this line 0? A subscription, a performance floor and a budget keep the rule of ordinary commits
(R337); a request over MB2 must be 10 us old, 1,563 periods (R489, R569). -/
def State.frameDue (s : State) (c : RunCmd) : Bool :=
  let f := BitVec.ofNat 32 (c.note.getD 0 0)
  let onTime := f != s.frame && (c.note.getD 1 0 = 0 || f + 1 != s.frame)
  c.phase = .waitEvent &&
    (match c.opcode with
      | 0x0400 | 0x0201 | 0x0202 => onTime
      | 0x0800 => f != s.frame && (c.mb != 2 || decide (1563 ≤ s.since (BitVec.ofNat 48 (c.note.getD 2 0))))
      | _ => false)

/-- The commands that are due at this line 0 take effect and complete. -/
def State.framesDue (s : State) : State :=
  s.mail.cmds.foldl (fun (s : State) (c : RunCmd) =>
    if !s.frameDue c then s
    else if c.opcode = 0x0400 then s.subscribeCmd c
    else s.finishCmd c.tag stOk (leBytes 4 s.frame.toNat)) s

end Sys2Proof.Machine
end

