-- ==== Sys2Proof/Machine/Take.lean ====
section
/-! DEFINITION. Taking a command (R523 to R526, R545 to R547, R580): the table of commands, the checks in their order, the
command's start, its step boundaries and its timeout (R527, R530). -/

namespace Sys2Proof.Machine

/-! ### The command table (R544 to R547, R552 to R578) -/

/-- The sets of modes of R545. -/
inductive ModeSet where
  | a | p | l | v | c | s | u
deriving DecidableEq, Repr

/-- The resources of R546. -/
inductive Res where
  | mode | link | panel | crc | dma | cal | flash
deriving DecidableEq, Repr

/-- An entry of the command tables: its opcode; for each parameter byte the bits that the entry names, as many as PLEN; its
modes and whether ROM recovery takes it; whether it is a status command and a long one; its resources; its time bound in
units of 10 us, a frame being 33.34 ms (R544 to R547). -/
structure CmdInfo where
  opcode : Nat
  bytes : List Nat
  sets : List ModeSet
  rom : Bool := false
  st : Bool := false
  long : Bool := false
  res : List Res := []
  bound : Nat
deriving DecidableEq, Repr

/-- `n` parameter bytes whose every bit has a meaning. -/
def ff (n : Nat) : List Nat := List.replicate n 0xFF

/-- Groups 0x01xx and 0x02xx (R552, R554). -/
def cmdsSystem : List CmdInfo := [
  { opcode := 0x0100, bytes := ff 1, sets := [.a], rom := true, st := true, bound := 2 },
  { opcode := 0x0101, bytes := [], sets := [.a], rom := true, st := true, bound := 2 },
  { opcode := 0x0102, bytes := [], sets := [.a], st := true, bound := 2 },
  { opcode := 0x0103, bytes := ff 4, sets := [.a], rom := true, res := [.mode], bound := 1000 },
  { opcode := 0x0200, bytes := ff 1, sets := [.a], res := [.mode], bound := 3334 },
  { opcode := 0x0201, bytes := ff 1, sets := [.p], bound := 6668 },
  { opcode := 0x0202, bytes := ff 2, sets := [.a], bound := 6668 },
  { opcode := 0x0203, bytes := [0xFF, 0x13, 0xFF, 0xFF], sets := [.a], bound := 5 },
  { opcode := 0x0204, bytes := [], sets := [.v], res := [.mode], bound := 3334 },
  { opcode := 0x0205, bytes := [], sets := [.s], res := [.mode], bound := 3734 },
  { opcode := 0x0206, bytes := [], sets := [.a], st := true, bound := 2 }]

/-- Groups 0x03xx and 0x04xx (R557, R559). -/
def cmdsLink : List CmdInfo := [
  { opcode := 0x0300, bytes := ff 1, sets := [.l], st := true, bound := 2 },
  { opcode := 0x0301, bytes := ff 1, sets := [.l], res := [.link], bound := 300 },
  { opcode := 0x0302, bytes := [0xFF, 0x1F], sets := [.l], res := [.link], bound := 100 },
  { opcode := 0x0303, bytes := [0xFF, 0xFF, 0x1F, 0x0F, 0x03], sets := [.l], bound := 5 },
  { opcode := 0x0304, bytes := [0xFF, 0x3B, 0x03, 0, 0xFF, 0xFF, 0xFF, 0xFF], sets := [.s], long := true, res := [.link],
    bound := 500 },
  { opcode := 0x0400, bytes := [0xFF, 0xFF, 0x01, 0] ++ ff 12, sets := [.a], bound := 6668 },
  { opcode := 0x0401, bytes := [0xFF, 0x03, 0xFF, 0x01, 0xFF, 0xFF, 0xFF, 0x3F], sets := [.a], bound := 6668 },
  { opcode := 0x0402, bytes := ff 1, sets := [.a], res := [.mode], bound := 10002 },
  { opcode := 0x0403, bytes := [0x01, 0xFF, 0xFF, 0xFF], sets := [.a], bound := 6668 },
  { opcode := 0x0404, bytes := [0x03], sets := [.a], bound := 2 },
  { opcode := 0x0405, bytes := ff 1, sets := [.l], bound := 2 }]

/-- Groups 0x05xx and 0x06xx (R562, R564). -/
def cmdsPanel : List CmdInfo := [
  { opcode := 0x0500, bytes := [0xFF, 0x7F, 0xFF, 0x3F, 0xFF, 0x03, 0x01], sets := [.p], bound := 6668 },
  { opcode := 0x0501, bytes := [0xFF, 0] ++ (List.replicate 7 [0xFF, 0x03]).flatten, sets := [.p], bound := 6668 },
  { opcode := 0x0502, bytes := ff 1, sets := [.s], long := true, res := [.panel], bound := 6000 },
  { opcode := 0x0503, bytes := [0xFF, 0xFF, 0xFF, 0xFF, 0x01, 0xFF], sets := [.p], bound := 6668 },
  { opcode := 0x0504, bytes := [0x07, 0, 0xFF, 0x03, 0xFF, 0x03, 0x1F, 0, 0xFF, 0xFF, 0xFF, 0, 0xFF, 0xFF], sets := [.p],
    bound := 6668 },
  { opcode := 0x0505, bytes := [], sets := [.p], st := true, bound := 2 },
  { opcode := 0x0506, bytes := ff 3, sets := [.p], bound := 2 },
  { opcode := 0x0600, bytes := [0xFF, 0xFF, 0, 0] ++ ff 8, sets := [.a], long := true, res := [.crc], bound := 200000 },
  { opcode := 0x0601, bytes := [0x07], sets := [.a], res := [.crc], bound := 13336 },
  { opcode := 0x0602, bytes := [0xFF, 0, 0, 0] ++ ff 4, sets := [.a], long := true, bound := 20000 },
  { opcode := 0x0603, bytes := [0x03, 0, 0xFF, 0x01] ++ ff 15, sets := [.a], bound := 6668 },
  { opcode := 0x0604, bytes := [0xFF, 0, 0, 0] ++ ff 4, sets := [.a], long := true, res := [.crc], bound := 20000 },
  { opcode := 0x0605, bytes := [0x3F, 0] ++ ff 12, sets := [.a], res := [.crc], bound := 13336 }]

/-- Group 0x07xx (R566). -/
def cmdsLight : List CmdInfo := [
  { opcode := 0x0700, bytes := [0x4F, 0xFF, 0xFF, 0x03], sets := [.a], bound := 6668 },
  { opcode := 0x0701, bytes := [0xFF, 0xFF, 0xFF, 0xFF, 0x01, 0xFF, 0x01], sets := [.a], bound := 6668 },
  { opcode := 0x0702, bytes := [0xFF, 0xFF, 0x0F], sets := [.a], res := [.crc], bound := 13336 },
  { opcode := 0x0703, bytes := ff 2, sets := [.p], bound := 100 },
  { opcode := 0x0704, bytes := ff 2, sets := [.p], bound := 2 },
  { opcode := 0x0705, bytes := [], sets := [.c, .s], res := [.panel], bound := 200 },
  { opcode := 0x0706, bytes := ff 8, sets := [.p], bound := 10 },
  { opcode := 0x0707, bytes := [0x03, 0xFF, 0xFF, 0, 0xFF, 0x01, 0xFF, 0x01, 0xFF, 0xFF, 0xFF, 0xFF, 0x0F, 0xFF, 0xFF, 0x0F],
    sets := [.a], bound := 6668 },
  { opcode := 0x0708, bytes := [0x01, 0] ++ ff 10, sets := [.a], bound := 6668 }]

/-- Groups 0x08xx and 0x09xx (R568, R570). -/
def cmdsTell : List CmdInfo := [
  { opcode := 0x0800, bytes := ff 4, sets := [.a], bound := 3335 },
  { opcode := 0x0801, bytes := ff 1, sets := [.p], res := [.mode], bound := 6668 },
  { opcode := 0x0802, bytes := ff 1, sets := [.a], long := true, res := [.crc], bound := 50000 },
  { opcode := 0x0803, bytes := ff 4, sets := [.a], bound := 3334 },
  { opcode := 0x0804, bytes := [], sets := [.a], st := true, bound := 2 },
  { opcode := 0x0805, bytes := ff 1, sets := [.a], st := true, bound := 2 },
  { opcode := 0x0806, bytes := [0x03], sets := [.a], bound := 2 },
  { opcode := 0x0900, bytes := [], sets := [.v], long := true, res := [.cal, .mode], bound := 250000 },
  { opcode := 0x0901, bytes := [], sets := [.c], bound := 400 },
  { opcode := 0x0902, bytes := [], sets := [.a], st := true, bound := 2 },
  { opcode := 0x0903, bytes := ff 2, sets := [.a], bound := 2 },
  { opcode := 0x0904, bytes := ff 4, sets := [.a], long := true, res := [.cal], bound := 1000 },
  { opcode := 0x0905, bytes := ff 4, sets := [.a], long := true, res := [.cal], bound := 1000 }]

/-- Groups 0x0Axx and 0x0Bxx (R572, R574). -/
def cmdsMem : List CmdInfo := [
  { opcode := 0x0A00, bytes := ff 4, sets := [.a], rom := true, bound := 2 },
  { opcode := 0x0A01, bytes := ff 5 ++ [0, 0, 0] ++ ff 16, sets := [.a], rom := true, bound := 1 },
  { opcode := 0x0A02, bytes := [0xFF, 0, 0, 0] ++ ff 20, sets := [.a], long := true, res := [.dma], bound := 100 },
  { opcode := 0x0A03, bytes := ff 8, sets := [.p], long := true, res := [.dma], bound := 6668 },
  { opcode := 0x0B00, bytes := [0xFF, 0xFF, 0x03], sets := [.a], bound := 10 },
  { opcode := 0x0B01, bytes := ff 3, sets := [.a], bound := 10 },
  { opcode := 0x0B02, bytes := ff 4, sets := [.a], st := true, bound := 2 },
  { opcode := 0x0B03, bytes := ff 4, sets := [.a], bound := 2 }]

/-- Groups 0x0Cxx and 0x0Dxx (R576, R578). -/
def cmdsUpdate : List CmdInfo := [
  { opcode := 0x0C00, bytes := [0x0F], sets := [.v], res := [.mode], bound := 3334 },
  { opcode := 0x0C01, bytes := [0xFF, 0, 0, 0] ++ ff 8, sets := [.u], rom := true, long := true, res := [.flash], bound := 5000 },
  { opcode := 0x0C02, bytes := [0x1F], sets := [.u], rom := true, long := true, res := [.flash], bound := 50000 },
  { opcode := 0x0C03, bytes := [], sets := [.u], rom := true, res := [.flash, .mode], bound := 60000 },
  { opcode := 0x0C04, bytes := [], sets := [.u], res := [.mode], bound := 8334 },
  { opcode := 0x0C05, bytes := [], sets := [.a], bound := 100 },
  { opcode := 0x0C06, bytes := ff 16, sets := [.a], bound := 100 },
  { opcode := 0x0C07, bytes := [], sets := [.a], bound := 2 },
  { opcode := 0x0D00, bytes := ff 4, sets := [.a], st := true, bound := 2 },
  { opcode := 0x0D01, bytes := ff 12, sets := [.a], bound := 2 }]

/-- Every command. -/
def cmdTable : List CmdInfo :=
  cmdsSystem ++ cmdsLink ++ cmdsPanel ++ cmdsLight ++ cmdsTell ++ cmdsMem ++ cmdsUpdate

/-- The entry of an opcode. -/
def cmdInfo (op : Nat) : Option CmdInfo := cmdTable.find? fun i => decide (i.opcode = op)

/-! ### Check 2: who may send it (R490, R524, R535, R556, R558, R569, R577) -/

/-- Does a mailbox's sender lack the right to a command? -/
def State.denied (s : State) (i : CmdInfo) (mb : Nat) (ps : List Byte) : Bool :=
  let op := i.opcode
  let excl := s.flag F.SAF_STATUS_EXCL && mb != 2
  (mb = 2 && op / 256 != 8 && !i.st) ||
    (mb = 3 && !s.mail.unlocked && op != 0x0C05 && op != 0x0C06) ||
    ((op = 0x0204 || op = 0x0205 || (op = 0x0200 && byteAt ps 0 = 10 && s.mode != .service)) && mb != 3) ||
    (mb = 0 && byteAt ps 0 = 0 && (op = 0x0304 || (op = 0x0302 && (byteAt ps 1).testBit 4))) ||
    (excl && (op = 0x0800 || op = 0x0806 || (op = 0x0801 && byteAt ps 0 = 0)))

/-! ### Check 3: the mode (R545, R580) -/

/-- Is a mode in a set? -/
def ModeSet.has (k : ModeSet) (m : Mode) : Bool :=
  let awake := m != .dormant && m != .standby
  match k with
  | .a => awake
  | .p => awake && m != .boot
  | .l => awake && m != .boot && m != .splash
  | .v => m.isV
  | .c => m = .calibrate
  | .s => m = .service
  | .u => m = .update

/-- Does the mode allow a command? ROM recovery allows only what names it. -/
def State.modeAllows (s : State) (i : CmdInfo) : Bool :=
  if s.pw.rom then i.rom else i.sets.any fun k => k.has s.mode

/-! ### Check 4: PLEN and the parameters -/

/-- Are PLEN and every unnamed or reserved bit as R544 asks? -/
def plenOk (i : CmdInfo) (plen : Nat) (ps : List Byte) : Bool :=
  plen = i.bytes.length &&
    (List.range 24).all fun k => byteAt ps k &&& (255 - i.bytes.getD k 0) = 0

/-- Bytes of the staging area (R551). -/
abbrev stagingSize : Nat := 0x00800000

/-- Frame store offset of the staging area. -/
abbrev stagingOff : Nat := 0x1E000000

/-- Does an image with its digest fit the staging area (R551)? -/
def stagedFits (off len : Nat) : Bool := off + len + 32 ≤ stagingSize

/-- Who may touch a region of R573 how: first address, the first beyond, all mailboxes or MB3 only, writable. The first row
that holds an address decides. -/
def memRegions : List (Nat × Nat × Bool × Bool) := [
  (0x5E000000, 0x5E800000, true, true), (0x5F800000, 0x60000000, true, false), (0x40000000, 0x60000000, false, false),
  (0x000A0000, 0x000B0000, true, false), (0x70000000, 0x70040000, true, false), (0x78000000, 0x7A000000, true, false),
  (0x00000000, 0x00060000, false, false), (0x00080000, 0x000A0000, false, false)]

/-- May a mailbox read, or write, `n` bytes from an address on (R573)? -/
def memAllowed (mb a n : Nat) (write : Bool) : Bool :=
  match memRegions.find? fun r => decide (r.1 ≤ a ∧ a < r.2.1) with
  | none => false
  | some (_, hi, all, w) => decide (a + n ≤ hi) && (if write then w else all || mb = 3)

/-- The filter of R34 and R579: may a mailbox read, or write, a register? -/
def State.regAllowed (s : State) (mb a : Nat) (write : Bool) : Bool :=
  let b := blkOf a
  if mb = 2 then !write && (b = some .saf || b = some .sys)
  else if !write then true
  else
    match b with
    | some .slu | some .lda | some .opt => true
    | some .saf | some .mbx | some .pwr | none => false
    | some _ => mb = 3 && s.mode = .service

/-- First address and size of a PART (R31, R576); in ROM recovery PART 0 is image A and PART 4 image B. -/
def State.partOf (s : State) (k : Nat) : Option (Nat × Nat) :=
  match k with
  | 0 => if s.pw.rom then some (imageA, imageSize)
    else some (if s.fw.image = 1 then imageB else imageA, imageSize)
  | 1 => some (assetBase, assetSize)
  | 2 => some (panelBase, panelSize)
  | 3 => some (copyAddr (match s.fw.copy with
      | some c => 1 - c
      | none => 0), copySize)
  | 4 => if s.pw.rom then some (imageB, imageSize) else none
  | _ => none

/-- UPDATE_WRITE's PART, OFFSET and LEN (R576, R577). -/
def State.updateBad (s : State) (ps : List Byte) : Bool :=
  let k := byteAt ps 0
  let off := leAt ps 4 4
  let len := leAt ps 8 4
  match s.partOf k with
  | none => true
  | some (_, size) => off % 0x10000 != 0 || len % 0x1000 != 0 || decide (0x100000 < len) ||
      decide (size < off + len) || (!s.pw.rom && !s.mail.updOpen.testBit k)

/-- XCHAIN_SET's parameters by KIND (R566). -/
def xchainBad (ps : List Byte) : Bool :=
  let zero := fun (l : List Nat) => l.all fun k => byteAt ps k = 0
  match byteAt ps 0 with
  | 0 => decide (1 < byteAt ps 1) || decide (127 < byteAt ps 2) || !zero [3, 4, 5, 6, 7]
  | 1 => decide (511 < leAt ps 2 2) || decide (8191 < leAt ps 4 2) || decide (4607 < leAt ps 6 2) || !zero [1]
  | 2 => decide (31 < byteAt ps 1) || !zero [2, 3]
  | _ => true

/-- CAPTURE's rectangle (R573). -/
def State.captureBad (s : State) (ps : List Byte) : Bool :=
  let w := leAt ps 4 2
  let h := leAt ps 6 2
  w = 0 || h = 0 || decide (s.hActive < leAt ps 0 2 + w) || decide (s.vActive < leAt ps 2 2 + h) ||
    decide (stagingSize < h * linePitch w)

/-- The status of a command whose parameters break a limit that its entry gives; none where they keep to all. -/
def State.paramErr (s : State) (op mb : Nat) (ps : List Byte) : Option Nat :=
  let bad := fun (b : Bool) => if b then some stBadParam else none
  let b0 := byteAt ps 0
  match op with
  | 0x0100 => bad (decide (2 < b0))
  | 0x0103 => bad (leAt ps 0 4 != 0xA55A0F0F)
  | 0x0200 => bad (decide (11 < b0))
  | 0x0201 => bad (decide (3 < b0))
  | 0x0202 => bad (decide (leAt ps 0 2 < 50) || decide (1200 < leAt ps 0 2))
  | 0x0203 => bad (decide (0x46 < b0))
  | 0x0300 | 0x0301 => bad (decide (1 < b0))
  | 0x0302 => bad (decide (1 < b0) || byteAt ps 1 % 2 = 0)
  | 0x0303 => bad (decide (1 < b0) || decide (8 < byteAt ps 1))
  | 0x0304 => bad (decide (1 < b0) || byteAt ps 1 % 4 = 0 || (b0 = 0 && byteAt ps 1 % 4 = 3) || leAt ps 4 4 = 0 || decide (30000 < leAt ps 4 4))
  | 0x0400 => bad (s.planeSubBad ps)
  | 0x0401 => bad (b0 = 0 || decide (2 < b0) || decide (256 < leAt ps 2 2))
  | 0x0402 => bad (decide (15 < b0) || (cfgAt s.cfg 0x10 b0).isNone)
  | 0x0403 => bad (decide (byteAt ps 1 < 30) || decide (120 < byteAt ps 1))
  | 0x0405 => bad (decide (15 < b0))
  | 0x0501 => bad (decide (1 < b0))
  | 0x0502 => bad (decide (1 < b0))
  | 0x0503 => bad (byteAt ps 5 = 0 || decide (12 < byteAt ps 5) || decide (stagingSize < leAt ps 0 4 + 16))
  | 0x0504 => bad (b0 % 2 != s.liveFld F.COL_CFG_RATE)
  | 0x0600 => bad (decide (2 < b0) || decide (1 < byteAt ps 1) || (b0 = 2 && !stagedFits (leAt ps 4 4) (leAt ps 8 4)))
  | 0x0602 => bad ((b0 != 0 && b0 != 2) || (b0 = 2 && !stagedFits (leAt ps 4 4) odvImageLen))
  | 0x0604 => bad ((b0 != 0 && b0 != 2) || (b0 = 2 && !stagedFits (leAt ps 4 4) dthImageLen))
  | 0x0703 => bad (decide (4607 < leAt ps 0 2) && leAt ps 0 2 != 0xFFFF)
  | 0x0704 => bad (decide (4607 < leAt ps 0 2))
  | 0x0706 => bad (xchainBad ps)
  | 0x0801 => bad (decide (1 < b0))
  | 0x0802 => bad (decide (7 < b0))
  | 0x0803 => bad (leAt ps 0 4 != (BitVec.ofNat 32 (leAt ps 0 4) &&& s.saf.configured).toNat)
  | 0x0805 => bad (decide (2 < b0))
  | 0x0903 => bad (decide (2 < b0) || decide ((if b0 = 2 then 1 else if b0 = 1 then 8 else 7) < byteAt ps 1) || (b0 = 1 && byteAt ps 1 != 8))
  | 0x0904 => bad (decide (stagingSize < leAt ps 0 4 + 552 + 32))
  | 0x0905 => bad (!stagedFits (leAt ps 0 4) 552)
  | 0x0A00 => if leAt ps 0 4 % 8 ≠ 0 then some stAlign else if memAllowed mb (leAt ps 0 4) 8 false then none else some stDenied
  | 0x0A01 =>
    let n := byteAt ps 4
    if leAt ps 0 4 % 8 ≠ 0 ∨ n % 8 ≠ 0 then some stAlign
    else if n ≠ 8 ∧ n ≠ 16 then some stBadParam
    else if memAllowed mb (leAt ps 0 4) n true then none else some stDenied
  | 0x0A02 =>
    let src := leAt ps 4 4
    let dst := leAt ps 8 4
    let n := leAt ps 12 4
    if 2 < b0 ∨ 0x08000000 < n then some stBadParam
    else if src % 8 ≠ 0 ∨ dst % 8 ≠ 0 ∨ n % 8 ≠ 0 then some stAlign
    else if (b0 = 1 || memAllowed mb src n false) && memAllowed mb dst n true then none else some stDenied
  | 0x0A03 => bad (s.captureBad ps)
  | 0x0B00 =>
    let ix := leAt ps 0 2
    bad (if (byteAt ps 2).testBit 1 then ix != 0xFFFF else decide (min 255 s.mail.openList.length ≤ ix))
  | 0x0B01 => bad (decide (1 < byteAt ps 2) || (s.logEntryAddr (leAt ps 0 2)).isNone)
  | 0x0B02 => bad (!liveCounters.contains (leAt ps 0 4))
  | 0x0C01 => bad (s.updateBad ps)
  | 0x0C02 => bad (!s.pw.rom && (b0.testBit 4))
  | 0x0D00 | 0x0D01 =>
    let a := leAt ps 0 4
    if regionOf (a / 4 * 4) ≠ .regs ∧ regionOf (a / 4 * 4) ≠ .alwaysOn then some stBadParam
    else if a % 4 ≠ 0 then some stAlign
    else if s.regAllowed mb a (op = 0x0D01) then none else some stDenied
  | _ => none

/-! ### Check 5: resources (R526, R546, R550) -/

/-- Does a value of DTH_CTRL change the pixels of drawn windows against the one in force (R366)? -/
def State.dthChanges (s : State) (v : Word) : Bool := (v ^^^ s.live R.DTH_CTRL) &&& 0x59 != 0

/-- The value of DTH_CTRL that COLUMN_CFG writes: DEPTH with DEPTH8 (R563). -/
def State.depthCtrl (s : State) (d8 : Bool) : Word :=
  withBits (s.reg R.DTH_CTRL) F.DTH_CTRL_DEPTH.lo 1 (if d8 then 1 else 0)

/-- The resources that a command holds; one that changes window pixels holds CRC too (R366, R550, R563). A MODE_SET to a sleep
target follows the pending-slot rules in place of the MODE resource (R82, R133). -/
def State.resources (s : State) (i : CmdInfo) (ps : List Byte) : List Res :=
  let b0 := byteAt ps 0
  match i.opcode with
  | 0x0200 => if b0 = 9 then [.cal, .mode] else if b0 < 2 then [] else i.res
  | 0x0402 => if s.dthChanges (BitVec.ofNat 32 (leAt ((cfgAt s.cfg 0x10 b0).getD []) 72 4)) then .crc :: i.res else i.res
  | 0x0504 => if s.dthChanges (s.depthCtrl (b0.testBit 2)) then .crc :: i.res else i.res
  | _ => i.res

/-- The resources that the commands in flight hold. -/
def State.heldRes (s : State) : List Res :=
  (s.mail.cmds.map fun (c : RunCmd) => match cmdInfo c.opcode with
    | some i => s.resources i c.params
    | none => []).flatten

/-- Is a resource that the command needs taken (R82, R526, R546, R550)? -/
def State.resBusy (s : State) (i : CmdInfo) (ps : List Byte) : Bool :=
  let need := s.resources i ps
  need.any (fun r => s.heldRes.contains r) || (need.contains .crc && s.crcHolds) ||
    (need.contains .mode && s.inTransition)

/-! ### Take -/

/-- The time bound of a command in units of 10 us (R547). -/
def cmdBound (i : CmdInfo) (ps : List Byte) : Nat :=
  match i.opcode with
  | 0x0200 => if byteAt ps 0 < 2 then 21200 else if byteAt ps 0 = 9 then 250000 else 3334
  | 0x0304 => 100 * (leAt ps 4 4 + 5)
  | 0x0A02 => 100 * (ceilDiv (leAt ps 12 4) 0x100000 + 1)
  | 0x0C01 => 5000 * ceilDiv (leAt ps 8 4) 0x10000
  | _ => i.bound

/-- The default timeout in ms (R547). -/
def cmdTimeout (i : CmdInfo) (ps : List Byte) : Nat := clampNat (ceilDiv (2 * cmdBound i ps) 100) 10 65535

/-- The first check of R523 that fails, with its status. In ROM recovery every command but those that R580 lists completes with
NOT_IN_MODE (R93). -/
def State.takeErr (s : State) (mb op plen : Nat) (ps : List Byte) : Option Nat :=
  match cmdInfo op with
  | none => some (if s.pw.rom then stNotInMode else stBadOpcode)
  | some i =>
    if s.pw.rom && !i.rom then some stNotInMode
    else if s.denied i mb ps then some stDenied
    else if !s.modeAllows i then some stNotInMode
    else if !plenOk i plen ps then some stBadParam
    else
      match s.paramErr op mb ps with
      | some st => some st
      | none => if s.resBusy i ps then some stBusy else none

/-- Is a command long (R525)? MODE_SET to CALIBRATE is CAL_FULL_RUN (R555). -/
def RunCmd.isLong (c : RunCmd) : Bool :=
  match cmdInfo c.opcode with
  | some i => i.long || (c.opcode = 0x0200 && byteAt c.params 0 = 9)
  | none => false

/-- May the firmware take a mailbox's next command: one waits, and every earlier one in flight is long (R525)? -/
def State.takeable (s : State) (n : Nat) : Bool :=
  decide (0 < (s.mb n).accepted) && s.mail.cmds.all fun (c : RunCmd) => c.mb != n || c.isLong

/-- The mailbox that is served next: MB2, then the rotation of MB0, MB1 and MB3 (R523). The boot ROM serves MB1 alone, one
command at a time (R580). -/
def State.nextBox (s : State) : Option Nat :=
  if s.pw.rom then (if decide (0 < (s.mb 1).accepted) && s.mail.cmds.isEmpty then some 1 else none)
  else
    let order := match s.mail.turn with
      | 1 => [2, 1, 3, 0]
      | 3 => [2, 3, 0, 1]
      | _ => [2, 0, 1, 3]
    order.find? s.takeable

/-- The mailbox after `n` in the rotation. -/
def nextTurn (n : Nat) : Nat := if n = 0 then 1 else if n = 1 then 3 else 0

/-- CAL_SAVE and CAL_RESTORE hold the CAL resource from their start on (R626). -/
def State.calHold (s : State) (op : Nat) : State :=
  if op = 0x0904 ∨ op = 0x0905 then s.setCal { s.cal with held := true } else s

/-- The front command of mailbox `n` leaves its slot and is checked: it starts, or completes at once (R519, R523, R539). A
reserved byte 7 that is not 0 counts as a wrong PLEN (R513, R544). -/
def State.takeFrom (s : State) (n : Nat) : State :=
  let b := s.mb n
  let h := s.fld (F.MBX_CMD_HEAD_CMD_HEAD n)
  let slot := s.bytes (slotAddr n h) 32
  let s1 := (s.setMb n { b with accepted := b.accepted - 1 }).setFld (F.MBX_CMD_HEAD_CMD_HEAD n) (h + 1)
  let s2 := s1.countUp (F.MBX_CNT_TAKEN n)
  let s3 : State := if n = 2 then s2 else { s2 with mail := { s2.mail with turn := nextTurn n } }
  let op := leAt slot 0 2
  let cookie := leAt slot 2 2
  let ps := slot.drop 8
  let plen := if byteAt slot 7 = 0 then byteAt slot 6 else 25
  match s3.takeErr n op plen ps, cmdInfo op with
  | none, some i =>
    let own := leAt slot 4 2
    let c : RunCmd := {
      mb := n, slot := h, opcode := op, cookie := cookie
      timeout := if own = 0 ∨ s3.pw.rom = true then cmdTimeout i ps else own
      params := ps, step := 0, phase := .work, status := none, result := [], expired := false, retrained := false
      paused := false, killed := false, note := [] }
    (((s3.setCmds (s3.mail.cmds ++ [c])).calHold op).cmdEntry 1 c 0).syncPauses
  | some st, _ => s3.postCpl n (16 * n + h) st op cookie 0 []
  | none, none => s3.postCpl n (16 * n + h) stBadOpcode op cookie 0 []

/-- COMMAND_TAKE: the firmware, or the boot ROM, takes and checks one command (R523, R580). -/
def execCommandTake (s : State) : Out :=
  if !(s.on .ctrl && (s.pw.firmware || s.pw.rom)) then .next s
  else
    match s.nextBox with
    | none => .next s
    | some n => .next (s.takeFrom n)

/-! ### Boundaries and timeouts -/

/-- What a command undoes before its FINISH entry when it ends at a boundary: LINK_LOOP its loop (R558), a command of CAL its
hold of that resource (R626), a full run itself (R80 row 16). -/
def State.endedEarly (s : State) (c : RunCmd) : State :=
  match c.opcode with
  | 0x0304 => s.regWrite (R.PORT_LOOP (byteAt c.params 0)) 0
  | 0x0904 | 0x0905 => s.calRelease
  | _ => s

/-- A command that stands at its boundary ends there, or its STEP entry is written and it goes on (R527, R539). A full run that
CAL_ABORT, a tell-tale or the mailbox ends leaves CALIBRATE first and completes then (R106, R571); one that has timed out
completes at once. -/
def State.boundary (s : State) (c : RunCmd) : State :=
  match s.boundaryEnd c with
  | some st =>
    if c.fullRun then
      if st = stTimeout then (s.calDrop.endCmd c.tag st []).latch 16 none
      else ((s.setCmd { c with killed := true }).calDrop).latch 16 (some c.tag)
    else (s.endedEarly c).endCmd c.tag st []
  | none =>
    let s1 := ((s.setCmd { c with phase := .entry }).cmdEntry 2 c 0).settle
    if c.fullRun then (s1.calNext 256).calIdle else s1

/-- COMMAND_STEP_BOUNDARY: the command with a tag reaches its safe point (R527). -/
def execCommandStepBoundary (tag : Fin 64) (s : State) : Out :=
  match s.cmd tag with
  | none => .next s
  | some c => if c.phase = .boundary ∧ c.status.isNone = true then .next (s.boundary c) else .next s

/-- COMMAND_TIMEOUT: the timeout of the command with a tag expires, unless a pause holds it (R530, R531). -/
def execCommandTimeout (tag : Fin 64) (s : State) : Out :=
  match s.cmd tag with
  | none => .next s
  | some c => if c.paused || c.status.isSome then .next s else .next (s.setCmd { c with expired := true })

/-! ### A command at work -/

/-- The command with a tag and opcode that is at work in a step. -/
def State.atStep (s : State) (tag op : Nat) : Option RunCmd :=
  match s.cmd tag with
  | none => none
  | some c => if c.opcode = op ∧ c.phase = .work ∧ c.status.isNone = true then some c else none

/-- What a command row does: `f` on the command with its tag and opcode at work; nothing where there is none. -/
def State.runs (s : State) (tag : Fin 64) (op : Nat) (f : RunCmd → State → State) : Out :=
  match s.atStep tag op with
  | none => .next s
  | some c => .next (f c s)

/-- A command of one step completes. -/
def RunCmd.ok (c : RunCmd) (result : List Byte) (s : State) : State := s.finishCmd c.tag stOk result

/-- A command ends with a status other than OK and PARTIAL. -/
def RunCmd.fails (c : RunCmd) (status : Nat) (s : State) : State := s.finishCmd c.tag status []

/-- The commits that a command makes, as block and whether privileged. -/
abbrev CommitList := List (Blk × Bool)

/-- The codes of commits in a command's scratch words (R548). -/
def commitCodes (l : CommitList) : List Nat := l.map fun p => 2 * p.1.index + (if p.2 then 1 else 0)

/-- May the shadows of these commits be written now: none is locked? A firmware command waits for a commit in progress. -/
def State.shadowsFree (s : State) (l : CommitList) : Bool :=
  l.all fun p => match commitBits p.1 p.2 with
    | some c => !s.flag c.locked
    | none => true

/-- Is the domain of every block on, and if not, is none refused (R115)? -/
def State.reachable (s : State) (l : CommitList) : Bool := l.all fun p => s.on p.1.domain || !s.wakeRefused p.1.domain

/-- The register that a commit writes, and its value. -/
def commitWord (b : Blk) (priv lut : Bool) : Nat × Word :=
  ((commitBits b priv).elim 0 (·.commit.reg), if lut then 3 else if priv then 2 else 1)

/-- One commit tried on a state whose shadows are written: whether a block would refuse it, and what it would leave (R548). -/
def State.tryCommit (v : State) (luts : List Blk) (p : Blk × Bool) : Bool × State :=
  let lut := luts.contains p.1
  let img := match (if p.2 then none else v.loadFrom p.1 lut) with
    | some (a, n) => v.bytes a n
    | none => []
  if !img.isEmpty && v.imageErr p.1 img false != 0 then (true, v)
  else
    let r := v.handOverSet ⟨p.1, p.2, v.frame, false, false, lut, img, 0⟩
    (!r.1, if r.2.1 then { r.2.2 with rs := { r.2.2.rs with hold := true } } else r.2.2)

/-- The first commit that would be refused, in the order of a line 0: privileged ones first. -/
def State.firstRefused (v : State) (luts : List Blk) (l : CommitList) : Option (Blk × Bool) :=
  (((l.filter (·.2)) ++ l.filter fun p => !p.2).foldl (fun (a : Option (Blk × Bool) × State) p =>
    match a.1 with
    | some _ => a
    | none =>
      let r := a.2.tryCommit luts p
      (if r.1 then some p else none, r.2)) (none, v)).1

/-- One commit of a command: COMMIT is written; that of SAF comes with the recomputed CRCs and their hold (R550). -/
def State.makeCommit (luts : List Blk) (s : State) (p : Blk × Bool) : State :=
  if p = (.saf, false) then s.recompute
  else
    let w := commitWord p.1 p.2 (luts.contains p.1)
    s.regWrite w.1 w.2

/-- A command makes its commits (R548): it waits for their hand-overs, writes its shadows, sets each COMMIT. `luts` names the
blocks that load their tables with it. A command that needs a domain whose wake is refused completes with NOT_IN_MODE
(R115), one that finds a shadow set locked waits, and one that a block would refuse hands nothing over. -/
def State.commitFor (s : State) (c : RunCmd) (l : CommitList) (luts : List Blk) (write : State → State) : State :=
  if !s.reachable l then c.fails stNotInMode s
  else if !s.shadowsFree l then s
  else
    let go := fun (l : CommitList) =>
      (l.foldl (State.makeCommit luts) (write (s.waitIn c.tag .waitCommit (0 :: commitCodes l)))).commitsDone
    if l.any fun p => !s.on p.1.domain then go l
    else
      let v := write s
      match v.firstRefused luts l with
      | none => go l
      | some p => if (v.tryCommit luts p).1 then go [p] else c.fails stBadParam s

end Sys2Proof.Machine
end

