-- ==== Sys2Proof/Machine/CmdSystem.lean ====
section
/-! DEFINITION. The commands of groups 0x01xx and 0x02xx: system, mode and power (R552 to R556). -/

namespace Sys2Proof.Machine

/-! ### System (R552, R553) -/

/-- SYS_INFO: capabilities and firmware version, serial number, or chain position. -/
def execSysInfo (tag : Fin 64) (s : State) : Out :=
  s.runs tag 0x0100 fun c s => c.ok (match byteAt c.params 0 with
    | 0 => leBytes 4 (s.reg R.SYS_CAPS).toNat ++ leBytes 4 Config.fwVersion.toNat
    | 1 => leBytes 8 Config.serial.toNat
    | _ => leBytes 1 s.address ++ leBytes 1 (s.fld (F.PORT_ADDR_CHAIN_COUNT 0))) s

/-- SYS_STATUS: mode, domains, governor, Tightrope and frame number. -/
def execSysStatus (tag : Fin 64) (s : State) : Out :=
  s.runs tag 0x0101 fun c s => c.ok (leBytes 1 s.sysMode.toNat ++ leBytes 1 (s.reg R.PWR_DOMAIN_STATUS).toNat ++
    leBytes 1 (s.reg R.GOV_STATUS).toNat ++ leBytes 1 (s.peek .core R.SAF_STATUS).toNat ++ leBytes 4 s.frame.toNat) s

/-- SYS_TIME: module time and OSC_TIME. -/
def execSysTime (tag : Fin 64) (s : State) : Out :=
  s.runs tag 0x0102 fun c s => c.ok (leBytes 6 s.time.toNat ++ leBytes 1 (if s.oscTime then 1 else 0)) s

/-- SYS_RESET: it completes, and the reset follows (R553). -/
def execSysReset (tag : Fin 64) (s : State) : Out :=
  s.runs tag 0x0103 fun c s => c.ok [] (s.setPw { s.pw with resetDue := some (c.tag, F.RESET_CAUSE_SYS_RESET.lo) })

/-! ### Modes (R554 to R556) -/

/-- A command waits for the mode transition of a row (R80). -/
def State.waitRow (s : State) (c : RunCmd) (row : Nat) : State := (s.waitIn c.tag .waitEvent []).latch row (some c.tag)

/-- Entry to CALIBRATE or SERVICE: from set V, and refused while a tell-tale is requested or exclusive control is claimed (R80
rows 15 and 17, R107). -/
def State.enterDark (s : State) (c : RunCmd) (row : Nat) : State :=
  if !s.mode.isV then c.fails stNotInMode s else if s.ttAsked then c.fails stDenied s else s.waitRow c row

/-- MODE_SET: sleep, a dark mode, LIVE or LOW_RATE by its row with its guard; the current mode changes nothing and another
has no transition (R81, R555). Any MODE_SET ends the timeout of R126 (log entry 77). -/
def State.modeSet (c : RunCmd) (s : State) : State :=
  let t := byteAt c.params 0
  let s := s.setPw { s.pw with noWakeArmed := false }
  let sleep := fun (g : SleepTarget) => (s.waitIn c.tag .waitEvent []).requestSleep g (.modeSet c.tag)
  if t = s.mode.code then c.ok [BitVec.ofNat 8 t] s
  else
    match Mode.ofCode t with
    | some .dormant => sleep .dormant
    | some .standby => sleep .standby
    | some .calibrate => s.enterDark c 15
    | some .service => s.enterDark c 17
    | some .live => if s.rowOpen 11 then s.waitRow c 11 else c.fails stNotInMode s
    | some .lowRate => if s.rowOpen 10 then s.waitRow c 10 else c.fails stNotInMode s
    | _ => c.fails stNotInMode s

/-- MODE_SET (R555). -/
def execModeSet (tag : Fin 64) (s : State) : Out := s.runs tag 0x0200 State.modeSet

/-- SVC_ENTER (R556). -/
def execSvcEnter (tag : Fin 64) (s : State) : Out := s.runs tag 0x0204 fun c s => s.enterDark c 17

/-- SVC_EXIT (R556). -/
def execSvcExit (tag : Fin 64) (s : State) : Out :=
  s.runs tag 0x0205 fun c s => if s.mode = .service then s.waitRow c 19 else c.fails stNotInMode s

/-! ### Power (R554, R556) -/

/-- Has the evaluation that fixes the next frame been made already (R160)? -/
def State.govFixed (s : State) : Bool := s.gov.result.isSome || (s.rs.running && decide (s.lineD ≤ s.rs.line))

/-- PERF_FLOOR: CORE_MIN, from the next frame that the governor evaluates with it. -/
def execPerfFloor (tag : Fin 64) (s : State) : Out :=
  s.runs tag 0x0201 fun c s =>
    (s.regWrite R.GOV_LEVEL_FLOOR (BitVec.ofNat 32 (byteAt c.params 0))).waitFrame c s.govFixed

/-- POWER_BUDGET: P_BUDGET in 0.1 W. -/
def execPowerBudget (tag : Fin 64) (s : State) : Out :=
  s.runs tag 0x0202 fun c s => (s.regWrite R.GOV_BUDGET (BitVec.ofNat 32 (leAt c.params 0 2))).waitFrame c s.govFixed

/-- WAKE_CFG: the thresholds and enables of this run (R556). -/
def execWakeCfg (tag : Fin 64) (s : State) : Out :=
  s.runs tag 0x0203 fun c s =>
    let s1 := s.regWrite R.PWR_SPRING (BitVec.ofNat 32 (byteAt c.params 0))
    let s2 := s1.regWrite R.PWR_WAKE_EN (BitVec.ofNat 32 (byteAt c.params 1))
    c.ok [] (s2.regWrite R.PWR_NOWAKE_TIMEOUT (BitVec.ofNat 32 (leAt c.params 2 2)))

/-- POWER_STATUS. -/
def execPowerStatus (tag : Fin 64) (s : State) : Out :=
  s.runs tag 0x0206 fun c s => c.ok (leBytes 4 (s.reg R.GOV_STATUS).toNat ++ leBytes 2 (s.fld F.GOV_CAP_LED) ++
    leBytes 2 (s.fld F.GOV_TEMP_DIE)) s

end Sys2Proof.Machine
end

