-- ==== Sys2Proof/Machine/CmdLink.lean ====
section
/-! DEFINITION. The commands of groups 0x03xx and 0x04xx: link, streams, planes and timing (R557 to R561). -/

namespace Sys2Proof.Machine

/-- A command that needs a domain: it goes on where the domain is on, else it demands it and waits, or completes with
NOT_IN_MODE where the wake is refused (R113, R115). -/
def State.needs (s : State) (c : RunCmd) (d : Domain) (f : State → State) : State :=
  if s.on d then f s
  else
    let (ok, s1) := s.demand d
    if ok then s1 else c.fails stNotInMode s1

/-- PORT of a link command. -/
def RunCmd.portOf (c : RunCmd) : Nat := byteAt c.params 0

/-! ### Link (R557, R558) -/

/-- LINK_STATUS: the port's STATUS and PKT_STATUS registers. -/
def execLinkStatus (tag : Fin 64) (s : State) : Out :=
  s.runs tag 0x0300 fun c s => s.needs c .link fun s =>
    c.ok (leBytes 4 (s.peek .core (R.PORT_STATUS c.portOf)).toNat ++ leBytes 4 (s.peek .core (R.PORT_PKT_STATUS c.portOf)).toNat) s

/-- LINK_RETRAIN: it completes when the port reaches UP again, or falls to NO_PARTNER (R558). A port that has no partner
completes with TIMEOUT at once. -/
def execLinkRetrain (tag : Fin 64) (s : State) : Out :=
  s.runs tag 0x0301 fun c s => s.needs c .link fun s =>
    let st := s.pState c.portOf
    if st = pOff ∨ st = pNoPartner then c.fails stTimeout s
    else (s.waitIn c.tag .waitEvent []).regWrite (R.PORT_CTRL c.portOf) (s.reg (R.PORT_CTRL c.portOf) ||| 0x100)

/-- LINK_RATES: RATE_EN; RESTART writes ENABLE 0 and then 1. -/
def execLinkRates (tag : Fin 64) (s : State) : Out :=
  s.runs tag 0x0302 fun c s => s.needs c .link fun s =>
    let a := R.PORT_CTRL c.portOf
    let v := withBits (s.reg a) 4 4 (byteAt c.params 1)
    let s1 := s.regWrite a v
    c.ok [] (if (byteAt c.params 1).testBit 4 then (s1.regWrite a (v &&& 0xFFFFFFFE)).regWrite a (v ||| 1) else s1)

/-- LINK_EQ: a lane's equaliser and transmitter. -/
def execLinkEq (tag : Fin 64) (s : State) : Out :=
  s.runs tag 0x0303 fun c s => s.needs c .link fun s =>
    let p := c.params
    c.ok [] (s.regWrite (R.PORT_LANE_PHY c.portOf (byteAt p 1))
      (BitVec.ofNat 32 (byteAt p 2 + 65536 * byteAt p 3 + 2 ^ 20 * byteAt p 4)))

/-- The receive lane whose errors a loop's checker counts: the looped forward lane, or the Chain port's return lane (R209). -/
def RunCmd.checkLane (c : RunCmd) : Nat := if c.portOf = 0 then byteAt c.params 1 / 8 else 8

/-- LINK_LOOP's step 1: the loop is asked for once; the step is done when ACTIVE is set. -/
def State.loopStart (s : State) (c : RunCmd) : State :=
  let s1 := if c.note.isEmpty then (s.regWrite (R.PORT_LOOP c.portOf) (BitVec.ofNat 32 (byteAt c.params 1))).waitIn c.tag .work [1]
    else s
  if s1.flag (F.PORT_LOOP_ACTIVE c.portOf) then s1.stepDone c.tag [] else s1

/-- LINK_LOOP's step 2: the pattern runs for DURATION; the checker counted `errors` and its lock is `lock`. -/
def State.loopPattern (s : State) (c : RunCmd) (errors : Nat) (lock : Bool) : State :=
  let a := R.PORT_PAT c.portOf
  match c.note with
  | [] => (s.regWrite a (withBits (s.reg a) 0 4 (byteAt c.params 2 + 12))).waitIn c.tag .work [s.time.toNat]
  | t :: _ =>
    if s.since (BitVec.ofNat 48 t) < msTicks (leAt c.params 4 4) then s
    else
      let n := min errors (2 ^ 32 - 1)
      let s1 := (s.setFld (F.PORT_LANE_BER_VAL c.portOf c.checkLane) n).setFlag (F.PORT_PAT_CHK_LOCK c.portOf) lock
      (s1.setReg a (withBits (s1.reg a) 2 2 0)).stepDone c.tag [n, if lock then 1 else 0]

/-- LINK_LOOP (R557, R558): `errors` and `lock` are what the checker finds when the pattern ends. -/
def execLinkLoop (tag : Fin 64) (errors : Nat) (lock : Bool) (s : State) : Out :=
  s.runs tag 0x0304 fun c s =>
    match c.step with
    | 0 => s.needs c .link fun s => s.loopStart c
    | 1 => s.loopPattern c errors lock
    | _ => c.ok (leBytes 4 (c.note.getD 0 0) ++ leBytes 1 (c.note.getD 1 0)) (s.regWrite (R.PORT_LOOP c.portOf) 0)

/-! ### Planes (R559, R560) -/

/-- PLANE_SUB: the subscription changes at the hand-over that F reports. -/
def execPlaneSub (tag : Fin 64) (s : State) : Out :=
  s.runs tag 0x0400 fun c s => s.waitFrame c s.windowClosed

/-- The shadow registers of PLANE_BLEND: an overlay's enable, alpha and key. -/
def State.writeBlend (s : State) (p : List Byte) : State :=
  let one := byteAt p 0 = 1
  let f := byteAt p 1
  let en : Fld := if one then F.CPS_CTRL_OV1_EN else F.CPS_CTRL_OV2_EN
  let s1 := s.regWrite R.CPS_CTRL (withBits (s.reg R.CPS_CTRL) en.lo 1 f)
  let s2 := s1.regWrite (if one then R.CPS_OV1_BLEND else R.CPS_OV2_BLEND) (BitVec.ofNat 32 (leAt p 2 2 + 512 * (f / 2 % 2)))
  s2.regWrite (if one then R.CPS_OV1_KEY else R.CPS_OV2_KEY) (BitVec.ofNat 32 (leAt p 4 4))

/-- PLANE_BLEND. -/
def execPlaneBlend (tag : Fin 64) (s : State) : Out :=
  s.runs tag 0x0401 fun c s => s.commitFor c [(.cps, false)] [] fun s => s.writeBlend c.params

/-! ### Timing (R559, R561) -/

/-- Does a TIMING record change the active size (R319)? -/
def State.sizeChanges (s : State) (t : List Byte) : Bool :=
  decide (leAt t 4 4 / 65536 ≠ s.hActive) || decide (leAt t 12 4 / 65536 ≠ s.vActive)

/-- TIMING_SET: the set and all its companions in one frame, TCOMMIT last (R342, R561); expected CRCs where DTH changes (R366). -/
def execTimingSet (tag : Fin 64) (s : State) : Out :=
  s.runs tag 0x0402 fun c s =>
    let t := (cfgAt s.cfg 0x10 (byteAt c.params 0)).getD []
    let dark := s.mode = .boot ∨ s.mode = .calibrate ∨ s.mode = .service
    let crc := s.dthChanges (BitVec.ofNat 32 (leAt t 72 4))
    if s.sizeChanges t = true ∧ ¬ dark then c.fails stNotInMode s
    else
      s.commitFor c ([(.dth, false), (.col, false), (.gsq, false), (.bld, false), (.rng, false), (.scn, false)] ++
        (if crc then [(.saf, false)] else []) ++ [(.scn, true)]) [] fun s => s.writeTiming t

/-- LOWRATE_CFG: SCN_LOWRATE whole. -/
def execLowrateCfg (tag : Fin 64) (s : State) : Out :=
  s.runs tag 0x0403 fun c s => s.commitFor c [(.scn, false)] [] fun s => s.regWrite R.SCN_LOWRATE (BitVec.ofNat 32 (leAt c.params 0 4))

/-- SCAN_CFG: FOLLOW and FS_EVENT. -/
def execScanCfg (tag : Fin 64) (s : State) : Out :=
  s.runs tag 0x0404 fun c s =>
    c.ok [] (s.regWrite R.SCN_CTRL (withBits (s.reg R.SCN_CTRL) 1 2 (byteAt c.params 0)))

/-- STREAM_STATUS: the stream's size, CONFIGURED, ASLEEP, DAMAGED, BUILD_WAITING and the planes that subscribe to it. -/
def execStreamStatus (tag : Fin 64) (s : State) : Out :=
  s.runs tag 0x0405 fun c s =>
    let k := byteAt c.params 0
    let x := s.stream k
    let b := fun (v : Bool) (i : Nat) => if v then 2 ^ i else 0
    let planes := ([0, 1, 2].map fun i => b (decide ((s.plane i).stream = some k)) i).sum
    c.ok (leBytes 2 x.width ++ leBytes 2 x.height ++
      leBytes 1 (b x.configured 0 + b x.asleep 1 + b (!(s.damage k).empty) 2 + b x.frameReady.isSome 3) ++ leBytes 1 planes) s

end Sys2Proof.Machine
end

