-- ==== Sys2Proof/Machine/CmdPanel.lean ====
section
/-! DEFINITION. The commands of groups 0x05xx and 0x06xx: panel and compensation (R562 to R565). -/

namespace Sys2Proof.Machine

/-! ### Staged images (R551) -/

/-- Bytes of the staging area. -/
def State.stagedAt (s : State) (off len : Nat) : List Byte := s.fstRead (stagingOff + off) len

/-- Does a staged image match the digest that follows it? -/
def State.stagedOk (s : State) (off len : Nat) : Bool := s.stagedAt (off + len) 32 = sha256 (s.stagedAt off len)

/-! ### Panel (R562, R563) -/

/-- The registers of BIAS_SET: rail codes and the VCOM loop. -/
def State.writeBias (s : State) (p : List Byte) : State :=
  let s1 := (s.regWrite R.BIAS_VGH (BitVec.ofNat 32 (byteAt p 0))).regWrite R.BIAS_VGL (BitVec.ofNat 32 (byteAt p 1))
  let s2 := s1.regWrite R.BIAS_AVDD (BitVec.ofNat 32 (byteAt p 2 + 65536 * byteAt p 3))
  (s2.regWrite R.BIAS_VCOM (BitVec.ofNat 32 (leAt p 4 2))).setFlag F.BIAS_CTRL_VCOM_CL (decide (byteAt p 6 = 1))

/-- BIAS_SET. -/
def execBiasSet (tag : Fin 64) (s : State) : Out :=
  s.runs tag 0x0500 fun c s => s.commitFor c [(.bias, false)] [] fun s => s.writeBias c.params

/-- The seven codes of one half of the taps. -/
def tapCodes (p : List Byte) : List Nat := (List.range 7).map fun i => leAt p (2 + 2 * i) 2

/-- The taps' shadow registers, of 14 codes. -/
def State.writeTaps (s : State) (l : List Nat) : State :=
  (List.range 7).foldl (fun (s : State) k =>
    s.regWrite (R.BIAS_GMA k) (BitVec.ofNat 32 (l.getD (2 * k) 0 + 65536 * l.getD (2 * k + 1) 0))) s

/-- The state with other staged codes. -/
def State.setStage (s : State) (l : Option (List Nat)) : State := { s with mail := { s.mail with gammaStage := l } }

/-- GAMMA_TAPS: HALF 0 stages; HALF 1 checks all 14 codes against R430 and commits them, or discards the staged half with
BAD_PARAM, as it does where none is staged (R563). -/
def execGammaTaps (tag : Fin 64) (s : State) : Out :=
  s.runs tag 0x0501 fun c s =>
    if byteAt c.params 0 = 0 then c.ok [] (s.setStage (some (tapCodes c.params)))
    else
      match s.mail.gammaStage with
      | none => c.fails stBadParam s
      | some l =>
        let write := fun (s : State) => (s.setStage none).writeTaps (l ++ tapCodes c.params)
        if s.on .panel && (write s).tapsBad then c.fails stBadParam (s.setStage none)
        else s.commitFor c [(.bias, false)] [] write

/-- GAMMA_STAGE_DISCARD: the staged half is 1 s old (R563). -/
def execGammaStageDiscard (s : State) : Out := .next (s.setStage none)

/-- PANEL_POWER: BIAS_CTRL.UP; it completes when the sequence has ended. -/
def execPanelPower (tag : Fin 64) (s : State) : Out :=
  s.runs tag 0x0502 fun c s => s.needs c .panel fun s =>
    let up := byteAt c.params 0 = 1
    let s1 := s.waitIn c.tag .waitEvent []
    let s2 := if up then s1.biasUp else s1.biasDown
    if s2.biasBusy then s2 else s2.tellPanel (s2.flag F.BIAS_STATUS_UP_DONE)

/-- A gate program image in Pond C, and the registers that name it. -/
def State.writeGate (s : State) (img p : List Byte) : State :=
  let s1 := s.setBytes (pondCLo + pondGate) (img.take 2064)
  (s1.regWrite R.GSQ_PROG_BASE (BitVec.ofNat 32 pondGate)).regWrite R.GSQ_CTRL (BitVec.ofNat 32 (byteAt p 4 + 256 * byteAt p 5))

/-- GATE_PROGRAM: the staged image is checked, copied into Pond C and committed. -/
def execGateProgram (tag : Fin 64) (s : State) : Out :=
  s.runs tag 0x0503 fun c s =>
    let p := c.params
    let off := leAt p 0 4
    let len := 16 + 4 * leAt (s.stagedAt off 16) 2 2
    if !stagedFits off len then c.fails stBadParam s
    else if !s.stagedOk off len then c.fails stFault s
    else
      s.commitFor c [(.gsq, false)] [] fun u => u.writeGate (u.stagedAt off len) p

/-- The shadow registers of COLUMN_CFG. -/
def State.writeColumn (s : State) (dth : Word) (p : List Byte) : State :=
  let s1 := s.regWrite R.COL_CFG (BitVec.ofNat 32 (byteAt p 0 + 16 * leAt p 2 2 + 65536 * byteAt p 4))
  let s2 := (s1.regWrite R.COL_MAP (BitVec.ofNat 32 (byteAt p 5))).regWrite R.COL_POL (BitVec.ofNat 32 (byteAt p 6))
  let s3 := s2.regWrite R.COL_LANES (BitVec.ofNat 32 (leAt p 8 3))
  (s3.regWrite R.COL_BCH (BitVec.ofNat 32 (byteAt p 12 + 256 * byteAt p 13))).regWrite R.DTH_CTRL dth

/-- COLUMN_CFG: the configuration with DTH_CTRL.DEPTH, in one frame (R364); expected CRCs where DEPTH changes (R366). -/
def execColumnCfg (tag : Fin 64) (s : State) : Out :=
  s.runs tag 0x0504 fun c s =>
    let p := c.params
    let dth := s.depthCtrl ((byteAt p 0).testBit 2)
    s.commitFor c ([(.dth, false), (.col, false)] ++ if s.dthChanges dth then [(.saf, false)] else []) [] fun s => s.writeColumn dth p

/-- COLUMN_STATUS: lanes in service, failed lanes, BRINGUP_DONE. -/
def execColumnStatus (tag : Fin 64) (s : State) : Out :=
  s.runs tag 0x0505 fun c s => s.needs c .panel fun s =>
    c.ok (leBytes 3 (s.reg R.COL_INSERVICE).toNat ++ leBytes 3 (s.reg R.COL_FAILED).toNat ++
      leBytes 1 (s.fld F.COL_STATUS_BRINGUP_DONE)) s

/-- COLUMN_RETRAIN: lanes marked for retrain (R411). -/
def execColumnRetrain (tag : Fin 64) (s : State) : Out :=
  s.runs tag 0x0506 fun c s => s.needs c .panel fun s => c.ok [] (s.regWrite R.COL_RETRAIN (BitVec.ofNat 32 (leAt c.params 0 3)))

/-! ### Demura (R380, R564, R565) -/

/-- The image that DMR_LOAD names: its bytes, and whether its digest matches. -/
def State.dmrSource (s : State) (p : List Byte) : List Byte × Bool :=
  let k := byteAt p 0
  if k = 2 then (s.stagedAt (leAt p 4 4) (leAt p 8 4), s.stagedOk (leAt p 4 4) (leAt p 8 4))
  else
    match s.panelOffset k with
    | none => ([], false)
    | some off =>
      let len := s.mle (panelBase + off + 16) 4
      (s.bytes (panelBase + off) (min len panelSize), (s.demuraImage k).isSome)

/-- Area of a demura set. -/
def demuraArea (k : Nat) : Nat := if k = 0 then demuraArea0 else demuraArea1

/-- A commit of DMR_CTRL with recomputed expected CRCs. -/
def State.demuraCommit (s : State) (c : RunCmd) (k : Nat) : State :=
  s.commitFor c [(.dmr, false), (.saf, false)] [] fun s => s.regWrite R.DMR_CTRL (dmrCtrl (some k))

/-- The steps of DMR_LOAD (R564, R565): a header that fails is BAD_PARAM, a digest FAULT; a commit waits until the hold of an
earlier one has run out (R391). -/
def State.dmrLoad (c : RunCmd) (s : State) : State :=
  let k := byteAt c.params 1
  let img := s.dmrSource c.params
  match c.step with
  | 0 => if dmrErr img.1 s.hActive s.vActive = 0 && decide (img.1.length ≤ demuraArea1 - demuraArea0) then s.stepDone c.tag []
    else c.fails stBadParam s
  | 1 => if img.2 then s.stepDone c.tag [] else c.fails stFault s
  | 2 => s.stepDone c.tag []
  | 3 =>
    if s.liveFlag F.DMR_CTRL_EN && s.liveFld F.DMR_CTRL_SET = k then s.demuraCommit c (1 - k)
    else s.stepDone c.tag []
  | 4 =>
    let s1 := s.fstLoad (demuraArea k) img.1
    ({ s1 with fw := { s1.fw with dmrOk := listSet s1.fw.dmrOk k true } } : State).stepDone c.tag []
  | _ => if s.crcHolds then s else s.demuraCommit c k

/-- DMR_LOAD. -/
def execDmrLoad (tag : Fin 64) (s : State) : Out := s.runs tag 0x0600 State.dmrLoad

/-- DMR_SELECT: EN with a set, or with the firmware's own choice (R380); expected CRCs where EN or SET changes (R391). -/
def execDmrSelect (tag : Fin 64) (s : State) : Out :=
  s.runs tag 0x0601 fun c s =>
    let b := byteAt c.params 0
    let auto := b.testBit 2
    let set := if auto then s.demuraPick.getD (s.liveFld F.DMR_CTRL_SET) else b / 2 % 2
    let v : Word := BitVec.ofNat 32 (b % 2 + 2 * set)
    s.commitFor c ([(.dmr, false)] ++ if v = s.live R.DMR_CTRL then [] else [(.saf, false)]) [] fun s =>
      ({ s with fw := { s.fw with dmrAuto := auto } } : State).regWrite R.DMR_CTRL v

/-! ### Overdrive and tone (R564, R565) -/

/-- A table image from flash, as panel image `i`, or from staging: its bytes and whether its digest matches. -/
def State.tableSource (s : State) (p : List Byte) (i len : Nat) : List Byte × Bool :=
  if byteAt p 0 = 2 then (s.stagedAt (leAt p 4 4) len, s.stagedOk (leAt p 4 4) len)
  else
    match s.panelImage i len with
    | some b => (b, true)
    | none => ([], false)

/-- ODV_LOAD: the image checked, then loaded with LUT_LOAD and committed. -/
def execOdvLoad (tag : Fin 64) (s : State) : Out :=
  s.runs tag 0x0602 fun c s =>
    let img := s.tableSource c.params 2 odvImageLen
    match c.step with
    | 0 => if !img.2 then c.fails stFault s else if odvImageErr img.1 = 0 then s.stepDone c.tag [] else c.fails stBadParam s
    | _ => s.commitFor c [(.odv, false)] [.odv] fun s => (s.fstLoad odvStore img.1).regWrite R.ODV_LUT_BASE (BitVec.ofNat 32 odvStore)

/-- The shadow registers of ODV_CFG: enables, strength, thresholds and hysteresis. -/
def State.writeOdv (s : State) (p : List Byte) : State :=
  let s1 := s.regWrite R.ODV_CTRL (BitVec.ofNat 32 (byteAt p 0 + 256 * leAt p 2 2))
  let s2 := (s1.regWrite R.ODV_TBIN0 (BitVec.ofNat 32 (leAt p 4 4))).regWrite R.ODV_TBIN1 (BitVec.ofNat 32 (leAt p 8 4))
  (s2.regWrite R.ODV_TBIN2 (BitVec.ofNat 32 (leAt p 12 4))).regWrite R.ODV_TBIN3 (BitVec.ofNat 32 (leAt p 16 3))

/-- ODV_CFG. -/
def execOdvCfg (tag : Fin 64) (s : State) : Out :=
  s.runs tag 0x0603 fun c s => s.commitFor c [(.odv, false)] [] fun s => s.writeOdv c.params

/-- LUT_LOAD: the image checked, the expected CRCs computed, then the image copied into Pond C and committed with LUT_LOAD and a
hold. -/
def execLutLoad (tag : Fin 64) (s : State) : Out :=
  s.runs tag 0x0604 fun c s =>
    let img := s.tableSource c.params 3 dthImageLen
    match c.step with
    | 0 => if !img.2 then c.fails stFault s else if dthImageErr img.1 = 0 then s.stepDone c.tag [] else c.fails stBadParam s
    | 1 => s.stepDone c.tag []
    | _ => s.commitFor c [(.dth, false), (.saf, false)] [.dth] fun s =>
        (s.setBytes (pondCLo + pondTone) img.1).regWrite R.DTH_LUT_BASE (BitVec.ofNat 32 pondTone)

/-- The shadow registers of DTH_CFG, with DTH_CTRL at `v`. -/
def State.writeDth (s : State) (v : Word) (p : List Byte) : State :=
  let s1 := (s.regWrite R.DTH_CTRL v).regWrite R.DTH_LD (BitVec.ofNat 32 (leAt p 2 4))
  let s2 := s1.regWrite R.DTH_LD_BMIN (BitVec.ofNat 32 (leAt p 6 2))
  (s2.regWrite R.DTH_GAIN_RG (BitVec.ofNat 32 (leAt p 8 4))).regWrite R.DTH_GAIN_B (BitVec.ofNat 32 (leAt p 12 2))

/-- DTH_CFG: enables, local dimming figures and the gains without the loop; expected CRCs where DEGAMMA_EN, GAMMA_EN or
DITHER_EN changes (R366, R565). -/
def execDthCfg (tag : Fin 64) (s : State) : Out :=
  s.runs tag 0x0605 fun c s =>
    let p := c.params
    let v := withBits (s.reg R.DTH_CTRL) 0 6 (byteAt p 0)
    s.commitFor c ([(.dth, false)] ++ if s.dthChanges v then [(.saf, false)] else []) [] fun s => s.writeDth v p

end Sys2Proof.Machine
end

