-- ==== Sys2Proof/Machine/CmdLight.lean ====
section
/-! DEFINITION. The commands of group 0x07xx: backlight, dimming and colour (R566, R567). -/

namespace Sys2Proof.Machine

/-! ### Scan (R444, R567) -/

/-- A slot map with slots 6 and 9 fixed to BLD and slots 10 and 11 to OPT. -/
def scanMap (b : List Byte) : List Byte :=
  (((listSet (padTo 0 64 b) 6 0x83).set 9 0x83).set 10 0x84).set 11 0x84

/-- A slot table that meets R444: the one in force with those slots fixed in every map, or one of a single map whose other
slots are open to every class (log entry 23). -/
def scanTable (table : Option (List Byte)) : List Byte :=
  match table with
  | some b =>
    let n := byteAt b 1
    let m := byteAt b 2
    let maps := ((List.range m).map fun i => scanMap ((b.drop (16 + 8 * n + 64 * i)).take 64)).flatten
    let body := ((b.drop 16).take (8 * n)) ++ maps
    [1, BitVec.ofNat 8 n, BitVec.ofNat 8 m] ++ (b.drop 3).take 5 ++ leBytes 4 (crc32 body) ++ (b.drop 12).take 4 ++ body
  | none =>
    let body := [0, 0, 0xFF, 0xFF, 0, 0, 0, 0] ++ scanMap (List.replicate 64 0x1F)
    [1, 1, 1, 0, 0, 0, 0, 0] ++ leBytes 4 (crc32 body) ++ [0, 0, 0, 0] ++ body

/-- The registers of BL_SCAN, with a table of slots in Pond C (log entry 23). -/
def State.writeScan (s : State) (p : List Byte) : State :=
  let s1 := s.regWrite R.BLD_SCAN (BitVec.ofNat 32 (leAt p 0 4))
  (s1.setBytes (pondCLo + pondTable) (scanTable s1.rng.table)).regWrite R.RNG_TABLE_BASE (BitVec.ofNat 32 pondTable)

/-- BL_SCAN: sweeps, segments, stagger, ramp and row delay, with a slot table that meets R444 in the same frame. -/
def execBlScan (tag : Fin 64) (s : State) : Out :=
  s.runs tag 0x0700 fun c s =>
    s.commitFor c [(.bld, false), (.rng, false)] [] fun s => s.writeScan c.params

/-! ### Limits and floor (R566, R567) -/

/-- The shadow registers of BL_LIMITS. -/
def State.writeLimits (s : State) (p : List Byte) : State :=
  let s1 := s.regWrite R.BLD_ZONE_CAP (BitVec.ofNat 32 (byteAt p 0))
  let s2 := s1.regWrite R.BLD_BOOST (BitVec.ofNat 32 (leAt p 1 4))
  s2.regWrite R.BLD_DIAG (BitVec.ofNat 32 (byteAt p 6 + 256 * byteAt p 5))

/-- BL_LIMITS: the zone cap, the boost's head and range, the short threshold and the stretch. -/
def execBlLimits (tag : Fin 64) (s : State) : Out :=
  s.runs tag 0x0701 fun c s =>
    s.commitFor c [(.bld, false)] [] fun s => s.writeLimits c.params

/-- The shadow registers of BL_FLOOR, with TT_LDG at `g`. -/
def State.writeFloor (s : State) (g : Nat) (p : List Byte) : State :=
  let s1 := s.regWrite R.BLD_FLOOR (BitVec.ofNat 32 (leAt p 0 3))
  s1.regWrite R.DTH_TT_GAIN_B (withBits (s1.reg R.DTH_TT_GAIN_B) 16 16 g)

/-- BL_FLOOR: the floor, TT_LDG for it and the recomputed expected CRCs (R550, R567). -/
def execBlFloor (tag : Fin 64) (s : State) : Out :=
  s.runs tag 0x0702 fun c s =>
    let (g, s1) := s.floorGain
    s1.commitFor c [(.bld, true), (.dth, false), (.saf, false)] [] fun s => s.writeFloor g c.params

/-! ### Zones (R458, R462, R567) -/

/-- The zones that a number names: one, or all of them. -/
def zonesNamed (n : Nat) : List Nat := if n = 0xFFFF then List.range 4608 else [n]

/-- ZONE_CLEAR: the zones return to OK, each with a clear record in the fault log. -/
def execZoneClear (tag : Fin 64) (s : State) : Out :=
  s.runs tag 0x0703 fun c s => s.needs c .light fun s =>
    c.ok [] ((zonesNamed (leAt c.params 0 2)).foldl (fun s z => if (s.zone z).state = 0 && leAt c.params 0 2 = 0xFFFF then s
      else s.clearZone z) s)

/-- ZONE_STATUS: BLD_ZSTAT and LDA_ZVAL of a zone. -/
def execZoneStatus (tag : Fin 64) (s : State) : Out :=
  s.runs tag 0x0704 fun c s => s.needs c .light fun s =>
    let z := leAt c.params 0 2
    c.ok (leBytes 4 (s.zstat z).toNat ++ leBytes 4 (s.lda.zp.getD z 0)) s

/-- NBR_TEST: the neighbour-short test starts; the command completes with it. A test that does not start, because a zone is
lit or the stage is latched, is a FAULT (log entry 24). -/
def execNbrTest (tag : Fin 64) (s : State) : Out :=
  s.runs tag 0x0705 fun c s => s.needs c .light fun s =>
    let s1 := after (execNbrStart s) s
    if s1.bl.nbr then s1.waitIn c.tag .waitEvent [] else c.fails stFault s1

/-- XCHAIN_SET: the chain's enable and clock, one channel, or the group currents of one chip (R463 to R467). -/
def execXchainSet (tag : Fin 64) (s : State) : Out :=
  s.runs tag 0x0706 fun c s => s.needs c .light fun s =>
    let p := c.params
    c.ok [] (match byteAt p 0 with
      | 0 => (s.regWrite R.BLD_XCHAIN (BitVec.ofNat 32 (byteAt p 2))).regWrite R.BLD_CTRL
          (withBits (s.reg R.BLD_CTRL) F.BLD_CTRL_X_EN.lo 1 (byteAt p 1))
      | 1 => s.regWrite (R.BLD_XCH (leAt p 2 2)) (BitVec.ofNat 32 (leAt p 4 2 + 2 ^ 17 * leAt p 6 2))
      | _ => s.regWrite (R.BLD_XCUR (byteAt p 1)) (BitVec.ofNat 32 (leAt p 4 4)))

/-! ### Dimming and colour (R566) -/

/-- The shadow registers of LD_CFG. -/
def State.writeDimming (s : State) (p : List Byte) : State :=
  let w := fun (a v : Nat) (s : State) => s.regWrite a (BitVec.ofNat 32 v)
  let s1 := w R.LDA_DECIDE (leAt p 1 2) (w R.LDA_CTRL (byteAt p 0) s)
  let s2 := w R.LDA_CUT (leAt p 8 2) (w R.LDA_FILT (leAt p 4 4) s1)
  w R.LDA_FIXED (leAt p 13 3) (w R.LDA_ZGAIN (leAt p 10 3) s2)

/-- LD_CFG: mode, clip fraction, mean weight, filter, cut, gain and fixed value. -/
def execLdCfg (tag : Fin 64) (s : State) : Out :=
  s.runs tag 0x0707 fun c s =>
    s.commitFor c [(.lda, false)] [] fun s => s.writeDimming c.params

/-- The shadow registers of COLOUR_LOOP. -/
def State.writeLoop (s : State) (p : List Byte) : State :=
  let w := fun (a v : Nat) (s : State) => s.regWrite a (BitVec.ofNat 32 v)
  let s1 := w R.OPT_LIMIT (leAt p 6 4) (w R.OPT_TARGET (leAt p 2 4) (w R.OPT_CTRL (byteAt p 0) s))
  s1.regWrite R.OPT_LOOP (withBits (s1.reg R.OPT_LOOP) F.OPT_LOOP_PERIOD.lo 16 (leAt p 10 2))

/-- COLOUR_LOOP: loop enable, targets, limits and period; the fewest samples stay. -/
def execColourLoop (tag : Fin 64) (s : State) : Out :=
  s.runs tag 0x0708 fun c s =>
    s.commitFor c [(.opt, false)] [] fun s => s.writeLoop c.params

end Sys2Proof.Machine
end

