-- ==== Sys2Proof/Machine/CmdTell.lean ====
section
/-! DEFINITION. The commands of group 0x08xx: tell-tales (R568, R569). -/

namespace Sys2Proof.Machine

/-- TT_HOST_REQ: the partner bitmap from MB2, with EXCL unchanged, or the host bitmap; it completes at the line 0 from which
its bitmap is in force (R569). -/
def execTtHostReq (tag : Fin 64) (s : State) : Out :=
  s.runs tag 0x0800 fun c s =>
    let v : Word := BitVec.ofNat 32 (leAt c.params 0 4)
    let s1 := if c.mb = 2 then s.partnerReq v (s.flag F.SAF_STATUS_EXCL) else s.regWrite R.SAF_HOST_REQ v
    s1.waitFrame c false

/-- TT_SAFE_STATE: the latch set or cleared; it completes with the mode that follows, and a clear with BUSY where the guard of
row 14 fails (R104, R105, R569). -/
def execTtSafeState (tag : Fin 64) (s : State) : Out :=
  s.runs tag 0x0801 fun c s =>
    let here := fun (s : State) => c.ok [BitVec.ofNat 8 s.mode.code] s
    if byteAt c.params 0 = 1 then
      let s1 := s.safeLatch true
      if s1.rowOpen 13 then s1.waitRow c 13 else here s1
    else if s.mode = .telltaleOnly then
      if s.saf.run < 8 then c.fails stBusy s else (s.safeLatch false).waitRow c 14
    else here (s.safeLatch false)

/-- TT_CONFIG: the window set is checked and its icons loaded into the bank not in use; the expected CRCs follow; CPS and SAF
are committed (R100, R351, R492, R568). -/
def execTtConfig (tag : Fin 64) (s : State) : Out :=
  s.runs tag 0x0802 fun c s =>
    let bank := 1 - s.fw.iconBank
    match s.windowSet (byteAt c.params 0) with
    | none => c.fails stBadParam s
    | some l =>
      match c.step with
      | 0 => if s.windowSetOk l then ((s.loadIcons bank l).2).stepDone c.tag [] else c.fails stBadParam s
      | 1 => s.stepDone c.tag []
      | _ =>
        let r := s.loadIcons bank l
        r.2.commitFor c [(.cps, true), (.saf, false)] [] fun s => s.writeWindows bank l r.1

/-- TT_ENABLE: CPS_TT_EN. -/
def execTtEnable (tag : Fin 64) (s : State) : Out :=
  s.runs tag 0x0803 fun c s =>
    s.commitFor c [(.cps, true)] [] fun s => s.regWrite R.CPS_TT_EN (BitVec.ofNat 32 (leAt c.params 0 4))

/-- TT_STATUS: the live request bitmap and PROVEN of the last record. -/
def execTtStatus (tag : Fin 64) (s : State) : Out :=
  s.runs tag 0x0804 fun c s => c.ok (leBytes 4 s.reqLive.toNat ++ leBytes 4 (s.reg (R.SAF_PROOF 2)).toNat) s

/-- TT_RECORD: two words of the last record. -/
def execTtRecord (tag : Fin 64) (s : State) : Out :=
  s.runs tag 0x0805 fun c s =>
    let two := fun (a b : Nat) => leBytes 4 (s.reg a).toNat ++ leBytes 4 (s.reg b).toNat
    c.ok (match byteAt c.params 0 with
      | 0 => two (R.SAF_PROOF 0) (R.SAF_PROOF 1)
      | 1 => two (R.SAF_PROOF 2) (R.SAF_PROOF 3)
      | _ => two R.SAF_PROOF_STAT R.SAF_EXCUSED) s

/-- TT_ACTION: FAULT_ACTION and PROOF_EV. -/
def execTtAction (tag : Fin 64) (s : State) : Out :=
  s.runs tag 0x0806 fun c s => c.ok [] (s.regWrite R.SAF_CTRL (BitVec.ofNat 32 (byteAt c.params 0)))

end Sys2Proof.Machine
end

