-- ==== Sys2Proof/Machine/CmdCal.lean ====
section
/-! DEFINITION. The commands of group 0x09xx: calibration (R570, R571, R629 to R631). -/

namespace Sys2Proof.Machine

/-- CAL_FULL_RUN: entry to CALIBRATE, the run, and the return to the origin mode (R571). -/
def execCalFullRun (tag : Fin 64) (s : State) : Out := s.runs tag 0x0900 fun c s => s.enterDark c 15

/-- CAL_ABORT: the element in progress keeps its values, CALIBRATE is left, and the full run's command ends with ABORTED
(R571, R626). -/
def execCalAbort (tag : Fin 64) (s : State) : Out :=
  s.runs tag 0x0901 fun c s =>
    let s1 := match s.calCmd with
      | some r => s.setCmd { r with killed := true }
      | none => s
    c.ok [] ((s1.calDrop).latch 16 none)

/-- CAL_STATUS: the count of runs and the frame of the last one. -/
def execCalStatus (tag : Fin 64) (s : State) : Out :=
  s.runs tag 0x0902 fun c s => c.ok (leBytes 4 (s.reg R.CAL_COUNT).toNat ++ leBytes 4 (s.reg R.CAL_LAST_FRAME).toNat) s

/-- The CAL lane that a PORT and a lane name (R629). -/
def qualLane (port lane : Nat) : Nat := if port = 2 then 9 + lane else lane

/-- CAL_QUALITY: a lane's eye width and residual offset (R629). -/
def execCalQuality (tag : Fin 64) (s : State) : Out :=
  s.runs tag 0x0903 fun c s =>
    let l := qualLane (byteAt c.params 0) (byteAt c.params 1)
    c.ok (leBytes 1 (s.fld (F.CAL_LANE_QUAL_EYE l)) ++ leBytes 1 (s.fld (F.CAL_LANE_QUAL_OFFSET l))) s

/-! ### The record (R630, R631) -/

/-- Length of the calibration record. -/
abbrev calRecLen : Nat := 552

/-- The calibration record without its CRC. -/
def State.calBody (s : State) : List Byte :=
  let lane := fun l => leBytes 4 (s.reg (R.CAL_LANE_MAP l)).toNat ++ leBytes 4 (s.reg (R.CAL_LANE_TRIM l)).toNat ++
    leBytes 1 (s.fld (F.CAL_LANE_QUAL_PEAK_NOW l)) ++ [0, 0, 0]
  [1, 0] ++ leBytes 2 calRecLen ++ leBytes 8 Config.serial.toNat ++
    ((List.range 5).map fun i => leBytes 2 (s.fld (F.CAL_TREF_VAL i))).flatten ++ [0, 0] ++
    ((List.range 11).map lane).flatten ++
    ((List.range 3).map fun i => leBytes 2 (s.fld (F.OPT_PD_OFS_VAL i))).flatten ++ [0, 0] ++
    ((List.range 192).map fun c => leBytes 2 (s.fld (F.CAL_SINK_CELL_MASK c))).flatten

/-- The calibration record. -/
def State.calRecord (s : State) : List Byte := s.calBody ++ leBytes 4 (crc32 s.calBody)

/-- Does a record pass the checks of CAL_RESTORE? -/
def calRecordOk (r : List Byte) : Bool :=
  byteAt r 0 = 1 && byteAt r 1 = 0 && leAt r 2 2 = calRecLen && leAt r 22 2 = 0 && leAt r 162 2 = 0 &&
    decide (leAt r 4 8 = Config.serial.toNat) && leAt r 548 4 = crc32 (r.take 548) &&
    (List.range 11).all fun l => decide (byteAt r (32 + 12 * l) < 16) && leAt r (33 + 12 * l) 3 = 0

/-- A calibration command needs LIGHT; where its wake is refused the command ends and releases CAL (R115, R626). -/
def State.calNeeds (s : State) (c : RunCmd) (f : State → State) : State :=
  if !s.on .light && s.wakeRefused .light then (s.needs c .light f).calRelease else s.needs c .light f

/-- CAL_SAVE: the record and its digest at the staging offset. -/
def execCalSave (tag : Fin 64) (s : State) : Out :=
  s.runs tag 0x0904 fun c s => s.calNeeds c fun s =>
    let r := s.calRecord
    c.ok (leBytes 4 calRecLen) ((s.fstWrite (stagingOff + leAt c.params 0 4) (r ++ sha256 r)).calRelease)

/-- An element counts as done for a start-up or link-up run that has not stepped it yet. -/
def State.calRestored (s : State) (e : CalElem) : State :=
  s.setCal { s.cal with restored := if s.cal.restored.contains e then s.cal.restored else e :: s.cal.restored }

/-- One lane restored: whether its values pass, and the state with them. A step of it in progress is abandoned (R626). -/
def State.restoreLane (s : State) (r : List Byte) (l : Nat) : Bool × State :=
  let map := leAt r (24 + 12 * l) 4
  let trim : Word := BitVec.ofNat 32 (leAt r (28 + 12 * l) 4)
  if 2 ^ 18 ≤ map || !mapOk (BitVec.ofNat 32 map) then (false, s)
  else
    let s1 := (s.laneValues l (BitVec.ofNat 32 map) (trim &&& 0x3FFFFFFF)).calAbandon (if l < 9 then .lane l else .backChannel)
    if l < 9 then
      let a := R.PORT_LANE_PHY (lanePort l) l
      (true, (s1.regWrite a (withBits (s1.reg a) 0 4 (byteAt r (32 + 12 * l)))).calRestored (.lane l))
    else (true, s1)

/-- One photodiode offset restored. -/
def State.restorePd (s : State) (r : List Byte) (k : Nat) : Bool × State :=
  let v := leAt r (156 + 2 * k) 2
  if 4096 < v then (false, s)
  else (true, ((s.regWrite (R.OPT_PD_OFS k) (BitVec.ofNat 32 v)).calAbandon (.photodiode k)).calRestored (.photodiode k))

/-- One sink restored. -/
def State.restoreSink (s : State) (r : List Byte) (c : Nat) : Bool × State :=
  let m := leAt r (164 + 2 * c) 2
  if !maskOk m then (false, s) else (true, ((s.sinkValue c m).calAbandon (.sink c)).calRestored (.sink c))

/-- A group of elements restored one after another: how many passed, how many were rejected. -/
def restoreGroup (f : State → Nat → Bool × State) (l : List Nat) (s : State) : (Nat × Nat) × State :=
  l.foldl (fun (a : (Nat × Nat) × State) i =>
    let x := f a.2 i
    (if x.1 then (a.1.1 + 1, a.1.2) else (a.1.1, a.1.2 + 1), x.2)) ((0, 0), s)

/-- The temperatures of the last run become the saved ones. -/
def State.restoreTref (s : State) (r : List Byte) : State :=
  (List.range 5).foldl (fun s i => s.setReg (R.CAL_TREF i) (BitVec.ofNat 32 (leAt r (12 + 2 * i) 2))) s

/-- The steps of CAL_RESTORE: link lanes, back channel, photodiodes, sinks (R631). -/
def State.calRestore (c : RunCmd) (s : State) : State :=
  let off := leAt c.params 0 4
  let r := s.stagedAt off calRecLen
  let note := fun (n : Nat × Nat) => [c.note.getD 0 0 + n.1, c.note.getD 1 0 + n.2]
  let next := fun (x : (Nat × Nat) × State) => x.2.stepDone c.tag (note x.1)
  match c.step with
  | 0 =>
    if !s.stagedOk off calRecLen then c.fails stFault s.calRelease
    else if !calRecordOk r then c.fails stBadParam s.calRelease
    else next (restoreGroup (fun s i => s.restoreLane r i) (List.range 9) s)
  | 1 =>
    let x := restoreGroup (fun s i => s.restoreLane r i) [9, 10] s
    next (x.1, if x.1.1 = 2 then x.2.calRestored .backChannel else x.2)
  | 2 => s.calNeeds c fun s => next (restoreGroup (fun s i => s.restorePd r i) [0, 1, 2] s)
  | _ =>
    let x := restoreGroup (fun s i => s.restoreSink r i) (List.range 192) s
    let n := note x.1
    c.ok (leBytes 2 (n.getD 0 0) ++ leBytes 2 (n.getD 1 0)) ((x.2.restoreTref r).calRelease)

/-- CAL_RESTORE. -/
def execCalRestore (tag : Fin 64) (s : State) : Out := s.runs tag 0x0905 State.calRestore

end Sys2Proof.Machine
end

