-- ==== Sys2Proof/Machine/Juggler.lean ====
section
/-! DEFINITION. Juggler's engine (R582 to R599): descriptors, their checks, the words they move, pacing, bursts, bus errors,
pausing and stopping. -/

namespace Sys2Proof.Machine

/-! ### Descriptors (R584 to R586) -/

/-- The bound of a descriptor's destination bytes (R581). -/
def descLimit (n : Nat) : Nat := if heavy n then 134217728 else 65536

/-- `n` list entries from an address (R585). -/
def State.listOf (s : State) (a : Nat) : Nat → List (Nat × Nat)
  | 0 => []
  | n + 1 => (s.mle a 4, s.mle (a + 4) 4) :: s.listOf (a + 8) n

/-- Does a block of bytes lie in Pond B outside the mailbox rings (R584)? -/
def descPlace (a n : Nat) : Bool := pondBLo + 0x1000 ≤ a && a + n ≤ pondBHi

/-- Total bytes of a list. -/
def listBytes (l : List (Nat × Nat)) : Nat := (l.map (·.2)).sum

/-- The descriptor at an address. -/
def State.descAt (s : State) (a : Nat) : Desc where
  addr := a
  op := s.mle a 1 % 4
  srcList := s.mle (a + 4) 4
  dstList := s.mle (a + 8) 4
  src := s.listOf (s.mle (a + 4) 4) (s.mle (a + 1) 1)
  dst := s.listOf (s.mle (a + 8) 4) (s.mle (a + 2) 1)
  next := s.mle (a + 12) 4
  fill := s.mle (a + 16) 8

/-- Check 1 of R586: every address and length a multiple of 8, none in the alias. -/
def Desc.alignedOk (d : Desc) : Bool :=
  d.srcList % 8 = 0 && d.dstList % 8 = 0 && d.next % 8 = 0 &&
    (d.src ++ d.dst).all fun e => e.1 % 8 = 0 && e.2 % 8 = 0 && decide (regionOf e.1 ≠ .unaligned)

/-- Check 2 of R586 for a channel. -/
def State.descOk (s : State) (n : Nat) (d : Desc) : Bool :=
  let nsrc := d.src.length
  let ndst := d.dst.length
  let total := listBytes d.dst
  let reserved := s.mle d.addr 1 / 4 = 0 && s.mle (d.addr + 3) 1 % 128 = 0 && s.mle (d.addr + 40) 8 = 0
  let counts := match d.op with
    | 0 => decide (1 ≤ nsrc)
    | 1 => decide (nsrc = 0)
    | 2 => true
    | _ => false
  reserved && counts && decide (1 ≤ ndst) && ((d.src ++ d.dst).all fun e => decide (8 ≤ e.2)) &&
    decide (8 ≤ total ∧ total ≤ descLimit n) && (nsrc = 0 || listBytes d.src = total) &&
    (if nsrc = 0 then d.srcList = 0 else descPlace d.srcList (8 * nsrc)) && descPlace d.dstList (8 * ndst) &&
    (d.next = 0 || descPlace d.next 48)

/-- The status of the checks: 0 where the descriptor passes. -/
def State.descStatus (s : State) (n : Nat) (d : Desc) : Nat :=
  if !d.alignedOk then stAlign else if !s.descOk n d then stBadParam else stOk

/-- The engine fetches the descriptor that DESC names, for the channel that holds it (R586, R587). -/
def State.fetchDesc (s : State) (n : Nat) : State :=
  let a := (s.reg (R.DMA_CH_DESC n)).toNat
  let c := s.chan n
  let fresh : Channel := { c with done := 0, missAddr := 0xFFFFFFFF, missCnt := 0, missWas := (0xFFFFFFFF, 0), desc := none }
  if !(s.byte (a + 3)).toNat.testBit 7 then
    let s1 := ((s.setFlag (F.DMA_CH_STATUS_EMPTY n) true).setFlag F.DMA_EVENT_EMPTY true).setFld (F.DMA_CH_COUNT_VAL n) 0
    (s1.setBit R.DMA_IRQ_STATUS (16 + n)).endJob n
  else
    let d := s.descAt a
    let st := s.descStatus n d
    let s1 := s.setChan n fresh
    if st = stOk then (s1.setChan n { fresh with desc := some d }).showPos n
    else (((s1.writeBack n a st).countUp F.DMA_CNT_REFUSED).setBit R.DMA_IRQ_STATUS (16 + n)).endJob n

/-! ### Words (R583, R585, R594) -/

/-- A burst of a background channel that does not complete leaves the miss address and count as they were (R589). -/
def State.missBack (s : State) (n : Nat) : State :=
  let c := s.chan n
  if s.flag (F.DMA_CH_CTRL_BG n) then s.setChan n { c with missAddr := c.missWas.1, missCnt := c.missWas.2 } else s

/-- A bus error on an access of a channel (R594). -/
def State.haltChan (s' : State) (n addr dir : Nat) : State :=
  let s := s'.missBack n
  let c := s.chan n
  let s1 := (s.setReg (R.DMA_CH_ERR_ADDR n) (BitVec.ofNat 32 addr)).setReg (R.DMA_CH_ERR_INFO n) (BitVec.ofNat 32 (dir + 2))
  let s2 := match c.desc with
    | some d => s1.writeBack n d.addr stFault
    | none => s1
  let s3 := (s2.countUp F.DMA_CNT_BUS_ERR).setBit R.DMA_IRQ_STATUS (16 + n)
  (s3.setChan n { c with job := false, paused := false, stopping := false, halted := true, desc := none, flowing := false }).freeEngine n

/-- An address's entry in a list of read errors. -/
def errAt (ecc : List (Nat × Nat)) (a : Nat) : Nat := mapGet (fun _ => 0) ecc a

/-- What became of a word. -/
inductive Moved where
  | moved
  | stalled
  | halted
deriving DecidableEq, Repr

/-- A read of 8 bytes for a channel: the bytes, zeros where R115 refuses the access. -/
def State.dmaRead (s : State) (n a : Nat) (ecc : List (Nat × Nat)) : Moved × List Byte × State :=
  match s.busRead .dma a 8 (errAt ecc a) with
  | (.done bs, s1) => (.moved, bs, s1)
  | (.refused, s1) => (.moved, List.replicate 8 0#8, s1)
  | (.stalls, s1) => (.stalled, [], s1)
  | (.error, s1) => (.halted, [], s1.haltChan n a 0)

/-- A write of 8 bytes for a channel. -/
def State.dmaStore (s : State) (n a : Nat) (bs : List Byte) (ecc : List (Nat × Nat)) : Moved × State :=
  match s.busWrite .dma a bs (errAt ecc a) with
  | (.done _, s1) => (.moved, s1)
  | (.refused, s1) => (.moved, s1)
  | (.stalls, s1) => (.stalled, s1)
  | (.error, s1) => (.halted, s1.haltChan n a 1)

/-- A word counted as done. -/
def State.wordDone (s : State) (n : Nat) (miss : Option Nat) : State :=
  let c := s.chan n
  let c1 := { c with done := c.done + 1 }
  let c2 := match miss with
    | some a => { c1 with missCnt := c1.missCnt + 1, missAddr := if c1.missCnt = 0 then a else c1.missAddr }
    | none => c1
  (s.setChan n c2).countUp F.DMA_BYTES_VAL

/-- Does a copy's destination word lie where its range overlaps a source range at a lower address (R586)? -/
def rangesOverlap (src dst : List (Nat × Nat)) (a : Nat) : Bool :=
  dst.any fun q => q.1 ≤ a && a < q.1 + q.2 && src.any fun p => p.1 < q.1 && a < p.1 + p.2

/-- The bytes that a copy writes: what it has read, or unspecified bytes where its ranges overlap so (log entry 2). -/
def State.copied (s : State) (overlap : Bool) (bs : List Byte) : List Byte × State :=
  if overlap then
    let (v, s1) := s.draw (2 ^ 64)
    (leBytes 8 v, s1)
  else (bs, s)

/-- The next 8-byte word of a channel's descriptor. -/
def State.moveWord (s : State) (n : Nat) (d : Desc) (ecc : List (Nat × Nat)) : Moved × State :=
  let off := 8 * (s.chan n).done
  let dst := (listPos d.dst 0 off).2.2
  match (if d.src.isEmpty then (Moved.moved, leBytes 8 d.fill, s) else s.dmaRead n (listPos d.src 0 off).2.2 ecc) with
  | (.moved, bs, s1) =>
    if d.op = 2 then
      match s1.dmaRead n dst ecc with
      | (.moved, bs1, s2) => (.moved, s2.wordDone n (if bs1 = bs then none else some dst))
      | (r, _, s2) => (r, s2)
    else
      let (out, s2) := s1.copied (d.op = 0 && rangesOverlap d.src d.dst dst) bs
      match s2.dmaStore n dst out ecc with
      | (.moved, s3) => (.moved, s3.wordDone n none)
      | r => r
  | (r, _, s1) => (r, s1)

/-- Up to `k` words, stopping at a stall or a bus error. -/
def State.moveWords (n : Nat) (d : Desc) (ecc : List (Nat × Nat)) : Nat → State → Moved × State
  | 0, s => (.moved, s)
  | k + 1, s =>
    match s.moveWord n d ecc with
    | (.moved, s1) => moveWords n d ecc k s1
    | r => r

/-- Words of a descriptor. -/
def Desc.words (d : Desc) : Nat := listBytes d.dst / 8

/-- Words that the next burst of a channel moves: at most BURST bytes, never across a list entry (R588). -/
def State.nextBurst (s : State) (n : Nat) (d : Desc) : Nat :=
  let off := 8 * (s.chan n).done
  let left := fun (l : List (Nat × Nat)) =>
    let p := listPos l 0 off
    (l.getD p.1 (0, 0)).2 - p.2.1
  let room := if d.src.isEmpty then left d.dst else min (left d.src) (left d.dst)
  min (s.burstOf n) room / 8

/-! ### Pacing (R590) -/

/-- May a paced channel move its next burst of `bytes`; an unpaced one always may. -/
def State.paceOk (s : State) (n bytes : Nat) : Bool :=
  let f := s.fld (F.DMA_QFILL_VAL (s.fld (F.DMA_CH_CTRL_QSEL n)))
  let hi := s.fld (F.DMA_CH_HIGH_HIGH n)
  let lo := s.fld (F.DMA_CH_LOW_LOW n)
  let c := s.chan n
  if !s.flag (F.DMA_CH_CTRL_PACE_EN n) then true
  else if s.flag (F.DMA_CH_CTRL_QDIR n) then
    (if c.flowing then decide (f + bytes ≤ hi) else decide (f ≤ lo))
  else (if c.flowing then decide (lo + bytes ≤ f) else decide (hi ≤ f))

/-- The fill count after a burst (R590). -/
def State.paceBurst (s : State) (n bytes : Nat) : State :=
  if !s.flag (F.DMA_CH_CTRL_PACE_EN n) then s
  else
    let q := s.fld (F.DMA_CH_CTRL_QSEL n)
    if s.flag (F.DMA_CH_CTRL_QDIR n) then s.queueMove q bytes 0 else s.queueMove q 0 bytes

/-- Is a stop of the channel in progress: PAUSE or EN = 0 waits for what has been read (R597)? -/
def State.draining (s : State) (n : Nat) : Bool :=
  let c := s.chan n
  c.stopping || (heavy n && s.flag (F.DMA_CH_CTRL_PAUSE n) && !c.paused)

/-- The channel that holds the engine and its descriptor. -/
def State.atWork (s : State) : Option (Nat × Desc) :=
  match s.dma.engine with
  | none => none
  | some n => (s.chan n).desc.map fun d => (n, d)

/-- A paced channel outside background mode moves the bursts that pacing allows; `k` bounds them. -/
def State.pump : Nat → State → State
  | 0, s => s
  | k + 1, s =>
    match s.atWork with
    | none => s
    | some (n, d) =>
      let c := s.chan n
      let w := s.nextBurst n d
      if s.flag (F.DMA_CH_CTRL_BG n) || !s.flag (F.DMA_CH_CTRL_PACE_EN n) || s.draining n || decide (d.words ≤ c.done) then s
      else if !s.paceOk n (8 * w) then s.setChan n { c with flowing := false }
      else
        match State.moveWords n d [] w (s.setChan n { c with flowing := true }) with
        | (.moved, s1) => pump k ((s1.paceBurst n (8 * w)).showPos n)
        | (_, s1) => s1

/-- All bursts that pacing allows now. -/
def State.pumpAll (s : State) : State :=
  match s.atWork with
  | some (_, d) => State.pump (d.words + 1) s
  | none => s

/-! ### Taking and completing (R582, R593) -/

/-- Is a channel ready (R582)? -/
def State.chanReady (s : State) (n : Nat) : Bool :=
  let c := s.chan n
  s.flag (F.DMA_CH_CTRL_EN n) && c.job && !c.paused && !c.halted && s.fld (F.DMA_CH_COUNT_VAL n) != 0

/-- ENGINE_TAKE: a free engine takes the lowest-numbered ready channel and fetches its descriptor (R582, R586, R587). -/
def execEngineTake (s : State) : Out :=
  if !s.on .ctrl || !s.flag F.DMA_CTRL_ENGINE_EN || s.dma.engine.isSome then .next s
  else
    match (List.range 16).find? s.chanReady with
    | none => .next s
    | some n =>
      let s1 : State := { s with dma := { s.dma with engine := some n, burst := none } }
      .next (if (s1.chan n).desc.isSome then s1 else s1.fetchDesc n).pumpAll

/-- A descriptor is complete (R593). -/
def State.completeDesc (s : State) (n : Nat) (d : Desc) : State :=
  let s1 := (s.writeBack n d.addr stOk).countUp F.DMA_CNT_DONE
  let cnt := s1.fld (F.DMA_CH_COUNT_VAL n) - 1
  let s2 := (s1.setFld (F.DMA_CH_COUNT_VAL n) cnt).setReg (R.DMA_CH_DESC n) (BitVec.ofNat 32 d.next)
  if cnt = 0 ∨ d.next = 0 then (s2.setBit R.DMA_IRQ_STATUS n).endJob n
  else (s2.fetchDesc n).pumpAll

/-- DESCRIPTOR_COMPLETE: the words of a channel that runs freely are moved to their end, and a descriptor whose words are all
moved is written back and NEXT fetched (R593, R594). `ecc` gives the errors of the memory. -/
def execDescriptorComplete (ecc : MemErrs) (s' : State) : Out :=
  let s := s'.upset ecc.fst
  match s.atWork with
  | none => .next s
  | some (n, d) =>
    if !s.on .ctrl || s.draining n then .next s
    else
      let left := d.words - (s.chan n).done
      let free := !s.flag (F.DMA_CH_CTRL_BG n) && !s.flag (F.DMA_CH_CTRL_PACE_EN n)
      if left = 0 then .next (s.completeDesc n d)
      else if !free then .next s
      else
        match State.moveWords n d ecc.pond left s with
        | (.moved, s1) => .next ((s1.showPos n).completeDesc n d)
        | (.stalled, s1) => .next (s1.showPos n)
        | (.halted, s1) => .next s1

/-! ### Commands to a channel -/

/-- A write of DMA_CH_CTRLn by the control core. -/
def State.ctrlWrite (s : State) (n : Nat) (v : Word) : State := s.coreWrite (R.DMA_CH_CTRL n) v

/-- DMA_GO: CTRL written with GO (R590, R592, R598). -/
def execDmaGo (n : Fin 16) (v : Word) (s : State) : Out := .next (s.ctrlWrite n (v ||| 3))

/-- COUNT_ADD (R592). -/
def execCountAdd (n : Fin 16) (v : Word) (s : State) : Out := .next (s.coreWrite (R.DMA_CH_COUNT_ADD n) v)

/-- QUEUE_ADD (R590, R591). -/
def execQueueAdd (q : Fin 4) (v : Word) (s : State) : Out := .next (s.coreWrite (R.DMA_QADD q) v).pumpAll

/-- QUEUE_SUB (R590, R591). -/
def execQueueSub (q : Fin 4) (v : Word) (s : State) : Out := .next (s.coreWrite (R.DMA_QSUB q) v).pumpAll

/-- What a dropped light channel has already moved: any part of its descriptor, a free value (R596, log entry 2). -/
def State.dropMoved (s : State) (n : Nat) : State :=
  match s.atWork with
  | none => s
  | some (m, d) =>
    if m ≠ n || d.op = 2 then s
    else
      let (k, s1) := s.draw (d.words - (s.chan n).done + 1)
      match State.moveWords n d [] k s1 with
      | (.moved, s2) => s2
      | _ => s1

/-- LIGHT_CHANNEL_DISABLE (R596). -/
def execLightChannelDisable (n : Fin 16) (s : State) : Out :=
  .next (if heavy n || !s.on .ctrl then s else (s.dropMoved n).ctrlWrite n (s.reg (R.DMA_CH_CTRL n) &&& 0xFFFFFFFE))

/-- HEAVY_CHANNEL_DISABLE (R597). -/
def execHeavyChannelDisable (n : Fin 16) (s : State) : Out :=
  .next (if heavy n then s.ctrlWrite n (s.reg (R.DMA_CH_CTRL n) &&& 0xFFFFFFFE) else s)

/-- PAUSE written 1 (R597, R598). -/
def execPause (n : Fin 16) (s : State) : Out := .next (s.ctrlWrite n (s.reg (R.DMA_CH_CTRL n) ||| 4))

/-- RESUME: PAUSE written 0 (R597). -/
def execResume (n : Fin 16) (s : State) : Out :=
  .next (if heavy n then s.ctrlWrite n (s.reg (R.DMA_CH_CTRL n) &&& 0xFFFFFFFB) else s)

/-- CLR_HALT (R594). -/
def execClrHalt (n : Fin 16) (s : State) : Out := .next (s.ctrlWrite n (s.reg (R.DMA_CH_CTRL n) ||| 0x400))

/-- PAUSE_DRAIN_DONE: what the engine had read, `words` at most, is written or compared, and the channel is paused, or ends
(R597). -/
def execPauseDrainDone (words : Nat) (ecc : MemErrs) (s' : State) : Out :=
  let s := s'.upset ecc.fst
  match s.atWork with
  | none => .next s
  | some (n, d) =>
    if !s.on .ctrl || !s.draining n then .next s
    else
      let c := s.chan n
      let k := min words (d.words - c.done)
      let m := match s.dma.burst with
        | some b => min k b
        | none => if s.flag (F.DMA_CH_CTRL_BG n) then 0 else k
      match State.moveWords n d ecc.pond m s with
      | (.stalled, s1) => .next s1
      | (.halted, s1) => .next s1
      | (.moved, s1) =>
        let s2 := (s1.showPos n).paceBurst n (8 * m)
        .next (if c.stopping then s2.endHeavy n else (s2.setChan n { s2.chan n with paused := true }).freeEngine n)

/-! ### Background bursts (R588, R589) -/

/-- Has Juggler work for a DMA slot: a background channel holds the engine and may move a burst? -/
def State.dmaWork (s : State) : Bool :=
  match s.atWork with
  | none => false
  | some (n, d) =>
    s.flag F.DMA_CTRL_ENGINE_EN && s.flag (F.DMA_CH_CTRL_BG n) && !s.draining n && decide ((s.chan n).done < d.words) &&
      (s.dma.burst.isSome || s.paceOk n (8 * s.nextBurst n d))

/-- A granted DMA slot: one burst starts, or the burst of the slot before goes on; `words` is what is done by tick 4n + 3. -/
def State.dmaSlot (s : State) (words : Nat) (ecc : List (Nat × Nat)) : State :=
  match s.atWork with
  | none => s
  | some (n, d) =>
    let left := s.dma.burst.getD (s.nextBurst n d)
    let m := min words left
    let c := s.chan n
    let s0 := s.setChan n { c with
      flowing := s.flag (F.DMA_CH_CTRL_PACE_EN n)
      missWas := if s.dma.burst.isNone then (c.missAddr, c.missCnt) else c.missWas }
    match State.moveWords n d ecc m s0 with
    | (.moved, s1) =>
      let s2 := (s1.showPos n).paceBurst n (8 * m)
      if m < left then
        { s2 with dma := { s2.dma with burst := some (left - m) }, rng := { s2.rng with holder := some 4 } }
      else { s2 with dma := { s2.dma with burst := none } }
    | (_, s1) => s1

end Sys2Proof.Machine
end

