-- ==== Sys2Proof/Machine/CmdMem.lean ====
section
/-! DEFINITION. The commands of groups 0x0Axx and 0x0Bxx: memory, capture, logs and statistics (R572 to R575). -/

namespace Sys2Proof.Machine

/-! ### Single accesses (R572, R573) -/

/-- What a command makes of the answer to an access of the firmware: it waits for a domain, or ends. -/
def RunCmd.after (c : RunCmd) (r : Access × State) (f : List Byte → State → State) : State :=
  match r with
  | (.stalls, s) => s
  | (.refused, s) => c.fails stNotInMode s
  | (.error, s) => c.fails stFault s
  | (.done bs, s) => f bs s

/-- MEM_READ: 8 bytes; `e` counts the wrong bits of the pond word or the wrong symbols of the codeword. -/
def execMemRead (tag : Fin 64) (e : Nat) (s : State) : Out :=
  s.runs tag 0x0A00 fun c s => c.after (s.busRead .core (leAt c.params 0 4) 8 e) fun bs => c.ok bs

/-- MEM_WRITE: 8 or 16 bytes, 8 at a time in increasing order. -/
def execMemWrite (tag : Fin 64) (e : Nat) (s : State) : Out :=
  s.runs tag 0x0A01 fun c s =>
    let a := leAt c.params 0 4
    let d := c.params.drop 8
    c.after (s.busWrite .core a (d.take 8) e) fun _ s =>
      if byteAt c.params 4 = 8 then c.ok [] s
      else c.after (s.busWrite .core (a + 8) ((d.drop 8).take 8) e) fun _ => c.ok []

/-! ### DMA_RUN (R572, R573) -/

/-- What DMA_RUN works on in a step: operation, constant, and the first addresses and bytes of its MiB. -/
structure DmaJob where
  op : Nat
  fill : List Byte
  src : Nat
  dst : Nat
  len : Nat

/-- The MiB of a step. -/
def RunCmd.dmaJob (c : RunCmd) : DmaJob :=
  let p := c.params
  let k := 0x100000 * c.step
  ⟨byteAt p 0, (p.drop 16).take 8, leAt p 4 4 + k, leAt p 8 4 + k, min 0x100000 (leAt p 12 4 - k)⟩

/-- Word `i` of a job: copied, filled or compared. The counts are (differing words, first such address). -/
def State.jobWord (s : State) (j : DmaJob) (ecc : List (Nat × Nat)) (i : Nat) (n : Nat × Nat) : Option (Nat × Nat) × State :=
  let a := j.dst + 8 * i
  let b := j.src + 8 * i
  match (if j.op = 1 then (Access.done j.fill, s) else s.busRead .dma b 8 (errAt ecc b)) with
  | (.done bs, s1) =>
    if j.op = 2 then
      match s1.busRead .dma a 8 (errAt ecc a) with
      | (.done bs1, s2) => (some (if bs1 = bs then n else (n.1 + 1, if n.1 = 0 then a else n.2)), s2.countUp F.DMA_BYTES_VAL)
      | (_, s2) => (none, s2)
    else
      let (out, s2) := s1.copied (j.op = 0 && rangesOverlap [(j.src, j.len)] [(j.dst, j.len)] a) bs
      match s2.busWrite .dma a out (errAt ecc a) with
      | (.done _, s3) => (some n, s3.countUp F.DMA_BYTES_VAL)
      | (_, s3) => (none, s3)
  | (_, s1) => (none, s1)

/-- The words of a job from `i` on, in increasing order, up to a bus error. -/
def State.jobWords (j : DmaJob) (ecc : List (Nat × Nat)) : Nat → Nat → Nat × Nat → State → Option (Nat × Nat) × State
  | 0, _, n, s => (some n, s)
  | k + 1, i, n, s =>
    match s.jobWord j ecc i n with
    | (some m, s1) => jobWords j ecc k (i + 1) m s1
    | r => r

/-- DMA_RUN: one MiB a step; `ecc` gives the errors of the memory. A bus error ends it with FAULT. -/
def execDmaRun (tag : Fin 64) (ecc : MemErrs) (s' : State) : Out :=
  let s := s'.upset ecc.fst
  s.runs tag 0x0A02 fun c s => s.needs c .pix fun s =>
    let len := leAt c.params 12 4
    let res := fun (n : Nat × Nat) => if byteAt c.params 0 = 2 then leBytes 4 n.2 ++ leBytes 4 n.1 else []
    let n0 := (c.note.getD 0 0, c.note.getD 1 0xFFFFFFFF)
    if len = 0 then s.endCmd c.tag stOk (res n0)
    else
      let j := c.dmaJob
      match State.jobWords j ecc.pond (j.len / 8) 0 n0 s with
      | (none, s1) => c.fails stFault s1
      | (some n, s1) =>
        if len ≤ 0x100000 * (c.step + 1) then c.ok (res n) s1 else s1.stepDone c.tag [n.1, n.2]

/-! ### CAPTURE (R573) -/

/-- Frame store offset of the capture buffer. -/
abbrev captureOff : Nat := 0x1F800000

/-- One line of a captured rectangle, packed as R299 gives. -/
def State.captureLine (s : State) (x y w : Nat) : List Byte :=
  let ps := (List.range w).map fun i => (s.shownPixel 0 (x + i) y).pack
  leBytes (64 * ceilDiv (w * 30) 512) (ps.foldr (fun p acc => p + 2 ^ 30 * acc) 0)

/-- CAPTURE: the rectangle of the displayed picture of one frame. -/
def execCapture (tag : Fin 64) (s : State) : Out :=
  s.runs tag 0x0A03 fun c s =>
    let p := c.params
    let w := leAt p 4 2
    let h := leAt p 6 2
    let bs := ((List.range h).map fun j => s.captureLine (leAt p 0 2) (leAt p 2 2 + j) w).flatten
    c.ok (leBytes 4 s.frame.toNat ++ leBytes 4 bs.length) (s.fstWrite captureOff bs)

/-! ### Logs and statistics (R574, R575, R637, R643) -/

/-- The open list acknowledged: it is empty and a new MARK is written (R541). -/
def State.ledgerAcked (s : State) : State :=
  let s1 : State := { s with mail := { s.mail with openList := [], openOverflow := false, ledgerAck := true } }
  if s.mail.ledgerAck then s1 else s1.ledgerMark

/-- LEDGER_READ: an entry of the open list, or its acknowledgement. -/
def execLedgerRead (tag : Fin 64) (s : State) : Out :=
  s.runs tag 0x0B00 fun c s =>
    let b := byteAt c.params 2
    if b.testBit 1 then c.ok (List.replicate 8 0#8) s.ledgerAcked
    else
      let e := s.mail.openList.getD (leAt c.params 0 2) []
      let n := min 255 s.mail.openList.length
      let g := fun i => e.getD i 0
      c.ok (if b % 2 = 0 then leBytes 1 (g 1 % 64 + 64 * g 0) ++ leBytes 2 (g 2) ++ leBytes 2 (g 3) ++ leBytes 2 (g 4) ++ leBytes 1 n
        else leBytes 6 (g 5) ++ leBytes 1 n ++ leBytes 1 (if s.mail.openOverflow then 1 else 0)) s

/-- LOG_READ: half an entry of the fault log; the second half of the newest moves the READ mark. -/
def execLogRead (tag : Fin 64) (s : State) : Out :=
  s.runs tag 0x0B01 fun c s =>
    let n := leAt c.params 0 2
    let half := byteAt c.params 2
    match s.logEntryAddr n with
    | none => c.fails stBadParam s
    | some a => c.ok (s.bytes (a + 8 * half) 8) (if n = 0 ∧ half = 1 then s.logMarkRead else s)

/-- SNAP_READ: a latched counter with the snapshot's sequence and frame. -/
def execSnapRead (tag : Fin 64) (s : State) : Out :=
  s.runs tag 0x0B02 fun c s =>
    c.ok (leBytes 4 (s.snapOf (leAt c.params 0 4)).toNat ++ leBytes 2 (s.reg R.SYS_SNAP_SEQ).toNat ++
      leBytes 2 (s.reg R.SYS_SNAP_FRAME).toNat) s

/-- EVENT_CFG: the event class enables. -/
def execEventCfg (tag : Fin 64) (s : State) : Out :=
  s.runs tag 0x0B03 fun c s => c.ok [] (s.regWrite R.SYS_EVT_EN (BitVec.ofNat 32 (leAt c.params 0 4)))

end Sys2Proof.Machine
end

