-- ==== Sys2Proof/Machine/CmdUpdate.lean ====
section
/-! DEFINITION. The commands of groups 0x0Cxx and 0x0Dxx: update, service access, register access (R535, R536, R576 to R580),
and the sending of event records (R641). -/

namespace Sys2Proof.Machine

/-! ### Update sessions (R80 rows 20 and 22, R103, R108) -/

/-- UPDATE_BEGIN: the partitions opened, then UPDATE (R576). -/
def execUpdateBegin (tag : Fin 64) (s : State) : Out :=
  s.runs tag 0x0C00 fun c s =>
    ({ s with mail := { s.mail with updOpen := byteAt c.params 0 } } : State).waitRow c 20

/-- UPDATE_ABORT: running update commands end at their next boundary; once no flash step is in progress, the mode returns
(R103, R576). -/
def execUpdateAbort (tag : Fin 64) (s : State) : Out :=
  s.runs tag 0x0C04 fun c s =>
    let s1 := s.setCmds (s.mail.cmds.map fun (d : RunCmd) => if d.opcode = 0x0C01 ∨ d.opcode = 0x0C02 then { d with killed := true } else d)
    if s1.flashStep then s1 else s1.waitRow c 22

/-- Must a flash step wait: CTRL refused a sleep for one that has ended since (R132)? -/
def State.flashHeld (s : State) : Bool := s.pw.noFlash && !s.pw.flashBusy

/-- The flash step in progress is over. -/
def State.flashOver (s : State) : State := s.setPw { s.pw with flashBusy := false }

/-- UPDATE_WRITE: one 64 KiB sector, erased and then programmed from staging (R576, R577). -/
def execUpdateWrite (tag : Fin 64) (s : State) : Out :=
  s.runs tag 0x0C01 fun c s =>
    let p := c.params
    let len := leAt p 8 4
    match s.partOf (byteAt p 0) with
    | none => c.fails stBadParam s
    | some (base, _) =>
      if len = 0 then s.endCmd c.tag stOk []
      else if s.flashHeld then s
      else
        let k := 0x10000 * c.step
        let a := base + leAt p 4 4 + k
        let n := min 0x10000 (len - k)
        let data := s.stagedAt k n
        let s1 := (s.setBytes a (data ++ List.replicate (0x10000 - n) 0xFF#8)).flashOver
        if len ≤ k + 0x10000 then c.ok [] s1 else s1.stepDone c.tag []

/-! ### Verification (R92, R577, R580) -/

/-- The image that UPDATE_ACTIVATE makes active: the one that does not run; in ROM recovery the first that passes R92, A before
B (log entry 25). -/
def State.nextImage (s : State) : Nat :=
  if s.pw.rom then (if s.imageOk 1 then 1 else 2) else 3 - s.fw.image

/-- Does every asset of the directory match the manifest of image `k` (R98)? -/
def State.assetsOk (s : State) (k : Nat) : Bool :=
  s.dirOk && (List.range (s.mle (assetBase + 2) 2)).all fun i =>
    let e := s.bytes (assetBase + 16 + 16 * i) 16
    leAt e 4 4 % 16 = 0 && decide (leAt e 4 4 + leAt e 8 4 ≤ assetSize) &&
      s.inManifest k (byteAt e 0) (leAt e 2 2) (s.bytes (assetBase + leAt e 4 4) (leAt e 8 4))

/-- Do the panel data images match the manifest of image `k`? -/
def State.panelOk (s : State) (k : Nat) : Bool :=
  (List.range 4).all fun i =>
    let len := if i = 3 then dthImageLen else if i = 2 then odvImageLen
      else s.mle (panelBase + (s.panelOffset i).getD 0 + 16) 4
    (s.panelImageIn k i len).isSome

/-- The configuration copy that is not in use. -/
def State.spareCopy (s : State) : Nat :=
  match s.fw.copy with
  | some c => 1 - c
  | none => 0

/-- Does a PART pass (R576, R577)? -/
def State.partOk (s : State) (k : Nat) : Bool :=
  match k with
  | 0 => s.imageOk (if s.pw.rom then 1 else 3 - s.fw.image)
  | 1 => s.assetsOk s.nextImage
  | 2 => s.panelOk s.nextImage
  | 3 => (s.cfgCopy s.spareCopy).isSome
  | _ => s.imageOk 2

/-- UPDATE_VERIFY: one part a step. -/
def execUpdateVerify (tag : Fin 64) (s : State) : Out :=
  s.runs tag 0x0C02 fun c s =>
    let want := byteAt c.params 0
    let parts := (List.range 5).filter fun k => want.testBit k
    match parts[c.step]? with
    | none => s.endCmd c.tag stOk [0#8]
    | some k =>
      let got := c.note.getD 0 0 + if s.partOk k then 2 ^ k else 0
      if c.step + 1 < parts.length then s.stepDone c.tag [got]
      else s.finishCmd c.tag (if got = want then stOk else stPartial) [BitVec.ofNat 8 got]

/-! ### Activation (R577, R580) -/

/-- One record as bytes (R96). -/
def cfgRecBytes (r : Nat × List Byte) : List Byte :=
  leBytes 2 r.1 ++ leBytes 2 r.2.length ++ r.2 ++ List.replicate (ceilDiv r.2.length 4 * 4 - r.2.length) 0#8

/-- Records that name an image active. -/
def nameActive (k : Nat) (rs : List (Nat × List Byte)) : List Byte :=
  (rs.map fun r => cfgRecBytes (if r.1 = 0x01 then (0x01, [BitVec.ofNat 8 k, 0, 0, 0]) else r)).flatten

/-- A new copy of the configuration in the place of the one not in use, naming image `k` active: from the records written there
in this session where they form a valid copy, else from those in use (log entry 26). -/
def State.newCopy (s : State) (k : Nat) : State :=
  let base := (s.cfgCopy s.spareCopy).filter fun _ => s.pw.rom || s.mail.updOpen.testBit 3
  let src := base.getD s.fw.cfg
  let recs := nameActive k ((cfgRecords (src.length + 1) src).getD [])
  let seq := s.cfgSeq (1 - s.spareCopy) + 1
  let bs := [1, 0, 0, 0] ++ leBytes 4 seq.toNat ++ leBytes 4 recs.length ++ leBytes 4 (crc32 recs) ++
    List.replicate 16 0#8 ++ recs
  s.setBytes (copyAddr s.spareCopy) (bs ++ List.replicate (ceilDiv bs.length 0x10000 * 0x10000 - bs.length) 0xFF#8)

/-- The second step of UPDATE_ACTIVATE in ROM recovery without a configuration: the one written under PART 3 must be valid. -/
def State.romCopy (s : State) : Option State :=
  if s.fw.copy.isNone then (if s.cfgChoice.isSome then some s else none) else some (s.newCopy s.nextImage)

/-- UPDATE_ACTIVATE: the new image verified, then the configuration copy that names it; the reset follows (R553, R577, R580). -/
def execUpdateActivate (tag : Fin 64) (s : State) : Out :=
  s.runs tag 0x0C03 fun c s =>
    let due := fun (s : State) => c.ok [] (s.flashOver.setPw { s.flashOver.pw with
      resetDue := some (c.tag, F.RESET_CAUSE_UPDATE_ACTIVATE.lo) })
    match c.step with
    | 0 => if s.imageOk s.nextImage then s.stepDone c.tag [] else c.fails stFault s
    | _ =>
      if s.flashHeld then s
      else if s.pw.rom then
        match s.romCopy with
        | some s1 => due s1
        | none => c.fails stFault s.flashOver
      else due (s.newCopy s.nextImage)

/-! ### Service access (R535, R536) -/

/-- SVC_CHALLENGE: a nonce from the random source, unless four failures have locked it out. -/
def execSvcChallenge (tag : Fin 64) (s : State) : Out :=
  s.runs tag 0x0C05 fun c s =>
    if s.mail.lockedOut then c.fails stBusy s
    else
      let (n, s1) := s.random (2 ^ 64)
      c.ok (leBytes 8 n) { s1 with mail := { s1.mail with nonce := some n } }

/-- A response that fails: the fourth in a row locks SVC_CHALLENGE out. -/
def State.respFails (s : State) : State :=
  let n := s.mail.unlockFails + 1
  { s with mail := { s.mail with nonce := none, unlockFails := if n < 4 then n else 0, lockedOut := s.mail.lockedOut || decide (4 ≤ n) } }

/-- SVC_RESPONSE: the CMAC over the nonce and the serial number unlocks MB3. -/
def execSvcResponse (tag : Fin 64) (s : State) : Out :=
  s.runs tag 0x0C06 fun c s =>
    match s.mail.nonce with
    | none => c.fails stDenied s.respFails
    | some n =>
      if (c.params.take 16) = cmac (leBytes 16 Config.serviceKey) (leBytes 8 n ++ leBytes 8 Config.serial.toNat) then
        c.ok [] { s with mail := { s.mail with nonce := none, unlockFails := 0, unlocked := true } }
      else c.fails stDenied s.respFails

/-- MB3 locks: its commands are aborted and SERVICE ends (R536, R80 row 19). -/
def State.svcLock (s : State) : State :=
  let s1 := s.lockMb3
  if s1.mode = .service then s1.latch 19 none else s1

/-- SVC_LOCK. -/
def execSvcLock (tag : Fin 64) (s : State) : Out := s.runs tag 0x0C07 fun c s => (c.ok [] s).svcLock

/-- MB3_IDLE_LOCK: 600 s without a command taken from MB3 (R536). -/
def execMb3IdleLock (s : State) : Out := .next (if s.on .ctrl && s.mail.unlocked then s.svcLock else s)

/-- SVC_LOCKOUT_END: 60 s after the fourth failure SVC_CHALLENGE is served again (R535). -/
def execSvcLockoutEnd (s : State) : Out := .next { s with mail := { s.mail with lockedOut := false } }

/-! ### Register access (R578, R579) -/

/-- A register command needs the register's domain. -/
def State.needsReg (s : State) (c : RunCmd) (a : Nat) (f : State → State) : State :=
  match blkOf a with
  | some b => s.needs c b.domain f
  | none => f s

/-- REG_READ. -/
def execRegRead (tag : Fin 64) (s : State) : Out :=
  s.runs tag 0x0D00 fun c s =>
    let a := leAt c.params 0 4
    s.needsReg c a fun s => c.after (s.regRead .core a) fun bs => c.ok bs

/-- REG_WRITE: under the mask, and the value read back. -/
def execRegWrite (tag : Fin 64) (s : State) : Out :=
  s.runs tag 0x0D01 fun c s =>
    let a := leAt c.params 0 4
    let v : Word := BitVec.ofNat 32 (leAt c.params 4 4)
    let m : Word := BitVec.ofNat 32 (leAt c.params 8 4)
    let put := fun (old : Word) (s : State) =>
      c.after ((s.regWrite a ((old &&& ~~~m) ||| (v &&& m))).regRead .core a) fun bs => c.ok bs
    s.needsReg c a fun s =>
      if m = 0xFFFFFFFF then put 0 s
      else c.after (s.regRead .core a) fun bs s => put (BitVec.ofNat 32 (leAt bs 0 4)) s

/-! ### Event packets (R641) -/

/-- Address of a record of the event ring. -/
def evtAddr (i : Nat) : Nat := evtBase + 16 * (i % 256)

/-- How many of the `held` records from index `i` on go into a packet with room for `room`: an event stays with its
continuation. -/
def State.evtFit (s : State) : Nat → Nat → Nat → Nat
  | 0, _, _ => 0
  | _, _, 0 => 0
  | held + 1, i, room + 1 =>
    if (byteAt (s.bytes (evtAddr i) 16) 0).testBit 5 then
      match held, room with
      | h + 1, r + 1 => 2 + evtFit s h (i + 2) r
      | _, _ => 0
    else 1 + evtFit s held (i + 1) room

/-- EVENT_PACKET_SEND: with 16 records waiting, or 10 us after the oldest was written, records go upstream. -/
def execEventPacketSend (s : State) : Out :=
  let due := decide (16 ≤ s.log.evtHeld) || (match s.log.evtTimes with
    | t :: _ => decide (1563 ≤ s.since t)
    | [] => false)
  if !(s.on .ctrl && s.on .link && (s.port 0).tx.gotCredit && due) then .next s
  else
    let i := s.fld F.SYS_EVT_RING_SEND
    let n := s.evtFit s.log.evtHeld i 16
    if n = 0 then .next s
    else
      let bs := ((List.range n).map fun k => s.bytes (evtAddr (i + k)) 16).flatten
      let s1 := (s.setFld F.SYS_EVT_RING_SEND (i + n)).sendUp tEvent 0 bs
      .next { s1 with log := { s1.log with evtHeld := s.log.evtHeld - n, evtTimes := s.log.evtTimes.drop n } }

end Sys2Proof.Machine
end

