-- ==== Sys2Proof/Machine/Elastic.lean ====
section
/-! DEFINITION. What the elastic slots do (R148): the log writer's part (R647), CAL's slot (R625), a unit of the patrol scrub
(R311 to R313), Eddy's accesses (R612 to R614), a burst of Juggler (R588, R589). -/

namespace Sys2Proof.Machine

/-! ### Patrol scrub (R311 to R313) -/

/-- Is a 4 KiB block of the frame store initialised (R297)? -/
def State.blockInit (s : State) (b : Nat) : Bool := mapGet (fun _ => false) s.vid.initBlk b

/-- The initialised blocks in increasing order. -/
def State.initBlocks (s : State) : List Nat := (s.vid.initBlk.filter (·.2)).map (·.1)

/-- The first unit, from unit `u` on, that lies in an initialised block; none where the store has none above (R311). -/
def State.unitFrom (s : State) (u : Nat) : Option Nat :=
  if s.blockInit (u / 16) then some u else (s.initBlocks.find? fun b => decide (u / 16 < b)).map fun b => 16 * b

/-- Has the scrub work: it is enabled, a block is initialised, and no unit is in flight (R297, R311, R313)? -/
def State.scrubWork (s : State) : Bool :=
  s.on .pix && s.flag F.FST_CTRL_SCRUB_EN && s.vid.scrubFly.isNone && !s.initBlocks.isEmpty

/-- The state with another unit in flight. -/
def State.setFly (s : State) (f : Option ScrubFly) : State := { s with vid := { s.vid with scrubFly := f } }

/-- A pass of the scrub completes (R311). -/
def State.scrubWrap (s : State) : State :=
  let s1 := (s.countUp F.FST_SCRUB_PASS_PASSES).setFld F.FST_SCRUB_PASS_FRAMES (min 65535 s.vid.scrubAge)
  { s1 with vid := { s1.vid with scrubAge := 0, scrubAged := false } }

/-- A codeword of a unit is read: where it was corrected, its write-back is to come; `bad` says that its verify read will fail
(R311). -/
def State.scrubRead (s : State) (cw : Nat) (bad : Bool) : List ScrubFix × State :=
  let (_, s1) := s.readWord (some .scrub) false cw
  (match rsRead false (s.errsOf cw) with
    | .good (_ + 1) left => [⟨64 * cw, false, bad, left⟩]
    | _ => [], s1)

/-- A unit is issued: its four codewords are read in the SCRUB class, and it is in flight (R295, R311). -/
def State.scrubIssue (s : State) (bad : List Bool) : State :=
  match s.unitFrom (s.fld F.FST_SCRUB_POS_VAL) with
  | none => (s.scrubWrap).setFld F.FST_SCRUB_POS_VAL (16 * s.initBlocks.headD 0)
  | some u =>
    let r := (List.range 4).foldl (fun (a : List ScrubFix × State) k =>
      let (f, s1) := a.2.scrubRead (4 * u + k) (bad.getD k false)
      (a.1 ++ f, s1)) (([] : List ScrubFix), s.ask rankScrub 4)
    r.2.setFly (some ⟨u, r.1⟩)

/-- The write-back of a corrected codeword: cancelled by a write since its read, else stored and verified in DETECT mode; a verify read
that fails is a hard fault (R311, R312). -/
def State.scrubBack (s : State) (f : ScrubFix) : State :=
  if f.cut then s.countUp F.FST_SCRUB_CNT_CANCELLED
  else
    let s1 := (s.flipData (f.off / 64) f.left).setErrs (f.off / 64) []
    if f.bad then
      ((s1.setFlag F.FST_EVENT_HARD true).fstLog f.off 0 false true Reader.scrub.code).eventLogged 5 2
        (leBytes 4 f.off ++ [BitVec.ofNat 8 Reader.scrub.code])
    else s1

/-- The unit in flight completes, unless it flies on: its write-backs, the count, and the position moves to the next unit of an
initialised block (R311). -/
def State.scrubLand (s : State) (fly : Bool) : State :=
  match s.vid.scrubFly with
  | none => s
  | some x =>
    if fly then s
    else
      let s1 := (x.fixes.foldl State.scrubBack (s.setFly none)).countUp F.FST_SCRUB_CNT_UNITS
      match s1.unitFrom (x.unit + 1) with
      | some v => s1.setFld F.FST_SCRUB_POS_VAL v
      | none => s1.scrubWrap.setFld F.FST_SCRUB_POS_VAL (16 * s1.initBlocks.headD 0)

/-- The age of the pass at a frame start: once per pass an event is raised (R313). -/
def State.scrubFrame (s : State) : State :=
  if !s.on .pix || !s.flag F.FST_CTRL_SCRUB_EN then s
  else
    let n := s.vid.scrubAge + 1
    let s1 : State := { s with vid := { s.vid with scrubAge := n } }
    if s.vid.scrubAged || decide (n ≤ s.fld F.FST_SCRUB_AGE_VAL) then s1
    else
      let s2 : State := { s1 with vid := { s1.vid with scrubAged := true } }
      (s2.setFlag F.FST_EVENT_SCRUB_AGE true).event 5 3
        (leBytes 4 (256 * s.fld F.FST_SCRUB_POS_VAL) ++ [BitVec.ofNat 8 Reader.scrub.code])

/-! ### Eddy (R612 to R614) -/

/-- Slices of the ponds. -/
abbrev eddySlices : Nat := 2304

/-- The state with another Eddy. -/
def State.setEddy (s : State) (e : Eddy) : State := { s with eddy := e }

/-- Abandons of a slice in this pass. -/
def Eddy.abandonsOf (e : Eddy) (i : Nat) : Nat := mapGet (fun _ => 0) e.abandons i

/-- SYS_EDDY_STATUS from Eddy's position; between its slots it waits (R615). -/
def State.eddyShow (s : State) : State :=
  let e := s.eddy
  let i := e.slice
  let (pond, ix) := if i < 1536 then (0, i) else if i < 2048 then (1, i - 1536) else (2, i - 2048)
  let s1 := (s.setFld F.SYS_EDDY_STATUS_POND pond).setFld F.SYS_EDDY_STATUS_SLICE ix
  ((s1.setFld F.SYS_EDDY_STATUS_STATE 4).setFlag F.SYS_EDDY_STATUS_BORROWED (decide (0 < e.step))).setFld
    F.SYS_EDDY_STATUS_ABANDONS (e.abandonsOf i)

/-- A pass ends (R612). -/
def State.eddyPass (s : State) : State :=
  let s1 := (s.countUp F.SYS_EDDY_PASS_PASSES).setFld F.SYS_EDDY_PASS_FRAMES (min 65535 s.eddy.frames)
  s1.setEddy { s1.eddy with slice := 0, abandons := [], retry := [], retrying := false, frames := 0 }

/-- The next slice: in increasing order, then those that were abandoned, until the pass ends (R612, R613). -/
def State.eddyNext (s : State) : State :=
  let e := s.eddy
  let s1 := s.setEddy { e with step := 0, abandoned := false }
  if !e.retrying && decide (e.slice + 1 < eddySlices) then s1.setEddy { s1.eddy with slice := e.slice + 1 }
  else
    match e.retry with
    | [] => s1.eddyPass
    | i :: t => s1.setEddy { s1.eddy with slice := i, retry := t, retrying := true }

/-- The slice in hand is restored and done with; an abandoned one is retried, the fourth time it is skipped (R613). -/
def State.eddyDone (s : State) : State :=
  let e := s.eddy
  if e.abandoned then
    let n := e.abandonsOf e.slice + 1
    let s1 := (s.countUp F.SYS_EDDY_CNT_ABANDONED).setEddy { e with abandons := mapSet (fun _ => 0) e.abandons e.slice n }
    if 4 ≤ n then
      ((s1.setFlag F.SYS_EDDY_EVENT_SKIP true).event 5 6 (leBytes 4 (sliceAddr e.slice))).eddyNext
    else (s1.setEddy { s1.eddy with retry := s1.eddy.retry ++ [e.slice] }).eddyNext
  else (s.countUp F.SYS_EDDY_CNT_TESTED).eddyNext

/-- A March read differs (R614). -/
def State.eddyFail (s : State) (w : Nat × Nat × Nat) : State :=
  let a := sliceAddr s.eddy.slice + 8 * (w.1 % 32)
  let s1 := ((s.setFld F.SYS_EDDY_FAIL_ADDR a).setFld F.SYS_EDDY_FAIL_BIT w.2.1).setFld F.SYS_EDDY_FAIL_ELEMENT w.2.2
  ((s1.setFlag F.SYS_EDDY_EVENT_FAIL true).countUp F.SYS_EDDY_CNT_FAILED).eventLogged 5 5 (leBytes 4 a)

/-- A granted EDDY slot: at most 16 accesses on the slice: 32 reads of the copy, 320 of March C−, 32 writes of the restore. A
test that a write abandoned, or that fails, goes on with the restore. -/
def State.eddySlot (s : State) (n : Nat) (march : Option (Nat × Nat × Nat)) : State :=
  let e := s.eddy
  let from' := if e.abandoned && decide (e.step < 352) then 352 else e.step
  let upTo := min 384 (from' + min 16 n)
  let s1 := match march with
    | some w => if decide (from' < 352 ∧ 32 < upTo) then (s.eddyFail w).setEddy { e with step := 352 }
      else s.setEddy { e with step := upTo }
    | none => s.setEddy { e with step := upTo }
  (if s1.eddy.step = 384 then s1.eddyDone else s1).eddyShow

/-! ### The slot -/

/-- Has a class work (R148)? -/
def State.slotWork (s : State) (c : Nat) : Bool :=
  match c with
  | 0 => !s.log.logQ.isEmpty
  | 1 => s.calLane.isSome
  | 2 => s.scrubWork
  | 3 => s.flag F.SYS_POND_CTRL_EDDY_EN
  | _ => s.dmaWork

/-- What a slot of a class does. -/
def State.slotAct (s : State) (c : Nat) (i : SlotInfo) : State :=
  match c with
  | 0 => ((s.logWriteOne.settle).calNext 256).calIdle
  | 1 => s.calSlot
  | 2 => s.scrubIssue i.scrub
  | 3 => s.eddySlot i.eddy i.march
  | _ => s.dmaSlot i.words i.ecc

/-! ### The guard tick (R146) -/

/-- The slot after a slot of a line. -/
def slotAfter (p : Nat × Nat) : Nat × Nat := if p.2 = 63 then (p.1 + 1, 0) else (p.1, p.2 + 1)

/-- Does the class that holds the resource keep it into the next slot: it goes to the same class (R146)? -/
def State.keepsSlot (s : State) : Bool :=
  match s.rng.slot with
  | some p => s.rng.holder.isSome && s.slotClass s.slotWork (slotAfter p).1 (slotAfter p).2 = s.rng.holder
  | none => false

/-- The forced release of a unit that still holds the resource, counted (R146). -/
def State.guardRelease (s : State) : State :=
  if s.rng.holder.isNone then s
  else ({ s with rng := { s.rng with holder := none } } : State).countUp F.RNG_GUARD_ABORT_VAL

/-- GUARD_TICK_RELEASE: tick 4n + 3 of the slot granted last. A unit that still holds the resource is forced off and counted,
unless the next slot goes to its class (R146). -/
def execGuardTickRelease (s : State) : Out :=
  if s.rng.holder.isNone then .next s
  else
    let s1 := match s.rng.slot with
      | some p => s.reachPos p.1 (4 * p.2 + 3)
      | none => s
    .next (if s.keepsSlot then s1 else s1.guardRelease)

/-- A granted slot in which the access of the class was still under way at tick 4n + 3: the class holds the resource, and
repeats the access in its next slot (R146). A slot of CAL counts as granted (R625); what Eddy has done before stands. -/
def State.slotCut (s : State) (c : Nat) (i : SlotInfo) : State :=
  let s1 := match c with
    | 1 => s.calSlot
    | 3 => s.eddySlot i.eddy none
    | _ => s
  { s1 with rng := { s1.rng with holder := some c } }

/-- The unit that holds the resource as the slot at a line begins: it keeps it where this is the next slot and goes to its
class; otherwise its guard tick has forced it off (R146). -/
def State.slotEnter (s : State) (line slot : Nat) : State :=
  let next := match s.rng.slot with
    | some p => decide (slotAfter p = (line, slot))
    | none => false
  if next && s.keepsSlot then { s with rng := { s.rng with holder := none } } else s.guardRelease

/-- ELASTIC_SLOT_GRANT: an elastic slot goes to the first eligible class with work and grant left (R148, R149). -/
def execElasticSlotGrant (i : SlotInfo) (s : State) : Out :=
  if !s.ringRuns || !s.on .ctrl || decide (63 < i.slot) then .next s
  else
    if s.rng.slot = some (i.line, i.slot) then .next s
    else
      let s0 := ((s.upset i.ups).slotEnter i.line i.slot).reachPos i.line (4 * i.slot)
      match s0.slotClass s0.slotWork i.line i.slot with
      | none => .next (s0.scrubLand i.fly)
      | some c =>
        let s1 := s0.useSlot c i.line i.slot
        let s2 := if i.cut && decide (c ≠ 4) then s1.slotCut c i else s1.slotAct c i
        .next (s2.scrubLand i.fly)

end Sys2Proof.Machine
end

