-- ==== Sys2Proof/Machine/Transmit.lean ====
section
/-! DEFINITION. What a port sends on its transmit lanes in each state (R185, R189, R190, R194, R209 to R212), and its transmitter at
the module's clock: blocks and markers, training sets sent, the answer to a loop request, pattern generator and checker (R189,
R195, R204, R208, R212). -/

namespace Sys2Proof.Machine

/-! ### What is sent (R185, R194) -/

/-- What a lane sends: electrical idle, symbols, the bits of the pattern generator, or the recovered symbols of a lane (R194,
R211, R212). -/
inductive LaneOut where
  | idle
  | symbols (l : List Sym)
  | pattern (bits : List Bool)
  | looped (lane : Nat)
deriving DecidableEq, Repr

/-- FLAGS of the training sets that a port sends (R185, R211, R212). -/
def State.setFlags (s : State) (p : Nat) (seen : Bool) : Nat :=
  let b := fun (v : Bool) (i : Nat) => if v then 2 ^ i else 0
  b seen 0 + b (p = 0) 1 + b (s.farLoop p) 2 + b (decide ((s.port p).loopAck = 2)) 3 + b (decide (s.pState p = pRetrain)) 4

/-- Symbols 2 to 13 of the training set that a port sends on a lane (R185). -/
def State.setBody (s : State) (p l : Nat) : List Byte :=
  let byte := fun (n : Nat) => BitVec.ofNat 8 n
  [byte (0xA0 + l), byte (s.fld (F.PORT_STATUS_CAP_NOW p)), byte (s.selRate p), byte (s.setFlags p (s.port p).setSeen),
    byte (s.port p).trainId, byte (s.fld (F.PORT_PARTNER_TRAIN_ID p)),
    byte (if s.farLoop p then s.fld (F.PORT_LOOP_LANE p) else 0), 1, 0x4A, 0x4A, 0x4A, 0x4A]

/-- What a port in UP put on lane `l` at its last packet boundary, from its place in the block on (R184, R187, R188, R215). -/
def State.upSyms (s : State) (p l : Nat) : List Sym :=
  let x := s.port p
  let syms := match x.tx.wire with
    | .idleSet req => idleSyms req
    | .burstSet bs => burstSyms bs
    | .packet k => if p = 0 then returnSyms k.wireBytes k.eab else forwardSyms l k.wireBytes k.eab
  withMarkers l syms (max 4 (x.ui / 10)) x.count

/-- UI of the transmitter in one tick of the reference, by rate code (R178). -/
def uiPerTick : Nat → Nat
  | 0 => 20
  | 1 => 40
  | 2 => 66
  | _ => 80

/-- The bits that the pattern generator sends in one tick (R208). -/
def State.genBits (s : State) (p : Nat) : List Bool × Nat :=
  patternBits (s.fld (F.PORT_PAT_PATTERN p)) (s.fld (F.PORT_PAT_FIXED p)) (uiPerTick (s.fld (F.PORT_STATUS_RATE p))) (s.port p).gen

/-- What transmit lane `l` of a port sends on its pins (R194, R209 to R212). In TEST an Inlet that loops for its partner sends what it
receives; a far-end loop has the generator on the looped lane and training sets on the others; a near-end loop leaves the pins in
electrical idle. -/
def State.sends (s : State) (p l : Nat) : LaneOut :=
  let st := s.pState p
  let x := s.port p
  if !s.acts .link || !(txLanes p).contains l || st = pOff then .idle
  else if st = pTest then
    if p = 0 && s.flag (F.PORT_LOOP_FAR_ACTIVE p) then .looped x.loopLane
    else if !s.farLoop p then .idle
    else if l = s.fld (F.PORT_LOOP_LANE p) then .pattern (if s.flag (F.PORT_PAT_GEN p) then (s.genBits p).1 else [])
    else .symbols (trainingSyms (s.setBody p l))
  else if st = pUp then .symbols (s.upSyms p l)
  else if x.quiet then .idle
  else .symbols (trainingBlock l x.count (s.setBody p l))

/-- The lanes whose receivers a loop in force feeds from the port's own transmitter (R209): lane LANE of the Inlet for a serial loop,
all its forward lanes for a parallel one, the return lane of the Chain port. -/
def State.loopFeeds (s : State) (p : Nat) : List Nat :=
  match s.pState p, s.fld (F.PORT_LOOP_MODE p) with
  | 7, 1 => if p = 0 then [s.fld (F.PORT_LOOP_LANE p)] else [8]
  | 7, 2 => rxLanes p
  | _, _ => []

/-! ### The clock -/

/-- The number of the training set in progress at a place of a block, 1 to 63; 0 in the marker, 64 in the IDLE_SETs (R190). -/
def setAt (ui : Nat) : Nat := if ui < 40 then 0 else 1 + min 63 ((ui / 10 - 4) / 16)

/-- The place moves on inside a block: a training set that ends with SEEN = 1 counts, and the next one carries SEEN as it is now
(R195). -/
def State.txMove (s : State) (p ui : Nat) : State :=
  let x := s.port p
  if setAt x.ui = setAt ui then s.setPort p { x with ui := ui }
  else
    let sent := x.setSeen && decide (0 < setAt x.ui) && decide (setAt x.ui < 64)
    let s1 := s.setPort p { x with
      ui := ui, setSeen := s.flag (F.PORT_STATUS_SEEN_TX p), txSeen := if sent then min 16 (x.txSeen + 1) else x.txSeen }
    if sent then s1.handshake p else s1

/-- A block of 1,024 symbols ends: COUNT goes up (R189); a port in RATE_CHANGE goes to electrical idle (R194); the block of LOOP_ACK
sets starts, or has been sent and the Inlet enters TEST (R212). -/
def State.blockEnd (s : State) (p : Nat) : State :=
  let x := s.port p
  let s1 := s.setPort p { x with
    count := (x.count + 1) % 256, quiet := decide (s.pState p = pRateChange), loopAck := if x.loopAck = 1 then 2 else x.loopAck }
  if x.loopAck = 2 then s1.enterTest p (F.PORT_LOOP_FAR_ACTIVE p) else s1

/-- The checker of a loop that this port asked for, over `n` bits (R208, R209). The bits of a parallel loop do not leave the chip: it
locks and finds no error. What a serial or a far-end loop brings back is the world's: lock and errors are free values (log entry
81). -/
def State.checkBits (s : State) (p n : Nat) : State :=
  if s.fld (F.PORT_LOOP_MODE p) = 2 then s.setFlag (F.PORT_PAT_CHK_LOCK p) true
  else
    let l := if p = 0 then s.fld (F.PORT_LOOP_LANE p) else 8
    let (lock, s1) := s.draw 2
    let s2 := s1.setFlag (F.PORT_PAT_CHK_LOCK p) (s.flag (F.PORT_PAT_CHK_LOCK p) || lock = 1)
    let (e, s3) := s2.draw (n + 1)
    s3.countUp (F.PORT_LANE_BER_VAL p l) (if s.flag (F.PORT_PAT_CHK_LOCK p) then e else 0)

/-- TEST at a tick: the generator moves on, the checker of a loop in force checks (R208). -/
def State.testTick (s : State) (p : Nat) : State :=
  if !s.flag (F.PORT_LOOP_ACTIVE p) || !s.flag (F.PORT_PAT_GEN p) then s
  else
    let s1 := s.setPort p { s.port p with gen := (s.genBits p).2 }
    if s1.flag (F.PORT_PAT_CHK p) then s1.checkBits p (uiPerTick (s1.fld (F.PORT_STATUS_RATE p))) else s1

/-- The place in the block that begins; a port that has left its block transmits from the start (R189). -/
def State.txPlace (s : State) (p ui : Nat) : State :=
  if s.pState p = pTest then s else s.setPort p { s.port p with ui := ui, setSeen := false }

/-- One port's transmitter at a tick of the reference. -/
def State.portTick (s : State) (p : Nat) : State :=
  let st := s.pState p
  let x := s.port p
  if !s.acts .link || st = pOff || x.quiet then s
  else if st = pTest then s.testTick p
  else
    let n := uiPerTick (s.fld (F.PORT_STATUS_RATE p))
    let s1 := s.setPort p { x with burstReq := x.burstReq - n }
    if x.ui + n < 10240 then s1.txMove p (x.ui + n)
    else ((s1.txMove p 10239).blockEnd p).txPlace p (x.ui + n - 10240)

end Sys2Proof.Machine
end

