-- ==== Sys2Proof/Machine/Engines.lean ====
section
/-! DEFINITION. The decode engines' own rows: a segment starts, its tokens are decoded one by one, a stalled engine goes on, a
build completes (R269 to R286, R304). What an engine frees lets waiting video packets in (R281, R304). -/

namespace Sys2Proof.Machine

/-- SEGMENT_START: the front segment of engine `e` starts, unless it waits for an overlap (R275, R283). -/
def execSegmentStart (e : Fin 4) (s : State) : Out := .next (s.engineStart e).drain

/-- PIX: a pixel of residues (R269). -/
def execPix (e : Fin 4) (s : State) : Out := .next (s.engineToken e .pix).drain

/-- ZRUN: a run of predicted pixels (R269). -/
def execZrun (e : Fin 4) (s : State) : Out := .next (s.engineToken e .zrun).drain

/-- MATCH: a copy from the history (R269, R273). -/
def execMatch (e : Fin 4) (s : State) : Out := .next (s.engineToken e .match).drain

/-- LIT: literal pixels (R269). -/
def execLit (e : Fin 4) (s : State) : Out := .next (s.engineToken e .lit).drain

/-- PRED: another predictor (R269); the reserved prefix is an illegal code found here. -/
def execPred (e : Fin 4) (s : State) : Out := .next (s.engineToken e .pred).drain

/-- ENGINE_RESUME: what the engine stalled for has come; `long` says that the stall counts (R283, R286). -/
def execEngineResume (e : Fin 4) (long : Bool) (s : State) : Out := .next (s.engineResume e long).drain

/-- BUILD_COMPLETE: the build of a stream that waits for it completes (R284, R304). -/
def execBuildComplete (st : Fin 16) (s : State) : Out := .next (if s.on .pix then (s.completeBuilds st).drain else s)

end Sys2Proof.Machine
end

