-- ==== Sys2Proof/Machine/Frame.lean ====
section
/-! DEFINITION. The frame boundary in the order of R339, the end of a frame (R322 to R330), the governor's lines (R160), the proof
record (R498) with step 8 of a start (R85), and the module's clock (R633). -/

namespace Sys2Proof.Machine

/-! ### Before line 0 -/

/-- The state with a word of the snapshot bank written. -/
def State.setSnap (s : State) (a : Nat) (v : Word) : State := { s with snap := mapSet (fun _ => (0 : Word)) s.snap a v }

/-- The used and granted counts: their copies in the block stand for the frame that ended, while the count itself restarts (R149,
R158). -/
def usedRegs : List Nat := (List.range 5).map R.RNG_USED

/-- Step 2: each live counter into the snapshot bank, and again from 0 (R635, R636). `len` is the length of the frame that
ended, `vin` and `led` its energies in 0.1 mJ. -/
def State.snapshot (s : State) (len vin led : Nat) : State :=
  let put := fun (s : State) (a : Nat) =>
    let on := match blkOf a with
      | some b => s.on b.domain
      | none => true
    let v : Word := if on then s.reg a else 0
    let s1 := s.setSnap a v
    if on && !usedRegs.contains a then s1.setReg a 0 else s1
  let s1 := liveCounters.foldl put s.latchUsed
  let s2 := (s1.setReg R.SYS_SNAP_FRAME (s1.frame - 1)).setReg R.SYS_SNAP_SEQ (s1.reg R.SYS_SNAP_SEQ + 1)
  let s3 := s2.setReg R.SYS_SNAP_TLO (BitVec.ofNat 32 s2.time.toNat)
  let s4 := (s3.setFld F.SYS_SNAP_THI_TIME (s3.time.toNat / 2 ^ 32)).setFlag F.SYS_SNAP_THI_OSC_TIME s3.oscTime
  let s5 := s4.setReg R.SYS_SNAP_LINES (BitVec.ofNat 32 (min len 65535 + 65536 * s4.fld ⟨R.PWR_DOMAIN_STATUS, 0, 6⟩))
  s5.setReg R.SYS_SNAP_ENERGY (BitVec.ofNat 32 (min vin 65535 + 65536 * min led 65535))

/-- What the frame that has ended leaves: its length. -/
def State.lastLen (s : State) : Nat := if s.rs.first then 0 else s.fld F.SCN_LAST_FRAME_LINES

/-- The witnesses of the frame that ended are latched (R428, R453, R497). -/
def State.latchWitnesses (s : State) : State :=
  let f := s.frame - 1
  if s.rs.first then s
  else
    let drawn := s.drawn
    let s1 := s.gLatch f
    (if s1.on .light then s1.witnessLatch f drawn else s1).proofClose

/-! ### Commits at line 0 -/

/-- The commits of a class that are due are handed over, a load that is still to be checked being checked first; true where one
makes a hold frame (R336, R337, R340). -/
def State.handOverDue (s : State) (priv : Bool) : Bool × State :=
  let one := fun (a : Bool × State) (c : Commit) =>
    let s1 := a.2
    if c.loading then
      let s2 := s1.loadDone c false
      match s2.commits.find? fun d => d = { c with loading := false } with
      | some d =>
        let r := s2.handOverCommit d
        (a.1 || r.1, r.2)
      | none => (a.1, s2)
    else
      let r := s1.handOverCommit c
      (a.1 || r.1, r.2)
  (inOrder (s.commits.filter fun c => c.priv = priv && s.due c)).foldl one (false, s)

/-! ### Flips (R304, R306, R325, R343) -/

/-- May flips happen in the mode in force (R77, R103)? -/
def Mode.flips : Mode → Bool
  | .live | .selfRefresh | .lowRate => true
  | _ => false

/-- One flip record (R343). -/
def State.flipRecord (s : State) (st : Nat) (bypass : Bool) (host : Word) : State :=
  let seq := s.fld F.SCN_FLIP_HEAD_FLIP_SEQ
  let i := seq % 16
  let s1 := (s.setFld F.SCN_FLIP_HEAD_FLIP_SEQ (seq + 1)).setFld F.SCN_FLIP_HEAD_NEWEST i
  let s2 := (s1.setReg (R.SCN_FLIP_FRAME i) s1.frame).setReg (R.SCN_FLIP_TLO i) (BitVec.ofNat 32 s1.time.toNat)
  let v := s2.time.toNat / 2 ^ 32 % 65536 + 65536 * (st % 16) + (if bypass then 2 ^ 20 else 0) + (if s2.oscTime then 2 ^ 21 else 0)
  let s3 := (s2.setReg (R.SCN_FLIP_THI i) (BitVec.ofNat 32 v)).setReg (R.SCN_FLIP_HOST i) (if bypass then 0 else host)
  s3.countUp F.SCN_FLIP_CNT_FLIPS

/-- BUILD of a bypass stream becomes DISPLAYED (R306). -/
def Store.flipBypass (st : Store) : Store :=
  { st with displayed := st.build, shown := true, building := false, built := [], host := 0, shownGeo := st.geo, seq := st.seq + 1 }

/-- The overlay planes whose own storage is store `i` show it, from the first build of their own on (R305). -/
def State.releaseKept (s : State) (i : Nat) : State :=
  [1, 2].foldl (fun (s : State) j =>
    match s.keptOf j with
    | some k =>
      if s.storeOf j = i ∧ k.from' ≤ (s.store i).readySeq then { s with vid := { s.vid with kept := listSet s.vid.kept j none } } else s
    | none => s) s

/-- The flip of a stream, if it has a READY, or lines in bypass. -/
def State.flipStream (s : State) (st : Nat) : State :=
  let mine := s.activeStores.filter fun i => decide ((s.store i).geo.stream = some st)
  let byp := (s.plane 0).stream = some st && (s.plane 0).bypass && (s.store 0).building
  let ready := mine.filter fun i => (s.store i).ready.isSome
  if byp then
    ((s.setStore 0 (s.store 0).flipBypass).setStream st { s.stream st with everReady := true }).flipRecord st true 0
  else
    match ready with
    | [] => s
    | i :: _ =>
      let host := (s.store i).readyHost
      (ready.foldl (fun (s : State) i => (s.setStore i (s.store i).flip).releaseKept i) s).flipRecord st false host

/-- Step 5: the flips of every stream, except in a hold frame (R341). -/
def State.flips (s : State) : State :=
  let s1 := if s.rs.hold || !s.mode.flips then s else (List.range 16).foldl State.flipStream s
  { s1 with vid := { s1.vid with bypassLines := [] } }

/-! ### vmin, vmax, overdrive, demura (R322, R328, R363, R377, R386, R387) -/

/-- Lines of a frame at a refresh: the quotient 1 ÷ (f × T_line), rounded up. -/
def State.linesAt (s : State) (f : Rat) : Nat := if f * s.tLine = 0 then 0 else ceilRat (1 / (f * s.tLine))

/-- LR_HZ and LR_STEP as R328 and R344 treat them. -/
def State.lrHz (s : State) : Nat := clampNat (s.liveFld F.SCN_LOWRATE_LR_HZ) 30 120
def State.lrStepHz (s : State) : Nat := max 1 (s.liveFld F.SCN_LOWRATE_LR_STEP)

/-- The step of LOW_RATE for this frame, and V_LR (R328, R329). -/
def State.lowRateFrame (s : State) (restart : Bool) : State :=
  if s.mode ≠ .lowRate then { s with rs := { s.rs with lrStep := 0, vlr := 0 } }
  else
    let k := if restart then 0 else s.rs.lrStep + 1
    let top := if s.gov.cur.ceil = 0 then s.fNom else min s.fNom s.gov.cur.ceil
    let f := max (s.lrHz : Rat) (top - ((k * s.lrStepHz : Nat) : Rat))
    { s with rs := { s.rs with lrStep := k, vlr := s.linesAt f } }

/-- vmin and vmax (R322). -/
def State.fixLength (s : State) : State :=
  let vceil := if s.gov.cur.ceil = 0 then 0 else s.linesAt s.gov.cur.ceil
  let vmin := max s.vTotal (if s.rs.hold then 0 else vceil)
  let vmax := if !s.vrr || s.rs.hold then vmin
    else
      let m := max (s.liveFld F.SCN_VRR_V_TOTAL_MAX) vmin
      if s.mode = .lowRate then max m s.rs.vlr else m
  { s with rs := { s.rs with vmin := vmin, vmax := vmax, stretch := 0 } }

/-- Overdrive's bin and bypass, the first row of R387 that holds (DEDUCED, log entry 91), and what the line encoder does in the
frame (R287, R291, R386, R387). `good` says that the frame
that ended was scanned with every active line written. -/
def State.odvFrame (s : State) (good scan : Bool) : State :=
  let h := [good, s.vid.histGood.getD 0 false]
  let run := if h.getD 0 false then (if h.getD 1 false then 2 else 1) else 0
  let t := sext 16 s.cal.panel
  let bin := odvBin (odvThs s.liveFld) (s.liveFld F.ODV_TBIN3_HYST) (s.fld F.ODV_STATE_BIN) t
  let s1 := if bin = s.fld F.ODV_STATE_BIN then s else (s.setFld F.ODV_STATE_BIN bin).countUp F.ODV_BIN_CNT_VAL
  let byp := if !s.liveFlag F.ODV_CTRL_EN then 1 else if !s.gov.cur.od then 2 else if run < 2 then 3
    else if !s.pipe.odvLoaded then 4 else 0
  let s2 := ((s1.setFld F.ODV_STATE_BYPASS byp).setFlag F.ODV_STATE_RUN (byp = 0)).setFld F.ODV_STATE_HIST_RUN run
  let s3 := (s2.setFlag F.SLU_STATUS_HIST_ON (scan && s.gov.cur.od)).setFld F.SLU_STATUS_HIST_AREA (s.frame.toNat % 2)
  { s3 with vid := { s3.vid with histGood := h, histFetched := [], histWritten := 0, histHeld := [] } }

/-- A set in force that does not fit the active size (R377). -/
def State.dmrFrame (s : State) : State :=
  if s.dmrMisfit then (s.setFlag F.DMR_STATUS_SET_ERR true).setFld F.DMR_STATUS_SET_ERR_CODE 3 else s

/-- The frame phase of the dither (R363). -/
def State.ditherFrame (s : State) (scan : Bool) : State :=
  if !s.liveFlag F.DTH_CTRL_TDITHER_EN then s.setFld F.DTH_PHASE_VAL 0
  else if scan then s.wrapUp F.DTH_PHASE_VAL
  else s

/-- Weir, the band buffers and the history start the frame empty. -/
def State.pipeFrame (s : State) : State :=
  { s with
    pipe := { s.pipe with lines := [[], [], []], last := [[], [], []], bands := [], hist := [], targets := [], iconBad := [], iconErr := 0, dmrBad := [] }
    vid := { s.vid with weirFill := [0, 0, 0], weirUrgent := [false, false, false] } }

/-- What the firmware loads anew from flash after uncorrectable reads in the frame that ends: a demura band whose bytes it has there,
and icons (R310, R376). -/
def State.reload (s : State) : State :=
  if !s.pw.firmware then s
  else
    let band := fun (s : State) (b : Nat) =>
      match s.pipe.dmr with
      | none => s
      | some d =>
        let lo := d.dir.getD b 0
        let n := d.dir.getD (b + 1) 0 - lo
        match s.demuraImage (if d.base = demuraArea0 then 0 else 1) with
        | none => s
        | some img =>
          if (img.drop lo).take n = s.fstRead (d.base + lo) n then (s.encodeAfresh (d.base + lo) n).ask rankWindow (wordsOf (d.base + lo) n)
          else s
    let icon := fun (s : State) (p : Nat × Nat) =>
      match s.icon p.1 with
      | none => s
      | some (_, _, px) =>
        if s.pipe.iconBad.any fun cw => decide (p.2 < 64 * cw + 64 ∧ 64 * cw < p.2 + 4 * px.length) then
          (s.encodeAfresh p.2 (4 * px.length)).putIcon p.2 px
        else s
    s.fw.icons.foldl icon (s.pipe.dmrBad.foldl band s)

/-! ### Start, sleep and firmware at a frame start -/

/-- The first lit frame: FIRST_LIT_MS and step 7 (R85, R86, R110), and from when FAULT_N may be released (R64, R88). -/
def State.litFrame (s : State) : State :=
  if s.bl.ramp ≠ .target then s
  else
    let s1 := if s.pw.firstLit then s
      else
        let (ms, sa) := s.quot (s.since s.pw.startTime) 156250
        let sb := sa.setFld F.BOOT_STATUS_FIRST_LIT_MS (min ms 65535)
        let sc := if sb.bootStep = 6 then sb.stepTo 7 else sb
        { sc with pw := { sc.pw with firstLit := true }, cal := { sc.cal with litFrame := some sc.frame } }
    match s1.pw.trans with
    | .entering _ => s1
    | _ => if s1.pw.faultFrame.isNone then s1.setPw { s1.pw with faultFrame := some s1.frame } else s1

/-- After a refused sleep the backlight rises one scanned frame after the bias (R130). -/
def State.relight (s : State) (scan : Bool) : State :=
  match s.pw.trans with
  | .restarting e =>
    if !e.lit || s.flag F.BLD_CTRL_RUN then s
    else
      match s.pw.lightAt with
      | none => if scan then s.setPw { s.pw with lightAt := some (s.frame + 1) } else s
      | some f => if s.frame = f then s.blRun else s
  | _ => s

/-- The firmware's choice of demura set, at most once a second (R380). -/
def State.demuraAuto (s : State) : State :=
  if !s.fw.dmrAuto || !s.pw.firmware || decide (s.since s.fw.dmrCheck < msTicks 1000) || !s.liveFlag F.DMR_CTRL_EN ||
      s.fw.dmrOk != [true, true] || s.crcHolds || s.commits.any (fun c => decide (c.blk = .dmr)) then s
  else
    let s1 : State := { s with fw := { s.fw with dmrCheck := s.time } }
    let t := fun (a : Nat) => sext 16 (s.mle (fstBase + a + 20) 2)
    let t0 := t demuraArea0
    let t1 := t demuraArea1
    let x := sext 16 s.cal.panel
    let now := s.liveFld F.DMR_CTRL_SET
    let near := if (x - t1).natAbs < (x - t0).natAbs then 1 else 0
    if near ≠ now ∧ 64 < (2 * x - (t0 + t1)).natAbs then
      ((s1.regWrite R.DMR_CTRL (dmrCtrl (some near))).regWrite R.DMR_COMMIT 1).recompute
    else s1

/-- Frame numbers are reserved ahead in the log store: a record is written when SCN_FRAME comes within 4,096 of FRAME_RES, modulo
2^32 (R18, R321, R650). -/
def State.persistFrame (s : State) : State :=
  let near := match s.frameRes with
    | some f => decide ((f - s.frame).toInt ≤ 4096)
    | none => true
  if s.pw.firmware && near then s.writePersist 3 else s

/-- Frames without a FRAME_READY and without a change of the request bitmap (R80 row 10). -/
def State.countQuiet (s : State) (was : Word) : State :=
  let n := if s.reg R.CPS_TT_REQ = was then s.pw.quietFrames + 1 else 0
  s.setPw { s.pw with quietFrames := n }

/-! ### Line 0 -/

/-- Steps 1 and 2 of R339. -/
def State.boundary12 (s : State) (vin led : Nat) : State :=
  let len := s.lastLen
  let s1 := if s.rs.first then s else s.setReg R.SCN_FRAME (s.frame + 1)
  let s2 := s1.latchWitnesses.snapshot len vin led
  if s.pw.firstLit then s2.govDebt vin ((len : Rat) * s2.tLine) else s2

/-- Step 3: privileged commits, then the request bitmap (R489). -/
def State.boundary3 (s : State) : State :=
  let (hold, s1) := s.handOverDue true
  let s2 : State := { s1 with rs := { s1.rs with heldBefore := s.rs.hold, hold := hold } }
  let told := fun (c : RunCmd) => if hold ∧ c.opcode = 0x0402 ∧ c.phase = .waitCommit then { c with result := [1#8] } else c
  (s2.setCmds (s2.mail.cmds.map told)).present

/-- Steps 4 to 6: the mode, the flips, the ordinary commits and what goes with them. -/
def State.boundary456 (s : State) : State := (((s.modeChange).flips.handOverDue false).2).framesDue.commitsDone

/-- Step 7 and what the blocks do for the frame that begins. `len` and `dur` are the ended frame's lines and its seconds, on the
timing it ran on. -/
def State.boundary7 (s : State) (len : Nat) (dur : Rat) (good restart : Bool) (was : Word) : State :=
  let hold := s.rs.hold
  let s1 := ((s.govFrame dur).lowRateFrame restart).fixLength
  let scan := s1.mode.isDisplay && !hold && s1.flag F.BIAS_STATUS_UP_DONE
  let s2 := if s1.on .panel then s1.colFits else s1
  let s3 := ((s2.colLine0 scan).gStart scan).winLanes
  let s4 := (s3.carouselFrame len hold).litFrame
  let s5 := (s4.holdFrame.proofOpen hold).absentFrame
  let s6 := ((s5.ldaFrame.opticsFrame scan).reload).pipeFrame
  let s7 := ((s6.odvFrame good scan).dmrFrame).ditherFrame scan
  let s8 := (s7.calFrame.scrubFrame).relight scan
  let s9 : State := { s8 with eddy := { s8.eddy with frames := s8.eddy.frames + 1 } }
  let s10 := (s9.countQuiet was).crcRelease
  let s11 := s10.demuraAuto.persistFrame
  let s12 : State := { s11 with rs := { s11.rs with ttAtStart := s11.reqLive } }
  if s12.flag F.SCN_CTRL_FS_EVENT then s12.event 0 0 (leBytes 6 s12.time.toNat) else s12

/-- FRAME_START: line 0 tick 0 of the next frame, in the order of R339; with RUN = 0 the raster stops instead (R320, R671). `vin`
and `led` are the energies of the frame that ended, in 0.1 mJ. -/
def execFrameStart (vin led : Nat) (s : State) : Out :=
  if !(s.on .pix && s.rs.running && s.rs.ended) then .next s
  else if !s.flag F.SCN_CTRL_RUN then
    .next ({ s with rs := { s.rs with running := false, ended := false, line := 0, tick := 0, first := false } } : State).handNow
  else
    let len := s.lastLen
    let was := s.reg R.CPS_TT_REQ
    let scanned := s.scanning && !s.rs.first
    let good := scanned && s.flag F.SLU_STATUS_HIST_ON && decide (s.vid.histWritten = s.vActive)
    let code := s.fld F.SCN_LAST_FRAME_END
    let restart := decide (code = 1 ∨ code = 2)
    let s1 := s.boundary12 vin led
    let s2 : State := { s1 with rs := { s1.rs with
      line := 0, tick := 0, ended := false, first := false, acc := 0
      frames := if scanned then s1.rs.frames + 1 else s1.rs.frames } }
    .next ((s2.boundary3.boundary456).boundary7 len ((len : Rat) * s.tLine) good restart was)

/-! ### The end of a frame (R323, R324) -/

/-- Does a subscribed stream hold a READY (R323)? -/
def State.readyPending (s : State) : Bool := s.activeStores.any fun i => (s.store i).ready.isSome

/-- Has a subscribed stream a FRAME_READY whose build has not completed (R323)? -/
def State.buildWaiting (s : State) : Bool :=
  (List.range 16).any fun k => s.subscribed k && (s.stream k).frameReady.isSome

/-- Is the base plane's stream neither asleep nor in bypass (R323)? -/
def State.baseLive (s : State) : Bool := (s.plane 0).stream.isSome && !s.baseAsleep && !(s.plane 0).bypass

/-- The decision of R323 at line `l`: none, or the branch that ends the frame, coded as SCN_LAST_FRAME.END. -/
def State.endBranch (s : State) (l : Nat) : Option Nat :=
  if s.rs.vmax ≤ l + 1 then some 0
  else if s.readyPending then some 1
  else if s.mode = .lowRate && s.reqLive != s.rs.ttAtStart then some 2
  else if s.buildWaiting then none
  else if s.flag F.SCN_CTRL_FOLLOW && s.mode = .live && s.baseLive then none
  else if s.mode = .lowRate then (if s.rs.vlr ≤ l + 1 then some 3 else none)
  else some 4

/-- FRAME_END_DECISION: tick 192 of line `l`, from vmin - 1 on (R323, R324). -/
def execFrameEndDecision (l : Nat) (s : State) : Out :=
  if !(s.on .pix && s.rs.running) || s.rs.ended || decide (l + 1 < s.rs.vmin) || decide (l < s.rs.line) then .next s
  else
    let s1 := s.reachPos l 192
    match s1.endBranch l with
    | none => .next s1
    | some code =>
      let s2 := (s1.setReg R.SCN_LAST_FRAME (BitVec.ofNat 32 ((l + 1) % 65536 + 65536 * code))).countUp F.SCN_EXT_CNT_VAL
        (l + 1 - s1.rs.vmin)
      let s3 := if code = 0 && s2.buildWaiting && !s2.rs.hold then
          (s2.countUp F.SCN_FLIP_CNT_LATE_SEGMENT).setFlag F.SCN_STATUS_LATE_SEGMENT true
        else s2
      .next { s3 with rs := { s3.rs with ended := true } }

/-! ### The governor's lines (R160) -/

/-- GOVERNOR_EVALUATE: line E, where readings close and the next frame is evaluated (R160 to R172, R624). -/
def execGovernorEvaluate (i : GovIn) (s : State) : Out :=
  if !(s.on .pix && s.rs.running) || s.gov.result.isSome || decide (s.lineD ≤ s.rs.line) then .next s
  else
    let s1 := s.reachPos s.lineE 0
    let s2 : State := { s1 with cal := { s1.cal with die := padTo 0 5 i.die, panel := i.panel } }
    if !s2.pw.firstLit then .next s2
    else
      let s3 := s2.calCheck
      let (w, s4) := s3.ldaPartial
      let s5 := if s4.on .light then s4.boostPlan else s4
      .next (s5.evaluate i w.1 w.2)

/-- GOVERNOR_LATCH: the first line after the last active line; results are latched, LDA decides, a level change begins (R160,
R118, R471). -/
def execGovernorLatch (s : State) : Out :=
  if !(s.on .pix && s.rs.running) || (s.gov.result.isNone && decide (s.lineD ≤ s.rs.line)) then .next s
  else
    let s1 := s.reachPos s.lineD 0
    match s1.gov.result with
    | some r => .next ((s1.govLatch r).ldaDecide.levelStart)
    | none => .next s1.ldaDecide

/-! ### The proof record and step 8 (R498, R85) -/

/-- Step 8: the record of the first lit frame is issued (R80 row 6, R85, R89). LINK that a mode has powered before stays as it
is; one that an access has powered is set up now. -/
def State.step8 (s : State) : State :=
  let s1 := s.stepTo 8
  let s2 := if !s1.inletEnabled then s1
    else if s1.on .link && !s1.flag Domain.link.demandFld then s1.latch 6 none
    else ((s1.powerOn .link).setFlag Domain.link.demandFld false).portsOn.latch 6 none
  s2.event 12 2 (leBytes 4 (s2.reg R.BOOT_STATUS).toNat)

/-- PROOF_RECORD_BUILD: line 16 tick 0, where the record of the frame before is built (R498). -/
def execProofRecordBuild (s : State) : Out :=
  match s.saf.last with
  | none => .next s
  | some p =>
    if !(s.on .ctrl && s.rs.running) then .next s
    else
      let s1 := (s.reachPos 16 0).proofRecord p
      .next (if s1.bootStep = 7 && s.cal.litFrame = some p.frame then s1.step8 else s1)

/-! ### The clock -/

/-- Does the reset that a command asked for follow now: its completion is posted and, for MB0, its CTRL_RSP has left (R553)? -/
def State.resetNow (s : State) : Option Nat :=
  match s.pw.resetDue with
  | none => none
  | some (tag, bit) =>
    if (s.cmd tag).isSome then none
    else if tag < 16 && s.inl.tx.queue.any (fun o => decide (o.typ = tCtrlRsp) && o.own) then none
    else some bit

/-- The full reset that the firmware requests for a fatal error: the error is in the log; which cause and source such a reset shows is
open, so both are free values (R604, log entry 93). -/
def State.fatalReset (s : State) : State :=
  let s1 := (s.logWriteAll s.log.logQ.length).settle
  let (c, s2) := s1.draw 512
  let (w, s3) := s2.draw 16
  s3.fullReset (((List.range 9).filter fun i => c.testBit i).map fun i => ⟨R.RESET_CAUSE, i, 1⟩) w

/-- The raster moves on by 6.4 ns: PCLK kHz pixel clocks in H_TOTAL per line of 256 ticks; it waits at the end of the last
line, and of a line on which the frame's end is not decided yet (R15, R16, log entry 5). -/
def State.rasterTick (s : State) : State :=
  if !(s.on .pix && s.rs.running) || s.rs.ended && decide (s.rs.tick = 255) then s
  else
    let full := 10 ^ 7 * s.hTotal
    let acc := s.rs.acc + s.liveFld F.SCN_PCLK_PCLK * 16384
    if acc < full then { s with rs := { s.rs with acc := acc } }
    else if s.rs.tick < 255 then { s with rs := { s.rs with acc := acc - full, tick := s.rs.tick + 1 } }
    else if s.rs.vmax ≤ s.rs.line + 1 then s
    else { s with rs := { s.rs with acc := acc - full, tick := 0, line := s.rs.line + 1 } }

/-- The arbiter of the frame store goes on: between one and five of the bursts that fit in a tick are granted while requests wait; the spec
leaves how many (R37, R294 to R296, log entry 85). -/
def State.arbTick (s : State) : State :=
  if s.on .pix && s.vid.arb.waiting.any (0 < ·) then
    let (n, s1) := s.draw 5
    { s1 with vid := { s1.vid with arb := s1.vid.arb.grants (n + 1) } }
  else s

/-- A tick of the module's clock: module time, the ports' transmitters, the frame store's arbiter, the raster, a reset that is due, DMA
flow (R633, R178, R296, R553, R590, R604). -/
def State.clockTick (s : State) : State :=
  if !s.pw.supplied then s
  else
    let s1 : State := { s with time := s.time + 1 }
    match s1.resetNow with
    | some bit =>
      let s2 := s1.writePersist 2
      s2.fullReset [⟨R.RESET_CAUSE, bit, 1⟩] 4
    | none => if s1.pw.fatal then s1.fatalReset else ((s1.portTick 0).portTick 1).arbTick.rasterTick.pumpAll

end Sys2Proof.Machine
end

