-- ==== Sys2Proof/Machine/Dispatch.lean ====
section
/-! DEFINITION. One arm per command: a direct call of its meaning. -/

namespace Sys2Proof.Machine

/-- The effect of a command on everything but the queue. -/
def exec (i : Instr) (s : State) : Host.Outcome State Fault Refusal :=
  match i with
  | .vinPowerOn wakeAbove => Sys2Proof.Machine.execVinPowerOn wakeAbove s
  | .wakeRise => Sys2Proof.Machine.execWakeRise s
  | .wakeFall => Sys2Proof.Machine.execWakeFall s
  | .domainStopped d stuck => Sys2Proof.Machine.execDomainStopped d stuck s
  | .sleepRestartDone => Sys2Proof.Machine.execSleepRestartDone s
  | .sleepRevote => Sys2Proof.Machine.execSleepRevote s
  | .sleepStateReached => Sys2Proof.Machine.execSleepStateReached s
  | .vinBrownOut => Sys2Proof.Machine.execVinBrownOut s
  | .aonBrownOut => Sys2Proof.Machine.execAonBrownOut s
  | .watchdog => Sys2Proof.Machine.execWatchdog s
  | .lockstepReset => Sys2Proof.Machine.execLockstepReset s
  | .spiCsWake => Sys2Proof.Machine.execSpiCsWake s
  | .nowakeTimeout => Sys2Proof.Machine.execNowakeTimeout s
  | .domainWakeDone d => Sys2Proof.Machine.execDomainWakeDone d s
  | .idleOffTimeout d => Sys2Proof.Machine.execIdleOffTimeout d s
  | .thermStandbyRead temp => Sys2Proof.Machine.execThermStandbyRead temp s
  | .startUpStepComplete therm die => Sys2Proof.Machine.execStartUpStepComplete therm die s
  | .frameStart vin led => Sys2Proof.Machine.execFrameStart vin led s
  | .ttHoldExpiry => Sys2Proof.Machine.execTtHoldExpiry s
  | .lowRateEntry => Sys2Proof.Machine.execLowRateEntry s
  | .noHostTimeout => Sys2Proof.Machine.execNoHostTimeout s
  | .frameEndDecision l => Sys2Proof.Machine.execFrameEndDecision l s
  | .governorEvaluate info => Sys2Proof.Machine.execGovernorEvaluate info s
  | .governorLatch => Sys2Proof.Machine.execGovernorLatch s
  | .levelChangeDone => Sys2Proof.Machine.execLevelChangeDone s
  | .zoneValuesDelivered => Sys2Proof.Machine.execZoneValuesDelivered s
  | .fieldRowBuild => Sys2Proof.Machine.execFieldRowBuild s
  | .proofRecordBuild => Sys2Proof.Machine.execProofRecordBuild s
  | .backChannelSync => Sys2Proof.Machine.execBackChannelSync s
  | .columnReply lane bs => Sys2Proof.Machine.execColumnReply lane bs s
  | .laneRetrainMark => Sys2Proof.Machine.execLaneRetrainMark s
  | .rollCall locked => Sys2Proof.Machine.execRollCall locked s
  | .columnLineSend y phase ups => Sys2Proof.Machine.execColumnLineSend y phase ups s
  | .weirLineFetch plane y ups => Sys2Proof.Machine.execWeirLineFetch plane y ups s
  | .demuraBandFetch band ups => Sys2Proof.Machine.execDemuraBandFetch band ups s
  | .historyLineFetch y ups => Sys2Proof.Machine.execHistoryLineFetch y ups s
  | .historyLineWrite y c1 c3 c5 => Sys2Proof.Machine.execHistoryLineWrite y c1 c3 c5 s
  | .rowBoundary units => Sys2Proof.Machine.execRowBoundary units s
  | .headroomSample col mv percent => Sys2Proof.Machine.execHeadroomSample col mv percent s
  | .pdSample r g b => Sys2Proof.Machine.execPdSample r g b s
  | .elasticSlotGrant info => Sys2Proof.Machine.execElasticSlotGrant info s
  | .guardTickRelease => Sys2Proof.Machine.execGuardTickRelease s
  | .gateEnd => Sys2Proof.Machine.execGateEnd s
  | .gateWaitLine => Sys2Proof.Machine.execGateWaitLine s
  | .gateWaitTick => Sys2Proof.Machine.execGateWaitTick s
  | .gateOut => Sys2Proof.Machine.execGateOut s
  | .gateClk => Sys2Proof.Machine.execGateClk s
  | .gateLoop => Sys2Proof.Machine.execGateLoop s
  | .gateNext => Sys2Proof.Machine.execGateNext s
  | .gateSense => Sys2Proof.Machine.execGateSense s
  | .gatePhSet => Sys2Proof.Machine.execGatePhSet s
  | .scanEndCrossing ns => Sys2Proof.Machine.execScanEndCrossing ns s
  | .portEnableWrite p v => Sys2Proof.Machine.execPortCtrlWrite p v s
  | .lossOfSignal p l => Sys2Proof.Machine.execLossOfSignal p l s
  | .signalDetect p l => Sys2Proof.Machine.execSignalDetect p l s
  | .lossOfLock p l => Sys2Proof.Machine.execLossOfLock p l s
  | .cdrLock p l => Sys2Proof.Machine.execCdrLock p l s
  | .codeViolation p l => Sys2Proof.Machine.execCodeViolation p l s
  | .trainingSetReceived p l ctl bs => Sys2Proof.Machine.execTrainingSetReceived p l ctl bs s
  | .attemptTimeout p => Sys2Proof.Machine.execAttemptTimeout p s
  | .retryTimerExpiry p => Sys2Proof.Machine.execRetryTimerExpiry p s
  | .pllLocked p => Sys2Proof.Machine.execPllLocked p s
  | .losMaskEnd p => Sys2Proof.Machine.execLosMaskEnd p s
  | .equaliserDwellDone p l => Sys2Proof.Machine.execEqualiserDwellDone p l s
  | .eqAdaptInterval p l dir => Sys2Proof.Machine.execEqAdaptInterval p l dir s
  | .laneMarkerReceived p l m arrival => Sys2Proof.Machine.execLaneMarkerReceived p l m arrival s
  | .retrainTimeout p => Sys2Proof.Machine.execRetrainTimeout p s
  | .retrain p => Sys2Proof.Machine.execRetrainWrite p s
  | .idleSetReceived p l flags check => Sys2Proof.Machine.execIdleSetReceived p l flags check s
  | .idleBurstRequest p => Sys2Proof.Machine.execIdleBurstRequest p s
  | .burstEnd p => Sys2Proof.Machine.execBurstEnd p s
  | .loopModeWrite p v => Sys2Proof.Machine.execLoopWrite p v s
  | .patternCheckerWrite p v => Sys2Proof.Machine.execPatternWrite p v s
  | .refclkLoss => Sys2Proof.Machine.execRefclkLoss s
  | .refclkReturn => Sys2Proof.Machine.execRefclkReturn s
  | .videoSeg p k => Sys2Proof.Machine.execVideoSeg p k s
  | .frameReady p k => Sys2Proof.Machine.execFrameReady p k s
  | .streamCfg p k => Sys2Proof.Machine.execStreamCfg p k s
  | .ctrlReq p k => Sys2Proof.Machine.execCtrlReq p k s
  | .ctrlRsp p k => Sys2Proof.Machine.execCtrlRsp p k s
  | .enumAssign p k => Sys2Proof.Machine.execEnumAssign p k s
  | .enumReply p k => Sys2Proof.Machine.execEnumReply p k s
  | .enumEnd p k => Sys2Proof.Machine.execEnumEnd p k s
  | .event p k => Sys2Proof.Machine.execEvent p k s
  | .ack p k => Sys2Proof.Machine.execAck p k s
  | .nak p k => Sys2Proof.Machine.execNak p k s
  | .credit p k => Sys2Proof.Machine.execCredit p k s
  | .ackTimer p => Sys2Proof.Machine.execAckTimer p s
  | .replayTimer p => Sys2Proof.Machine.execReplayTimer p s
  | .creditPeriodic p => Sys2Proof.Machine.execCreditPeriodic p s
  | .packetTransmit p => Sys2Proof.Machine.execPacketTransmit p s
  | .enumBusyTimeout => Sys2Proof.Machine.execEnumBusyTimeout s
  | .segmentStart e => Sys2Proof.Machine.execSegmentStart e s
  | .tokenPix e => Sys2Proof.Machine.execPix e s
  | .tokenZrun e => Sys2Proof.Machine.execZrun e s
  | .tokenMatch e => Sys2Proof.Machine.execMatch e s
  | .tokenLit e => Sys2Proof.Machine.execLit e s
  | .tokenPred e => Sys2Proof.Machine.execPred e s
  | .engineResume e long => Sys2Proof.Machine.execEngineResume e long s
  | .buildComplete st => Sys2Proof.Machine.execBuildComplete st s
  | .sluEnableWrite v => Sys2Proof.Machine.execSluEnableWrite v s
  | .frameStoreWindowAccess m a n bs ups => Sys2Proof.Machine.execFrameStoreWindowAccess m a n bs ups s
  | .pondAccess m a n bs e waited => Sys2Proof.Machine.execPondAccess m a n bs e waited s
  | .aliasAccess m a n bs e0 e1 waited => Sys2Proof.Machine.execAliasAccess m a n bs e0 e1 waited s
  | .pondEccWriteback a => Sys2Proof.Machine.execPondEccWriteback a s
  | .unassignedAccess m a n bs => Sys2Proof.Machine.execUnassignedAccess m a n bs s
  | .flashWindowWrite m a bs => Sys2Proof.Machine.execFlashWindowWrite m a bs s
  | .registerWrite a v => Sys2Proof.Machine.execRegisterWrite a v s
  | .rasterStart => Sys2Proof.Machine.execRasterStart s
  | .rasterStop => Sys2Proof.Machine.execRasterStop s
  | .shadowCommit b => Sys2Proof.Machine.execShadowCommit b s
  | .privilegedCommit b => Sys2Proof.Machine.execPrivilegedCommit b s
  | .timingCommit => Sys2Proof.Machine.execTimingCommit s
  | .rngTableCommit => Sys2Proof.Machine.execRngTableCommit s
  | .lutLoadCommit b => Sys2Proof.Machine.execLutLoadCommit b s
  | .demuraSetCommit => Sys2Proof.Machine.execDemuraSetCommit s
  | .gateProgramCommit => Sys2Proof.Machine.execGateProgramCommit s
  | .commitLoadDone b bad => Sys2Proof.Machine.execCommitLoadDone b bad s
  | .biasPowerUp => Sys2Proof.Machine.execBiasPowerUp s
  | .biasPowerDown => Sys2Proof.Machine.execBiasPowerDown s
  | .biasStepDone m0 m1 m2 => Sys2Proof.Machine.execBiasStepDone m0 m1 m2 s
  | .railFault rail => Sys2Proof.Machine.execRailFault rail s
  | .vddPlOverload conn => Sys2Proof.Machine.execVddPlOverload conn s
  | .backlightRun => Sys2Proof.Machine.execBacklightRun s
  | .boostReady => Sys2Proof.Machine.execBoostReady s
  | .backlightStop => Sys2Proof.Machine.execBacklightStop s
  | .backlightRampDownDone => Sys2Proof.Machine.execBacklightRampDownDone s
  | .stageFault code => Sys2Proof.Machine.execStageFault code s
  | .stageClr fw => Sys2Proof.Machine.execStageClr fw s
  | .nbrStart => Sys2Proof.Machine.execNbrStartWrite s
  | .nbrTestDone pairs => Sys2Proof.Machine.execNbrTestDone pairs s
  | .xchainCount bits => Sys2Proof.Machine.execXchainCount bits s
  | .xchainTransfer ret => Sys2Proof.Machine.execXchainTransfer ret s
  | .ttRequest f => Sys2Proof.Machine.execTtRequest f s
  | .ttKey f => Sys2Proof.Machine.execTtKey f s
  | .mb2Cmd f => Sys2Proof.Machine.execMb2Cmd f s
  | .ttProof => Sys2Proof.Machine.execTtProof s
  | .mb2Rsp => Sys2Proof.Machine.execMb2Rsp s
  | .busOff => Sys2Proof.Machine.execBusOff s
  | .busOffRecovery => Sys2Proof.Machine.execBusOffRecovery s
  | .safHoldWrite v => Sys2Proof.Machine.execSafHoldWrite v s
  | .safAlive => Sys2Proof.Machine.execSafAliveWrite s
  | .safeSet => Sys2Proof.Machine.execSafeSet s
  | .safeClr => Sys2Proof.Machine.execSafeClr s
  | .safPartnerReqWrite v => Sys2Proof.Machine.execSafPartnerReqWrite v s
  | .pwrSpringWrite v => Sys2Proof.Machine.execPwrSpringWrite v s
  | .govBudgetWrite v => Sys2Proof.Machine.execGovBudgetWrite v s
  | .govManualWrite v => Sys2Proof.Machine.execGovManualWrite v s
  | .doorbell n t => Sys2Proof.Machine.execDoorbell n t s
  | .cplHeadWrite n v => Sys2Proof.Machine.execCplHeadWrite n v s
  | .mbxEnWrite v => Sys2Proof.Machine.execMbxEnWrite v s
  | .mb3IdleLock => Sys2Proof.Machine.execMb3IdleLock s
  | .svcLockoutEnd => Sys2Proof.Machine.execSvcLockoutEnd s
  | .spiWrite op a ws => Sys2Proof.Machine.execSpiWrite op a ws s
  | .spiRead a n => Sys2Proof.Machine.execSpiRead a n s
  | .commandTake => Sys2Proof.Machine.execCommandTake s
  | .commandStepBoundary tag => Sys2Proof.Machine.execCommandStepBoundary tag s
  | .commandTimeout tag => Sys2Proof.Machine.execCommandTimeout tag s
  | .sysInfo tag => Sys2Proof.Machine.execSysInfo tag s
  | .sysStatus tag => Sys2Proof.Machine.execSysStatus tag s
  | .sysTime tag => Sys2Proof.Machine.execSysTime tag s
  | .sysReset tag => Sys2Proof.Machine.execSysReset tag s
  | .modeSet tag => Sys2Proof.Machine.execModeSet tag s
  | .perfFloor tag => Sys2Proof.Machine.execPerfFloor tag s
  | .powerBudget tag => Sys2Proof.Machine.execPowerBudget tag s
  | .wakeCfg tag => Sys2Proof.Machine.execWakeCfg tag s
  | .svcEnter tag => Sys2Proof.Machine.execSvcEnter tag s
  | .svcExit tag => Sys2Proof.Machine.execSvcExit tag s
  | .powerStatus tag => Sys2Proof.Machine.execPowerStatus tag s
  | .linkStatus tag => Sys2Proof.Machine.execLinkStatus tag s
  | .linkRetrain tag => Sys2Proof.Machine.execLinkRetrain tag s
  | .linkRates tag => Sys2Proof.Machine.execLinkRates tag s
  | .linkEq tag => Sys2Proof.Machine.execLinkEq tag s
  | .linkLoop tag errors lock => Sys2Proof.Machine.execLinkLoop tag errors lock s
  | .planeSub tag => Sys2Proof.Machine.execPlaneSub tag s
  | .planeBlend tag => Sys2Proof.Machine.execPlaneBlend tag s
  | .timingSet tag => Sys2Proof.Machine.execTimingSet tag s
  | .lowrateCfg tag => Sys2Proof.Machine.execLowrateCfg tag s
  | .scanCfg tag => Sys2Proof.Machine.execScanCfg tag s
  | .streamStatus tag => Sys2Proof.Machine.execStreamStatus tag s
  | .biasSet tag => Sys2Proof.Machine.execBiasSet tag s
  | .gammaTaps tag => Sys2Proof.Machine.execGammaTaps tag s
  | .panelPower tag => Sys2Proof.Machine.execPanelPower tag s
  | .gateProgram tag => Sys2Proof.Machine.execGateProgram tag s
  | .columnCfg tag => Sys2Proof.Machine.execColumnCfg tag s
  | .columnStatus tag => Sys2Proof.Machine.execColumnStatus tag s
  | .columnRetrain tag => Sys2Proof.Machine.execColumnRetrain tag s
  | .dmrLoad tag => Sys2Proof.Machine.execDmrLoad tag s
  | .dmrSelect tag => Sys2Proof.Machine.execDmrSelect tag s
  | .odvLoad tag => Sys2Proof.Machine.execOdvLoad tag s
  | .odvCfg tag => Sys2Proof.Machine.execOdvCfg tag s
  | .lutLoad tag => Sys2Proof.Machine.execLutLoad tag s
  | .dthCfg tag => Sys2Proof.Machine.execDthCfg tag s
  | .blScan tag => Sys2Proof.Machine.execBlScan tag s
  | .blLimits tag => Sys2Proof.Machine.execBlLimits tag s
  | .blFloor tag => Sys2Proof.Machine.execBlFloor tag s
  | .zoneClear tag => Sys2Proof.Machine.execZoneClear tag s
  | .zoneStatus tag => Sys2Proof.Machine.execZoneStatus tag s
  | .nbrTest tag => Sys2Proof.Machine.execNbrTest tag s
  | .xchainSet tag => Sys2Proof.Machine.execXchainSet tag s
  | .ldCfg tag => Sys2Proof.Machine.execLdCfg tag s
  | .colourLoop tag => Sys2Proof.Machine.execColourLoop tag s
  | .ttHostReq tag => Sys2Proof.Machine.execTtHostReq tag s
  | .ttSafeState tag => Sys2Proof.Machine.execTtSafeState tag s
  | .ttConfig tag => Sys2Proof.Machine.execTtConfig tag s
  | .ttEnable tag => Sys2Proof.Machine.execTtEnable tag s
  | .ttStatus tag => Sys2Proof.Machine.execTtStatus tag s
  | .ttRecord tag => Sys2Proof.Machine.execTtRecord tag s
  | .ttAction tag => Sys2Proof.Machine.execTtAction tag s
  | .calFullRun tag => Sys2Proof.Machine.execCalFullRun tag s
  | .calAbort tag => Sys2Proof.Machine.execCalAbort tag s
  | .calStatus tag => Sys2Proof.Machine.execCalStatus tag s
  | .calQuality tag => Sys2Proof.Machine.execCalQuality tag s
  | .calSave tag => Sys2Proof.Machine.execCalSave tag s
  | .calRestore tag => Sys2Proof.Machine.execCalRestore tag s
  | .memRead tag e => Sys2Proof.Machine.execMemRead tag e s
  | .memWrite tag e => Sys2Proof.Machine.execMemWrite tag e s
  | .dmaRun tag ecc => Sys2Proof.Machine.execDmaRun tag ecc s
  | .capture tag => Sys2Proof.Machine.execCapture tag s
  | .ledgerRead tag => Sys2Proof.Machine.execLedgerRead tag s
  | .logRead tag => Sys2Proof.Machine.execLogRead tag s
  | .snapRead tag => Sys2Proof.Machine.execSnapRead tag s
  | .eventCfg tag => Sys2Proof.Machine.execEventCfg tag s
  | .updateBegin tag => Sys2Proof.Machine.execUpdateBegin tag s
  | .updateWrite tag => Sys2Proof.Machine.execUpdateWrite tag s
  | .updateVerify tag => Sys2Proof.Machine.execUpdateVerify tag s
  | .updateActivate tag => Sys2Proof.Machine.execUpdateActivate tag s
  | .updateAbort tag => Sys2Proof.Machine.execUpdateAbort tag s
  | .svcChallenge tag => Sys2Proof.Machine.execSvcChallenge tag s
  | .svcResponse tag => Sys2Proof.Machine.execSvcResponse tag s
  | .svcLock tag => Sys2Proof.Machine.execSvcLock tag s
  | .regRead tag => Sys2Proof.Machine.execRegRead tag s
  | .regWrite tag => Sys2Proof.Machine.execRegWrite tag s
  | .dmaGo n v => Sys2Proof.Machine.execDmaGo n v s
  | .engineTake => Sys2Proof.Machine.execEngineTake s
  | .descriptorComplete ecc => Sys2Proof.Machine.execDescriptorComplete ecc s
  | .countAdd n v => Sys2Proof.Machine.execCountAdd n v s
  | .queueAdd q v => Sys2Proof.Machine.execQueueAdd q v s
  | .queueSub q v => Sys2Proof.Machine.execQueueSub q v s
  | .lightChannelDisable n => Sys2Proof.Machine.execLightChannelDisable n s
  | .heavyChannelDisable n => Sys2Proof.Machine.execHeavyChannelDisable n s
  | .pause n => Sys2Proof.Machine.execPause n s
  | .resume n => Sys2Proof.Machine.execResume n s
  | .pauseDrainDone words ecc => Sys2Proof.Machine.execPauseDrainDone words ecc s
  | .clrHalt n => Sys2Proof.Machine.execClrHalt n s
  | .calStepDone e m => Sys2Proof.Machine.execCalStepDone e m s
  | .calBurst => Sys2Proof.Machine.execCalBurst s
  | .calStepTimeout => Sys2Proof.Machine.execCalStepTimeout s
  | .calElementWrite a v => Sys2Proof.Machine.execCalElementWrite a v s
  | .sysTimeLoRead m => Sys2Proof.Machine.execSysTimeLoRead m s
  | .snapAddrWrite v => Sys2Proof.Machine.execSnapAddrWrite v s
  | .eventPacketSend => Sys2Proof.Machine.execEventPacketSend s
  | .logPost w0 w1 w2 w3 => Sys2Proof.Machine.execLogPost w0 w1 w2 w3 s
  | .gammaStageDiscard => Sys2Proof.Machine.execGammaStageDiscard s

end Sys2Proof.Machine
end

