-- ==== Sys2Proof/Machine/Pins.lean ====
section
/-! DEFINITION. The pins of J1 to J7 and their states (R21, R44 to R64, R75): what each pin shows follows from the power of its domain and
from what its block drives. A row is one whole step, so a pin that is driven only inside a row (SPI_MISO under a low SPI_CS_N, THERM's read
in STANDBY) shows its state between rows (log entry 94). -/

namespace Sys2Proof.Machine

/-- The signal pins, by the names of the connector tables (R48, R49, R53, R56, R60, R62). A differential pair is one pin; the grounds and VIN
are none. -/
inductive Pin where
  | j1RefClk
  | j1Fwd (l : Fin 8)
  | j1Ret
  | j2RefClk
  | j2Fwd (l : Fin 8)
  | j2Ret
  | vddPl (seg : Fin 2)
  | vddPlSns (seg : Fin 2)
  | gndSns (seg : Fin 2)
  | lane (l : Fin 24)
  | bch (seg : Fin 2)
  | cref (seg : Fin 2)
  | ckv (i : Fin 12)
  | stv (i : Fin 2)
  | epv (i : Fin 2)
  | dirF
  | dirB
  | allOn
  | vgh
  | vgl
  | avdd
  | havdd
  | vcom
  | vcomFb
  | gma (i : Fin 14)
  | therm
  | scanEnd
  | snk (c : Fin 192)
  | row (r : Fin 24)
  | vledSns
  | lgndSns
  | pd (k : Fin 3)
  | pdCom
  | xclk
  | xdat
  | xlat
  | xret
  | wake
  | canH
  | canL
  | spiClk
  | spiCsN
  | spiMosi
  | spiMiso
  | intN
  | faultN
  | gpio (i : Fin 4)
deriving DecidableEq, Repr

/-- The states of a pin (R21). `driven` is a pin that carries a signal or an analogue level: a pair of a link, a clock, a rail, a sink that
conducts. -/
inductive PinState where
  | drivenHigh
  | drivenLow
  | driven
  | highImpedance
  | floating
  | held (high : Bool)
deriving DecidableEq, Repr

/-- The domain of a pin (R44, R56, R62). -/
def Pin.domain : Pin → Domain
  | .j1RefClk | .j1Fwd _ | .j1Ret | .j2RefClk | .j2Fwd _ | .j2Ret => .link
  | .vddPl _ | .vddPlSns _ | .gndSns _ | .lane _ | .bch _ | .cref _ => .panel
  | .ckv _ | .stv _ | .epv _ | .dirF | .dirB | .allOn | .vgh | .vgl | .avdd | .havdd | .vcom | .vcomFb | .gma _ | .scanEnd => .panel
  | .therm | .spiClk | .spiCsN | .spiMosi | .spiMiso | .intN | .gpio _ => .ctrl
  | .snk _ | .row _ | .vledSns | .lgndSns | .pd _ | .pdCom | .xclk | .xdat | .xlat | .xret => .light
  | .wake | .canH | .canL | .faultN => .aon

/-- A level. -/
def levelState (high : Bool) : PinState := if high then .drivenHigh else .drivenLow

/-- An output that is driven on a condition, and high impedance otherwise. -/
def drivenIf (on : Bool) (x : PinState := .driven) : PinState := if on then x else .highImpedance

/-! ### J1, J2 -/

/-- Is the reference forwarded on J2: LINK runs and a reference is present on J1 (R52, R127)? -/
def State.refForwarded (s : State) : Bool := s.acts .link && s.pw.refclk

/-! ### J3, J4 -/

/-- Do `bits` bit times of the back channel, with one before them and two after, still run from tick 0 of a line (R406)? One bit lasts
20 ns. -/
def State.bchRuns (s : State) (line bits : Nat) : Bool :=
  s.rs.running && decide (s.rs.line = line) && decide ((s.rs.tick : Rat) * (s.tLine / 256) < (bits + 3 : Nat) * (20 / 1000000000 : Rat))

/-- Is the module in a transmit slot of its own: SYNC at line FIRST, or the calibration burst of a frame (R54, R407, R620)? -/
def State.bchOwn (s : State) : Bool :=
  (s.col.synced && s.bchRuns (s.liveFld F.COL_BCH_FIRST) 40) ||
    (match s.cal.run with
      | some r => r.burstAt = some s.frame && s.bchRuns (s.liveFld F.COL_BCH_LAST + 2) 64
      | none => false)

/-! ### J5 -/

/-- Does the power-down sequence run, before its last step (R435)? -/
def State.biasFalls (s : State) : Bool :=
  s.biasBusy && !s.flag F.BIAS_STATUS_DIR && decide (s.fld F.BIAS_STATUS_SEQ_STEP < 8)

/-- A bias rail: driven after its sequence step, held discharged until the last step of a power-down (R56, R57, R435). -/
def State.railPin (s : State) (up : Bool) : PinState := if up then .driven else drivenIf s.biasFalls .drivenLow

/-- A gate-level output with its level: driven once VGH is up, then low with VGL in a power-down (R56, R434, R435). -/
def State.gatePin (s : State) (high : Bool) : PinState :=
  if s.bias.vgh then levelState high else drivenIf (s.biasFalls && s.bias.vgl) .drivenLow

/-- Output `i` of the gate program (R417). -/
def State.gateLevel (s : State) (i : Nat) : Bool := bitOf (s.reg R.GSQ_OUT) i

/-! ### J6 -/

/-- Place in the open window, in PWM units (R443, R447). -/
def State.windowPlace (s : State) : Option Nat :=
  match s.bl.clock with
  | none => none
  | some c =>
    let open' := c.a + (c.k - 1) * c.vtot / max 1 c.rows
    let ticks := 256 * (s.rs.line + c.off - open') + s.rs.tick - 48
    some (4096 * ticks / max 1 s.unitTicks)

/-- Does a pulse hold at a place; one that reaches the window's end goes on from its start (R449)? -/
def pulseAt (x : Nat) (p : Nat × Nat) : Bool := decide (x < 4096 ∧ (x + 4096 - p.1) % 4096 < p.2)

/-- Does a sink conduct: it lies in its zone's on-time (R60)? -/
def State.sinking (s : State) (c : Nat) : Bool :=
  match s.bl.win, s.windowPlace with
  | some w, some x => w.zones.any fun z => z.sink = c && z.pulses.any (pulseAt x)
  | _, _ => false

/-- Is a row switch on (R60, R443)? -/
def State.rowOn (s : State) (r : Nat) : Bool :=
  match s.bl.win with
  | some w => decide (w.switch = r)
  | none => false

/-! ### J7 -/

/-- SPI_MISO: driven while SPI_CS_N is low; in STANDBY and otherwise high impedance (R62, R75). -/
def State.misoPin (s : State) (csLow : Bool) : PinState := drivenIf (csLow && decide (s.mode ≠ .standby))

/-- CAN_H and CAN_L: the bus stage is passive in DORMANT and only receives in STANDBY (R62, R73). -/
def State.canPin (s : State) : PinState := drivenIf (decide (s.mode ≠ .dormant ∧ s.mode ≠ .standby))

/-! ### Every pin -/

/-- What a pin of a powered domain shows. -/
def State.poweredPin (s : State) : Pin → PinState
  | .j1RefClk | .j1Fwd _ | .j2Ret => .highImpedance
  | .j1Ret | .j2Fwd _ => .driven
  | .j2RefClk => drivenIf s.refForwarded
  | .vddPl seg => drivenIf (if seg = 0 then s.bias.vddPl else s.bias.vddPlB) .drivenHigh
  | .lane _ | .cref _ => drivenIf (s.flag F.COL_CTRL_RUN)
  | .bch _ => drivenIf s.bchOwn
  | .vddPlSns _ | .gndSns _ | .vcomFb | .scanEnd => .highImpedance
  | .ckv i => s.gatePin (s.gateLevel i)
  | .stv i => s.gatePin (s.gateLevel (12 + i))
  | .epv i => s.gatePin (s.gateLevel (14 + i))
  | .allOn => s.gatePin (s.gateLevel 16)
  | .dirF => s.gatePin (s.flag F.GSQ_OUT_DIR_F)
  | .dirB => s.gatePin (!s.flag F.GSQ_OUT_DIR_F)
  | .vgh => s.railPin s.bias.vgh
  | .vgl => s.railPin s.bias.vgl
  | .avdd | .havdd => s.railPin s.bias.avdd
  | .vcom | .gma _ => s.railPin s.bias.vcom
  | .therm => if s.mode = .standby then .highImpedance else .held true
  | .snk c => drivenIf (s.sinking c)
  | .row r => drivenIf (s.rowOn r) .drivenHigh
  | .vledSns | .lgndSns | .pd _ | .xret => .highImpedance
  | .pdCom => .driven
  | .xclk | .xdat | .xlat => .drivenLow
  | .wake => .held false
  | .canH | .canL => s.canPin
  | .spiClk | .spiMosi => .highImpedance
  | .spiCsN => .held true
  | .spiMiso => s.misoPin false
  | .intN => drivenIf (s.intLow && decide (s.mode ≠ .standby)) .drivenLow
  | .faultN => drivenIf s.faultLow .drivenLow
  | .gpio _ => .held false

/-- Is the supply of a domain on: CTRL keeps it in STANDBY with its clock stopped, and while the resume restarts that clock (R45, R90)? -/
def State.supplied (s : State) (d : Domain) : Bool :=
  s.on d || decide (d = .ctrl ∧ (s.mode = .standby ∨ (s.mode = .boot ∧ s.pw.resume = true)))

/-- The state of a pin: floating where its domain is off (R45, R46). -/
def State.pinState (s : State) (p : Pin) : PinState := if s.supplied p.domain then s.poweredPin p else .floating

end Sys2Proof.Machine
end

