-- ==== Sys2Proof/Safety.lean ====
section
/-! DEFINITION. What claims say of a run: the data of a state is canonical, a step touches nothing of a kind. -/

namespace Sys2Proof.Machine

/-- The four maps of a state in canonical form: rising keys, and no entry equal to what an unlisted key reads as. -/
abbrev canonMaps (mem : List Host.Cell) (regs inForce snap : List (Nat × Word)) : Prop :=
  Memory.wf mem = true ∧ mapWf regReset regs = true ∧ mapWf regReset inForce = true ∧ mapWf (fun _ => (0 : Word)) snap = true

/-- Canonical data: memory, the registers, the values in force and the snapshot bank are each in canonical form, so that equal
contents are equal data. -/
abbrev State.canon (s : State) : Prop := canonMaps s.mem s.regs s.inForce s.snap

/-- Two states whose memory reads the same at every address. -/
def State.sameMem (s t : State) : Prop := ∀ a, t.byte a = s.byte a

/-- Every register but those of a list reads as before. -/
def State.sameRegs (s t : State) (but : List Nat) : Prop := ∀ a, a ∉ but → t.reg a = s.reg a

/-- Every bit of every register outside the fields of a list is as before. -/
def State.keepsBits (s t : State) (fs : List Fld) : Prop :=
  ∀ b i, (∀ f ∈ fs, ¬ (f.reg = b ∧ f.lo ≤ i ∧ i < f.lo + f.width)) → (t.reg b).getLsbD i = (s.reg b).getLsbD i

/-- The blocks whose registers beside COMMIT have no effect of their own when they are written. -/
def Blk.plain (b : Blk) : Bool := [Blk.slu, .fst, .rng, .cps, .dth, .odv, .dmr, .gsq, .lda].contains b

/-- Is `a` the COMMIT register of block `b`? -/
def Blk.commitAt (b : Blk) (a : Nat) : Bool := (commitBits b false).any fun c => decide (c.commit.reg = a)

/-- A register write through the address map that reaches its block: CTRL runs, the address is a register's, its domain is
powered and has not stopped for a sleep. -/
abbrev State.reaches (s : State) (a : BitVec 32) (b : Blk) : Prop :=
  s.on .ctrl = true ∧ a.toNat % 4 = 0 ∧ regionOf a.toNat = .regs ∧ blkOf a.toNat = some b ∧ s.acts b.domain = true

/-- The registers of the event ring and of the log writer (R638, R640, R646). -/
def recordRegs : List Nat :=
  [R.SYS_EVT_RING, R.SYS_EVT_CNT, R.SYS_EVT_LAST 0, R.SYS_EVT_LAST 1, R.SYS_EVT_LAST 2, R.SYS_EVT_LAST 3, R.SYS_LOG_NEXT, R.SYS_LOG_CNT]

/-- Is an address in the event ring or in the log store (R638, R644)? -/
def recordByte (a : Nat) : Bool := decide (evtBase ≤ a ∧ a < evtBase + 4096) || decide (logBase ≤ a ∧ a < flashBase)

/-- Nothing but events and log records lies between two states: their bytes, their registers, the queue of the writer. -/
def State.recorded (s t : State) : Prop :=
  (∀ a, recordByte a = false → t.byte a = s.byte a) ∧ s.sameRegs t recordRegs ∧ t = { s with mem := t.mem, regs := t.regs, log := t.log }

/-- The command with a tag has its end decided: status and result stand with it while its ledger entry is in line (R527, R538, R539). -/
def State.ended (t : State) (tag status : Nat) (result : List Byte) : Prop :=
  ∃ c, t.cmd tag = some c ∧ c.phase = .entry ∧ c.status = some status ∧ c.result = result

/-- A command takes effect: it answers a next state, and that state is as `p` says. -/
def Leaves (o : Out) (p : State → Prop) : Prop := ∃ t, o = .next t ∧ p t

end Sys2Proof.Machine
end

