-- ==== Sys2Proof/Certificates/Slice0/Obligations.lean ====
section
/-! DEFINITION. The statements for the provers. -/

open Sys2Proof Sys2Proof.Machine

/-! ### The queue, the step and the form of the data -/

/-- A step takes the command at the front of the queue: it is `exec` of that command on the state with the rest. -/
def Obligations.StepRunsFront : Prop :=
  ∀ (c : Instr) (cs : List Instr) (s : State), s.pending = c :: cs → step s = exec c (s.withPending cs)

/-- On an empty queue a step is one period of module time (the model's choice, log entry 5). -/
def Obligations.EmptyQueueTicks : Prop :=
  ∀ s : State, s.pending = [] → step s = .next s.clockTick

/-- Every command, in every state, answers a next state: the block neither stops nor turns a command away. A step that takes a
command leaves exactly the commands behind it: no command's effect touches the queue. -/
def Obligations.EveryCommandCompletes : Prop :=
  (∀ (c : Instr) (s : State), ∃ t, exec c s = .next t) ∧
  (∀ (c : Instr) (cs : List Instr) (s t : State), s.canon → s.pending = c :: cs → step s = .next t → t.pending = cs)

/-- Right after reset the module is without supply, in mode BOOT, its data is canonical, no byte of memory is listed, every
register reads its reset value and no command waits. -/
def Obligations.ResetState : Prop :=
  State.reset.canon ∧ State.reset.pending = [] ∧ State.reset.mem = [] ∧ State.reset.pw.supplied = false ∧
  State.reset.mode = .boot ∧ (∀ a, State.reset.reg a = regReset a) ∧ (∀ a, State.reset.live a = regReset a)

/-- The canonical form of memory, registers, values in force and snapshot bank is kept by every step, of a command or of the
clock. -/
def Obligations.StepKeepsCanonical : Prop :=
  ∀ s t : State, s.canon → step s = .next t → t.canon

/-- Canonical data is determined by what it reads as: two canonical states whose memory and registers read the same hold the
same lists. Bytes written from an address read back in order, and every byte outside them is as before. -/
def Obligations.DataReadsBack : Prop :=
  (∀ s t : State, s.canon → t.canon → (∀ a, s.byte a = t.byte a) → (∀ a, s.reg a = t.reg a) → s.mem = t.mem ∧ s.regs = t.regs) ∧
  (∀ (s : State) (a : Nat) (bs : List Byte), (s.setBytes a bs).bytes a bs.length = bs ∧
    ∀ b, (b < a ∨ a + bs.length ≤ b) → (s.setBytes a bs).byte b = s.byte b)


/-! ### Registers (R12 to R14, R25, R113, R115, R334) -/

/-- REGISTER_WRITE of a register without an effect of its own whose shadow set, if it has one, is not locked: its RW bits take
the value written, a W1C bit written 1 clears, every other bit stays, and nothing else changes. -/
def Obligations.RegisterWriteStores : Prop :=
  ∀ (a : BitVec 32) (v : Word) (s : State) (b : Blk) (r : RegRow), s.reaches a b → b.plain = true → b.commitAt a.toNat = false →
    regRow? a.toNat = some r → (r.shadowed = true → s.locked b a.toNat = false) →
    Leaves (exec (.registerWrite a v) s) fun t =>
      (∀ i, (t.reg a.toNat).getLsbD i = if r.rw.testBit i then v.getLsbD i
        else if r.w1c.testBit i && v.getLsbD i then false else (s.reg a.toNat).getLsbD i) ∧
      s.sameRegs t [a.toNat] ∧ t = { s with regs := t.regs }

/-- A write to a shadow register while its set is locked is ignored and sets SHADOW_LOCKED_WR. A write to an unassigned offset
inside the window of a block has no effect. -/
def Obligations.WritesIgnored : Prop :=
  (∀ (a : BitVec 32) (v : Word) (s : State) (b : Blk) (r : RegRow) (c : CommitBits), s.reaches a b → b.plain = true →
    b.commitAt a.toNat = false → regRow? a.toNat = some r → r.shadowed = true → commitBits b (privileged a.toNat) = some c →
    s.flag c.locked = true →
    Leaves (exec (.registerWrite a v) s) fun t =>
      t.flag c.lockedWr = true ∧ s.keepsBits t [c.lockedWr] ∧ t = { s with regs := t.regs }) ∧
  (∀ (a : BitVec 32) (v : Word) (s : State) (b : Blk), s.reaches a b → b.plain = true → b.commitAt a.toNat = false →
    regRow? a.toNat = none → exec (.registerWrite a v) s = .next s)

/-- A register write to a domain that is off or has stopped for a sleep: where the wake is not refused the domain wakes by demand
and the write waits for it; where it is refused the write has no effect and ACCESS_REFUSED is set. -/
def Obligations.OffDomainWrite : Prop :=
  ∀ (a : BitVec 32) (v : Word) (s : State) (b : Blk), s.on .ctrl = true → a.toNat % 4 = 0 → regionOf a.toNat = .regs →
    blkOf a.toNat = some b → s.acts b.domain = false →
    (s.wakeRefused b.domain = false → b.domain ∉ s.pw.waking → exec (.registerWrite a v) s = .next { s with pw := { s.pw with
      waking := s.pw.waking ++ [b.domain], stalled := s.pw.stalled ++ [.put a.toNat v] } }) ∧
    (s.wakeRefused b.domain = false → b.domain ∈ s.pw.waking → exec (.registerWrite a v) s = .next { s with pw := { s.pw with
      stalled := s.pw.stalled ++ [.put a.toNat v] } }) ∧
    (s.wakeRefused b.domain = true → Leaves (exec (.registerWrite a v) s) fun t =>
      t.flag F.PWR_DOMAIN_STATUS_ACCESS_REFUSED = true ∧ s.keepsBits t [F.PWR_DOMAIN_STATUS_ACCESS_REFUSED] ∧
      t = { s with regs := t.regs })


/-! ### Memory (R31, R601 to R609, R613, R315) -/

/-- A direct pond access of a listed master, aligned and without an error in its word: a read answers the bytes, a write that
the mailbox rings and Eddy's slice do not touch stores them, and no other byte of memory and no register changes. A single-bit
error of a pond word is corrected on a read and counted, and POND_ECC_WRITEBACK with ECC_WB set rewrites the word, so that its
next read meets no error. -/
def Obligations.PondAccess : Prop :=
  (∀ (m : Master) (a : BitVec 32) (n : Nat) (s : State), s.on .ctrl = true → inPond a.toNat = true → m ≠ .seq →
    (aligned a.toNat n = true → s.pondWeak.contains (a.toNat / 8 * 8) = false →
      exec (.pondAccess m a n none 0 false) s = .next { s with answer := ⟨s.bytes a.toNat n, false⟩ }) ∧
    (∀ bs : List Byte, aligned a.toNat bs.length = true → s.pondWeak.contains (a.toNat / 8 * 8) = false →
      ringSlot a.toNat = none → s.borrowed a.toNat = false → Leaves (exec (.pondAccess m a n (some bs) 0 false) s) fun t =>
        t.bytes a.toNat bs.length = bs ∧ (∀ b, (b < a.toNat ∨ a.toNat + bs.length ≤ b) → t.byte b = s.byte b) ∧
        t.regs = s.regs ∧ t.answer = ⟨[], false⟩)) ∧
  (∀ (m : Master) (a : BitVec 32) (n : Nat) (s : State), s.on .ctrl = true → inPond a.toNat = true → m ≠ .seq →
    aligned a.toNat n = true → s.pondWeak.contains (a.toNat / 8 * 8) = false → s.flag F.SYS_POND_CTRL_ECC_WB = true →
    (Leaves (exec (.pondAccess m a n none 1 false) s) fun t =>
      t.answer = ⟨s.bytes a.toNat n, false⟩ ∧ t.mem = s.mem ∧ t.pondWeak.contains (a.toNat / 8 * 8) = true ∧
      t.fld F.SYS_POND_ECC_CORR = min (s.fld F.SYS_POND_ECC_CORR + 1) (2 ^ F.SYS_POND_ECC_CORR.width - 1)) ∧
    (Leaves (exec (.pondEccWriteback a) s) fun t =>
      t.pondWeak.contains (a.toNat / 8 * 8) = false ∧ t = { s with pondWeak := t.pondWeak }))

/-- A direct pond access takes 1, 2, 4 or 8 bytes at a multiple of its size; any other read or write completes with a bus error and
changes nothing. -/
def Obligations.PondAlignment : Prop :=
  ∀ (m : Master) (a : BitVec 32) (s : State), s.on .ctrl = true → inPond a.toNat = true → (m = .seq → regionOf a.toNat = .pondC) →
    (∀ n : Nat, (n = 1 ∨ n = 2 ∨ n = 4 ∨ n = 8) ∧ a.toNat % n = 0 → s.pondWeak = [] → m ≠ .seq →
      exec (.pondAccess m a n none 0 false) s = .next { s with answer := ⟨s.bytes a.toNat n, false⟩ }) ∧
    (∀ n : Nat, ¬ ((n = 1 ∨ n = 2 ∨ n = 4 ∨ n = 8) ∧ a.toNat % n = 0) →
      exec (.pondAccess m a n none 0 false) s = .next { s with answer := ⟨[], true⟩ }) ∧
    (∀ bs : List Byte, ¬ ((bs.length = 1 ∨ bs.length = 2 ∨ bs.length = 4 ∨ bs.length = 8) ∧ a.toNat % bs.length = 0) →
      exec (.pondAccess m a 0 (some bs) 0 false) s = .next { s with answer := ⟨[], true⟩ })

/-- The alias: a read of 2, 4 or 8 bytes at any address within a pond answers the bytes there; one that crosses a 64-bit word
is counted by SYS_POND_SPLIT. An access whose last byte lies beyond the pond completes with a bus error and writes nothing. An
access to an address that the map does not list completes with a bus error and changes nothing. A write to the flash read
window changes no byte and is counted, and completes with an error. -/
def Obligations.AliasAndBusErrors : Prop :=
  (∀ (m : Master) (a : BitVec 32) (n : Nat) (s : State), s.on .ctrl = true → regionOf a.toNat = .unaligned →
    (aliasOk m a.toNat n = true → s.pondWeak = [] → (a.toNat - aliasBase) % 8 + n ≤ 8 →
      exec (.aliasAccess m a n none 0 0 false) s = .next { s with answer := ⟨s.bytes (a.toNat - aliasBase) n, false⟩ }) ∧
    (aliasOk m a.toNat n = true → s.pondWeak = [] → 8 < (a.toNat - aliasBase) % 8 + n →
      exec (.aliasAccess m a n none 0 0 false) s =
        .next { s.countUp F.SYS_POND_SPLIT_VAL 1 with answer := ⟨s.bytes (a.toNat - aliasBase) n, false⟩ }) ∧
    (∀ bs : List Byte, aliasOk m a.toNat bs.length = false →
      exec (.aliasAccess m a n (some bs) 0 0 false) s = .next { s with answer := ⟨[], true⟩ })) ∧
  ((∀ (m : Master) (a : BitVec 32) (n : Nat) (bs : Option (List Byte)) (s : State), s.on .ctrl = true →
    regionOf a.toNat = .unassigned → exec (.unassignedAccess m a n bs) s = .next { s with answer := ⟨[], true⟩ }) ∧
  (∀ (m : Master) (a : BitVec 32) (bs : List Byte) (s : State), s.on .ctrl = true → m ≠ .seq →
    regionOf a.toNat = .flash → exec (.flashWindowWrite m a bs) s =
      .next { s with flashWrites := s.flashWrites + 1, answer := ⟨[], true⟩ }))

/-- The frame store window with PIX on and an aligned access. A read of a codeword without an error answers the bytes; one of up to
four wrong symbols is corrected and counted; an uncorrectable one completes with an error and is counted. A write of codewords
without errors into an area that is not protected stores its bytes and no other; a write into a protected area changes no byte,
sets FST_EVENT.WPROT and completes with an error. -/
def Obligations.FrameStoreWindow : Prop :=
  ∀ (m : Master) (a : BitVec 32) (n : Nat) (s : State), s.on .ctrl = true → s.acts .pix = true → m ≠ .seq →
    regionOf a.toNat = .frameStore →
    (aligned a.toNat n = true → s.errsOf ((a.toNat - fstBase) / 64) = [] → exec (.frameStoreWindowAccess m a n none []) s =
      .next { s.ask rankWindow 1 with answer := ⟨s.bytes a.toNat n, false⟩ }) ∧
    (aligned a.toNat n = true → 1 ≤ (s.errsOf ((a.toNat - fstBase) / 64)).length → (s.errsOf ((a.toNat - fstBase) / 64)).length ≤ 4 →
      Leaves (exec (.frameStoreWindowAccess m a n none []) s) fun t => t.answer = ⟨s.bytes a.toNat n, false⟩ ∧ t.mem = s.mem ∧
        t.fld F.FST_ECC_CNT_CORR = min (s.fld F.FST_ECC_CNT_CORR + 1) (2 ^ F.FST_ECC_CNT_CORR.width - 1)) ∧
    (aligned a.toNat n = true → rsRead false (s.errsOf ((a.toNat - fstBase) / 64)) = .bad →
      Leaves (exec (.frameStoreWindowAccess m a n none []) s) fun t => t.answer = ⟨[], true⟩ ∧
        t.fld F.FST_ECC_CNT_UNCORR = min (s.fld F.FST_ECC_CNT_UNCORR + 1) (2 ^ F.FST_ECC_CNT_UNCORR.width - 1)) ∧
    (∀ bs : List Byte, aligned a.toNat bs.length = true → (∀ i, s.areaBit (a.toNat - fstBase) = some i → bitOf (s.reg R.FST_WPROT) i = false) →
      (∀ x ∈ s.vid.flips, ¬ (a.toNat - fstBase < 64 * x.1 + 64 ∧ 64 * x.1 < a.toNat - fstBase + bs.length)) →
      Leaves (exec (.frameStoreWindowAccess m a n (some bs) []) s) fun t =>
        t.bytes a.toNat bs.length = bs ∧ (∀ b, (b < a.toNat ∨ a.toNat + bs.length ≤ b) → t.byte b = s.byte b) ∧
        t.regs = s.regs ∧ t.answer = ⟨[], false⟩) ∧
    (∀ (bs : List Byte) (i : Nat), aligned a.toNat bs.length = true → s.areaBit (a.toNat - fstBase) = some i →
      bitOf (s.reg R.FST_WPROT) i = true → Leaves (exec (.frameStoreWindowAccess m a n (some bs) []) s) fun t =>
        t.mem = s.mem ∧ t.flag F.FST_EVENT_WPROT = true ∧ s.keepsBits t [F.FST_EVENT_WPROT] ∧ t.answer = ⟨[], true⟩)

/-- The code of the frame store: every codeword, its first symbol the highest coefficient (the model's order, log entry 12),
has the roots 1 to the seventh power of 0x02; up to four wrong symbols are corrected by a read in CORRECT mode and one to
eight found by one in DETECT mode; each line of a channel carries two symbols. The arbiter. An URGENT request that waits is
granted next. While none waits, no more than 7 grants pass to ranks 1 to 3 over a waiting WRITE request and no more than 31 to
ranks 1 to 4 over a waiting WINDOW request, and the grant after that is its own. -/
def Obligations.FrameStoreCode : Prop :=
  ((∀ (data : List Nat) (i : Nat), data.length = 64 → (∀ d ∈ data, d < 256) → i < 8 →
    (rsEncode data).length = 72 ∧ gfEval (rsEncode data).reverse (gfAlpha i) = 0) ∧
  (∀ e : SymErrs, 1 ≤ e.length → e.length ≤ 4 → rsRead false e = .good e.length []) ∧
  (∀ e : SymErrs, 1 ≤ e.length → e.length ≤ 8 → rsRead true e = .bad) ∧
  (∀ x, x < 72 → ∃ p, (p < 32 ∧ x ∈ dataLineSymbols p) ∨ (p < 4 ∧ x ∈ checkLineSymbols p))) ∧
  (∀ a : Arbiter,
    (a.waits rankUrgent = true → a.next = some rankUrgent) ∧
    (a.waits rankUrgent = false → a.overWrite ≤ 7 → a.overWindow ≤ 31 →
      (∀ n, (a.grants n).overWrite ≤ 7 ∧ (a.grants n).overWindow ≤ 31) ∧
      (a.waits rankWindow = true → a.overWindow = 31 → a.next = some rankWindow) ∧
      (a.waits rankWrite = true → a.overWrite = 7 → a.overWindow < 31 → a.next = some rankWrite)))


/-! ### Power and sleep -/

/-- VIN_POWER_ON of an unsupplied module: with WAKE above the rising threshold the start-up begins in BOOT with step 1 shown,
else the module stays in DORMANT. PWR_SPRING.LEVEL shows WAKE, no byte of memory changes. A supplied module with no transition
in progress takes a rising WAKE crossing. From DORMANT it makes a full start whose reset cause and wake record say so; from
STANDBY it resumes; awake, with no vote to repeat and no timeout armed, the crossing changes nothing but PWR_SPRING.LEVEL. -/
def Obligations.PowerOnAndWake : Prop :=
  (∀ (above : Bool) (s : State), s.pw.supplied = false → Leaves (exec (.vinPowerOn above) s) fun t =>
    t.pw.supplied = true ∧ t.mode = (if above then .boot else .dormant) ∧ t.pw.trans = (if above then .startUp else s.pw.trans) ∧
    t.flag F.PWR_SPRING_LEVEL = above ∧ (above = true → t.fld F.BOOT_STATUS_STEP = 1) ∧ t.mem = s.mem) ∧
  (∀ s : State, s.pw.supplied = true → s.pw.trans = .none →
    (s.mode = .dormant → Leaves (exec .wakeRise s) fun t =>
      t.mode = .boot ∧ t.pw.trans = .startUp ∧ t.pw.resume = false ∧ t.flag F.RESET_CAUSE_DORMANT_WAKE = true ∧
      t.flag F.WAKE_RECORD_FROM_DORMANT = true ∧ t.fld F.WAKE_RECORD_SOURCE = 1) ∧
    (s.mode = .standby → Leaves (exec .wakeRise s) fun t =>
      t.mode = .boot ∧ t.pw.trans = .startUp ∧ t.pw.resume = true ∧ t.flag F.WAKE_RECORD_FROM_STANDBY = true ∧
      t.pw.modeSeq = s.pw.modeSeq + 1 ∧ t.mem = s.mem) ∧
    (s.mode ≠ .dormant → s.mode ≠ .standby → s.pw.noWakeArmed = false → s.pw.revote = none → s.pw.noFlash = false →
      s.pw.flashBusy = false → exec .wakeRise s = .next (s.setFlag F.PWR_SPRING_LEVEL true)))

/-- A falling WAKE crossing of a supplied module whose WAKE was above the threshold requests sleep to FALL_TARGET: awake and
with no transition in progress the request is accepted, and where LIGHT is on it votes first, its backlight going down; in a
transition the request waits as the one pending request. Wakes and timers of the sleep states: SPI_CS_N wakes STANDBY where
PWR_WAKE_EN.SPI_CS is set, and the start-up resumes; the timeout of PWR_NOWAKE_TIMEOUT requests sleep; an on-demand domain
goes off after PWR_IDLE_OFF, PANEL after its power-down sequence; the panel temperature is read in STANDBY; a demanded domain
that is ready is on, and the writes that waited for it take place. -/
def Obligations.SleepRequests : Prop :=
  (∀ s : State, s.pw.supplied = true → s.flag F.PWR_SPRING_LEVEL = true →
    (s.pw.trans = .none → s.mode ≠ .dormant → s.mode ≠ .standby →
      exec .wakeFall s = .next ((s.setFlag F.PWR_SPRING_LEVEL false).acceptSleep s.fallTarget .wakeFall)) ∧
    (s.pw.trans = .none → s.mode ≠ .dormant → s.mode ≠ .standby → s.on .light = true → Leaves (exec .wakeFall s) fun t =>
      t.pw = { s.pw with
        trans := .entering ⟨s.fallTarget, .wakeFall, 0, [], s.rs.running, s.flag F.BIAS_STATUS_UP_DONE || s.biasRising,
          s.flag F.BLD_CTRL_RUN, none, none⟩
        faultHeld := true, faultFrame := none, revote := none, noWakeArmed := false } ∧
      t.flag F.PWR_SPRING_LEVEL = false ∧ t.flag F.BLD_CTRL_RUN = false ∧
      s.keepsBits t [F.PWR_SPRING_LEVEL, F.BLD_CTRL_RUN, F.BLD_STATUS_RAMPING] ∧ t = { s with regs := t.regs, pw := t.pw, bl := t.bl }) ∧
    (s.pw.trans ≠ .none → s.pw.pendReq = none → Leaves (exec .wakeFall s) fun t =>
      t.pw = { s.pw with pendReq := some (.sleep s.fallTarget .wakeFall) } ∧ t.flag F.PWR_SPRING_LEVEL = false ∧
      s.keepsBits t [F.PWR_SPRING_LEVEL] ∧ t = { s with regs := t.regs, pw := t.pw })) ∧
  ((∀ s : State, s.mode = .standby → s.flag F.PWR_WAKE_EN_SPI_CS = true → s.pw.trans = .none → Leaves (exec .spiCsWake s) fun t =>
    t.mode = .boot ∧ t.pw.trans = .startUp ∧ t.pw.resume = true ∧ t.pw.faultHeld = true ∧ t.flag F.WAKE_RECORD_FROM_STANDBY = true ∧
    t.fld F.WAKE_RECORD_SOURCE = 7 ∧ t.fld F.BOOT_STATUS_STEP = 1 ∧ t.pw.modeSeq = s.pw.modeSeq + 1 ∧ t.mem = s.mem) ∧
  (∀ s : State, s.pw.noWakeArmed = true → s.flag F.PWR_SPRING_LEVEL = false → s.fld F.PWR_NOWAKE_TIMEOUT_VAL ≠ 0 →
    exec .nowakeTimeout s = .next ((s.setPw { s.pw with noWakeArmed := false }).requestSleep s.fallTarget .timeout) ∧
    (s.pw.trans = .none → s.mode ≠ .dormant → s.mode ≠ .standby → s.on .light = true → Leaves (exec .nowakeTimeout s) fun t =>
      t.pw = { s.pw with
        trans := .entering ⟨s.fallTarget, .timeout, 0, [], s.rs.running, s.flag F.BIAS_STATUS_UP_DONE || s.biasRising,
          s.flag F.BLD_CTRL_RUN, none, none⟩
        faultHeld := true, faultFrame := none, revote := none, noWakeArmed := false } ∧
      s.keepsBits t [F.BLD_CTRL_RUN, F.BLD_STATUS_RAMPING] ∧ t = { s with regs := t.regs, pw := t.pw, bl := t.bl }) ∧
    (s.pw.trans ≠ .none → s.pw.pendReq = none → exec .nowakeTimeout s =
      .next { s with pw := { s.pw with noWakeArmed := false, pendReq := some (.sleep s.fallTarget .timeout) } })) ∧
  (∀ (d : Domain) (s : State), s.flag d.demandFld = true → s.on d = true → s.fld F.PWR_IDLE_OFF_VAL ≠ 0 →
    exec (.idleOffTimeout d) s = .next (s.powerOff d) ∧
    (d = .pix → s.cal.run = none → Leaves (exec (.idleOffTimeout d) s) fun t => t.on .pix = false ∧ t.flag Domain.pix.demandFld = false ∧
      (∀ a, fstBase ≤ a → a < fstBase + fstSize → t.byte a = 0) ∧ (∀ a, (a < fstBase ∨ fstBase + fstSize ≤ a) → t.byte a = s.byte a) ∧
      t.pw = s.pw) ∧
    (d = .panel → s.bias.vddPl = true → s.biasBusy = false → Leaves (exec (.idleOffTimeout d) s) fun t => t.on .panel = true ∧
      t.bias.panelOff = true ∧ t.flag F.BIAS_CTRL_UP = false ∧ t.flag F.BIAS_STATUS_UP_DONE = false ∧ t.mem = s.mem)) ∧
  (∀ (temp : BitVec 16) (s : State), s.mode = .standby → Leaves (exec (.thermStandbyRead temp) s) fun t =>
    t.cal.panel = temp.toNat ∧ t = { s with cal := t.cal }) ∧
  (∀ s : State, .pix ∈ s.pw.waking → s.on .pix = false →
    (s.pw.stalled = [] → Leaves (exec (.domainWakeDone .pix) s) fun t =>
      t.on .pix = true ∧ t.flag Domain.pix.demandFld = (!s.required s.mode .pix) ∧ .pix ∉ t.pw.waking ∧
      s.keepsBits t [Domain.pix.onFld, Domain.pix.demandFld] ∧ t = { s with regs := t.regs, pw := t.pw }) ∧
    (∀ (a : Nat) (v : Word) (b : Blk), s.pw.stalled = [.put a v] → blkOf a = some b → b.domain = .pix →
      Leaves (exec (.domainWakeDone .pix) s) fun t => ∃ u : State, u.on .pix = true ∧ u.pw.stalled = [] ∧ .pix ∉ u.pw.waking ∧
        s.keepsBits u [Domain.pix.onFld, Domain.pix.demandFld] ∧ u = { s with regs := u.regs, pw := u.pw } ∧ t = u.regWrite a v)))

/-- Brown-outs, the watchdog and the expiry of the hold of Tightrope make a full reset with their cause and source; a
brown-out of VIN does so in every state but DORMANT. LOCKSTEP_RESET of a running core: the mode does not change, LOCKSTEP is
set in the reset cause, the firmware stops and the absence count starts at 0; no byte of memory changes. -/
def Obligations.Resets : Prop :=
  (∀ s : State,
    (s.pw.supplied = true → s.mode ≠ .dormant → exec .vinBrownOut s = .next (s.fullReset [F.RESET_CAUSE_VIN_BOR] 2)) ∧
    (s.pw.supplied = true → exec .aonBrownOut s = .next (s.fullReset [F.RESET_CAUSE_AON_BOR] 2)) ∧
    (s.on .ctrl = true → exec .watchdog s = .next (s.fullReset [F.RESET_CAUSE_WATCHDOG] 3)) ∧
    (s.saf.absent = true → 64 ≤ s.fld F.SAF_ABSENT_COUNT →
      exec .ttHoldExpiry s = .next (s.fullReset [F.RESET_CAUSE_TT_HOLD_EXPIRY, F.RESET_CAUSE_WATCHDOG] 3))) ∧
  (∀ s : State, s.on .ctrl = true → s.pw.firmware = true → Leaves (exec .lockstepReset s) fun t =>
    t.mode = s.mode ∧ t.flag F.RESET_CAUSE_LOCKSTEP = true ∧ t.pw.firmware = false ∧ t.saf.absent = true ∧
    t.fld F.SAF_ABSENT_COUNT = 0 ∧ t.flag F.SAF_ABSENT_ABSENT = true ∧ t.fld F.WAKE_RECORD_SOURCE = 5 ∧ t.mem = s.mem)

/-- What a full reset leaves: each cause set and the source in the wake record; BOOT in start-up where WAKE is above the
threshold, DORMANT where it is below; PWR_SPRING.THRESH, the count of refused votes, module time, the log store and the flash as
before, the ponds and the frame store without contents, and no command in flight. So it is after a brown-out, the watchdog's and the
hold's expiry. -/
def Obligations.FullResetLeaves : Prop :=
  (∀ (s : State) (f : Fld) (source : Nat), s.canon → f ∈ [F.RESET_CAUSE_VIN_BOR, F.RESET_CAUSE_AON_BOR, F.RESET_CAUSE_WATCHDOG] → source < 16 →
    (s.fullReset [f] source).flag f = true ∧ (s.fullReset [f] source).fld F.WAKE_RECORD_SOURCE = source ∧
    (s.fullReset [f] source).mode = (if s.flag F.PWR_SPRING_LEVEL then .boot else .dormant) ∧
    (s.fullReset [f] source).fld F.PWR_SPRING_THRESH = s.fld F.PWR_SPRING_THRESH ∧
    (s.fullReset [f] source).fld F.PWR_SLEEP_RESULT_REFUSE_COUNT = s.fld F.PWR_SLEEP_RESULT_REFUSE_COUNT ∧
    (s.fullReset [f] source).time = s.time ∧
    (∀ a, logBase ≤ a → (s.fullReset [f] source).byte a = s.byte a) ∧ (∀ a, a < logBase → (s.fullReset [f] source).byte a = 0) ∧
    (s.fullReset [f] source).mail.cmds = []) ∧
  (∀ (s : State) (c : Instr) (f : Fld) (source : Nat), s.canon → s.pw.supplied = true → s.mode ≠ .dormant → s.on .ctrl = true →
    (c, f, source) ∈ [(Instr.vinBrownOut, F.RESET_CAUSE_VIN_BOR, 2), (.aonBrownOut, F.RESET_CAUSE_AON_BOR, 2),
      (.watchdog, F.RESET_CAUSE_WATCHDOG, 3)] → Leaves (exec c s) fun t =>
      t.flag f = true ∧ t.fld F.WAKE_RECORD_SOURCE = source ∧ t.mode = (if s.flag F.PWR_SPRING_LEVEL then .boot else .dormant) ∧
      (s.flag F.PWR_SPRING_LEVEL = true → t.pw.trans = .startUp ∧ t.fld F.BOOT_STATUS_STEP = 1) ∧ t.time = s.time ∧
      (∀ a, logBase ≤ a → t.byte a = s.byte a) ∧ (∀ a, a < logBase → t.byte a = 0) ∧ t.mail.cmds = []) ∧
  (∀ s : State, s.canon → s.saf.absent = true → 64 ≤ s.fld F.SAF_ABSENT_COUNT → Leaves (exec .ttHoldExpiry s) fun t =>
    t.flag F.RESET_CAUSE_TT_HOLD_EXPIRY = true ∧ t.flag F.RESET_CAUSE_WATCHDOG = true ∧ t.fld F.WAKE_RECORD_SOURCE = 3 ∧
    t.mode = (if s.flag F.PWR_SPRING_LEVEL then .boot else .dormant) ∧ t.mail.cmds = [])

/-- A sleep vote. A domain that does not stop in time refuses with reason 0xF: the result register says BUSY, the domain's code and the
target, the refusal is counted and the restart begins. A domain that stops passes the vote on: LIGHT with its boost off, PANEL with
its sequence over, PIX with its raster stopped, where LINK refuses during enumeration; LINK, where CTRL votes by what is in
progress; and CTRL, which refuses by its vote or ends the firmware and records the sleep. With every domain stopped the sleep state is entered and a pending request
served. After a refused vote the restart ends, and the request of a WAKE crossing is voted again. -/
def Obligations.SleepVote : Prop :=
  (∀ (d : Domain) (s : State) (e : SleepEntry), s.pw.trans = .entering e → voteOrder[e.voted]? = some d →
    exec (.domainStopped d true) s = .next (s.refuseSleep e d 0xF)) ∧
  (∀ (s : State) (e : SleepEntry), s.pw.trans = .entering e → e.stopped = [] →
    (e.voted = 0 → Leaves (exec (.domainStopped .light true) s) fun t =>
      t.fld F.PWR_SLEEP_RESULT_STATUS = stBusy ∧ t.fld F.PWR_SLEEP_RESULT_REFUSER = 1 ∧ t.fld F.PWR_SLEEP_RESULT_REASON = 15 ∧
      t.fld F.PWR_SLEEP_RESULT_TARGET = e.target.code ∧ t.pw.trans = .restarting e ∧
      t.fld F.PWR_SLEEP_RESULT_REFUSE_COUNT = min (s.fld F.PWR_SLEEP_RESULT_REFUSE_COUNT + 1) 255) ∧
    (e.voted = 2 → s.on .link = true → s.enumBusy = true → Leaves (exec (.domainStopped .pix false) s) fun t =>
      t.fld F.PWR_SLEEP_RESULT_STATUS = stBusy ∧ t.fld F.PWR_SLEEP_RESULT_REFUSER = 4 ∧ t.fld F.PWR_SLEEP_RESULT_REASON = 1 ∧
      t.rs = { s.rs with running := e.rasterRan, ended := if e.rasterRan then true else s.rs.ended })) ∧
  (∀ (s : State) (e : SleepEntry), s.pw.trans = .entering e →
    (e.voted = 0 → s.on .panel = true → Leaves (exec (.domainStopped .light false) s) fun t =>
      t.pw = { s.pw with trans := .entering { e with voted := 1, stopped := .light :: e.stopped } } ∧ t.bl.ramp = .off ∧ t.bl.win = none ∧
      t.fld F.BLD_VB_V_B = 0 ∧ t.mem = s.mem) ∧
    (e.voted = 1 → s.biasBusy = false → s.on .pix = true → exec (.domainStopped .panel false) s =
      .next (s.setPw { s.pw with trans := .entering { e with voted := 2, stopped := .panel :: e.stopped } })) ∧
    (e.voted = 2 → s.on .link = true → s.enumBusy = false → e.source = .wakeFall ∨ e.source = .timeout →
      exec (.domainStopped .pix false) s = .next { s with
        rs := { s.rs with running := false }
        pw := { s.pw with trans := .entering { e with voted := 3, stopped := .pix :: e.stopped } } }) ∧
    (e.voted = 3 → s.on .ctrl = true → e.ctrl = none → s.ctrlReason ≠ 0 → exec (.domainStopped .link false) s =
      .next (s.setPw { s.pw with
        trans := .entering { e with voted := 4, stopped := .link :: e.stopped, ctrl := some s.ctrlReason } })) ∧
    (e.voted = 3 → s.on .ctrl = true → e.ctrl = none → s.ctrlReason = 0 → exec (.domainStopped .link false) s =
      .next (s.setPw { s.pw with
        trans := .entering { e with voted := 4, stopped := .link :: e.stopped, ctrl := some 0 }
        noFlash := true
        flashBusy := false }).dmaSleep) ∧
    (e.voted = 4 → ∀ r, e.ctrl = some (r + 1) → exec (.domainStopped .ctrl false) s = .next (s.refuseSleep e .ctrl (r + 1))) ∧
    (e.voted = 3 → s.on .ctrl = true → ∀ r, e.ctrl = some (r + 1) → exec (.domainStopped .link false) s =
      .next (s.setPw { s.pw with trans := .entering { e with voted := 4, stopped := .link :: e.stopped } })) ∧
    (e.voted = 3 → s.on .ctrl = true → e.ctrl = some 0 → exec (.domainStopped .link false) s =
      .next (s.setPw { s.pw with trans := .entering { e with voted := 4, stopped := .link :: e.stopped } }).dmaSleep) ∧
    (e.voted = 4 → e.ctrl = some 0 → s.dmaEnds = false → Leaves (exec (.domainStopped .ctrl false) s) fun t =>
      t.pw.trans = .entering { e with voted := 5, stopped := .ctrl :: e.stopped } ∧ t.pw.firmware = false ∧
      t.pw.codeDigest.isSome = decide (e.target = .standby) ∧ t.fld F.PWR_SLEEP_RESULT_STATUS = stOk ∧
      t.fld F.PWR_SLEEP_RESULT_REFUSER = 0 ∧ t.fld F.PWR_SLEEP_RESULT_REASON = 0 ∧ t.fld F.PWR_SLEEP_RESULT_TARGET = e.target.code)) ∧
  (∀ (s : State) (e : SleepEntry), s.pw.trans = .entering e → 5 ≤ e.voted →
    (s.on .light = false → s.on .panel = false → s.on .link = false → s.cal.run = none → s.pw.pendReq = none → s.mail.unlocked = false →
      Leaves (exec .sleepStateReached s) fun t => t.mode = e.target.mode ∧ t.pw.trans = .none ∧ t.pw.trigs = [] ∧ t.pw.waking = [] ∧
        t.pw.modeSeq = s.pw.modeSeq + 1 ∧ t.on .pix = false ∧ t.on .ctrl = false ∧
        (∀ a, fstBase ≤ a → a < fstBase + fstSize → t.byte a = 0) ∧
        (∀ a, a < pondCHi → t.byte a = if e.target = .dormant then 0 else s.byte a) ∧ (∀ a, logBase ≤ a → t.byte a = s.byte a)) ∧
    Leaves (exec .sleepStateReached s) fun t => ∃ u : State, u.pw.trans = .none ∧ u.pw.trigs = [] ∧ u.pw.rom = false ∧
      u.pw.waking = [] ∧ u.pw.stalled = [] ∧
      t = (u.enterMode e.target.mode (if s.mode = .boot then 5 else 18)).servePending e.wakeAt.isSome
        (e.wakeAt.getD (s.time, s.oscTime))) ∧
  (∀ (s : State) (e : SleepEntry), s.pw.trans = .restarting e → (e.panelUp = true → s.flag F.BIAS_STATUS_UP_DONE = true) →
    (e.lit = true → s.bl.ramp = .target ∨ s.bl.latch.isSome = true) → s.pw.pendReq = none →
    (e.source = .wakeFall ∨ e.source = .timeout → exec .sleepRestartDone s =
      .next (s.setPw { s.pw with trans := .none, lightAt := none, revote := some (e.target, e.source) })) ∧
    (∀ tag, e.source = .modeSet tag → s.cmd tag = none → exec .sleepRestartDone s =
      .next (s.setPw { s.pw with trans := .none, lightAt := none }))) ∧
  (∀ (s : State) (tg : SleepTarget) (src : SleepSource), s.pw.revote = some (tg, src) → s.pw.trans = .none →
    (s.flag F.PWR_SPRING_LEVEL = false → exec .sleepRevote s = .next (s.acceptSleep tg src)) ∧
    (s.flag F.PWR_SPRING_LEVEL = false → s.on .light = true → src = .wakeFall ∨ src = .timeout → Leaves (exec .sleepRevote s) fun t =>
      t.pw = { s.pw with
        trans := .entering ⟨tg, src, 0, [], s.rs.running, s.flag F.BIAS_STATUS_UP_DONE || s.biasRising, s.flag F.BLD_CTRL_RUN, none, none⟩
        faultHeld := true, faultFrame := none, revote := none, noWakeArmed := false } ∧
      s.keepsBits t [F.BLD_CTRL_RUN, F.BLD_STATUS_RAMPING] ∧ t = { s with regs := t.regs, pw := t.pw, bl := t.bl }) ∧
    (s.flag F.PWR_SPRING_LEVEL = true → exec .sleepRevote s =
      .next (s.setPw { s.pw with revote := none, noFlash := false, flashBusy := false })))

/-- PWR_SPRING: a THRESH up to 0x46 is stored; one above it has no effect and sets BAD_WR; no other register bit changes. A
budget of 50 to 1,200 is stored as P_BUDGET; a value outside has no effect and sets BAD_WR. -/
def Obligations.PowerLimits : Prop :=
  (∀ (v : Word) (s : State), s.on .ctrl = true → s.on .aon = true → bitOf v F.PWR_SPRING_BAD_WR.lo = false →
    (v.toNat % 128 ≤ 0x46 → Leaves (exec (.pwrSpringWrite v) s) fun t =>
      t.fld F.PWR_SPRING_THRESH = v.toNat % 128 ∧ s.keepsBits t [F.PWR_SPRING_THRESH] ∧ t = { s with regs := t.regs }) ∧
    (0x46 < v.toNat % 128 → Leaves (exec (.pwrSpringWrite v) s) fun t =>
      t.fld F.PWR_SPRING_THRESH = s.fld F.PWR_SPRING_THRESH ∧ t.flag F.PWR_SPRING_BAD_WR = true ∧
      s.keepsBits t [F.PWR_SPRING_BAD_WR] ∧ t = { s with regs := t.regs })) ∧
  (∀ (v : Word) (s : State),
    (50 ≤ v.toNat % 65536 ∧ v.toNat % 65536 ≤ 1200 → Leaves (exec (.govBudgetWrite v) s) fun t =>
      t.fld F.GOV_BUDGET_P_BUDGET = v.toNat % 65536 ∧ s.keepsBits t [F.GOV_BUDGET_P_BUDGET] ∧ t = { s with regs := t.regs }) ∧
    (¬ (50 ≤ v.toNat % 65536 ∧ v.toNat % 65536 ≤ 1200) → Leaves (exec (.govBudgetWrite v) s) fun t =>
      t.flag F.GOV_STATUS_BAD_WR = true ∧ s.keepsBits t [F.GOV_STATUS_BAD_WR] ∧ t = { s with regs := t.regs }))


/-! ### Link ports -/

/-- The PLL at the chosen rate moves a port from RATE_CHANGE to TRAIN at that rate; its transmitter starts with COUNT 0, and
nothing else changes. The timers of a training port: 50 ms without UP fail the attempt with TRAIN_TIMEOUT and set the retry
timer at twice its delay, at most 1,600 ms, for the time after; the retry timer starts an attempt when every lane has signal;
the end of the loss-of-signal mask lets a loss count again; 2 ms in RETRAIN fail the retrain, and a new attempt starts. A port
goes from NO_PARTNER to LOCK when an attempt starts: the reference is present and no near-end loop is in force. The rate
starts at the lowest, the attempt is counted, every lane's equaliser starts at PEAK. The reference clock: its loss and its
return act on both ports, at once where LINK is on. -/
def Obligations.PortTraining : Prop :=
  (∀ (p : Fin 2) (s : State), s.acts .link = true → s.pState p = pRateChange → (s.port p).sel < 4 →
    Leaves (exec (.pllLocked p) s) fun t =>
      t.pState p = pTrain ∧ t.fld (F.PORT_STATUS_RATE p) = (s.port p).sel ∧
      s.keepsBits t [F.PORT_STATUS_STATE p, F.PORT_STATUS_RATE p] ∧
      t.port p = { s.port p with
        ui := 0, count := 0, quiet := false, setSeen := false, burstReq := 0, reqDue := false, burstDue := false, burst := none } ∧
      t = { s with regs := t.regs, inl := t.inl, chn := t.chn }) ∧
  (∀ (p : Fin 2) (s : State), s.acts .link = true →
    (s.inAttempt p = true → s.farLoop p = false →
      exec (.attemptTimeout p) s = .next ((s.setFlag (F.PORT_EVENT_TRAIN_TIMEOUT p) true).failAttempt p) ∧
      ((s.port p).rateChanged = false → s.mail.cmds = [] → Leaves (exec (.attemptTimeout p) s) fun t =>
        t.flag (F.PORT_EVENT_TRAIN_TIMEOUT p) = true ∧ t.pState p = pNoPartner ∧ t.fld (F.PORT_STATUS_RATE p) = 0 ∧
        t.fld (F.PORT_STATUS_RETRY_MS p) = (s.port p).nextDelay % 2 ^ (F.PORT_STATUS_RETRY_MS p).width ∧
        (t.port p).retryArmed = true ∧ (t.port p).nextDelay = min 1600 (2 * (s.port p).nextDelay) ∧ t.mem = s.mem)) ∧
    ((s.port p).retryArmed = true →
      exec (.retryTimerExpiry p) s =
        .next (let u := s.setPort p { s.port p with retryArmed := false }; if u.allSignal p then u.attempt p else u) ∧
      (s.pState p = pNoPartner → s.flag (F.PORT_STATUS_REF_OK p) = true → s.nearLoop p = false → s.allSignal p = true →
        Leaves (exec (.retryTimerExpiry p) s) fun t => t.pState p = pLock ∧ t.fld (F.PORT_STATUS_RATE p) = 0 ∧
          (t.port p).retryArmed = false ∧ (t.port p).trainId ≠ 0 ∧ (t.port p).trainId ≠ (s.port p).trainId ∧
          t.fld (F.PORT_TRAIN_CNT_ATTEMPTS p) = min (s.fld (F.PORT_TRAIN_CNT_ATTEMPTS p) + 1) 65535 ∧ t.mem = s.mem)) ∧
    ((s.port p).losMask = true →
      (s.allSignal p = true → exec (.losMaskEnd p) s = .next (s.setPort p { s.port p with losMask := false })) ∧
      (s.allSignal p = false → exec (.losMaskEnd p) s = .next ((s.setPort p { s.port p with losMask := false }).signalGone p)) ∧
      (s.allSignal p = false → s.inAttempt p = true → (s.port p).rateChanged = false → s.mail.cmds = [] →
        Leaves (exec (.losMaskEnd p) s) fun t => t.pState p = pNoPartner ∧ (t.port p).losMask = false ∧ (t.port p).retryArmed = true)) ∧
    (s.pState p = pRetrain → s.farLoop p = false →
      exec (.retrainTimeout p) s = .next (s.failRetrain p true) ∧
      (s.flag (F.PORT_STATUS_REF_OK p) = false → s.mail.cmds = [] → p = 1 → Leaves (exec (.retrainTimeout p) s) fun t =>
        t.pState p = pNoPartner ∧ t.flag (F.PORT_EVENT_RETRAIN_FAIL p) = true ∧ (t.port p).nextDelay = 100 ∧
        t.fld (F.PORT_RETRAIN_CNT_FAILED p) = min (s.fld (F.PORT_RETRAIN_CNT_FAILED p) + 1) 65535))) ∧
  (∀ (p : Fin 2) (s : State), s.pState p = pNoPartner → s.flag (F.PORT_STATUS_REF_OK p) = true → s.nearLoop p = false →
    (s.attempt p).pState p = pLock ∧ (s.attempt p).fld (F.PORT_STATUS_RATE p) = 0 ∧
    (s.attempt p).flag (F.PORT_STATUS_SEEN_TX p) = false ∧ (s.attempt p).flag (F.PORT_STATUS_SEEN_RX p) = false ∧
    ((s.attempt p).port p).retryArmed = false ∧ (s.attempt p).mem = s.mem) ∧
  (∀ s : State,
    (s.acts .link = false → Leaves (exec .refclkLoss s) fun t => t.pw.refclk = false ∧ t = { s with pw := t.pw }) ∧
    (s.acts .link = false → Leaves (exec .refclkReturn s) fun t => t.pw.refclk = true ∧ t = { s with pw := t.pw }) ∧
    (s.acts .link = true → s.pState 0 = pOff → s.pState 1 = pOff → Leaves (exec .refclkLoss s) fun t =>
      t.pw.refclk = false ∧ t.flag (F.PORT_STATUS_REF_OK 0) = false ∧ t.flag (F.PORT_STATUS_REF_OK 1) = false ∧
      s.keepsBits t [F.PORT_STATUS_REF_OK 0, F.PORT_STATUS_REF_OK 1]) ∧
    (s.acts .link = true → s.pState 0 = pOff → s.pState 1 = pOff → Leaves (exec .refclkReturn s) fun t =>
      t.pw.refclk = true ∧ t.flag (F.PORT_STATUS_REF_OK 0) = true ∧ t.flag (F.PORT_STATUS_REF_OK 1) = true ∧
      s.keepsBits t [F.PORT_STATUS_REF_OK 0, F.PORT_STATUS_REF_OK 1]))

/-- Loss of signal and its return, loss of lock, CDR lock, code violations, dwell and markers act on a receive lane of a port
with LINK on, and on its state machine as the rules give. The equaliser's adapter moves PEAK_NOW by one code at most, within 0
to 15, and nothing else. -/
def Obligations.LaneEvents : Prop :=
  (∀ (p : Fin 2) (l : Fin 9) (s : State), s.acts .link = true → (rxLanes p).contains l.val = true →
    (exec (.lossOfSignal p l) s = .next ((((s.setFlag (F.PORT_LANE_STAT_LOS p l) true).setFlag (F.PORT_EVENT_LOS p) true).unlockLane
      p l).signalGone p)) ∧
    (s.pState p = pNoPartner → Leaves (exec (.lossOfSignal p l) s) fun t => t.pState p = pNoPartner ∧
      t.flag (F.PORT_LANE_STAT_LOS p l) = true ∧ t.flag (F.PORT_EVENT_LOS p) = true ∧ t.flag (F.PORT_LANE_STAT_ALIGNED p l) = false ∧
      t.flag (F.PORT_LANE_STAT_DESKEWED p l) = false ∧ t.fld (F.PORT_LANE_STAT_SKEW p l) = 0xFF ∧ t.mem = s.mem) ∧
    (exec (.signalDetect p l) s = .next (let u := s.setFlag (F.PORT_LANE_STAT_LOS p l) false
      if u.allSignal p then u.attempt p else u)) ∧
    (s.pState p = pNoPartner → s.flag (F.PORT_STATUS_REF_OK p) = true → s.nearLoop p = false →
      (∀ k ∈ rxLanes p, k ≠ l.val → s.flag (F.PORT_LANE_STAT_LOS p k) = false) → Leaves (exec (.signalDetect p l) s) fun t =>
        t.flag (F.PORT_LANE_STAT_LOS p l) = false ∧ t.pState p = pLock ∧ t.fld (F.PORT_STATUS_RATE p) = 0 ∧ t.mem = s.mem) ∧
    (s.pState p = pNoPartner → Leaves (exec (.lossOfLock p l) s) fun t =>
      t.flag (F.PORT_EVENT_LOL p) = true ∧ t.flag (F.PORT_LANE_STAT_LOL p l) = true ∧
      t.flag (F.PORT_LANE_STAT_ALIGNED p l) = false ∧ t.flag (F.PORT_LANE_STAT_DESKEWED p l) = false ∧
      t.fld (F.PORT_LANE_ERR_LOL_COUNT p l) = min (s.fld (F.PORT_LANE_ERR_LOL_COUNT p l) + 1) (2 ^ (F.PORT_LANE_ERR_LOL_COUNT p l).width - 1)) ∧
    (s.pState p = pUp → s.mail.cmds = [] → Leaves (exec (.lossOfLock p l) s) fun t => t.pState p = pRetrain ∧
      t.flag (F.PORT_EVENT_LINK_DOWN p) = true ∧
      t.fld (F.PORT_RETRAIN_CNT_RETRAINS p) = min (s.fld (F.PORT_RETRAIN_CNT_RETRAINS p) + 1) 65535) ∧
    (s.pState p = pNoPartner → Leaves (exec (.cdrLock p l) s) fun t =>
      t.flag (F.PORT_LANE_STAT_LOL p l) = false ∧ t.flag (F.PORT_LANE_STAT_ALIGNED p l) = true ∧
      (l.val = 8 → t.flag (F.PORT_LANE_STAT_DESKEWED p l) = true) ∧ t.mem = s.mem) ∧
    (∀ y : BadSym, y.violates = true → (s.lane p l).blockViol < 15 → Leaves (exec (.codeViolation p ⟨l, y⟩) s) fun t =>
      t.fld (F.PORT_LANE_ERR_CODE_ERR p l) = min (s.fld (F.PORT_LANE_ERR_CODE_ERR p l) + 1) (2 ^ (F.PORT_LANE_ERR_CODE_ERR p l).width - 1) ∧
      s.keepsBits t [F.PORT_LANE_ERR_CODE_ERR p l] ∧ t.mem = s.mem) ∧
    (∀ y : BadSym, y.violates = false → exec (.codeViolation p ⟨l, y⟩) s = .next s) ∧
    (s.pState p = pTrain → (s.lane p l).cdr = true →
      exec (.equaliserDwellDone p l) s = .next ((s.setLane p l { s.lane p l with dwell := true }).handshake p)) ∧
    (s.pState p = pTrain → (s.lane p l).cdr = true → (s.port p).lanes.length = 9 →
      (∃ k ∈ rxLanes p, k ≠ l.val ∧ (s.lane p k).cdr = false) → Leaves (exec (.equaliserDwellDone p l) s) fun t =>
        t.pState p = pTrain ∧ (t.lane p l).dwell = true ∧ t.flag (F.PORT_STATUS_SEEN_TX p) = false ∧ t.mem = s.mem) ∧
    (s.pState p = pNoPartner → s.cal.laneDue.contains l.val = false → exec (.laneMarkerReceived p l none 0) s =
      .next (s.setLane p l { s.lane p l with blockViol := 0 })) ∧
    (∀ (cb : Byte) (arrival : Nat), s.pState p = pUp → s.cal.laneDue.contains l.val = false →
      cb.toNat = (s.fld (F.PORT_LANE_STAT_MARKER_COUNT p l) + 1) % 256 →
      p ≠ 0 ∨ (arrival ≤ (s.lane p l).deskewPos + 8 ∧ (s.lane p l).deskewPos ≤ arrival + 8) →
      exec (.laneMarkerReceived p l (some (BitVec.ofNat 8 (0x50 + l.val), cb)) arrival) s =
        .next ((s.setFld (F.PORT_LANE_STAT_MARKER_COUNT p l) cb.toNat).setLane p l
          { s.lane p l with markerRun := 0, blockViol := 0, arrival := arrival })) ∧
    (s.pState p = pUp → s.cal.laneDue.contains l.val = false → (s.lane p l).markerRun < 2 → (s.port p).lanes.length = 9 →
      Leaves (exec (.laneMarkerReceived p l none 0) s) fun t => t.flag (F.PORT_EVENT_MARKER_ERR p) = true ∧ t.pState p = pUp ∧
        t.fld (F.PORT_LANE_ERR_MARKER_ERR p l) =
          min (s.fld (F.PORT_LANE_ERR_MARKER_ERR p l) + 1) (2 ^ (F.PORT_LANE_ERR_MARKER_ERR p l).width - 1) ∧
        (t.lane p l).markerRun = (s.lane p l).markerRun + 1)) ∧
  (∀ (p : Fin 2) (l : Fin 9) (dir : Fin 3) (s : State), s.acts .link = true → (rxLanes p).contains l.val = true →
    s.flag (F.PORT_LANE_PHY_ADAPT p l) = true → s.flag (F.PORT_LANE_STAT_LOS p l) = false →
    Leaves (exec (.eqAdaptInterval p l dir) s) fun t =>
      t.fld (F.PORT_LANE_PHY_PEAK_NOW p l) = (if dir.val = 1 then min 15 (s.fld (F.PORT_LANE_PHY_PEAK_NOW p l) + 1)
        else if dir.val = 2 then s.fld (F.PORT_LANE_PHY_PEAK_NOW p l) - 1 else s.fld (F.PORT_LANE_PHY_PEAK_NOW p l)) ∧
      s.keepsBits t [F.PORT_LANE_PHY_PEAK_NOW p l] ∧ t = { s with regs := t.regs })

/-- A training set that its checks refuse counts nothing but a TS_CHECK event and restarts the lane's runs; a valid one shows
the partner's version, offered rates, role and TRAIN_ID. Idle sets and bursts in UP: BURST_REQ makes a burst due for the next
packet boundary; 10 ms without a qualifying symbol request one for a block, counted; the end of a burst leaves none; a wrong
CHECK is a code violation. -/
def Obligations.ReceivedSets : Prop :=
  (∀ (p : Fin 2) (l : Fin 9) (c0 c1 : Machine.Sym) (bs : List Byte) (s : State), s.acts .link = true →
    (rxLanes p).contains l.val = true → s.pState p ≠ pOff → (s.port p).lanes.length = 9 →
    (tsValid c0 c1 bs = false → Leaves (exec (.trainingSetReceived p l (c0, c1) bs) s) fun t =>
      t.flag (F.PORT_EVENT_TS_CHECK p) = true ∧ (t.lane p l).tsRun = 0 ∧ (t.lane p l).seenRun = 0 ∧
      s.keepsBits t [F.PORT_EVENT_TS_CHECK p] ∧ t.mem = s.mem) ∧
    (tsValid c0 c1 bs = true → s.pState p = pRateChange → Leaves (exec (.trainingSetReceived p l (c0, c1) bs) s) fun t =>
      t.fld (F.PORT_PARTNER_CAP p) = tsSym bs 3 ∧ t.fld (F.PORT_PARTNER_ROLE p) = tsSym bs 5 / 2 % 2 ∧
      t.fld (F.PORT_PARTNER_TRAIN_ID p) = tsSym bs 6 ∧ t.fld (F.PORT_PARTNER_VERSION p) = 1 ∧
      (t.lane p l).tsRun = (s.lane p l).tsRun + 1 ∧ (t.lane p l).lastId = tsSym bs 6 ∧ t.pState p = pRateChange ∧
      s.keepsBits t [F.PORT_PARTNER_CAP p, F.PORT_PARTNER_ROLE p, F.PORT_PARTNER_TRAIN_ID p, F.PORT_PARTNER_VERSION p] ∧ t.mem = s.mem) ∧
    ((s.takeSet p l bs).fld (F.PORT_PARTNER_CAP p) = tsSym bs 3 % 16 ∧
      (s.takeSet p l bs).fld (F.PORT_PARTNER_VERSION p) = 1 ∧
      (s.takeSet p l bs).fld (F.PORT_PARTNER_TRAIN_ID p) = tsSym bs 6)) ∧
  (∀ (p : Fin 2) (l : Fin 9) (flags : Byte) (s : State), s.acts .link = true → (rxLanes p).contains l.val = true →
    (s.pIsUp p = true → flags.toNat.testBit 0 = true → (s.port p).burst = none →
      exec (.idleSetReceived p l flags (flags ^^^ 0xFF)) s = .next (s.setPort p { s.port p with burstDue := true })) ∧
    (flags.toNat.testBit 0 = false → exec (.idleSetReceived p l flags (flags ^^^ 0xFF)) s = .next s) ∧
    (∀ check : Byte, check ≠ flags ^^^ 0xFF → (s.lane p l).blockViol < 15 → Leaves (exec (.idleSetReceived p l flags check) s) fun t =>
      t.fld (F.PORT_LANE_ERR_CODE_ERR p l) = min (s.fld (F.PORT_LANE_ERR_CODE_ERR p l) + 1) (2 ^ (F.PORT_LANE_ERR_CODE_ERR p l).width - 1) ∧
      s.keepsBits t [F.PORT_LANE_ERR_CODE_ERR p l] ∧ (t.port p).burstDue = (s.port p).burstDue ∧ t.mem = s.mem) ∧
    (s.pIsUp p = true → s.flag (F.PORT_CTRL_IDLE_BURST_EN p) = true → Leaves (exec (.idleBurstRequest p) s) fun t =>
      t.port p = { s.port p with burstReq := 10240, reqDue := true } ∧ s.keepsBits t [F.PORT_IDLE_CNT_REQUESTED p] ∧
      t.fld (F.PORT_IDLE_CNT_REQUESTED p) = min (s.fld (F.PORT_IDLE_CNT_REQUESTED p) + 1) (2 ^ (F.PORT_IDLE_CNT_REQUESTED p).width - 1)) ∧
    exec (.burstEnd p) s = .next (s.setPort p { s.port p with burst := none }))

/-- Register writes that act on a port with CTRL and LINK on: ENABLE, RETRAIN, the loop modes and the pattern checker. A loop mode
outside SERVICE sets BAD_WR and changes nothing else; a near-end one in SERVICE takes the port to TEST. CHK from 0 to 1 clears the
checker's counts. With LINK off the write of ENABLE wakes it and waits. -/
def Obligations.PortWrites : Prop :=
  ∀ (p : Fin 2) (v : Word) (s : State), s.on .ctrl = true →
    (s.acts .link = false → s.wakeRefused .link = false → .link ∉ s.pw.waking → exec (.portEnableWrite p v) s =
      .next { s with pw := { s.pw with waking := s.pw.waking ++ [.link], stalled := s.pw.stalled ++ [.put (R.PORT_CTRL p) v] } }) ∧
    (s.acts .link = true →
      (v = 0x11 → s.flag (F.PORT_CTRL_ENABLE p) = true → s.pState p = pUp → Leaves (exec (.portEnableWrite p v) s) fun t =>
        t.pState p = pUp ∧ t.flag (F.PORT_CTRL_ENABLE p) = true ∧ t.mem = s.mem) ∧
      (v = 0x31 → s.flag (F.PORT_CTRL_ENABLE p) = false → s.pState p = pOff → s.mail.cmds = [] →
        Leaves (exec (.portEnableWrite p v) s) fun t => t.pState p = pNoPartner ∧ t.flag (F.PORT_CTRL_ENABLE p) = true ∧
          t.fld (F.PORT_CTRL_RATE_EN p) = 3 ∧ t.fld (F.PORT_STATUS_CAP_NOW p) = 3 ∧ (t.port p).dropped = 0 ∧ t.mem = s.mem) ∧
      (s.pState p = pUp → s.flag (F.PORT_CTRL_ENABLE p) = true → Leaves (exec (.retrain p) s) fun t =>
        ∃ u : State, u.pState p = pUp ∧ u.mem = s.mem ∧ t = u.retrain p) ∧
      (s.pState p = pUp → s.flag (F.PORT_CTRL_ENABLE p) = true → s.mail.cmds = [] → Leaves (exec (.retrain p) s) fun t =>
        t.pState p = pRetrain ∧ t.flag (F.PORT_EVENT_LINK_DOWN p) = true ∧
        t.fld (F.PORT_RETRAIN_CNT_RETRAINS p) = min (s.fld (F.PORT_RETRAIN_CNT_RETRAINS p) + 1) 65535) ∧
      (v.toNat % 4 ≠ 0 → s.mode ≠ .service → Leaves (exec (.loopModeWrite p v) s) fun t =>
        t.flag (F.PORT_EVENT_BAD_WR p) = true ∧ s.keepsBits t [F.PORT_EVENT_BAD_WR p] ∧ t = { s with regs := t.regs }) ∧
      (v.toNat % 4 = 1 ∨ v.toNat % 4 = 2 → s.mode = .service → s.pState p = pNoPartner → Leaves (exec (.loopModeWrite p v) s) fun t =>
        t.fld (F.PORT_LOOP_MODE p) = v.toNat % 4 ∧ t.flag (F.PORT_LOOP_ACTIVE p) = true ∧ t.pState p = pTest ∧ t.mem = s.mem) ∧
      (v.toNat % 4 = 0 → s.fld (F.PORT_LOOP_MODE p) = 0 → Leaves (exec (.loopModeWrite p v) s) fun t =>
        t.fld (F.PORT_LOOP_MODE p) = 0 ∧ s.keepsBits t [F.PORT_LOOP_MODE p, F.PORT_LOOP_LANE p] ∧ t = { s with regs := t.regs }) ∧
      (v.toNat.testBit 3 = true → v.toNat.testBit 2 = false → s.flag (F.PORT_PAT_CHK p) = false →
        Leaves (exec (.patternCheckerWrite p v) s) fun t =>
          (∀ l ∈ rxLanes p, t.reg (R.PORT_LANE_BER p l) = 0) ∧ t.flag (F.PORT_PAT_CHK p) = true ∧ t.fld (F.PORT_PAT_CHK_LOCK p) = 0 ∧
          t = { s with regs := t.regs }))


/-! ### Start-up, raster, modes and governor -/

/-- The completion of a start-up step starts the next one (R85). Step 2 leaves CTRL and PIX on and the receiver with the
configuration's identifier; after it a configuration that fails keeps the boot ROM in recovery, and a resume whose digest
matches runs the image at once. After step 3 everything is loaded, SPLASH entered and PANEL raised. After step 4, once the
rails are up, the raster runs from line 0 at FRAME_LOAD; after step 5 the backlight runs. The start-up calibration starts
where BOOT_EN asks for it. The proof record of the frame that ended is built at line 16 of the next: its frame number and the
bitmap asked for stand at its front, and it waits for the bus. Where the lit frame that ends a start-up is the one it proves,
step 8 is complete. -/
def Obligations.StartUpSteps : Prop :=
  (∀ (therm : BitVec 16) (die : List (BitVec 16)) (s : State),
    (s.bootStep = 1 → s.pw.trans = .startUp → s.pw.stalled = [] → Leaves (exec (.startUpStepComplete therm die) s) fun t =>
      t.bootStep = 2 ∧ t.on .ctrl = true ∧ t.on .pix = true ∧ s.sameMem t ∧
      ∀ c bs rs v, s.cfgChoice = some (c, bs) → cfgRecords (bs.length + 1) bs = some rs → cfgGet rs 0x04 = some v →
        t.fld F.SAF_CAN_ID_BASE = leAt v 0 2 / 16 % 128 ∧ t.fld F.SAF_CAN_BT_VAL = byteAt v 2 % 4) ∧
    (s.bootStep = 2 → s.pw.trans = .startUp → s.pw.rom = false → s.pw.resume = false → s.cfgChoice = none →
      s.pw.pendReq = none → Leaves (exec (.startUpStepComplete therm die) s) fun t =>
        t.bootStep = 2 ∧ t.pw.rom = true ∧ t.pw.trans = .none ∧ t.flag F.BOOT_STATUS_ROM_RECOVERY = true ∧
        t.flag F.BOOT_STATUS_CONFIG_FAIL = true ∧ t.pw.firmware = s.pw.firmware ∧ t.mode = s.mode) ∧
    (s.bootStep = 2 → s.pw.trans = .startUp → s.pw.rom = false → s.pw.resume = true →
      s.pw.codeDigest = some (sha256 (s.bytes pondALo Config.codeLen)) → s.cfgChoice ≠ none →
      Leaves (exec (.startUpStepComplete therm die) s) fun t =>
        t.bootStep = 3 ∧ t.pw.firmware = true ∧ t.flag F.BOOT_STATUS_RESUME = true ∧ t.fld F.BOOT_STATUS_IMAGE = s.fw.image % 4 ∧
        t.mode = s.mode) ∧
    (s.bootStep = 2 → s.pw.trans = .startUp → s.pw.rom = false → exec (.startUpStepComplete therm die) s = .next s.step3) ∧
    (s.bootStep = 3 → s.pw.trans = .startUp →
      Leaves (exec (.startUpStepComplete therm die) s) fun t => ∃ r u : State,
        r = { s with cal := { s.cal with panel := therm.toNat, die := padTo 0 5 (die.map (·.toNat)) }
                     fw := { s.fw with dmrOk := [false, false] } } ∧
        u = (((r.loadRegs).loadTiming).loadAreas.loadPicture).stepTo 4 ∧
        (u.pw.pendReq = none → u.pw.panelFault = false →
          t = ((u.setPw { u.pw with trans := .none, pendReq := none }).enterMode .splash 4).raisePanel) ∧
        (u.pw.pendReq = none → u.pw.panelFault = true → t = u.setPw { u.pw with trans := .none, pendReq := none }) ∧
        (∀ a b, u.pw.pendReq = some (.sleep a b) → t = (u.setTrans .none).servePending false (u.time, u.oscTime))) ∧
    (s.bootStep = 4 → s.pw.trans = .none → s.flag F.BIAS_STATUS_UP_DONE = false →
      exec (.startUpStepComplete therm die) s = .next s) ∧
    (s.bootStep = 4 → s.pw.trans = .none → s.flag F.BIAS_STATUS_UP_DONE = true → s.acts .pix = true → s.rs.timed = true →
      s.rs.running = false → s.flag F.SCN_CTRL_RUN = false → Leaves (exec (.startUpStepComplete therm die) s) fun t =>
        t.bootStep = 5 ∧ t.flag F.SCN_CTRL_RUN = true ∧ t.reg R.SCN_FRAME = s.reg R.SCN_FRAME_LOAD ∧
        t.rs = { s.rs with running := true, ended := true, first := true } ∧
        s.keepsBits t [F.BOOT_STATUS_STEP, F.SCN_CTRL_RUN, whole R.SCN_FRAME] ∧ s.sameMem t) ∧
    (s.bootStep = 5 → s.pw.trans = .none → s.rs.frames = 0 → exec (.startUpStepComplete therm die) s = .next s) ∧
    (s.bootStep = 5 → s.pw.trans = .none → s.rs.frames ≠ 0 → s.pw.resume = true → s.on .light = true →
      s.flag F.BLD_CTRL_RUN = false → s.bl.latch = none → s.opt.started = true →
      Leaves (exec (.startUpStepComplete therm die) s) fun t =>
        t.bootStep = 6 ∧ t.flag F.BLD_CTRL_RUN = true ∧ t.flag F.BLD_STATUS_RAMPING = true ∧ t.bl = { s.bl with ramp := .rising } ∧
        s.keepsBits t [F.BOOT_STATUS_STEP, F.BLD_CTRL_RUN, F.BLD_STATUS_RAMPING, F.BLD_VB_V_PLAN] ∧
        t = { s with regs := t.regs, bl := t.bl }) ∧
    (s.bootStep = 5 → s.pw.trans = .none → s.rs.frames ≠ 0 → s.pw.resume = false → s.flag F.CAL_CTRL_BOOT_EN = true →
      s.cal.run = none → (s.stepTo 6).blRun.flag F.CAL_CTRL_BOOT_EN = true → (s.stepTo 6).blRun.cal.run = none →
      exec (.startUpStepComplete therm die) s =
        .next ((s.stepTo 6).blRun.calStart calStartUp (calSinks ++ calPhotodiodes ++ [.backChannel]) true))) ∧
  (∀ (s : State) (p : ProofFrame), s.saf.last = some p → s.on .ctrl = true → s.rs.running = true →
    (Leaves (exec .proofRecordBuild s) fun t => t.saf.last = none ∧ t.saf.replies = [] ∧
      ∃ r, t.saf.proof = some r ∧ r.take 8 = leBytes 4 p.frame.toNat ++ leBytes 4 p.req.toNat) ∧
    (s.bootStep ≠ 7 ∨ s.cal.litFrame ≠ some p.frame → exec .proofRecordBuild s = .next ((s.reachPos 16 0).proofRecord p)) ∧
    (s.bootStep = 7 → s.cal.litFrame = some p.frame → s.pw.stalled = [] → Leaves (exec .proofRecordBuild s) fun t => t.bootStep = 8))

/-- The frame's ends. FRAME_START with RUN = 0 stops the raster; with RUN = 1 SCN_FRAME counts on, line 0 begins, the frame
that ended is counted, and the boundary's steps follow in R339's order: private hand-overs, mode changes, flips and ordinary
hand-overs, and what the blocks begin the frame with. FRAME_END_DECISION on or after vmin either extends the frame or ends it, with
its length and the branch in SCN_LAST_FRAME. -/
def Obligations.FrameEnds : Prop :=
  (∀ (vin led : Nat) (s : State), s.on .pix = true → s.rs.running = true → s.rs.ended = true → s.flag F.SCN_CTRL_RUN = false →
    s.commits = [] → s.mail.cmds = [] → exec (.frameStart vin led) s =
      .next { s with rs := { s.rs with running := false, ended := false, line := 0, tick := 0, first := false } }) ∧
  (∀ (vin led : Nat) (s : State), s.on .pix = true → s.rs.running = true → s.rs.ended = true → s.flag F.SCN_CTRL_RUN = true →
    ∀ u : State, u = s.boundary12 vin led →
      (u.reg R.SCN_FRAME = if s.rs.first then s.reg R.SCN_FRAME else s.reg R.SCN_FRAME + 1) ∧
      exec (.frameStart vin led) s = .next (({ u with rs := { u.rs with
            line := 0, tick := 0, ended := false, first := false, acc := 0
            frames := if s.scanning && !s.rs.first then u.rs.frames + 1 else u.rs.frames } } : State).boundary3.boundary456.boundary7
          s.lastLen ((s.lastLen : Rat) * s.tLine)
          (s.scanning && !s.rs.first && s.flag F.SLU_STATUS_HIST_ON && decide (s.vid.histWritten = s.vActive))
          (decide (s.fld F.SCN_LAST_FRAME_END = 1 ∨ s.fld F.SCN_LAST_FRAME_END = 2)) (s.reg R.CPS_TT_REQ))) ∧
  (∀ (l : Nat) (s : State), s.on .pix = true → s.rs.running = true → s.rs.ended = false → s.rs.vmin ≤ l + 1 → s.rs.line ≤ l →
    ((s.reachPos l 192).endBranch l = none → exec (.frameEndDecision l) s = .next (s.reachPos l 192)) ∧
    (∀ code, (s.reachPos l 192).endBranch l = some code → l < 65535 → Leaves (exec (.frameEndDecision l) s) fun t =>
      t.rs.ended = true ∧ t.fld F.SCN_LAST_FRAME_LINES = l + 1 ∧ t.fld F.SCN_LAST_FRAME_END = code % 8 ∧
      t.fld F.SCN_EXT_CNT_VAL = min (s.fld F.SCN_EXT_CNT_VAL + (l + 1 - s.rs.vmin)) 65535 ∧ t.mem = s.mem))

/-- RUN of SCN_CTRL, written by RASTER_STOP and RASTER_START. Stop clears the bit and leaves the raster running to the frame's end.
Start with a timing set in force sets it, and begins a stopped raster with the next line 0, SCN_FRAME at FRAME_LOAD; without a
timing set it is refused with code 7. -/
def Obligations.RasterRun : Prop :=
  ∀ s : State, s.on .ctrl = true → s.on .pix = true →
    (Leaves (exec .rasterStop s) fun t =>
      t.flag F.SCN_CTRL_RUN = false ∧ s.keepsBits t [F.SCN_CTRL_RUN] ∧ t = { s with regs := t.regs }) ∧
    (s.rs.timed = true → s.rs.running = true → Leaves (exec .rasterStart s) fun t =>
      t.flag F.SCN_CTRL_RUN = true ∧ s.keepsBits t [F.SCN_CTRL_RUN] ∧ t = { s with regs := t.regs }) ∧
    (s.rs.timed = true → s.rs.running = false → s.flag F.SCN_CTRL_RUN = false → Leaves (exec .rasterStart s) fun t =>
      t.flag F.SCN_CTRL_RUN = true ∧ t.reg R.SCN_FRAME = s.reg R.SCN_FRAME_LOAD ∧ t.rs.running = true ∧ t.rs.ended = true ∧
      s.keepsBits t [F.SCN_CTRL_RUN, whole R.SCN_FRAME] ∧ t = { s with regs := t.regs, rs := t.rs }) ∧
    (s.rs.timed = false → s.flag F.SCN_CTRL_RUN = false → Leaves (exec .rasterStart s) fun t =>
      t.flag F.SCN_STATUS_TIMING_REFUSED = true ∧ t.fld F.SCN_STATUS_TIMING_ERR_CODE = 7 ∧
      s.keepsBits t [F.SCN_STATUS_TIMING_REFUSED, F.SCN_STATUS_TIMING_ERR_CODE] ∧ t = { s with regs := t.regs })

/-- The governor's lines. At line E the readings are taken; from the first lit frame on the frame is evaluated too, and the
evaluation waits with the readings and, under MANUAL in SERVICE, with GOV_MANUAL's values. From line D the evaluation is
latched: cap, floor, grants and level are shown and in force, and LDA decides; without one LDA decides alone.
LEVEL_CHANGE_DONE makes the next level the level. MANUAL is accepted in the dark modes alone. The timed rows of the mode table
latch their trigger: row 10 after LR_ENTRY quiet frames with LOW_RATE allowed, row 12 after 200 ms without a host where its
row is open. A trigger changes no register and no byte. -/
def Obligations.GovernorLines : Prop :=
  ((∀ (i : GovIn) (s : State), s.on .pix = true → s.rs.running = true → s.gov.result = none → s.rs.line < s.lineD →
    (s.pw.firstLit = false → exec (.governorEvaluate i) s = .next { s.reachPos s.lineE 0 with
      cal := { (s.reachPos s.lineE 0).cal with die := padTo 0 5 i.die, panel := i.panel } }) ∧
    (s.pw.firstLit = true → Leaves (exec (.governorEvaluate i) s) fun t =>
      t.cal.die = padTo 0 5 i.die ∧ t.cal.panel = i.panel ∧ ∃ r, t.gov.result = some r ∧
        r.case = i.case ∧ r.panel = i.panel ∧ r.pVin = i.pVin ∧ r.pLed = i.pLed ∧ r.manual = s.flag F.GOV_CTRL_MANUAL ∧
        (r.manual = true → r.step = 0 ∧ r.shortfall = false ∧ r.set.od = s.flag F.GOV_MANUAL_OD ∧
          (s.mode = .service → r.set.cap = s.fld F.GOV_MANUAL_LED_CAP)))) ∧
  (∀ (r : GovResult) (s : State), s.on .pix = true → s.rs.running = true → s.gov.result = some r →
    Leaves (exec .governorLatch s) fun t => t.gov.result = none ∧ t.gov.next = r.set ∧
      t.reg R.GOV_CAP = BitVec.ofNat 32 (r.set.cap % 4096 + 65536 * (r.iFloor % 4096)) ∧ t.fld F.PWR_PERF_NEXT = r.set.level % 4 ∧
      (∀ c, c < 5 → t.fld (F.GOV_GRANT_VAL c) = min 65535 (r.set.grants.getD c 0)) ∧
      t.reg R.GOV_TPANEL_MEAS = BitVec.ofNat 32 (r.panel % 65536) ∧
      t.fld F.GOV_SHORT_COUNT_VAL = (if r.shortfall then min (s.fld F.GOV_SHORT_COUNT_VAL + 1) 65535 else s.fld F.GOV_SHORT_COUNT_VAL)) ∧
  (∀ s : State, s.on .pix = true → s.rs.running = true → s.gov.result = none → s.rs.line < s.lineD →
    exec .governorLatch s = .next (s.reachPos s.lineD 0).ldaDecide) ∧
  (∀ s : State, s.flag F.PWR_PERF_CHANGING = true → Leaves (exec .levelChangeDone s) fun t =>
    t.fld F.PWR_PERF_LEVEL = s.fld F.PWR_PERF_NEXT ∧ t.flag F.PWR_PERF_CHANGING = false ∧
    s.keepsBits t [F.PWR_PERF_LEVEL, F.PWR_PERF_CHANGING] ∧ t = { s with regs := t.regs }) ∧
  (∀ (v : Word) (s : State), (bitOf v 0 = false → Leaves (exec (.govManualWrite v) s) fun t =>
      t.flag F.GOV_CTRL_MANUAL = false ∧ s.keepsBits t [F.GOV_CTRL_MANUAL] ∧ t = { s with regs := t.regs }) ∧
    (bitOf v 0 = true → s.mode.isDark = true → Leaves (exec (.govManualWrite v) s) fun t =>
      t.flag F.GOV_CTRL_MANUAL = true ∧ s.keepsBits t [F.GOV_CTRL_MANUAL] ∧ t = { s with regs := t.regs }) ∧
    (bitOf v 0 = true → s.mode.isDark = false → Leaves (exec (.govManualWrite v) s) fun t =>
      t.flag F.GOV_STATUS_BAD_WR = true ∧ s.keepsBits t [F.GOV_STATUS_BAD_WR] ∧ t = { s with regs := t.regs }))) ∧
  (∀ s : State,
    ((s.mode = .live ∨ s.mode = .selfRefresh) → s.lowRateOn = true → s.liveFld F.SCN_LOWRATE_LR_ENTRY ≤ s.pw.quietFrames →
      Leaves (exec .lowRateEntry s) fun t => (∃ g ∈ t.pw.trigs, g.row = 10) ∧ t = { s with pw := { s.pw with trigs := t.pw.trigs } }) ∧
    (s.rowOpen 12 = true → Leaves (exec .noHostTimeout s) fun t =>
      (∃ g ∈ t.pw.trigs, g.row = 12) ∧ t = { s with pw := { s.pw with trigs := t.pw.trigs } }))


/-! ### Local dimming, backlight, photodiodes -/

/-- Local dimming's deliveries. ZONE_VALUES_DELIVERED gives the decided values to Carousel, which scales all but the floor
zones down where they would draw more than the governor's cap, and builds the field's model from them with zones OPEN or
DISABLED at 0. FIELD_ROW_BUILD forms the next grid row in increasing order. ROW_BOUNDARY: the next boundary k of the row clock
in force closes the window before it, raises the boost where a sink was short, opens row k mod 24 with that clock's values
where the backlight is lit and has such a row, and lets the cell masks written since take effect; the clock goes on. -/
def Obligations.ZoneValues : Prop :=
  ((∀ s : State, s.lda.due = true → s.on .light = true → Leaves (exec .zoneValuesDelivered s) fun t =>
    t.lda = { s.lda with due := false, model := some (s.lda.zp.mapIdx fun z v =>
      if (s.zone z).state = 1 ∨ (s.zone z).state = 3 then 0 else v) } ∧
    t.fld F.BLD_CAP_NOW_CAP = s.fld F.GOV_CAP_LED ∧ t.mem = s.mem ∧
    ∀ r, r = scaleTo (s.fld F.GOV_CAP_LED : Rat) s.kI (fun z => (drive s.cMax z).1 * (drive s.cMax z).2) s.floorZones s.lda.zp →
      t.bl = { s.bl with valsNext := r.getD s.lda.zp } ∧
      (r = none → s.keepsBits t [whole R.BLD_CAP_NOW]) ∧
      (r ≠ none → t.flag F.BLD_STATUS_CAP_SCALED = true ∧
        s.keepsBits t [whole R.BLD_CAP_NOW, F.BLD_STATUS_CAP_SCALED, F.BLD_CNT_SCALED])) ∧
  (∀ (m : List Nat) (s : State), s.lda.model = some m → s.ldaRuns = true → s.rs.running = true →
    s.lda.grid.length < s.gridRows → exec .fieldRowBuild s =
      .next { s with lda := { s.lda with grid := s.lda.grid ++ [s.gridRow m s.lda.grid.length] } })) ∧
  (∀ (units : List (Nat × Nat)) (line : Nat) (c : RowClock) (s : State), s.on .light = true → s.rs.running = true →
    s.bl.next = some (line, c) → Leaves (exec (.rowBoundary units) s) fun t =>
      t.bl.clock = some { c with k := c.k + 1 } ∧ t.cal.sinkDue = [] ∧ t.bl.short = false ∧
      (s.nRow ≤ c.k % 24 ∨ s.blLit = false → t.bl.win = none) ∧
      (c.k % 24 < s.nRow → s.blLit = true → ∃ w, t.bl.win = some w ∧ w.row = c.k % 24 ∧ w.switch = s.rowOf (c.k % 24) ∧
        w.samples = [] ∧ w.zones.length = s.nCol) ∧
      (s.bl.short = true → s.bl.raised < 20 → t.bl.raised = s.bl.raised + 5 ∧
        t.fld F.BLD_VB_V_B = min (s.fld F.BLD_VB_V_B + 5) (min 420 (s.liveFld F.BLD_BOOST_VB_MAX))) ∧
      (∀ i, i < 192 → t.cal.sinkUse.getD i 0 =
        if s.cal.sinkDue.contains i then s.fld (F.CAL_SINK_CELL_MASK i) else s.cal.sinkUse.getD i 0))

/-- HEADROOM_SAMPLE of a sink whose window holds a segment long enough joins the window's samples. PD_SAMPLE in a boundary line adds
to the dark sums, elsewhere an unsaturated sample above the smallest signal is corrected, added and counted as valid, and one with a
channel above 65,000 is counted as saturated; a weaker one enters nothing. One outside the two slots of its line is stray besides. -/
def Obligations.LightSamples : Prop :=
  (∀ (sink : Fin 192) (mv percent : Nat) (w : RowWin) (z : WinZone) (s : State), s.bl.win = some w →
    w.zones.find? (fun z => decide (z.sink = sink.val)) = some z → (∃ p ∈ z.pulses, s.pwDiag ≤ p.2) →
    Leaves (exec (.headroomSample sink mv percent) s) fun t =>
      t.bl.win = some { w with samples := w.samples ++ [⟨z.col, mv, percent⟩] } ∧ t = { s with bl := t.bl }) ∧
  (∀ (r g b : Nat) (s : State), s.on .light = true → s.rs.running = true → s.rs.tick ≤ 47 →
    (∀ t, exec (.pdSample r g b) s = .next t → (s.fixedTo ownOpt s.rs.line 10 = true ∧ s.fixedTo ownOpt s.rs.line 11 = true →
        t.reg R.RNG_STRAY = s.reg R.RNG_STRAY ∧ t.rng = s.rng) ∧
      (s.fixedTo ownOpt s.rs.line 10 = false → s.on .pix = true →
        t.fld F.RNG_STRAY_VAL = min (s.fld F.RNG_STRAY_VAL + 1) (2 ^ F.RNG_STRAY_VAL.width - 1) ∧ (s.rs.line, 10) ∈ t.rng.stray)) ∧
    (s.boundaryLine s.rs.line = true → r ≤ 65535 → g ≤ 65535 → b ≤ 65535 → Leaves (exec (.pdSample r g b) s) fun t =>
      t.opt.dark = s.opt.dark.zipWith (· + ·) [r, g, b] ∧ t.opt.darkN = s.opt.darkN + 1 ∧ t.opt.light = s.opt.light ∧
      s.keepsBits t [F.RNG_STRAY_VAL] ∧ t.mem = s.mem) ∧
    (s.boundaryLine s.rs.line = false → 65000 < r ∨ 65000 < g ∨ 65000 < b → Leaves (exec (.pdSample r g b) s) fun t =>
      t.fld F.OPT_CNT_SATURATED = min (s.fld F.OPT_CNT_SATURATED + 1) (2 ^ F.OPT_CNT_SATURATED.width - 1) ∧ t.opt = s.opt ∧
      s.keepsBits t [F.OPT_CNT_SATURATED, F.RNG_STRAY_VAL] ∧ t.mem = s.mem) ∧
    (s.boundaryLine s.rs.line = false → r ≤ 65000 → g ≤ 65000 → b ≤ 65000 →
      s.liveFld F.OPT_SIG_MIN_SIGNAL ≤ r - s.fld (F.OPT_PD_OFS_VAL 0) → s.liveFld F.OPT_SIG_MIN_SIGNAL ≤ g - s.fld (F.OPT_PD_OFS_VAL 1) →
      s.liveFld F.OPT_SIG_MIN_SIGNAL ≤ b - s.fld (F.OPT_PD_OFS_VAL 2) → Leaves (exec (.pdSample r g b) s) fun t =>
      t.opt.light = s.opt.light.zipWith (· + ·)
        [r - s.fld (F.OPT_PD_OFS_VAL 0), g - s.fld (F.OPT_PD_OFS_VAL 1), b - s.fld (F.OPT_PD_OFS_VAL 2)] ∧
      t.fld F.OPT_CNT_VALID = min (s.fld F.OPT_CNT_VALID + 1) (2 ^ F.OPT_CNT_VALID.width - 1) ∧
      s.keepsBits t [F.OPT_CNT_VALID, F.RNG_STRAY_VAL] ∧ t.mem = s.mem) ∧
    (s.boundaryLine s.rs.line = false → r ≤ 65000 → g ≤ 65000 → b ≤ 65000 →
      r - s.fld (F.OPT_PD_OFS_VAL 0) < s.liveFld F.OPT_SIG_MIN_SIGNAL ∨ g - s.fld (F.OPT_PD_OFS_VAL 1) < s.liveFld F.OPT_SIG_MIN_SIGNAL ∨
        b - s.fld (F.OPT_PD_OFS_VAL 2) < s.liveFld F.OPT_SIG_MIN_SIGNAL → Leaves (exec (.pdSample r g b) s) fun t =>
      t.opt = s.opt ∧ s.keepsBits t [F.RNG_STRAY_VAL] ∧ t.mem = s.mem))

/-- The backlight's run and stop. RUN with the stage free starts the boost towards its plan; the boost at its plan waits for
the next line 0; RUN written 0 with the backlight lit begins the ramp down, at whose end the boost is off. A stage fault turns
the boost and the window off and latches it with its code; while one is latched another changes nothing. STAGE_CLR clears the
latch, and with RUN set the stage starts again. The neighbour test starts while every zone is dark; its end marks both zones
of every pair found in use. -/
def Obligations.BacklightRuns : Prop :=
  (∀ s : State, s.acts .light = true →
    (s.flag F.BLD_CTRL_RUN = false → s.bl.latch = none → s.opt.started = true → Leaves (exec .backlightRun s) fun t =>
      t.flag F.BLD_CTRL_RUN = true ∧ t.flag F.BLD_STATUS_RAMPING = true ∧ t.bl = { s.bl with ramp := .rising } ∧
      s.keepsBits t [F.BLD_CTRL_RUN, F.BLD_STATUS_RAMPING, F.BLD_VB_V_PLAN] ∧ t = { s with regs := t.regs, bl := t.bl }) ∧
    (s.flag F.BLD_CTRL_RUN = false → s.bl.latch = none → s.opt.started = false → Leaves (exec .backlightRun s) fun t =>
      t.flag F.BLD_CTRL_RUN = true ∧ t.bl = { s.bl with ramp := .rising } ∧ t.reg R.OPT_GAIN_RG = s.reg R.OPT_GAIN_INIT_RG ∧
      t.reg R.OPT_GAIN_B = s.reg R.OPT_GAIN_INIT_B ∧ t.opt = { s.opt with started := true } ∧ t.mem = s.mem) ∧
    (s.bl.ramp = .rising → Leaves (exec .boostReady s) fun t =>
      t.fld F.BLD_VB_V_B = s.fld F.BLD_VB_V_PLAN % 2 ^ F.BLD_VB_V_B.width ∧ t.bl = { s.bl with ramp := .ready } ∧
      s.keepsBits t [F.BLD_VB_V_B] ∧ t = { s with regs := t.regs, bl := t.bl }) ∧
    (s.flag F.BLD_CTRL_RUN = true → s.bl.ramp = .target → Leaves (exec .backlightStop s) fun t =>
      t.flag F.BLD_CTRL_RUN = false ∧ t.flag F.BLD_STATUS_RAMPING = true ∧ t.bl = { s.bl with ramp := .down s.time } ∧
      s.keepsBits t [F.BLD_CTRL_RUN, F.BLD_STATUS_RAMPING] ∧ t = { s with regs := t.regs, bl := t.bl }) ∧
    (∀ at0 : Time, s.bl.ramp = .down at0 → Leaves (exec .backlightRampDownDone s) fun t =>
      t.bl.ramp = .off ∧ t.bl.win = none ∧ t.fld F.BLD_VB_V_B = 0 ∧ t.flag F.BLD_STATUS_RAMPING = false ∧
      s.keepsBits t [F.BLD_STATUS_RAMPING, F.BLD_VB_V_B] ∧ t = { s with regs := t.regs, bl := t.bl })) ∧
  (∀ s : State, s.on .light = true →
    (∀ code : Fin 8, 1 ≤ code.val → code.val ≤ 5 → s.bl.latch = none → Leaves (exec (.stageFault code) s) fun t =>
      t.bl.latch = some code.val ∧ t.bl.ramp = .off ∧ t.bl.win = none ∧ t.bl.faultAt = some s.time ∧ t.fld F.BLD_VB_V_B = 0 ∧
      t.flag F.BLD_STATUS_RAMPING = false ∧ t.flag F.BLD_STATUS_STAGE_LATCH = true ∧ t.fld F.BLD_STATUS_STAGE_CODE = code.val ∧
      t.flag F.BLD_CTRL_RUN = s.flag F.BLD_CTRL_RUN ∧ ∀ a, recordByte a = false → t.byte a = s.byte a) ∧
    (∀ code : Fin 8, s.bl.latch ≠ none → exec (.stageFault code) s = .next s) ∧
    (s.bl.latch.isSome = true → s.flag F.BLD_CTRL_RUN = false → Leaves (exec (.stageClr false) s) fun t =>
      t.bl = { s.bl with latch := none } ∧ t.flag F.BLD_STATUS_STAGE_LATCH = false ∧ t.fld F.BLD_STATUS_STAGE_CODE = 0 ∧
      s.keepsBits t [F.BLD_STATUS_STAGE_LATCH, F.BLD_STATUS_STAGE_CODE] ∧ t = { s with regs := t.regs, bl := t.bl }) ∧
    (s.bl.latch.isSome = true → s.flag F.BLD_CTRL_RUN = true → Leaves (exec (.stageClr false) s) fun t =>
      t.bl.latch = none ∧ t.bl.ramp = .rising ∧ t.flag F.BLD_CTRL_RUN = true ∧ t.mem = s.mem) ∧
    (s.on .ctrl = true → s.acts .light = true → s.bl.latch = none → s.allDark = true → s.bl.nbr = false → s.flag F.BLD_CTRL_RUN = false →
      s.bl.ramp = .off → s.reg R.BLD_CTRL = 0 → Leaves (exec .nbrStart s) fun t =>
        t.bl = { s.bl with nbr := true } ∧ t.flag F.BLD_STATUS_NBR_BUSY = true ∧ t.mem = s.mem) ∧
    (∀ pairs : List (Nat × Nat), s.bl.nbr = true → s.mail.cmds = [] → Leaves (exec (.nbrTestDone pairs) s) fun t =>
      t.bl.nbr = false ∧ t.flag F.BLD_STATUS_NBR_BUSY = false ∧
      (∀ row col, (row, col) ∈ pairs → row < s.nRow → col + 1 < s.nCol →
        (t.zone (zoneIx col row)).neighbour = true ∧ (t.zone (zoneIx col row + 1)).neighbour = true ∧
        t.flag F.BLD_STATUS_NBR_FAULT = true) ∧
      (∀ a, recordByte a = false → t.byte a = s.byte a)) ∧
    (∀ pairs : List (Nat × Nat), s.bl.nbr = true → exec (.nbrTestDone pairs) s =
      .next ((pairs.filter fun p => p.1 < s.nRow && p.2 + 1 < s.nCol).foldl State.nbrPair
        ((s.setFlag F.BLD_STATUS_NBR_BUSY false).setBl { s.bl with nbr := false })).tellNbr))

/-- The expansion chain. XCHAIN_COUNT counts whole chips of 64 bits, and more than 32 are an error of the chain; a transfer
shifts its words out last chip first, and what returns must be the words of the transfer before it, or after STATUS one good status
word a chip: anything else is an error, which ends the chain's use until it is counted again. -/
def Obligations.ExpansionChain : Prop :=
  ∀ s : State, s.on .light = true → s.flag F.BLD_CTRL_X_EN = true →
    (∀ bits : Nat, s.bl.xcount = true → bits < 64 * 33 → Leaves (exec (.xchainCount bits) s) fun t =>
      t.fld F.BLD_XSTAT_CHIPS = bits / 64 ∧ t.flag F.BLD_XSTAT_CHAIN_OK = true ∧
      t.bl = { s.bl with xcount := false, xlast := List.replicate (bits / 64) 0, xstatus := false } ∧
      s.keepsBits t [F.BLD_XSTAT_CHIPS, F.BLD_XSTAT_CHAIN_OK] ∧ t = { s with regs := t.regs, bl := t.bl }) ∧
    (∀ bits : Nat, s.bl.xcount = true → 64 * 33 ≤ bits → Leaves (exec (.xchainCount bits) s) fun t =>
      t.bl = { s.bl with xcount := false, xqueue := [] } ∧ t.flag F.BLD_STATUS_XCHAIN_ERR = true ∧
      t.flag F.BLD_XSTAT_CHAIN_OK = false ∧ t.fld F.BLD_XSTAT_ERRORS = min (s.fld F.BLD_XSTAT_ERRORS + 1) 255 ∧
      ∀ a, recordByte a = false → t.byte a = s.byte a) ∧
    (∀ (k : XKind) (rest : List XKind) (ret : List (BitVec 64)), s.bl.xqueue = k :: rest → s.flag F.BLD_XSTAT_CHAIN_OK = true →
      (k ≠ .sync → (if s.bl.xstatus then ret.length = s.fld F.BLD_XSTAT_CHIPS ∧ ∀ w ∈ ret, xStatusOk w.toNat = true
          else ret.map (·.toNat) = s.bl.xlast) → exec (.xchainTransfer ret) s = .next { s with bl := { s.bl with
        xqueue := rest, xstatus := decide (k = .status)
        xlast := (List.range (s.fld F.BLD_XSTAT_CHIPS)).map fun i => s.xWord k (s.fld F.BLD_XSTAT_CHIPS - 1 - i) } }) ∧
      (¬ (if s.bl.xstatus then ret.length = s.fld F.BLD_XSTAT_CHIPS ∧ ∀ w ∈ ret, xStatusOk w.toNat = true
          else ret.map (·.toNat) = s.bl.xlast) → Leaves (exec (.xchainTransfer ret) s) fun t =>
        t.bl.xqueue = [] ∧ t.flag F.BLD_STATUS_XCHAIN_ERR = true ∧ t.flag F.BLD_XSTAT_CHAIN_OK = false ∧
        t.fld F.BLD_XSTAT_ERRORS = min (s.fld F.BLD_XSTAT_ERRORS + 1) 255 ∧ ∀ a, recordByte a = false → t.byte a = s.byte a))


/-! ### Column link, panel lines, elastic slots, gate program, bias -/

/-- The back channel. SYNC carries the frame's number, clears every lane's REPLY.VALID and opens the window; a good reply shows its
status, frame and region count with VALID set, and a FAILED lane whose reply shows LOCK returns to service; a missing reply that was
expected is counted. At line LAST + 1 a lane that lost lock, missed twice or was asked for is marked for a retrain, and fails where its
mark is three frames old. A roll call puts the locked lanes into service, and ends the bring-up once all are. -/
def Obligations.BackChannel : Prop :=
  ∀ s : State, s.on .panel = true →
    (s.flag F.COL_CTRL_RUN = true → s.rs.running = true → Leaves (exec .backChannelSync s) fun t =>
      t.col = { s.col with synced := true, sync := backFrame [0xA5, BitVec.ofNat 8 (s.frame.toNat % 256)] } ∧
      (∀ l, l < 24 → t.flag (F.COL_REPLY_VALID l) = false) ∧
      s.keepsBits t ((List.range 24).map fun l => F.COL_REPLY_VALID l) ∧ t = { s with regs := t.regs, col := t.col, rs := t.rs }) ∧
    (∀ (lane : Fin 24) (b : List Byte), s.col.synced = true → s.col.lanes.length = 24 → (s.cl lane).replied = false →
      bitOf (s.live R.COL_LANES) lane = true →
      (replyOk lane (s.cl lane).regionsPrev.length b = true → (s.cl lane).regionsPrev.length < 16 →
        Leaves (exec (.columnReply lane (some b)) s) fun t =>
          t.fld (F.COL_REPLY_STATUS lane) = byteAt b 1 ∧ t.flag (F.COL_REPLY_VALID lane) = true ∧ (t.cl lane).replied = true ∧
          ((s.cl lane).failedAt = none → t.mem = s.mem ∧
            (t.cl lane).misses = if (s.cl lane).expected then 0 else (s.cl lane).misses) ∧
          ((s.cl lane).failedAt ≠ none → (s.cl lane).expected = true → (byteAt b 1).testBit 0 = true → (byteAt b 1).testBit 3 = false →
            (t.cl lane).failedAt = none ∧ bitOf (t.reg R.COL_FAILED) lane = false ∧ bitOf (t.reg R.COL_INSERVICE) lane = true)) ∧
      ((s.cl lane).expected = true → Leaves (exec (.columnReply lane none) s) fun t =>
        t.fld F.COL_CNT_MISSING = min (s.fld F.COL_CNT_MISSING + 1) (2 ^ F.COL_CNT_MISSING.width - 1) ∧
        t.cl lane = { s.cl lane with replied := true, misses := (s.cl lane).misses + 1 } ∧
        s.keepsBits t [F.COL_CNT_MISSING, F.RNG_STRAY_VAL] ∧ t.mem = s.mem)) ∧
    (s.flag F.COL_CTRL_RUN = true → s.rs.running = true → s.col.lanes.length = 24 → Leaves (exec .laneRetrainMark s) fun t =>
      ∀ l ∈ s.colLanes, ∀ (x : ColLane) (mark : Prop), x = s.cl l → x.failedAt = none →
        (mark ↔ (s.flag (F.COL_REPLY_VALID l) = true ∧ x.expected = true ∧
            ((s.fld (F.COL_REPLY_STATUS l)).testBit 0 = false ∨ (s.fld (F.COL_REPLY_STATUS l)).testBit 3 = true)) ∨
          (2 ≤ x.misses ∧ x.expected = true) ∨ x.asked = true) →
        (¬ mark → t.cl l = { x with asked := false }) ∧
        (mark → (∀ m, x.retrainAt = some m → (s.frame - m).toNat ≠ 3) →
          t.cl l = { x with marked := true, retrainAt := some s.frame, asked := false }) ∧
        (∀ m, mark → x.retrainAt = some m → (s.frame - m).toNat = 3 →
          t.cl l = { x with failedAt := some s.frame, asked := false, misses := 0 } ∧ bitOf (t.reg R.COL_FAILED) l = true ∧
          bitOf (t.reg R.COL_INSERVICE) l = false ∧ t.flag F.COL_STATUS_LANE_FAIL = true)) ∧
    (∀ locked : Word, s.flag F.COL_CTRL_RUN = true → s.col.bringing = true →
      ((∀ l, bitOf (s.live R.COL_LANES) l = true → bitOf locked l = true) → Leaves (exec (.rollCall locked) s) fun t =>
        t.reg R.COL_INSERVICE = s.live R.COL_LANES ∧ t.reg R.COL_TRAINING = 0 ∧ t.flag F.COL_STATUS_BRINGUP_DONE = true ∧
        t.col.bringing = false ∧ s.keepsBits t [whole R.COL_INSERVICE, whole R.COL_TRAINING, F.COL_STATUS_BRINGUP_DONE] ∧
        t.mem = s.mem) ∧
      (∀ l, l < 24 → bitOf (s.live R.COL_LANES) l = true → bitOf locked l = false → bitOf (s.reg R.COL_INSERVICE) l = false →
        s.col.rolls + 1 < 10 → Leaves (exec (.rollCall locked) s) fun t =>
          t.reg R.COL_INSERVICE = ((s.reg R.COL_INSERVICE ||| locked) &&& s.live R.COL_LANES) ∧ bitOf (t.reg R.COL_TRAINING) l = true ∧
          t.col.bringing = true ∧ t.col.rolls = s.col.rolls + 1 ∧ t.mem = s.mem)) ∧
    (∀ locked : Word, s.flag F.COL_CTRL_RUN = true → s.col.bringing = false → s.col.rateRoll = true →
      Leaves (exec (.rollCall locked) s) fun t => t.reg R.COL_INSERVICE = s.live R.COL_LANES &&& ~~~(s.reg R.COL_FAILED) ∧
        t.reg R.COL_TRAINING = 0 ∧ t.col.rateRoll = false ∧ t.mem = s.mem)

/-- A plane's line fetched while the store holds no error joins its buffer: its pixels are the stored ones, black outside the
stored area, those it keeps after a move, or for a bypassing base plane those that have arrived from the stream; the fill
rises by its width. A bypass line that is not there yet waits. COLUMN_LINE_SEND of the line in turn: in phase 0 the line is
composed once, with a code for every pixel, and every lane that carries packets sends the LOAD set of the line before and its
line packet; phase 1 of dual mode sends the same pixels after its LOAD set; after the last active line the LOAD set goes
alone. -/
def Obligations.PanelLines : Prop :=
  (∀ (plane : Fin 3) (y : Nat) (s : State), s.scanning = true → y < s.vActive → s.planeLine plane y = true → s.vid.flips = [] →
    (∀ l, (s.pipe.lines.getD plane []).getLast? = some l → l.1 < y) →
    s.vid.weirFill.getD plane 0 + s.planeWidth plane ≤ s.weirCap plane →
    s.rs.line ≤ s.vStart + y → s.pipe.lines.length = 3 → s.pipe.last.length = 3 → s.vid.weirFill.length = 3 →
    (∀ px : List Px,
      ((s.bypassed plane = false ∧ s.keptOf plane = none ∧ px = ((List.range (s.planeWidth plane)).map fun x =>
          match s.fetchAt plane x y with
          | none => Px.black
          | some (line, lx, _) => s.rawPixel line lx)) ∨
        (s.bypassed plane = false ∧ ∃ k, s.keptOf plane = some k ∧ px = k.rows.getD (y - k.plane.destY) []) ∨
        (s.bypassed plane = true ∧ s.bypassLine y = some px)) →
      Leaves (exec (.weirLineFetch plane y []) s) fun t =>
        t.pipe.lines.getD plane [] = s.pipe.lines.getD plane [] ++ [(y, px)] ∧ t.pipe.last.getD plane [] = px ∧
        t.vid.weirFill.getD plane 0 = s.vid.weirFill.getD plane 0 + s.planeWidth plane ∧ t.mem = s.mem) ∧
    (s.bypassed plane = true → s.bypassLine y = none → exec (.weirLineFetch plane y []) s = .next (s.reachPos (s.vStart - 4) 0))) ∧
  (∀ (y : Nat) (s : State), s.on .panel = true → s.flag F.COL_CTRL_RUN = true → s.flag F.BIAS_STATUS_UP_DONE = true →
    s.scanning = true → s.col.fits = true → s.col.lanes.length = 24 →
    (y < s.vActive → s.colDual = false → s.col.load = (if y = 0 then none else some (y - 1, 0)) →
      Leaves (exec (.columnLineSend y 0 []) s) fun t => ∃ px : List Px, px.length = s.hActive ∧
        px = (((s.reachPos (s.vStart + y) 0).strayAct ownCol (s.vStart + y) 0).lineCodes y).1 ∧
        t.col.load = some (y, 0) ∧ t.col.codes = some (y, px) ∧
        ∀ l i, s.colLanes.idxOf? l = some i → (s.cl l).carried = true →
          (t.cl l).linePacket = (if y = 0 then [] else loadSet 0) ++ colFrame symSOL (s.linePacketOf y 0 i l px)) ∧
    (∀ px : List Px, y < s.vActive → s.colDual = true → s.col.load = some (y, 0) → s.col.codes = some (y, px) →
      Leaves (exec (.columnLineSend y 1 []) s) fun t => t.col.load = some (y, 1) ∧ t.col.codes = some (y, px) ∧
        s.keepsBits t [F.RNG_STRAY_VAL] ∧ t.mem = s.mem ∧
        ∀ l i, s.colLanes.idxOf? l = some i → (s.cl l).carried = true →
          (t.cl l).linePacket = (if y = 0 then [] else loadSet 1) ++ colFrame symSOL (s.linePacketOf y 1 i l px)) ∧
    (y = s.vActive → 0 < y → s.colDual = false → s.col.load = some (y - 1, 0) →
      Leaves (exec (.columnLineSend y 0 []) s) fun t => t.col.load = some (y, 0) ∧ t.col.codes = some (y, []) ∧
        s.keepsBits t [F.RNG_STRAY_VAL] ∧ t.mem = s.mem ∧
        ∀ l ∈ s.colLanes, (s.cl l).carried = true → (t.cl l).linePacket = loadSet 0))

/-- Demura bands and history lines, while the store holds no error. A band whose segments decode joins the band buffer; both
history lines of a line are decoded from their areas; a line is written back in its first form that fits, q = 1 before all others, with
its index entry, and a line whose old history is not fetched waits, held with its three forms, and is counted. -/
def Obligations.CorrectionLines : Prop :=
  (∀ (band : Nat) (d : DmrSet) (segs : List (List Px)) (s : State), s.pipe.dmr = some d → s.scanning = true → s.dmrMisfit = false →
    band < d.bands → band ≠ 0 → s.pipe.bands.any (fun b => decide (b.band = band)) = false → s.vid.flips = [] →
    dmrSegments d band (3 * d.strips) 0 (s.fstRead (d.base + d.dir.getD band 0) (d.dir.getD (band + 1) 0 - d.dir.getD band 0)) [] =
      .inr segs → Leaves (exec (.demuraBandFetch band []) s) fun t =>
      t.pipe = { s.pipe with bands := keepBands (s.pipe.bands ++ [⟨band, some segs⟩]) } ∧ t.regs = s.regs ∧ t.mem = s.mem) ∧
  (∀ (y : Nat) (s : State), s.scanning = true → y < s.vActive → s.fld F.ODV_STATE_BYPASS = 0 → s.vid.flips = [] →
    s.pipe.hist.any (fun h => decide (h.y = y)) = false → (∀ h ∈ s.vid.histHeld, h.1 ≠ y) →
    Leaves (exec (.historyLineFetch y []) s) fun t =>
      (let one := fun (area : Nat) => histDecode s.hActive (s.mle (fstBase + s.histIdx area y) 2)
        (s.fstRead (s.histLine area y) (histSlot s.hActive))
      t.pipe.hist = s.pipe.hist ++ [⟨y, one (1 - s.frame.toNat % 2), one (s.frame.toNat % 2)⟩]) ∧
      t.vid.histFetched = s.vid.histFetched ++ [y] ∧ t.mem = s.mem ∧ s.keepsBits t [F.ODV_CNT_RAW5]) ∧
  (∀ (y : Nat) (c1 c3 c5 : List Byte) (line : List Px) (s : State), s.pipe.targets.find? (fun t => decide (t.1 = y)) = some (y, line) →
    s.scanning = true → s.flag F.SLU_STATUS_HIST_ON = true → s.vid.histHeld.any (fun h => decide (h.1 = y)) = false →
    (s.fld F.ODV_STATE_BYPASS = 0 → s.vid.histFetched.contains y = false → Leaves (exec (.historyLineWrite y c1 c3 c5) s) fun t =>
      t.flag F.SLU_EVENT_HIST_WAIT = true ∧ s.keepsBits t [F.SLU_EVENT_HIST_WAIT, F.SLU_HIST_WAIT_VAL] ∧
      t.fld F.SLU_HIST_WAIT_VAL = min (s.fld F.SLU_HIST_WAIT_VAL + 1) (2 ^ F.SLU_HIST_WAIT_VAL.width - 1) ∧
      t = { s with regs := t.regs, vid := { s.vid with histHeld := s.vid.histHeld ++ [(y, c1, c3, c5)] } }) ∧
    (s.vid.histFetched.contains y = true → s.vid.flips = [] → histFits (line.map fun p => p.map narrowHist) 1 c1 = true →
      Leaves (exec (.historyLineWrite y c1 c3 c5) s) fun t =>
        t.mem = ((s.setBytes (fstBase + s.histLine (s.frame.toNat % 2) y) c1).setBytes (fstBase + s.histIdx (s.frame.toNat % 2) y)
          (leBytes 2 ((if s.crossesWindow y then 4 else 0) + 16 * ceilDiv c1.length 8))).mem ∧
        t.fld F.SLU_HIST_CNT0_Q1 = min (s.fld F.SLU_HIST_CNT0_Q1 + 1) (2 ^ F.SLU_HIST_CNT0_Q1.width - 1) ∧
        s.keepsBits t [F.SLU_HIST_CNT0_Q1] ∧ t.vid.histWritten = s.vid.histWritten + 1 ∧
        t.pipe.targets = s.pipe.targets.filter fun t => decide (t.1 ≠ y)))

/-- An elastic slot goes to the first eligible class: the slot is counted as used by it and the class works in it, a class cut
short at the slot's end keeps the resource, and a slot that no class takes does nothing. The guard tick forces a unit that still holds
the resource off and counts it, unless the next slot goes to its class. -/
def Obligations.ElasticSlots : Prop :=
  (∀ (i : SlotInfo) (s u : State), s.ringRuns = true → s.on .ctrl = true → i.slot ≤ 63 → s.rng.holder = none → i.ups = [] →
    s.rng.slot ≠ some (i.line, i.slot) → s.vid.scrubFly = none → u = s.reachPos i.line (4 * i.slot) →
    (u.slotClass u.slotWork i.line i.slot = none → exec (.elasticSlotGrant i) s = .next u) ∧
    (∀ r, u.slotClass u.slotWork i.line i.slot = some 1 → s.cal.run = some r → i.cut = false → exec (.elasticSlotGrant i) s =
      .next { u with cal := { u.cal with run := some { r with slots := r.slots + 1 } }
                     rng := { u.rng with used := listSet u.rng.used 1 (u.rng.used.getD 1 0 + 1), slot := some (i.line, i.slot) } }) ∧
    (∀ c, u.slotClass u.slotWork i.line i.slot = some c → i.cut = false →
      exec (.elasticSlotGrant i) s = .next (((u.useSlot c i.line i.slot).slotAct c i).scrubLand i.fly)) ∧
    (∀ c, u.slotClass u.slotWork i.line i.slot = some c → c = 0 ∨ c = 2 → i.cut = true →
      exec (.elasticSlotGrant i) s = .next { u with rng := { u.rng with
        used := listSet u.rng.used c (u.rng.used.getD c 0 + 1), slot := some (i.line, i.slot), holder := some c } })) ∧
  (∀ s : State, s.rng.holder.isSome = true →
    (s.keepsSlot = false → Leaves (exec .guardTickRelease s) fun t =>
      t.rng = { s.rng with holder := none } ∧
      t.fld F.RNG_GUARD_ABORT_VAL = min (s.fld F.RNG_GUARD_ABORT_VAL + 1) (2 ^ F.RNG_GUARD_ABORT_VAL.width - 1) ∧
      s.keepsBits t [F.RNG_GUARD_ABORT_VAL] ∧ t = { s with regs := t.regs, rng := t.rng, rs := t.rs }) ∧
    (s.keepsSlot = true → Leaves (exec .guardTickRelease s) fun t => t = { s with rs := t.rs }))

/-- The nine instructions of a gate program, each the one in turn, and the scan-end crossing: what each does, the position where it
completes, up to eight in a tick, and the instruction after it. An instruction whose position the frame in progress can no longer have
waits. -/
def Obligations.GateProgram : Prop :=
  (∀ (s : State) (w : Word) (pc : Nat), pc = s.fld F.GSQ_PC_PC → s.gate.inTick < 8 → pc + 1 < s.gProgram.length →
    (s.gFetch 0 = some w → Leaves (exec .gateEnd s) fun t =>
      t.gate = { s.gate with inTick := s.gate.inTick + 1, ended := true } ∧ t.flag F.GSQ_PC_RUNNING = false ∧
      t.fld F.GSQ_OUT_LEVELS = 0 ∧ s.keepsBits t [F.GSQ_PC_RUNNING, F.GSQ_OUT_LEVELS] ∧ t.mem = s.mem) ∧
    (s.gFetch 1 = some w →
      (s.gInFrame (max s.gate.line (bitsOf w 0 16)) = false → exec .gateWaitLine s = .next s) ∧
      (s.gInFrame (bitsOf w 0 16) = true → s.gate.line < bitsOf w 0 16 → Leaves (exec .gateWaitLine s) fun t =>
        t.gate = { s.gate with line := bitsOf w 0 16, tick := 0, inTick := 1 } ∧ t.fld F.GSQ_PC_PC = (pc + 1) % 512 ∧
        s.keepsBits t [F.GSQ_PC_PC] ∧ t.mem = s.mem) ∧
      (s.gInFrame s.gate.line = true → bitsOf w 0 16 < s.gate.line ∨ (bitsOf w 0 16 = s.gate.line ∧ s.gate.tick ≠ 0) →
        Leaves (exec .gateWaitLine s) fun t =>
          t.gate = { s.gate with inTick := s.gate.inTick + 1 } ∧ t.flag F.GSQ_STATUS_LATE_WAIT = true ∧
          t.fld F.GSQ_CNT_LATE_WAIT = min (s.fld F.GSQ_CNT_LATE_WAIT + 1) 255 ∧ t.fld F.GSQ_PC_PC = (pc + 1) % 512 ∧
          s.keepsBits t [F.GSQ_PC_PC, F.GSQ_STATUS_LATE_WAIT, F.GSQ_CNT_LATE_WAIT] ∧ t.mem = s.mem)) ∧
    (∀ p, s.gFetch 2 = some w → p = nextTick s.gate.line s.gate.tick (bitsOf w 0 8) →
      (s.gInFrame p.1 = true → Leaves (exec .gateWaitTick s) fun t =>
        t.gate = { s.gate with line := p.1, tick := p.2, inTick := 1 } ∧ t.fld F.GSQ_PC_PC = (pc + 1) % 512 ∧
        s.keepsBits t [F.GSQ_PC_PC] ∧ t.mem = s.mem) ∧
      (s.gInFrame p.1 = false → exec .gateWaitTick s = .next s)) ∧
    (∀ (p : Nat × Nat) (n : Nat), s.gInFrame p.1 = true →
      (if bitsOf w 17 1 = 1 then p = (s.gate.line, s.gate.tick) ∧ n = s.gate.inTick + 1
        else p = nextTick s.gate.line s.gate.tick (bitsOf w 18 8) ∧ n = 1) →
      (s.gFetch 3 = some w → Leaves (exec .gateOut s) fun t =>
        t.gate = { s.gate with line := p.1, tick := p.2, inTick := n } ∧ t.fld F.GSQ_PC_PC = (pc + 1) % 512 ∧
        (∀ i, i < 17 → (t.fld F.GSQ_OUT_LEVELS).testBit i = if w.getLsbD i = false then (s.fld F.GSQ_OUT_LEVELS).testBit i
          else if bitsOf w 26 2 = 0 then true else if bitsOf w 26 2 = 1 then false else !(s.fld F.GSQ_OUT_LEVELS).testBit i) ∧
        s.keepsBits t [F.GSQ_PC_PC, F.GSQ_OUT_LEVELS, F.RNG_STRAY_VAL] ∧ t.mem = s.mem) ∧
      (∀ ph np, s.gFetch 4 = some w → ph = s.fld F.GSQ_PC_PH → np = nPhase (s.liveFld F.GSQ_CTRL_NPHASE) →
        Leaves (exec .gateClk s) fun t =>
          t.gate = { s.gate with line := p.1, tick := p.2, inTick := n } ∧ t.fld F.GSQ_PC_PC = (pc + 1) % 512 ∧
          t.fld F.GSQ_PC_PH = (if bitsOf w 0 1 = 1 then (ph + 1) % np % 16 else ph) ∧
          (∀ i, i < 17 → (t.fld F.GSQ_OUT_LEVELS).testBit i =
            if bitsOf w 2 1 = 1 ∧ i = (ph + bitsOf w 4 4) % np then false
            else if bitsOf w 1 1 = 1 ∧ i = (ph + bitsOf w 8 4) % np then true else (s.fld F.GSQ_OUT_LEVELS).testBit i) ∧
          s.keepsBits t [F.GSQ_PC_PC, F.GSQ_PC_PH, F.GSQ_OUT_LEVELS, F.RNG_STRAY_VAL] ∧ t.mem = s.mem)) ∧
    (s.gFetch 5 = some w → Leaves (exec .gateLoop s) fun t =>
      t.gate = { s.gate with inTick := s.gate.inTick + 1, loops := (pc + 1, bitsOf w 0 16) :: s.gate.loops } ∧
      t.fld F.GSQ_PC_PC = (pc + 1) % 512 ∧ s.keepsBits t [F.GSQ_PC_PC] ∧ t.mem = s.mem) ∧
    (∀ (body n : Nat) (rest : List (Nat × Nat)), s.gFetch 6 = some w → s.gate.loops = (body, n) :: rest →
      body < s.gProgram.length → Leaves (exec .gateNext s) fun t =>
        t.gate = { s.gate with inTick := s.gate.inTick + 1, loops := if 1 < n then (body, n - 1) :: rest else rest } ∧
        t.fld F.GSQ_PC_PC = (if 1 < n then body % 512 else (pc + 1) % 512) ∧ s.keepsBits t [F.GSQ_PC_PC] ∧ t.mem = s.mem) ∧
    (s.gFetch 7 = some w → Leaves (exec .gateSense s) fun t =>
      t.gate = { s.gate with inTick := s.gate.inTick + 1
                             windowDone := s.gate.windowDone || (decide (bitsOf w 0 1 ≠ 1) && s.flag F.GSQ_PC_SENSE_OPEN) } ∧
      t.flag F.GSQ_PC_SENSE_OPEN = decide (bitsOf w 0 1 = 1) ∧ t.fld F.GSQ_PC_PC = (pc + 1) % 512 ∧
      s.keepsBits t [F.GSQ_PC_PC, F.GSQ_PC_SENSE_OPEN] ∧ t.mem = s.mem) ∧
    (s.gFetch 8 = some w → Leaves (exec .gatePhSet s) fun t =>
      t.gate = { s.gate with inTick := s.gate.inTick + 1 } ∧ t.fld F.GSQ_PC_PH = bitsOf w 0 4 ∧
      t.fld F.GSQ_PC_PC = (pc + 1) % 512 ∧ s.keepsBits t [F.GSQ_PC_PC, F.GSQ_PC_PH] ∧ t.mem = s.mem)) ∧
  (∀ (s : State) (w : Word), s.gFetch 8 = some w → 8 ≤ s.gate.inTick → s.fld F.GSQ_PC_PC + 1 < s.gProgram.length →
    Leaves (exec .gatePhSet s) fun t => (t.gate.line, t.gate.tick, t.gate.inTick) =
      (if s.gate.tick = 255 then (s.gate.line + 1, 0, 1) else (s.gate.line, s.gate.tick + 1, 1)) ∧
      t.flag F.GSQ_STATUS_SLIP = true ∧ t.fld F.GSQ_CNT_SLIP = min (s.fld F.GSQ_CNT_SLIP + 1) 255) ∧
  (∀ (ns : Nat) (s : State), s.on .panel = true → s.flag F.GSQ_PC_SENSE_OPEN = true →
    (200 ≤ ns → exec (.scanEndCrossing ns) s = .next { s with gate := { s.gate with crossings := s.gate.crossings + 1 } }) ∧
    (ns < 200 → exec (.scanEndCrossing ns) s = .next s))

/-- The bias supply. UP written 1 with the rails down starts the rise at step 2, UP written 0 with the rails up the fall at step 1;
a step that ends shows the measured voltages, has switched its rail and starts its successor, in R434's order up and R435's down; a
rail fault names its rail, and outside a fall it starts one and the panel fault; an overload turns its connector's supply off. -/
def Obligations.BiasSequences : Prop :=
  ∀ s : State, s.acts .panel = true →
    (s.fld F.BIAS_STATUS_SEQ_STEP = 0 → s.flag F.BIAS_STATUS_UP_DONE = false → Leaves (exec .biasPowerUp s) fun t =>
      t.flag F.BIAS_CTRL_UP = true ∧ t.flag F.BIAS_STATUS_DIR = true ∧ t.fld F.BIAS_STATUS_SEQ_STEP = 2 ∧
      s.keepsBits t [F.BIAS_CTRL_UP, F.BIAS_STATUS_DIR, F.BIAS_STATUS_SEQ_STEP] ∧ t = { s with regs := t.regs }) ∧
    (s.fld F.BIAS_STATUS_SEQ_STEP = 0 → Leaves (exec .biasPowerDown s) fun t =>
      t.flag F.BIAS_CTRL_UP = false ∧ t.flag F.BIAS_STATUS_DIR = false ∧ t.flag F.BIAS_STATUS_UP_DONE = false ∧
      t.fld F.BIAS_STATUS_SEQ_STEP = 1 ∧ t = { s with regs := t.regs }) ∧
    (∀ (m0 m1 m2 : Word) (n : Nat), n = s.fld F.BIAS_STATUS_SEQ_STEP → n ≠ 0 → s.bias.next = none → s.mail.cmds = [] →
      Leaves (exec (.biasStepDone m0 m1 m2) s) fun t =>
        (s.flag F.BIAS_STATUS_DIR = true ∨ n ≠ 8 ∨ s.bias.panelOff = false →
          t.reg R.BIAS_MEAS0 = m0 ∧ t.reg R.BIAS_MEAS1 = m1 ∧ t.reg R.BIAS_MEAS2 = m2 ∧ t.mem = s.mem) ∧
        (s.flag F.BIAS_STATUS_DIR = true →
          (n = 2 → t.bias = { s.bias with vddPl := true, vddPlB := true } ∧ t.fld F.BIAS_STATUS_SEQ_STEP = 4 ∧
            t.flag F.COL_CTRL_RUN = true ∧ t.reg R.COL_TRAINING = s.live R.COL_LANES ∧ t.col.bringing = true) ∧
          (n = 4 → t.bias = { s.bias with avdd := true } ∧ t.fld F.BIAS_STATUS_SEQ_STEP = 5) ∧
          (n = 5 → t.bias = { s.bias with vgl := true } ∧ t.fld F.BIAS_STATUS_SEQ_STEP = 6) ∧
          (n = 6 → t.bias = { s.bias with vgh := true } ∧ t.fld F.BIAS_STATUS_SEQ_STEP = 7 ∧ t.fld F.GSQ_OUT_LEVELS = 65536 ∧
            t.flag F.GSQ_OUT_DIR_F = s.liveFlag F.GSQ_CTRL_DIR_FWD) ∧
          (n = 7 → t.bias = s.bias ∧ t.fld F.BIAS_STATUS_SEQ_STEP = 8 ∧ (t.fld F.GSQ_OUT_LEVELS).testBit 16 = false) ∧
          (n = 8 → t.bias = { s.bias with vcom := true }) ∧
          (n = 8 ∨ n = 3 → t.flag F.BIAS_STATUS_UP_DONE = (s.flag F.COL_STATUS_BRINGUP_DONE || s.flag F.BIAS_STATUS_UP_DONE) ∧
            t.fld F.BIAS_STATUS_SEQ_STEP = if s.flag F.COL_STATUS_BRINGUP_DONE then 0 else 3)) ∧
        (s.flag F.BIAS_STATUS_DIR = false →
          (n = 1 → t.bias = s.bias ∧ t.fld F.GSQ_OUT_LEVELS % 65536 = 0 ∧ t.flag F.GSQ_PC_RUNNING = false) ∧
          (n = 3 → t.bias = { s.bias with vcom := false }) ∧ (n = 4 → t.bias = { s.bias with avdd := false }) ∧
          (n = 5 → t.bias = { s.bias with vgh := false }) ∧ (n = 6 → t.bias = { s.bias with vgl := false }) ∧
          (n = 7 → t.bias = { s.bias with vddPl := false, vddPlB := false } ∧ t.flag F.COL_CTRL_RUN = false) ∧
          (n < 8 → t.fld F.BIAS_STATUS_SEQ_STEP = t.bias.nextDown (n + 1)) ∧
          (n = 8 → s.bias.panelOff = false → t.bias = s.bias ∧ t.fld F.BIAS_STATUS_SEQ_STEP = 0) ∧
          (n = 8 → s.bias.panelOff = true → t.on .panel = false))) ∧
    (∀ rail : Fin 8, rail ≠ 0 → s.flag F.BIAS_STATUS_UP_DONE = true → s.fld F.BIAS_STATUS_SEQ_STEP = 0 →
      Leaves (exec (.railFault rail) s) fun t =>
        t.flag F.BIAS_STATUS_RAIL_FAULT = true ∧ t.fld F.BIAS_STATUS_FAULT_RAIL = rail.val ∧ t.flag F.BIAS_STATUS_DIR = false ∧
        t.fld F.BIAS_STATUS_SEQ_STEP = 1 ∧ t.bias.panelOff = true ∧ t.pw.panelFault = true ∧ t.mode = .boot ∧
        t.on .light = false ∧ t.on .link = false ∧ t.rs.running = false) ∧
    (∀ rail : Fin 8, rail ≠ 0 → s.fld F.BIAS_STATUS_SEQ_STEP ≠ 0 → s.flag F.BIAS_STATUS_DIR = false →
      Leaves (exec (.railFault rail) s) fun t => s.recorded t) ∧
    (∀ conn : Fin 2, (if conn = 0 then s.bias.vddPl else s.bias.vddPlB) = true → s.fld F.BIAS_STATUS_SEQ_STEP = 0 →
      Leaves (exec (.vddPlOverload conn) s) fun t =>
        (t.bias.vddPl = if conn = 0 then false else s.bias.vddPl) ∧ (t.bias.vddPlB = if conn = 0 then s.bias.vddPlB else false) ∧
        t.fld F.BIAS_STATUS_SEQ_STEP = 1 ∧ t.bias.panelOff = true ∧ t.pw.panelFault = true ∧ t.mode = .boot ∧
        t.on .light = false ∧ t.on .link = false ∧ t.rs.running = false)


/-! ### Packets, link control, segment engines, commits -/

/-- A received packet on a port in UP: cut short it is counted as EAB; one whose header check fails is counted and answered
with a NAK; one already taken is acknowledged again; one that takes the expected SEQ advances it. Then: on the Chain it is
queued for the Inlet; on the Inlet one for another module is queued for the Chain, or counted where no partner is there; one
for this module is consumed, a CTRL_REQ by MB0, a STREAM_CFG by its stream, a FRAME_READY and a VIDEO_SEG by Sluice. The three
operations of an ENUM packet, told apart by the type's SPEC, that take the expected SEQ. An ASSIGN below the limit gives the
module its address, sets ENUM_BUSY, answers with a REPLY and passes the next address on to the chain, or ends the enumeration
where none follows; at the limit it only ends it. A REPLY or END of the chain goes up. ENUM_BUSY ends after its time. -/
def Obligations.PacketReception : Prop :=
  (∀ (p : Fin 2) (k : Packet) (s : State), s.acts .link = true → s.pIsUp p = true →
    ∀ c ∈ [(tVideoSeg, Instr.videoSeg p k), (tFrameReady, .frameReady p k), (tStreamCfg, .streamCfg p k), (tCtrlReq, .ctrlReq p k),
        (tCtrlRsp, .ctrlRsp p k), (tEvent, .event p k)], k.typ.toNat = c.1 →
      (k.eab = true → k.headOk = false → exec c.2 s = .next (s.countUp (F.PORT_PKT_ERR_EAB p))) ∧
      (k.eab = true → k.headOk = true → exec c.2 s = .next ((s.cutAbort p k).countUp (F.PORT_PKT_ERR_EAB p))) ∧
      (k.eab = false → k.headOk = false → exec c.2 s = .next ((s.countUp (F.PORT_PKT_ERR_HCHK p)).discardNak p)) ∧
      (k.eab = false → k.headOk = true → k.bodyOk = false →
        exec c.2 s = .next (((s.countUp (F.PORT_PKT_ERR_CRC p)).cutAbort p k).discardNak p)) ∧
      (k.eab = false → k.headOk = true → k.bodyOk = true → k.seq.toNat % 4096 ≠ s.fld (F.PORT_SEQ_EXP p) →
        isDuplicate (s.fld (F.PORT_SEQ_EXP p)) (k.seq.toNat % 4096) = true → exec c.2 s = .next (s.askLink p .ack)) ∧
      (k.eab = false → k.headOk = true → k.bodyOk = true → k.seq.toNat % 4096 = s.fld (F.PORT_SEQ_EXP p) →
        k.formOk p = true → s.mail.cmds = [] →
        (p = 1 → Leaves (exec c.2 s) fun t => t.fld (F.PORT_SEQ_EXP 1) = (s.fld (F.PORT_SEQ_EXP 1) + 1) % 4096 ∧ t.mem = s.mem ∧
          (s.pLinked 0 = true → (t.port 0).tx.queue = (s.port 0).tx.queue ++
            [outPkt c.1 (k.addr.toNat % 128) k.spec.toNat k.payload false (some (s.port 1).rx.nextId)]) ∧
          (s.pLinked 0 = false → t.fld (F.PORT_DROP_LOST 0) = min (s.fld (F.PORT_DROP_LOST 0) + 1)
            (2 ^ (F.PORT_DROP_LOST 0).width - 1) ∧ (t.port 0).tx = (s.port 0).tx)) ∧
        (p = 0 → k.addr.toNat % 128 ≠ 0x7F → (k.addr.toNat % 128 ≠ s.address ∨ s.enumerated = false) →
          Leaves (exec c.2 s) fun t => t.fld (F.PORT_SEQ_EXP 0) = (s.fld (F.PORT_SEQ_EXP 0) + 1) % 4096 ∧ t.mem = s.mem ∧
          (s.pLinked 1 = true → (t.port 1).tx.queue = (s.port 1).tx.queue ++
            [outPkt c.1 (k.addr.toNat % 128) k.spec.toNat k.payload false (some (s.port 0).rx.nextId)]) ∧
          (s.pLinked 1 = false → t.fld (F.PORT_DROP_NO_PARTNER 1) = min (s.fld (F.PORT_DROP_NO_PARTNER 1) + 1)
            (2 ^ (F.PORT_DROP_NO_PARTNER 1).width - 1) ∧ (t.port 1).tx = (s.port 1).tx)) ∧
        (∀ (st : Nat) (x : Stream), p = 0 → k.addr.toNat % 128 = s.address → s.enumerated = true → s.address ≠ 0x7F →
          k.fieldsOk = true → s.vid.waiting = [] → s.vid.streams.length = 16 → st = k.spec.toNat % 16 → x = s.stream st →
          s.thirdFrame st = false → Leaves (exec c.2 s) fun t => t.fld (F.PORT_SEQ_EXP 0) = (s.fld (F.PORT_SEQ_EXP 0) + 1) % 4096 ∧
          (c.1 = tStreamCfg → (t.stream st).configured = true ∧ (t.stream st).width = leAt k.payload 0 2 ∧
            (t.stream st).height = leAt k.payload 2 2 ∧ (t.stream st).rate = leAt k.payload 4 2 ∧
            (t.stream st).asleep = decide (byteAt k.payload 6 = 1) ∧ (t.stream st).cfgId = BitVec.ofNat 32 (leAt k.payload 8 4)) ∧
          (c.1 = tFrameReady → s.subscribed st = true → (t.stream st).asleep = false ∧ t.pw.quietFrames = 0 ∧
            t.gov.readyNow.getD st 0 = (listSet s.gov.readyNow st (s.gov.readyNow.getD st 0 + 1)).getD st 0) ∧
          (c.1 = tVideoSeg → s.subscribed st = true → x.configured = false → t.stream st = x ∧
            t.fld (F.PORT_NOCFG_NOCFG 0) = min (s.fld (F.PORT_NOCFG_NOCFG 0) + 1) (2 ^ (F.PORT_NOCFG_NOCFG 0).width - 1)) ∧
          (c.1 = tVideoSeg → s.subscribed st = true → x.configured = true → k.spec.toNat.testBit 4 = false →
            (x.receiving = none → t.flag F.SLU_EVENT_ORPHAN = true ∧ t.vid.engines = s.vid.engines ∧
              t.fld F.SLU_ERR_CNT1_ORPHAN = min (s.fld F.SLU_ERR_CNT1_ORPHAN + 1) (2 ^ F.SLU_ERR_CNT1_ORPHAN.width - 1)) ∧
            (∀ e : Fin 4, x.receiving = some (some e.val) → s.queueBytes e + k.payload.length ≤ queueCap → s.vid.engines.length = 4 →
              (∀ g ∈ s.engine e, g.started = false ∨ g.done ≠ g.head.total) →
              t.engine e = appendData st (k.spec.toNat.testBit 5) k.payload (s.engine e))) ∧
          (c.1 = tCtrlReq → s.mbDisabled 0 = false →
            (s.mail.hostWait ≠ [] → t.mail.hostWait = s.mail.hostWait ++ [(k.payload, (s.port 0).rx.nextId)]) ∧
            (s.mail.hostWait = [] → s.outstanding 0 < 16 → s.slotOwned 0 (s.fld (F.MBX_DB_TAIL 0)) = false →
              t.mail.hostWait = [] ∧ t.fld (F.MBX_DB_TAIL 0) = (s.fld (F.MBX_DB_TAIL 0) + 1) % 16 ∧
              t.bytes (slotAddr 0 (s.fld (F.MBX_DB_TAIL 0))) 32 = padTo 0#8 32 k.payload))))) ∧
  (∀ (p : Fin 2) (k : Packet) (s : State), s.acts .link = true → s.pIsUp p = true → k.typ.toNat = tEnum → k.eab = false →
    k.headOk = true → k.bodyOk = true → k.seq.toNat % 4096 = s.fld (F.PORT_SEQ_EXP p) → k.formOk p = true → s.mail.cmds = [] →
    (∀ (next : Nat) (id : List Byte), p = 0 → k.spec.toNat = opAssign → k.fieldsOk = true →
      (k.addr.toNat % 128 = 0x7F ∨ (k.addr.toNat % 128 = s.address ∧ s.enumerated = true)) →
      next = byteAt k.payload 0 → id = (k.payload.drop 4).take 4 →
      Leaves (exec (.enumAssign p k) s) fun t => t.flag (F.PORT_ADDR_ENUM_BUSY 0) = true ∧ (t.port 0).enumId = id ∧ t.mem = s.mem ∧
        (next = 64 → t.address = s.address ∧
          (t.port 0).tx.queue = (s.port 0).tx.queue ++ [outPkt tEnum s.address opEnd (enumEndBytes 64 true id) true none]) ∧
        (next < 64 → t.address = next ∧
          (s.pIsUp 1 = true → (t.port 0).tx.queue = (s.port 0).tx.queue ++
              [outPkt tEnum next opReply (t.enumReply next id) true none] ∧
            (t.port 1).tx.queue = (s.port 1).tx.queue ++ [outPkt tEnum (k.addr.toNat % 128) opAssign
              ([BitVec.ofNat 8 (next + 1), 0, 0, 0] ++ id) false (some (s.port 0).rx.nextId)]) ∧
          (s.pIsUp 1 = false → (t.port 0).tx.queue = (s.port 0).tx.queue ++
              [outPkt tEnum next opReply (t.enumReply next id) true none,
                outPkt tEnum next opEnd (enumEndBytes (next + 1) false id) true none] ∧
            (t.port 1).tx.queue = (s.port 1).tx.queue))) ∧
    (∀ c ∈ [(opReply, Instr.enumReply p k), (opEnd, .enumEnd p k)], p = 1 → k.spec.toNat = c.1 → s.pLinked 0 = true →
      Leaves (exec c.2 s) fun t => t.fld (F.PORT_SEQ_EXP 1) = (s.fld (F.PORT_SEQ_EXP 1) + 1) % 4096 ∧ t.mem = s.mem ∧
        (t.port 0).tx.queue = (s.port 0).tx.queue ++
          [outPkt tEnum (k.addr.toNat % 128) c.1 k.payload false (some (s.port 1).rx.nextId)]) ∧
    (Leaves (exec .enumBusyTimeout s) fun t => t.flag (F.PORT_ADDR_ENUM_BUSY 0) = false ∧
      s.keepsBits t [F.PORT_ADDR_ENUM_BUSY 0] ∧ t = { s with regs := t.regs }))

/-- Link control on a port in UP, with its checks passed: an ACK of an unacknowledged packet acknowledges all up to it and ends a
recovery, a NAK is counted and replays from its packet, a CREDIT sets the three limits and the first one makes the packet layer up. -/
def Obligations.LinkControl : Prop :=
  ∀ (p : Fin 2) (k : Packet) (s : State), s.acts .link = true → s.pIsUp p = true → k.eab = false → k.headOk = true → k.bodyOk = true →
    k.formOk p = true → s.mail.cmds = [] →
    (k.typ.toNat = tAck → ∀ (front : List SentPkt) (j : SentPkt) (rest : List SentPkt), (s.port p).tx.unacked = front ++ j :: rest →
      j.seq = leAt k.payload 0 2 % 4096 → (∀ i ∈ front, i.seq ≠ j.seq) → Leaves (exec (.ack p k) s) fun t =>
        (t.port p).tx.unacked = rest ∧ (t.port p).tx.replayWait = false ∧ (t.port p).tx.exhausted = false ∧
        (t.port p).tx.resend = (s.port p).tx.resend.filter (rest.map (·.seq)).contains ∧ t.regs = s.regs ∧ t.mem = s.mem) ∧
    (k.typ.toNat = tNak → Leaves (exec (.nak p k) s) fun t =>
      t.fld (F.PORT_REPLAY_NAKS p) = min (s.fld (F.PORT_REPLAY_NAKS p) + 1) (2 ^ (F.PORT_REPLAY_NAKS p).width - 1) ∧
      ∀ (front : List SentPkt) (j : SentPkt) (rest : List SentPkt), (s.port p).tx.unacked = front ++ j :: rest →
        j.seq = leAt k.payload 0 2 % 4096 → (∀ i ∈ front, i.seq ≠ j.seq) → (∀ i ∈ j :: rest, i.replays < 8) →
        (t.port p).tx = { (s.port p).tx with resend := (j :: rest).map (·.seq), afresh := false, replayWait := true } ∧
        s.keepsBits t [F.PORT_REPLAY_NAKS p] ∧ t.mem = s.mem) ∧
    (k.typ.toNat = tCredit → Leaves (exec (.credit p k) s) fun t =>
      (t.port p).tx = { (s.port p).tx with gotCredit := true, limit := ⟨leAt k.payload 0 2, leAt k.payload 2 2, leAt k.payload 4 2⟩ } ∧
      t.port (1 - p) = s.port (1 - p) ∧ t.regs = s.regs ∧ t.mem = s.mem)

/-- The timers of the packet layer and its sender on a port in UP: an ACK is due 1 µs after an accepted packet and a CREDIT after
100 µs, the replay timer counts and replays from the oldest unacknowledged packet. At a boundary a burst that is due starts; else the
link packet that waits goes first, then the replays, and an idle lane sends an IDLE_SET. -/
def Obligations.PacketTimers : Prop :=
  ∀ (p : Fin 2) (s : State), s.acts .link = true → s.pIsUp p = true →
    ((s.port p).rx.sinceAck ≠ 0 → (s.port p).tx.links = [] → Leaves (exec (.ackTimer p) s) fun t =>
      (t.port p).tx.links = [.ack] ∧ t.regs = s.regs ∧ t.mem = s.mem) ∧
    ((s.port p).tx.links = [] → Leaves (exec (.creditPeriodic p) s) fun t =>
      (t.port p).tx.links = [.credit] ∧ t.regs = s.regs ∧ t.mem = s.mem) ∧
    (∀ (k : SentPkt) (rest : List SentPkt), (s.port p).tx.unacked = k :: rest → (∀ i ∈ k :: rest, i.replays < 8) →
      s.mail.cmds = [] → Leaves (exec (.replayTimer p) s) fun t =>
        (t.port p).tx = { (s.port p).tx with resend := (k :: rest).map (·.seq), afresh := false, replayWait := true } ∧
        t.fld (F.PORT_REPLAY_TIMERS p) = min (s.fld (F.PORT_REPLAY_TIMERS p) + 1) (2 ^ (F.PORT_REPLAY_TIMERS p).width - 1) ∧
        s.keepsBits t [F.PORT_REPLAY_TIMERS p] ∧ t.mem = s.mem) ∧
    ((s.port p).tx.queue = [] → (s.port p).reqDue = false →
      ((s.port p).burstDue = true → Leaves (exec (.packetTransmit p) s) fun t =>
        (t.port p).burstDue = false ∧ (t.port p).tx.wire = .burstSet (prbs7Bytes 14 burstSeed).1 ∧
        t.fld (F.PORT_IDLE_CNT_SENT p) = min (s.fld (F.PORT_IDLE_CNT_SENT p) + 1) (2 ^ (F.PORT_IDLE_CNT_SENT p).width - 1) ∧
        s.keepsBits t [F.PORT_IDLE_CNT_SENT p] ∧ t.mem = s.mem) ∧
      ((s.port p).burstDue = false →
        (∀ (m : LinkMsg) (rest : List LinkMsg), (s.port p).tx.links = m :: rest → Leaves (exec (.packetTransmit p) s) fun t =>
          (t.port p).tx.links = rest ∧ (t.port p).tx.wire = .packet (mkPacket (s.linkPacket p m) 0 false) ∧
          (t.port p).burst = none ∧ (m = .ack → (t.port p).rx.sinceAck = 0) ∧ t.regs = s.regs ∧ t.mem = s.mem) ∧
        (∀ (q : Nat) (rest : List Nat) (k : SentPkt), (s.port p).tx.links = [] → (s.port p).tx.resend = q :: rest →
          (s.port p).tx.unacked.find? (fun k => decide (k.seq = q)) = some k → (s.port p).tx.afresh = false →
          Leaves (exec (.packetTransmit p) s) fun t => (t.port p).tx.resend = rest ∧
            (t.port p).tx.wire = .packet (mkPacket k.pkt q false) ∧
            t.fld (F.PORT_REPLAY_PACKETS p) = min (s.fld (F.PORT_REPLAY_PACKETS p) + 1) (2 ^ (F.PORT_REPLAY_PACKETS p).width - 1) ∧
            s.keepsBits t [F.PORT_REPLAY_PACKETS p] ∧ t.mem = s.mem) ∧
        ((s.port p).tx.links = [] → (s.port p).tx.resend = [] → Leaves (exec (.packetTransmit p) s) fun t =>
          (t.port p).tx.wire = (match (s.port p).burst with
            | some st => .burstSet (prbs7Bytes 14 st).1
            | none => .idleSet ((s.port p).burstReq != 0 || s.calBursts p)) ∧ t.regs = s.regs ∧ t.mem = s.mem)))

/-- The segment engines with PIX on and no video packet waiting. A segment whose rectangle meets an earlier one waits; a coded
segment that starts is shown in SLU_ENG with its engine busy. In its token's turn an engine reads the bits that have arrived:
where they end it keeps what it has read, stalled for input with the token shown; where the token's pixels are due and the
first waits for its tile or its line, it stalls for output; the last pixel of a token is written and the engine stands before
the next token. A token that does not stand in the segment changes nothing. What ends a stall clears it, counting a long one.
A build whose FRAME_READY is outstanding and whose segments have all ended completes: undamaged it becomes its stores' READY
with the host's number, damaged it is discarded, and the next outstanding FRAME_READY takes its place; with a segment still to
end it waits. The write of SLU_CTRL stores its fields. -/
def Obligations.SegmentEngines : Prop :=
  (∀ (e : Fin 4) (g : Seg) (rest : List Seg) (s : State), s.acts .pix = true → s.vid.waiting = [] → s.engine e = g :: rest →
    s.vid.engines.length = 4 →
    (g.started = false → s.overlaps g = true → Leaves (exec (.segmentStart e) s) fun t =>
      t.flag (F.SLU_ENG_WAIT_OVERLAP e) = true ∧ s.keepsBits t [F.SLU_ENG_WAIT_OVERLAP e] ∧ t = { s with regs := t.regs }) ∧
    (g.started = false → s.overlaps g = false → g.head.raw = false → g.tok = none → Leaves (exec (.segmentStart e) s) fun t =>
      t.engine e = { g with started := true } :: rest ∧ t.flag ⟨R.SLU_STATUS, e, 1⟩ = true ∧
      t.reg (R.SLU_ENG e) = BitVec.ofNat 32 (g.head.stream + 16 + 2 ^ 16 * g.head.segId) &&& 0xFFFFFE3F ∧ t.flag (stallOut e) = false ∧
      t.flag (stallIn e) = (g.bits = 0 && !g.lastIn) ∧
      s.keepsBits t [whole (R.SLU_ENG e), ⟨R.SLU_STATUS, e, 1⟩, stallIn e, stallOut e] ∧ t.mem = s.mem) ∧
    (∀ c ∈ [(Token.pix, Instr.tokenPix e), (.zrun, .tokenZrun e), (.match, .tokenMatch e), (.lit, .tokenLit e), (.pred, .tokenPred e)],
      g.started = true → g.head.raw = false → g.done ≠ g.head.total →
      (∀ x, g.token = some x → x ≠ c.1 → exec c.2 s = .next s) ∧
      (∀ g1 : Seg, g.token = some c.1 → g.read = (g1, .over) → Leaves (exec c.2 s) fun t =>
        t.engine e = g1 :: rest ∧ t.flag (stallOut e) = false ∧ t.flag (stallIn e) = (g1.bits = 0 && !g1.lastIn) ∧
        t.fld (F.SLU_ENG_TOKEN e) = (g1.tok.map Token.code).getD 0 ∧
        s.keepsBits t [stallIn e, stallOut e, F.SLU_ENG_TOKEN e] ∧ t.mem = s.mem) ∧
      (∀ g1 : Seg, g.token = some c.1 → g.read = (g1, .on) → g1.ended = false → Leaves (exec c.2 s) fun t =>
        t.engine e = g1 :: rest ∧ t.flag (stallOut e) = false ∧ t.flag (stallIn e) = true ∧
        t.fld (F.SLU_ENG_TOKEN e) = (g1.tok.map Token.code).getD 0 ∧
        s.keepsBits t [stallIn e, stallOut e, F.SLU_ENG_TOKEN e] ∧ t.mem = s.mem) ∧
      (∀ g1 : Seg, g.token = some c.1 → g.read = (g1, .due) → 0 < g1.left → ∀ u : State, u = s.setFront e g1 →
        (u.pixelWaits g1.head g1.done = true ∨ u.weirFull g1.head g1.done = true → Leaves (exec c.2 s) fun t =>
          t.engine e = g1 :: rest ∧ t.flag (stallOut e) = true ∧ t.flag (stallIn e) = false ∧
          t.fld (F.SLU_ENG_TOKEN e) = (g1.tok.map Token.code).getD 0 ∧
          s.keepsBits t [stallIn e, stallOut e, F.SLU_ENG_TOKEN e] ∧ t.mem = s.mem) ∧
        (u.pixelWaits g1.head g1.done = false → u.weirFull g1.head g1.done = false → g1.left = 1 → g1.done + 1 ≠ g1.head.total →
          Leaves (exec c.2 s) fun t => t.engine e = g1.made :: rest ∧ t.mem = (u.writePixel g1.head g1.done g1.nextPx).mem ∧
            g1.made.done = g1.done + 1 ∧ g1.made.tok = none ∧ t.flag (stallOut e) = false ∧
            t.flag (stallIn e) = (g1.made.bits = 0 && !g1.made.lastIn) ∧ t.fld (F.SLU_ENG_TOKEN e) = 0))) ∧
    (∀ long : Bool, s.flag (stallIn e) = true ∨ s.flag (stallOut e) = true →
      g.started = false ∨ g.done = g.head.total ∨ (g.head.raw = false ∧ g.pos = g.tokPos ∧ g.field = .pre 0) →
      Leaves (exec (.engineResume e long) s) fun t =>
        t.flag (stallIn e) = false ∧ t.flag (stallOut e) = false ∧
        t.fld F.SLU_SEG_CNT_STALLS = (if long then min (s.fld F.SLU_SEG_CNT_STALLS + 1) (2 ^ F.SLU_SEG_CNT_STALLS.width - 1)
          else s.fld F.SLU_SEG_CNT_STALLS) ∧
        s.keepsBits t [stallIn e, stallOut e, F.SLU_SEG_CNT_STALLS] ∧ t = { s with regs := t.regs })) ∧
  ((∀ (st : Fin 16) (host : Word) (s : State), s.on .pix = true → s.vid.waiting = [] → s.vid.streams.length = 16 →
    s.vid.stores.length = 3 → (s.stream st).frameReady = some host → (s.stream st).nextReady = none →
    (s.segmentsBefore st (s.stream st).readyOrder = true → exec (.buildComplete st) s = .next s) ∧
    (s.segmentsBefore st (s.stream st).readyOrder = false → (s.damage st).empty = true →
      Leaves (exec (.buildComplete st) s) fun t => (t.stream st).frameReady = none ∧ (t.stream st).everReady = true ∧
        t.regs = s.regs ∧ t.mem = s.mem ∧ ∀ i ∈ s.storesOf st, t.store i = (s.store i).complete host ∧
          (t.store i).readyHost = host ∧ (t.store i).ready = some (s.store i).start.build) ∧
    (s.segmentsBefore st (s.stream st).readyOrder = false → (s.damage st).empty = false →
      Leaves (exec (.buildComplete st) s) fun t => (t.stream st).frameReady = none ∧ t.flag F.SCN_STATUS_LATE_SEGMENT = true ∧
        s.keepsBits t [F.SCN_STATUS_LATE_SEGMENT, F.SCN_FLIP_CNT_LATE_SEGMENT] ∧ t.mem = s.mem ∧
        ∀ i ∈ s.storesOf st, t.store i = (s.store i).start.takeNext)) ∧
  (∀ (v : Word) (s : State), s.on .ctrl = true → s.acts .pix = true → Leaves (exec (.sluEnableWrite v) s) fun t =>
    t.flag F.SLU_CTRL_ENABLE = v.getLsbD F.SLU_CTRL_ENABLE.lo ∧ t.flag F.SLU_CTRL_NEAR_HIST_EN = v.getLsbD F.SLU_CTRL_NEAR_HIST_EN.lo ∧
    s.keepsBits t [whole R.SLU_CTRL] ∧ t = { s with regs := t.regs }))

/-- A commit written in a block that acts while the raster runs, and none of its kind waiting: COMMIT and LOCKED are set and the
commit waits for its hand-over, marked late where the ordinary window has closed; the privileged ones are never late. A load that
passes leaves its commit waiting; one whose table is refused ends it with the table's error code. -/
def Obligations.Commits : Prop :=
  (∀ (b : Blk) (priv lut : Bool) (i : Instr) (f : CommitBits) (s : State), (b, priv, lut, i) ∈
      ([.scn, .cps, .dth, .odv, .col, .bias, .bld, .lda, .opt, .saf].map fun b => (b, false, false, Instr.shadowCommit b)) ++
      [(.cps, true, false, .privilegedCommit .cps), (.bld, true, false, .privilegedCommit .bld), (.scn, true, false, .timingCommit),
        (.rng, false, false, .rngTableCommit), (.dth, false, true, .lutLoadCommit .dth), (.odv, false, true, .lutLoadCommit .odv),
        (.dmr, false, false, .demuraSetCommit), (.gsq, false, false, .gateProgramCommit)] →
    commitBits b priv = some f → s.flag f.commit = false → s.rs.running = true → s.acts b.domain = true →
    Leaves (exec i s) fun t => t.flag f.commit = true ∧ t.flag f.locked = true ∧ t.mem = s.mem ∧
      (!priv && s.windowClosed → t.flag f.late = true ∧ t.reg f.lateFrame = s.frame) ∧
      ∃ x : Commit, t.commits = s.commits ++ [x] ∧ x.blk = b ∧ x.priv = priv ∧ x.frame = s.frame ∧
        x.late = (!priv && s.windowClosed) ∧ x.lut = lut) ∧
  (∀ (b : Blk) (bad : Bool) (c : Commit) (f : CommitBits) (s : State), s.commits.find? (fun c => c.blk = b && c.loading) = some c →
    commitBits b c.priv = some f → s.rs.running = true → s.mail.cmds = [] →
    (s.imageErr b c.image bad = 0 → Leaves (exec (.commitLoadDone b bad) s) fun t =>
      t.commits = (s.commits.map fun d => if d = c then { c with loading := false } else d) ∧ t.mem = s.mem ∧
      ∀ g, f.busy = some g → t.flag g = false ∧ s.keepsBits t [g]) ∧
    (s.imageErr b c.image bad ≠ 0 → Leaves (exec (.commitLoadDone b bad) s) fun t =>
      t.commits = s.commits.erase c ∧ t.flag f.commit = false ∧ t.flag f.locked = false ∧ t.mem = s.mem ∧
      ∀ x ∈ [(Blk.rng, F.RNG_STATUS_TABLE_ERR, F.RNG_STATUS_TABLE_ERR_CODE), (.dth, F.DTH_STATUS_LUT_ERR, F.DTH_STATUS_LUT_ERR_CODE),
          (.odv, F.ODV_STATUS_LUT_ERR, F.ODV_STATUS_LUT_ERR_CODE), (.dmr, F.DMR_STATUS_SET_ERR, F.DMR_STATUS_SET_ERR_CODE),
          (.gsq, F.GSQ_STATUS_PROG_ERR, F.GSQ_STATUS_PROG_ERR_CODE)], x.1 = b →
        t.flag x.2.1 = true ∧ t.fld x.2.2 = s.imageErr b c.image bad % 2 ^ x.2.2.width))


/-! ### Tell-tale safety and mailboxes -/

/-- The CAN frames of the safety partner, with CTRL on or in STANDBY and the bus not off. A good TT_REQUEST is counted and becomes
the partner's bitmap, and in STANDBY it can wake the module; the first TT_KEY whose check value matches is the key, any other sets
KEY_REJECT and is counted; an MB2_CMD fills the next slot of mailbox 2, or is answered at once where the mailbox is disabled, its ring
full or the module in STANDBY; a frame that is not as its kind must be is discarded and counted. Queued records and responses leave
while the bus is not off; bus-off is flagged and counted until recovery. -/
def Obligations.SafetyBus : Prop :=
  (∀ (f : CanFrame) (s : State), s.canUp = true → f.id / 16 = s.fld F.SAF_CAN_ID_BASE → s.flag F.SAF_STATUS_BUS_OFF = false →
    (f.id % 16 = 0 → f.classical = false → f.data.length = 8 → byteAt f.data 4 < 2 → byteAt f.data 6 = 0 → byteAt f.data 7 = 0 →
      s.mode ≠ .standby → Leaves (exec (.ttRequest f) s) fun t =>
        t.fld F.SAF_CAN_CNT_TT_REQUEST = min (s.fld F.SAF_CAN_CNT_TT_REQUEST + 1) (2 ^ F.SAF_CAN_CNT_TT_REQUEST.width - 1) ∧
        t.reg R.SAF_PARTNER_REQ = BitVec.ofNat 32 (leAt f.data 0 4) ∧ t.flag F.SAF_STATUS_EXCL = decide (byteAt f.data 4 = 1) ∧
        t.flag F.SAF_STATUS_PARTNER_SEEN = true ∧ t.saf = { s.saf with
          counter := byteAt f.data 5
          recent := s.saf.recent ++ [(s.time, BitVec.ofNat 32 (leAt f.data 0 4), decide (byteAt f.data 4 = 1))] } ∧ t.mem = s.mem) ∧
    (f.id % 16 = 0 → f.classical = false → f.data.length = 8 → byteAt f.data 4 < 2 → byteAt f.data 6 = 0 → byteAt f.data 7 = 0 →
      s.mode = .standby → ∀ u : State, u = s.takeRequest f.data → exec (.ttRequest f) s =
        .next (if s.flag F.PWR_WAKE_EN_CAN_TT = true ∧ leAt f.data 0 4 ≠ 0 then u.requestWake 6 else u)) ∧
    (∀ x ∈ [(Instr.ttRequest f, 0, 8), (.ttKey f, 1, 20), (.mb2Cmd f, 2, 32)], f.id % 16 = x.2.1 →
      f.classical = true ∨ f.data.length ≠ x.2.2 ∨ (x.2.1 = 0 ∧ (2 ≤ byteAt f.data 4 ∨ byteAt f.data 6 ≠ 0 ∨ byteAt f.data 7 ≠ 0)) →
      Leaves (exec x.1 s) fun t =>
        t.fld F.SAF_CAN_CNT_DISCARDED = min (s.fld F.SAF_CAN_CNT_DISCARDED + 1) (2 ^ F.SAF_CAN_CNT_DISCARDED.width - 1) ∧
        s.keepsBits t [F.SAF_CAN_CNT_DISCARDED] ∧ t = { s with regs := t.regs }) ∧
    (f.id % 16 = 1 → f.classical = false → f.data.length = 20 → s.saf.key = none →
      (aes128 (f.data.take 16) (List.replicate 16 0#8)).take 4 = f.data.drop 16 → Leaves (exec (.ttKey f) s) fun t =>
        t.saf = { s.saf with key := some (f.data.take 16) } ∧ t.flag F.SAF_STATUS_KEY_OK = true ∧
        s.keepsBits t [F.SAF_STATUS_KEY_OK] ∧ t = { s with regs := t.regs, saf := t.saf }) ∧
    (f.id % 16 = 1 → f.classical = false → f.data.length = 20 → s.saf.key.isSome = true → Leaves (exec (.ttKey f) s) fun t =>
      t.flag F.SAF_STATUS_KEY_REJECT = true ∧ t.saf = s.saf ∧ (∀ a, recordByte a = false → t.byte a = s.byte a) ∧
      t.fld F.SAF_CAN_CNT_TT_KEY = min (s.fld F.SAF_CAN_CNT_TT_KEY + 1) (2 ^ F.SAF_CAN_CNT_TT_KEY.width - 1)) ∧
    (f.id % 16 = 2 → f.classical = false → f.data.length = 32 →
      (s.on .ctrl = false → exec (.mb2Cmd f) s = .next { s with mail := { s.mail with rsp := s.mail.rsp ++
        [(0x3F#8 :: cplBody stNotInMode (leAt f.data 0 2) (leAt f.data 2 2) 0 [], false)] } }) ∧
      (s.on .ctrl = true → s.mbDisabled 2 = true → Leaves (exec (.mb2Cmd f) s) fun t =>
        t.mail.rsp = s.mail.rsp ++ [(0x3F#8 :: cplBody stDenied (leAt f.data 0 2) (leAt f.data 2 2) 0 [], false)] ∧
        t.flag (F.MBX_DB_DISABLED 2) = true ∧ t.mem = s.mem) ∧
      (s.on .ctrl = true → s.mbDisabled 2 = false → 16 ≤ (s.mb 2).accepted + (s.mb 2).waiting → Leaves (exec (.mb2Cmd f) s) fun t =>
        t.mail.rsp = s.mail.rsp ++ [(0x3F#8 :: cplBody stQueueFull (leAt f.data 0 2) (leAt f.data 2 2) 0 [], false)] ∧
        t.flag (mbBit F.MBX_EVENT_QUEUE_FULL 2) = true ∧ t.mem = s.mem) ∧
      (s.on .ctrl = true → s.mbDisabled 2 = false → (s.mb 2).accepted < 16 → (s.mb 2).waiting = 0 → s.outstanding 2 < 16 →
        s.mail.boxes.length = 4 → Leaves (exec (.mb2Cmd f) s) fun t =>
          t.bytes (slotAddr 2 (s.fld (F.MBX_DB_TAIL 2) % 16)) 32 = f.data ∧ (t.mb 2).accepted = (s.mb 2).accepted + 1 ∧
          t.fld (F.MBX_DB_TAIL 2) = (s.fld (F.MBX_DB_TAIL 2) + 1) % 16 ∧ (t.mb 2).waiting = 0 ∧ t.mail.rsp = s.mail.rsp))) ∧
  (∀ s : State, s.canUp = true →
    (s.flag F.SAF_STATUS_BUS_OFF = false → s.on .ctrl = true → exec .ttProof s = .next (s.setSaf { s.saf with proof := none })) ∧
    (∀ (b : List Byte) (ring : Bool) (rest : List (List Byte × Bool)), s.flag F.SAF_STATUS_BUS_OFF = false →
      s.mail.rsp = (b, ring) :: rest →
      (ring = false → exec .mb2Rsp s = .next { s with mail := { s.mail with rsp := rest } }) ∧
      (ring = true → 0 < (s.mb 2).unread → (s.mb 2).waiting = 0 → s.mail.boxes.length = 4 → Leaves (exec .mb2Rsp s) fun t =>
        t.mail.rsp = rest ∧ (t.mb 2).unread = (s.mb 2).unread - 1 ∧
        t.fld (F.MBX_CPL_HEAD_CPL_HEAD 2) = (s.fld (F.MBX_CPL_HEAD_CPL_HEAD 2) + 1) % 2 ^ (F.MBX_CPL_HEAD_CPL_HEAD 2).width ∧
        t.mem = s.mem)) ∧
    (s.flag F.SAF_STATUS_BUS_OFF = false → Leaves (exec .busOff s) fun t => t.flag F.SAF_STATUS_BUS_OFF = true ∧
      t.fld F.SAF_CAN_CNT_BUS_OFF = min (s.fld F.SAF_CAN_CNT_BUS_OFF + 1) (2 ^ F.SAF_CAN_CNT_BUS_OFF.width - 1) ∧
      s.keepsBits t [F.SAF_STATUS_BUS_OFF, F.SAF_CAN_CNT_BUS_OFF] ∧ t = { s with regs := t.regs }) ∧
    (Leaves (exec .busOffRecovery s) fun t => t.flag F.SAF_STATUS_BUS_OFF = false ∧ s.keepsBits t [F.SAF_STATUS_BUS_OFF] ∧
      t = { s with regs := t.regs }))

/-- Tightrope's registers with CTRL on: a hold of one to four frames is accepted while none is pending; ALIVE of a running core ends
the absence; SAFE_SET and SAFE_CLR change the latch, with an event and a log record where it changes and nothing where it does
not; the partner bitmap is written by the firmware only while PARTNER_SEEN is 0. -/
def Obligations.SafetyRegisters : Prop :=
  ∀ s : State, s.on .ctrl = true →
    (∀ v : Word, s.fld F.SAF_HOLD_LEFT = 0 → s.flag F.SAF_STATUS_HOLD = false → Leaves (exec (.safHoldWrite v) s) fun t =>
      t.fld F.SAF_HOLD_FRAMES = v.toNat % 8 ∧ t.fld F.SAF_HOLD_LEFT = clampNat (v.toNat % 8) 1 4 ∧
      s.keepsBits t [F.SAF_HOLD_FRAMES, F.SAF_HOLD_LEFT] ∧ t = { s with regs := t.regs }) ∧
    (∀ v : Word, s.flag F.SAF_STATUS_HOLD = true → Leaves (exec (.safHoldWrite v) s) fun t =>
      t.flag F.SAF_STATUS_HOLD_BUSY = true ∧ s.keepsBits t [F.SAF_STATUS_HOLD_BUSY] ∧ t = { s with regs := t.regs }) ∧
    (s.saf.absent = true → s.pw.firmware = true → Leaves (exec .safAlive s) fun t =>
      t.saf = { s.saf with absent := false } ∧ t.flag F.SAF_ABSENT_ABSENT = false ∧ s.keepsBits t [F.SAF_ABSENT_ABSENT] ∧
      t = { s with regs := t.regs, saf := t.saf }) ∧
    (s.saf.absent = true → s.pw.firmware = false → s.mail.cmds = [] → Leaves (exec .safAlive s) fun t =>
      t.saf.absent = false ∧ t.flag F.SAF_ABSENT_ABSENT = false ∧ t.pw.firmware = true ∧ t.mode = s.mode) ∧
    (∀ (b : Bool) (i : Instr), (b, i) ∈ [(true, Instr.safeSet), (false, .safeClr)] →
      (s.flag F.SAF_STATUS_SAFE_LATCH = b → exec i s = .next s) ∧
      (s.flag F.SAF_STATUS_SAFE_LATCH ≠ b → Leaves (exec i s) fun t => t.flag F.SAF_STATUS_SAFE_LATCH = b ∧
        s.sameRegs t (R.SAF_STATUS :: recordRegs) ∧ (∀ a, recordByte a = false → t.byte a = s.byte a) ∧
        t = { s with regs := t.regs, mem := t.mem, log := t.log })) ∧
    (∀ v : Word, s.flag F.SAF_STATUS_PARTNER_SEEN = true → exec (.safPartnerReqWrite v) s = .next s) ∧
    (∀ v : Word, s.flag F.SAF_STATUS_PARTNER_SEEN = false → s.mode ≠ .calibrate → s.mode ≠ .service →
      Leaves (exec (.safPartnerReqWrite v) s) fun t => t.reg R.SAF_PARTNER_REQ = v ∧
        t.saf = { s.saf with settled := (v, s.saf.settled.2) } ∧ s.keepsBits t [whole R.SAF_PARTNER_REQ] ∧
        t = { s with regs := t.regs, saf := t.saf })

/-- Doorbells and rings of an enabled mailbox with CTRL on. A doorbell up to a tail that leaves at most 16 slots outstanding
accepts every slot it covers; a write of the present tail changes nothing; advancing CPL_HEAD on mailbox 1 consumes unread
entries; a mailbox whose EN bit is written 1 stays as it is. The host control port and MB3's timers with CTRL on: OP 0x02
writes its words in order, OP 0x03 reads whole words, another OP is counted and ignored; 600 s without a command of MB3 lock
it, and the lockout after failed responses ends. -/
def Obligations.MailboxPorts : Prop :=
  (∀ (n : Fin 4) (s : State), s.on .ctrl = true →
    (exec (.doorbell n ⟨s.fld (F.MBX_DB_TAIL n) % 16, Nat.mod_lt _ (by decide)⟩) s = .next s) ∧
    (∀ k : Fin 16, k ≠ 0 → s.mbDisabled n = false → s.outstanding n + k ≤ 16 → s.fld (F.MBX_DB_TAIL n) < 16 →
      s.mail.boxes.length = 4 →
      Leaves (exec (.doorbell n ⟨(s.fld (F.MBX_DB_TAIL n) + k) % 16, Nat.mod_lt _ (by decide)⟩) s) fun t =>
        t.fld (F.MBX_DB_TAIL n) = (s.fld (F.MBX_DB_TAIL n) + k) % 16 ∧ (t.mb n).accepted = (s.mb n).accepted + k ∧
        t.flag (F.MBX_DB_REFUSED n) = false ∧ t.flag (F.MBX_DB_DISABLED n) = false ∧
        s.keepsBits t [F.MBX_DB_TAIL n, F.MBX_DB_REFUSED n, F.MBX_DB_DISABLED n] ∧ t.mem = s.mem) ∧
    (∀ k : Fin 16, n = 1 → k.val ≤ (s.mb 1).unread → s.mail.boxes.length = 4 →
      Leaves (exec (.cplHeadWrite 1 ⟨(s.fld (F.MBX_CPL_HEAD_CPL_HEAD 1) + k) % 16, Nat.mod_lt _ (by decide)⟩) s) fun t =>
        (t.mb 1).unread = (s.mb 1).unread - k ∧
        t.fld (F.MBX_CPL_HEAD_CPL_HEAD 1) = (s.fld (F.MBX_CPL_HEAD_CPL_HEAD 1) + k) % 2 ^ (F.MBX_CPL_HEAD_CPL_HEAD 1).width ∧
        s.keepsBits t [F.MBX_CPL_HEAD_CPL_HEAD 1] ∧ t.mem = s.mem) ∧
    (∀ v : Word, v.toNat % 16 = 15 → Leaves (exec (.mbxEnWrite v) s) fun t =>
      t.fld F.MBX_CTRL_EN = 15 ∧ s.keepsBits t [F.MBX_CTRL_EN] ∧ t = { s with regs := t.regs })) ∧
  (∀ s : State, s.on .ctrl = true → s.spiDeaf = false →
    (∀ (a : BitVec 32) (v : Word), (a.toNat / 4 * 4 = R.SYS_MODE ∨ a.toNat / 4 * 4 = R.BOOT_STATUS →
        exec (.spiWrite 0x02#8 a [v]) s = .next s) ∧
      (spiReach (a.toNat / 4 * 4) = false → Leaves (exec (.spiWrite 0x02#8 a [v]) s) fun t =>
        t.flag F.MBX_EVENT_SPI_RANGE = true ∧ s.keepsBits t [F.MBX_PORT_CNT_SPI, F.MBX_EVENT_SPI_RANGE] ∧ t = { s with regs := t.regs }) ∧
      (inPond (a.toNat / 4 * 4) = true → spiReach (a.toNat / 4 * 4) = true → (∀ n k, ringSlot (a.toNat / 4 * 4) = some (n, k) →
          s.slotOwned n k = false) → s.pondWeak = [] → s.borrowed (a.toNat / 4 * 4) = false →
        exec (.spiWrite 0x02#8 a [v]) s = .next (s.setBytes (a.toNat / 4 * 4) (leBytes 4 v.toNat)))) ∧
    (∀ (a : BitVec 32) (ws : List Word), exec (.spiWrite 0x02#8 a ws) s = .next (State.spiWords (a.toNat / 4 * 4) ws s)) ∧
    (∀ (op : Byte) (a : BitVec 32) (ws : List Word), op ≠ 0x02#8 → op ≠ 0x03#8 → Leaves (exec (.spiWrite op a ws) s) fun t =>
      t.fld F.MBX_PORT_CNT_SPI_OP = min (s.fld F.MBX_PORT_CNT_SPI_OP + 1) (2 ^ F.MBX_PORT_CNT_SPI_OP.width - 1) ∧
      s.keepsBits t [F.MBX_PORT_CNT_SPI_OP] ∧ t = { s with regs := t.regs }) ∧
    (∀ (a : BitVec 32) (n : Nat), exec (.spiRead a n) s = .next { (State.spiReads n (a.toNat / 4 * 4) s []).2 with
      answer := ⟨(State.spiReads n (a.toNat / 4 * 4) s []).1, false⟩ }) ∧
    (∀ a : BitVec 32, spiReach (a.toNat / 4 * 4) = false → Leaves (exec (.spiRead a 1) s) fun t =>
      t.answer = ⟨[0#8, 0#8, 0#8, 0#8], false⟩ ∧ t.flag F.MBX_EVENT_SPI_RANGE = true ∧
      s.keepsBits t [F.MBX_PORT_CNT_SPI, F.MBX_EVENT_SPI_RANGE] ∧ t = { s with regs := t.regs, answer := t.answer }) ∧
    (s.mail.unlocked = true → Leaves (exec .mb3IdleLock s) fun t => t.mail.unlocked = false ∧ t.mail.nonce = none ∧
      (∀ d ∈ t.mail.cmds, d.mb = 3 → d.killed = true) ∧ (s.mode = .service → ∃ g ∈ t.pw.trigs, g.row = 19) ∧ t.mode = s.mode) ∧
    (s.mail.unlocked = false → exec .mb3IdleLock s = .next s) ∧
    (Leaves (exec .svcLockoutEnd s) fun t => t.mail = { s.mail with lockedOut := false } ∧ t = { s with mail := t.mail }))

/-- A command's life in the module: the firmware takes the front slot of the mailbox in turn, counting it, and the command is at work,
or is refused with its error in the completion ring; a command at a boundary goes on there, or ends where its timeout has expired or it
was killed; an expired timeout is remembered for that boundary; a command's end waits with its status and result for its ledger entry;
and a completion entry goes to the ring's tail with the ring's phase, status, opcode, cookie, steps and result, the tail advancing and
the phase turning after entry 15. -/
def Obligations.CommandLife : Prop :=
  (∀ (n h op plen : Nat) (slot : List Byte) (s : State), s.on .ctrl = true → s.pw.firmware = true → s.nextBox = some n → n = 1 ∨ n = 3 →
    h = s.fld (F.MBX_CMD_HEAD_CMD_HEAD n) → slot = s.bytes (slotAddr n h) 32 → op = leAt slot 0 2 →
    plen = (if byteAt slot 7 = 0 then byteAt slot 6 else 25) → s.mail.boxes.length = 4 → Leaves (exec .commandTake s) fun t =>
      t.fld (F.MBX_CMD_HEAD_CMD_HEAD n) = (h + 1) % 16 ∧ (t.mb n).accepted = (s.mb n).accepted - 1 ∧
      (∀ i, s.takeErr n op plen (slot.drop 8) = none → cmdInfo op = some i → s.cmd (16 * n + h) = none →
        ∃ c, t.cmd (16 * n + h) = some c ∧ c.mb = n ∧ c.slot = h ∧ c.opcode = op ∧ c.cookie = leAt slot 2 2 ∧
          c.params = slot.drop 8 ∧ c.phase = .work ∧ c.step = 0 ∧ c.status = none) ∧
      (∀ st k, s.takeErr n op plen (slot.drop 8) = some st → k = s.fld (F.MBX_CPL_TAIL_CPL_TAIL n) →
        t.mail.cmds = s.mail.cmds ∧ t.bytes (cplAddr n k) 4 = [BitVec.ofNat 8 ((16 * n + h) % 64 + 128 * s.fld (F.MBX_CPL_TAIL_PHASE n)),
          BitVec.ofNat 8 st] ++ leBytes 2 op)) ∧
  (∀ (tag : Fin 64) (c : RunCmd) (s : State), s.cmd tag = some c → c.phase = .boundary → c.status = none →
    exec (.commandStepBoundary tag) s = .next (s.boundary c) ∧
    (s.pw.rom = false → s.ringRuns = true → c.fullRun = false → c.opcode ∉ [0x0304, 0x0904, 0x0905] →
      (c.expired = true → (s.boundary c).ended tag stTimeout []) ∧
      (c.expired = false → c.killed = true → (s.boundary c).ended tag stAborted []) ∧
      (c.expired = false → c.killed = false → s.mbDisabled c.mb = false →
        (s.boundary c).cmd tag = some { c with phase := .entry }))) ∧
  (∀ (tag : Fin 64) (c : RunCmd) (s : State), s.cmd tag = some c → c.paused = false → c.status = none →
    Leaves (exec (.commandTimeout tag) s) fun t => t.cmd tag = some { c with expired := true } ∧ t.regs = s.regs ∧ t.mem = s.mem) ∧
  (∀ (tag status : Nat) (result : List Byte) (c : RunCmd) (s : State), s.cmd tag = some c → s.pw.rom = false → s.ringRuns = true →
    c.expired = false → c.killed = false → s.mbDisabled c.mb = false →
    (s.finishCmd tag status result).ended tag (if status = stOk ∧ c.retrained = true then stRecovered else status) result) ∧
  (∀ (n : Fin 4) (tag status opcode cookie step : Nat) (result : List Byte) (s : State), n = 1 ∨ n = 3 → s.mail.boxes.length = 4 →
    status ≠ stTimeout → status ≠ stRecovered → result.length ≤ 8 → s.fld (F.MBX_CPL_TAIL_CPL_TAIL n) < 16 →
    let k := s.fld (F.MBX_CPL_TAIL_CPL_TAIL n)
    let ph := s.fld (F.MBX_CPL_TAIL_PHASE n)
    let t := s.postCpl n tag status opcode cookie step result
    t.bytes (cplAddr n k) 16 = [BitVec.ofNat 8 (tag % 64 + 128 * ph), BitVec.ofNat 8 status] ++ leBytes 2 opcode ++ leBytes 2 cookie ++
      leBytes 2 step ++ padTo 0#8 8 result ∧
    (∀ a, (a < cplAddr n k ∨ cplAddr n k + 16 ≤ a) → t.byte a = s.byte a) ∧
    t.fld (F.MBX_CPL_TAIL_CPL_TAIL n) = (k + 1) % 16 ∧ t.fld (F.MBX_CPL_TAIL_PHASE n) = (if k = 15 then (1 - ph) % 2 else ph) ∧
    (t.mb n).unread = (s.mb n).unread + 1)


/-! ### Firmware commands at their step: the result, or what the command does -/

/-- The commands that report: each ends with OK and the result its entry gives, and no register or byte changes but by its completion. -/
def Obligations.ReportingCommands : Prop :=
  ∀ (tag : Fin 64) (c : RunCmd) (s : State),
    (s.atStep tag 0x0100 = some c → exec (.sysInfo tag) s = .next (s.finishCmd c.tag stOk (match byteAt c.params 0 with
      | 0 => leBytes 4 (s.reg R.SYS_CAPS).toNat ++ leBytes 4 Config.fwVersion.toNat
      | 1 => leBytes 8 Config.serial.toNat
      | _ => leBytes 1 s.address ++ leBytes 1 (s.fld (F.PORT_ADDR_CHAIN_COUNT 0))))) ∧
    (s.atStep tag 0x0101 = some c → exec (.sysStatus tag) s = .next (s.finishCmd c.tag stOk (leBytes 1 s.sysMode.toNat ++
      leBytes 1 (s.reg R.PWR_DOMAIN_STATUS).toNat ++ leBytes 1 (s.reg R.GOV_STATUS).toNat ++
      leBytes 1 (s.peek .core R.SAF_STATUS).toNat ++ leBytes 4 s.frame.toNat))) ∧
    (s.atStep tag 0x0102 = some c → exec (.sysTime tag) s =
      .next (s.finishCmd c.tag stOk (leBytes 6 s.time.toNat ++ leBytes 1 (if s.oscTime then 1 else 0)))) ∧
    (s.atStep tag 0x0206 = some c → exec (.powerStatus tag) s = .next (s.finishCmd c.tag stOk (leBytes 4 (s.reg R.GOV_STATUS).toNat ++
      leBytes 2 (s.fld F.GOV_CAP_LED) ++ leBytes 2 (s.fld F.GOV_TEMP_DIE)))) ∧
    (s.atStep tag 0x0300 = some c → s.on .link = true → exec (.linkStatus tag) s = .next (s.finishCmd c.tag stOk
      (leBytes 4 (s.peek .core (R.PORT_STATUS c.portOf)).toNat ++ leBytes 4 (s.peek .core (R.PORT_PKT_STATUS c.portOf)).toNat))) ∧
    (s.atStep tag 0x0405 = some c → ∃ (flags planes : Nat), exec (.streamStatus tag) s = .next (s.finishCmd c.tag stOk
      (leBytes 2 (s.stream (byteAt c.params 0)).width ++ leBytes 2 (s.stream (byteAt c.params 0)).height ++ leBytes 1 flags ++
        leBytes 1 planes)) ∧ flags.testBit 0 = (s.stream (byteAt c.params 0)).configured ∧
      flags.testBit 1 = (s.stream (byteAt c.params 0)).asleep ∧ flags.testBit 2 = !(s.damage (byteAt c.params 0)).empty ∧
      flags.testBit 3 = (s.stream (byteAt c.params 0)).frameReady.isSome ∧
      ∀ i, i < 3 → planes.testBit i = decide ((s.plane i).stream = some (byteAt c.params 0))) ∧
    (s.atStep tag 0x0505 = some c → s.on .panel = true → exec (.columnStatus tag) s = .next (s.finishCmd c.tag stOk
      (leBytes 3 (s.reg R.COL_INSERVICE).toNat ++ leBytes 3 (s.reg R.COL_FAILED).toNat ++ leBytes 1 (s.fld F.COL_STATUS_BRINGUP_DONE)))) ∧
    (s.atStep tag 0x0704 = some c → s.on .light = true → exec (.zoneStatus tag) s = .next (s.finishCmd c.tag stOk
      (leBytes 4 (s.zstat (leAt c.params 0 2)).toNat ++ leBytes 4 (s.lda.zp.getD (leAt c.params 0 2) 0)))) ∧
    (s.atStep tag 0x0804 = some c → exec (.ttStatus tag) s = .next (s.finishCmd c.tag stOk
      (leBytes 4 s.reqLive.toNat ++ leBytes 4 (s.reg (R.SAF_PROOF 2)).toNat))) ∧
    (s.atStep tag 0x0805 = some c → exec (.ttRecord tag) s = .next (s.finishCmd c.tag stOk (match byteAt c.params 0 with
      | 0 => leBytes 4 (s.reg (R.SAF_PROOF 0)).toNat ++ leBytes 4 (s.reg (R.SAF_PROOF 1)).toNat
      | 1 => leBytes 4 (s.reg (R.SAF_PROOF 2)).toNat ++ leBytes 4 (s.reg (R.SAF_PROOF 3)).toNat
      | _ => leBytes 4 (s.reg R.SAF_PROOF_STAT).toNat ++ leBytes 4 (s.reg R.SAF_EXCUSED).toNat))) ∧
    (s.atStep tag 0x0902 = some c → exec (.calStatus tag) s = .next (s.finishCmd c.tag stOk
      (leBytes 4 (s.reg R.CAL_COUNT).toNat ++ leBytes 4 (s.reg R.CAL_LAST_FRAME).toNat))) ∧
    (s.atStep tag 0x0903 = some c → exec (.calQuality tag) s = .next (s.finishCmd c.tag stOk
      (leBytes 1 (s.fld (F.CAL_LANE_QUAL_EYE (qualLane (byteAt c.params 0) (byteAt c.params 1)))) ++
        leBytes 1 (s.fld (F.CAL_LANE_QUAL_OFFSET (qualLane (byteAt c.params 0) (byteAt c.params 1))))))) ∧
    (s.atStep tag 0x0B02 = some c → exec (.snapRead tag) s = .next (s.finishCmd c.tag stOk
      (leBytes 4 (s.snapOf (leAt c.params 0 4)).toNat ++ leBytes 2 (s.reg R.SYS_SNAP_SEQ).toNat ++
        leBytes 2 (s.reg R.SYS_SNAP_FRAME).toNat)))

/-- System and link commands that act: the state they leave and the status they end with, or what they wait for. -/
def Obligations.ActingCommands : Prop :=
  ∀ (tag : Fin 64) (c : RunCmd) (s : State),
    (s.atStep tag 0x0103 = some c → exec (.sysReset tag) s = .next (State.finishCmd
      (s.setPw { s.pw with resetDue := some (c.tag, F.RESET_CAUSE_SYS_RESET.lo) }) c.tag stOk [])) ∧
    (s.atStep tag 0x0200 = some c → ∀ u : State, u = s.setPw { s.pw with noWakeArmed := false } →
      (byteAt c.params 0 = s.mode.code → exec (.modeSet tag) s = .next (u.finishCmd c.tag stOk [BitVec.ofNat 8 (byteAt c.params 0)])) ∧
      (byteAt c.params 0 ≠ s.mode.code →
        (∀ m ∈ [Mode.boot, .splash, .linkUp, .selfRefresh, .telltaleOnly, .update], Mode.ofCode (byteAt c.params 0) = some m →
          exec (.modeSet tag) s = .next (u.finishCmd c.tag stNotInMode [])) ∧
        (Mode.ofCode (byteAt c.params 0) = some .live → s.rowOpen 11 = true → exec (.modeSet tag) s = .next (u.waitRow c 11)) ∧
        (Mode.ofCode (byteAt c.params 0) = some .lowRate → s.rowOpen 10 = true → exec (.modeSet tag) s = .next (u.waitRow c 10)) ∧
        (∀ g ∈ [(Mode.standby, SleepTarget.standby), (.dormant, .dormant)], Mode.ofCode (byteAt c.params 0) = some g.1 →
          exec (.modeSet tag) s = .next ((u.waitIn c.tag .waitEvent []).requestSleep g.2 (.modeSet c.tag))))) ∧
    (s.atStep tag 0x0201 = some c → exec (.perfFloor tag) s = .next
      ((s.regWrite R.GOV_LEVEL_FLOOR (BitVec.ofNat 32 (byteAt c.params 0))).waitFrame c s.govFixed)) ∧
    (s.atStep tag 0x0202 = some c → exec (.powerBudget tag) s = .next
      ((s.regWrite R.GOV_BUDGET (BitVec.ofNat 32 (leAt c.params 0 2))).waitFrame c s.govFixed)) ∧
    (s.atStep tag 0x0203 = some c → exec (.wakeCfg tag) s = .next (State.finishCmd
      (((s.regWrite R.PWR_SPRING (BitVec.ofNat 32 (byteAt c.params 0))).regWrite R.PWR_WAKE_EN
        (BitVec.ofNat 32 (byteAt c.params 1))).regWrite R.PWR_NOWAKE_TIMEOUT (BitVec.ofNat 32 (leAt c.params 2 2))) c.tag stOk [])) ∧
    (s.atStep tag 0x0204 = some c →
      (s.mode.isV = true → s.ttAsked = false → exec (.svcEnter tag) s = .next (s.waitRow c 17)) ∧
      (s.mode.isV = true → s.ttAsked = true → exec (.svcEnter tag) s = .next (s.finishCmd c.tag stDenied [])) ∧
      (s.mode.isV = false → exec (.svcEnter tag) s = .next (s.finishCmd c.tag stNotInMode []))) ∧
    (s.atStep tag 0x0205 = some c → s.mode = .service → exec (.svcExit tag) s = .next (s.waitRow c 19)) ∧
    (s.atStep tag 0x0301 = some c → s.on .link = true → s.pState c.portOf ≠ pOff → s.pState c.portOf ≠ pNoPartner →
      exec (.linkRetrain tag) s = .next ((s.waitIn c.tag .waitEvent []).regWrite (R.PORT_CTRL c.portOf)
        (s.reg (R.PORT_CTRL c.portOf) ||| 0x100))) ∧
    (s.atStep tag 0x0302 = some c → s.on .link = true → (byteAt c.params 1).testBit 4 = false → exec (.linkRates tag) s =
      .next (State.finishCmd (s.regWrite (R.PORT_CTRL c.portOf)
        (withBits (s.reg (R.PORT_CTRL c.portOf)) 4 4 (byteAt c.params 1))) c.tag stOk [])) ∧
    (s.atStep tag 0x0303 = some c → s.on .link = true → exec (.linkEq tag) s = .next (State.finishCmd
      (s.regWrite (R.PORT_LANE_PHY c.portOf (byteAt c.params 1)) (BitVec.ofNat 32 (byteAt c.params 2 + 65536 * byteAt c.params 3 +
        2 ^ 20 * byteAt c.params 4))) c.tag stOk [])) ∧
    (∀ (e : Nat) (l : Bool), s.atStep tag 0x0304 = some c → c.step = 2 → exec (.linkLoop tag e l) s = .next (State.finishCmd
      (s.regWrite (R.PORT_LOOP c.portOf) 0) c.tag stOk (leBytes 4 (c.note.getD 0 0) ++ leBytes 1 (c.note.getD 1 0)))) ∧
    (s.atStep tag 0x0400 = some c → (s.rs.running = true → exec (.planeSub tag) s = .next (s.setCmd { c with
        phase := .waitEvent, note := [s.frame.toNat, if s.windowClosed then 1 else 0, s.time.toNat] })) ∧
      (s.rs.running = false → exec (.planeSub tag) s = .next ((s.subscribe (byteAt c.params 0) (planeOf c.params)).finishCmd
        c.tag stOk (leBytes 4 s.frame.toNat)))) ∧
    (s.atStep tag 0x0404 = some c → exec (.scanCfg tag) s = .next (State.finishCmd
      (s.regWrite R.SCN_CTRL (withBits (s.reg R.SCN_CTRL) 1 2 (byteAt c.params 0))) c.tag stOk []))

/-- The commands that stage shadow registers and commit: each writes its parameters and commits the blocks of its list together. With
the raster running, every domain acting, no shadow set locked and no set that would be refused, that sets the COMMIT bit of every block
of the list and the command waits for the hand-overs; the last clauses say what three of the writes store. -/
def Obligations.CommittingCommands : Prop :=
  (∀ (tag : Fin 64) (c : RunCmd) (s : State),
    (s.atStep tag 0x0401 = some c → exec (.planeBlend tag) s = .next (s.commitFor c [(.cps, false)] [] fun u => u.writeBlend c.params)) ∧
    (s.atStep tag 0x0402 = some c → s.mode = .calibrate →
      s.dthChanges (BitVec.ofNat 32 (leAt ((cfgAt s.cfg 0x10 (byteAt c.params 0)).getD []) 72 4)) = false →
      exec (.timingSet tag) s = .next (s.commitFor c [(.dth, false), (.col, false), (.gsq, false), (.bld, false), (.rng, false),
        (.scn, false), (.scn, true)] [] fun u => u.writeTiming ((cfgAt s.cfg 0x10 (byteAt c.params 0)).getD []))) ∧
    (s.atStep tag 0x0403 = some c → exec (.lowrateCfg tag) s = .next (s.commitFor c [(.scn, false)] []
      fun u => u.regWrite R.SCN_LOWRATE (BitVec.ofNat 32 (leAt c.params 0 4)))) ∧
    (s.atStep tag 0x0500 = some c → exec (.biasSet tag) s = .next (s.commitFor c [(.bias, false)] [] fun u => u.writeBias c.params)) ∧
    (s.atStep tag 0x0501 = some c → byteAt c.params 0 = 0 → exec (.gammaTaps tag) s =
      .next (State.finishCmd (s.setStage (some (tapCodes c.params))) c.tag stOk [])) ∧
    (∀ len : Nat, s.atStep tag 0x0503 = some c → len = 16 + 4 * leAt (s.stagedAt (leAt c.params 0 4) 16) 2 2 →
      stagedFits (leAt c.params 0 4) len = true → s.stagedOk (leAt c.params 0 4) len = true → exec (.gateProgram tag) s =
        .next (s.commitFor c [(.gsq, false)] [] fun u => u.writeGate (u.stagedAt (leAt c.params 0 4) len) c.params)) ∧
    (∀ dth : Word, s.atStep tag 0x0504 = some c → dth = s.depthCtrl ((byteAt c.params 0).testBit 2) → s.dthChanges dth = false →
      exec (.columnCfg tag) s = .next (s.commitFor c [(.dth, false), (.col, false)] [] fun u => u.writeColumn dth c.params)) ∧
    (s.atStep tag 0x0601 = some c → byteAt c.params 0 < 4 → s.live R.DMR_CTRL = BitVec.ofNat 32 (byteAt c.params 0) →
      exec (.dmrSelect tag) s = .next (s.commitFor c [(.dmr, false)] [] fun u =>
        ({ u with fw := { u.fw with dmrAuto := false } } : State).regWrite R.DMR_CTRL (BitVec.ofNat 32 (byteAt c.params 0)))) ∧
    (s.atStep tag 0x0602 = some c → c.step = 1 → exec (.odvLoad tag) s = .next (s.commitFor c [(.odv, false)] [.odv] fun u =>
      (u.fstLoad odvStore (s.tableSource c.params 2 odvImageLen).1).regWrite R.ODV_LUT_BASE (BitVec.ofNat 32 odvStore))) ∧
    (s.atStep tag 0x0603 = some c → exec (.odvCfg tag) s = .next (s.commitFor c [(.odv, false)] [] fun u => u.writeOdv c.params)) ∧
    (s.atStep tag 0x0604 = some c → c.step = 2 → exec (.lutLoad tag) s = .next (s.commitFor c [(.dth, false), (.saf, false)] [.dth]
      fun u => (u.setBytes (pondCLo + pondTone) (s.tableSource c.params 3 dthImageLen).1).regWrite R.DTH_LUT_BASE
        (BitVec.ofNat 32 pondTone))) ∧
    (∀ v : Word, s.atStep tag 0x0605 = some c → v = withBits (s.reg R.DTH_CTRL) 0 6 (byteAt c.params 0) → s.dthChanges v = false →
      exec (.dthCfg tag) s = .next (s.commitFor c [(.dth, false)] [] fun u => u.writeDth v c.params)) ∧
    (s.atStep tag 0x0700 = some c → exec (.blScan tag) s =
      .next (s.commitFor c [(.bld, false), (.rng, false)] [] fun u => u.writeScan c.params)) ∧
    (s.atStep tag 0x0701 = some c → exec (.blLimits tag) s = .next (s.commitFor c [(.bld, false)] [] fun u => u.writeLimits c.params)) ∧
    (s.atStep tag 0x0702 = some c → exec (.blFloor tag) s = .next (s.floorGain.2.commitFor c [(.bld, true), (.dth, false),
      (.saf, false)] [] fun u => u.writeFloor s.floorGain.1 c.params)) ∧
    (s.atStep tag 0x0707 = some c → exec (.ldCfg tag) s = .next (s.commitFor c [(.lda, false)] [] fun u => u.writeDimming c.params)) ∧
    (s.atStep tag 0x0708 = some c → exec (.colourLoop tag) s = .next (s.commitFor c [(.opt, false)] [] fun u => u.writeLoop c.params)) ∧
    (s.atStep tag 0x0802 = some c → c.step = 2 → exec (.ttConfig tag) s = .next (match s.windowSet (byteAt c.params 0) with
      | some l => (s.loadIcons (1 - s.fw.iconBank) l).2.commitFor c [(.cps, true), (.saf, false)] [] fun u =>
        u.writeWindows (1 - s.fw.iconBank) l (s.loadIcons (1 - s.fw.iconBank) l).1
      | none => s.finishCmd c.tag stBadParam [])) ∧
    (s.atStep tag 0x0803 = some c → exec (.ttEnable tag) s = .next (s.commitFor c [(.cps, true)] [] fun u =>
      u.regWrite R.CPS_TT_EN (BitVec.ofNat 32 (leAt c.params 0 4))))) ∧
  (∀ (c : RunCmd) (l : CommitList) (luts : List Blk) (write : State → State) (s u : State), s.cmd c.tag = some c →
    s.rs.running = true → s.shadowsFree l = true → (∀ p ∈ l, s.on p.1.domain = true) → (write s).firstRefused luts l = none →
    (∀ p ∈ l, p.1 ≠ .saf) → u = write (s.waitIn c.tag .waitCommit (0 :: commitCodes l)) → u.rs.running = true →
    u.cmd c.tag = some { c with phase := .waitCommit, note := 0 :: commitCodes l } → l ≠ [] →
    (∀ p ∈ l, u.acts p.1.domain = true ∧ ∃ f, commitBits p.1 p.2 = some f ∧ u.flag f.commit = false) →
    (∀ p ∈ l, ∀ f, commitBits p.1 p.2 = some f → (s.commitFor c l luts write).flag f.commit = true) ∧
    (s.commitFor c l luts write).cmd c.tag = some { c with phase := .waitCommit, note := 0 :: commitCodes l }) ∧
  (∀ (u : State) (p : List Byte), u.acts .pix = true → u.flag F.ODV_COMMIT_LOCKED = false →
    (u.writeOdv p).reg R.ODV_TBIN0 = BitVec.ofNat 32 (leAt p 4 4)) ∧
  (∀ (u : State) (p : List Byte), u.acts .panel = true → u.flag F.BIAS_COMMIT_LOCKED = false →
    (u.writeBias p).fld F.BIAS_VCOM_CODE = leAt p 4 2 % 1024 ∧ (u.writeBias p).flag F.BIAS_CTRL_VCOM_CL = decide (byteAt p 6 = 1)) ∧
  (∀ (u : State) (p : List Byte), u.acts .pix = true → u.flag F.LDA_COMMIT_LOCKED = false →
    (u.writeDimming p).fld F.LDA_FIXED_FIXED_Z = leAt p 13 3 % 2 ^ 20)

/-- The commands of the panel, of light and of telltales that act at once or wait for an end. -/
def Obligations.PanelCommands : Prop :=
  ∀ (tag : Fin 64) (c : RunCmd) (s : State),
    (s.atStep tag 0x0502 = some c → s.on .panel = true → byteAt c.params 0 = 1 → (s.waitIn c.tag .waitEvent []).biasUp.biasBusy = true →
      exec (.panelPower tag) s = .next (s.waitIn c.tag .waitEvent []).biasUp) ∧
    (s.atStep tag 0x0506 = some c → s.on .panel = true → exec (.columnRetrain tag) s = .next (State.finishCmd
      (s.regWrite R.COL_RETRAIN (BitVec.ofNat 32 (leAt c.params 0 3))) c.tag stOk [])) ∧
    (s.atStep tag 0x0600 = some c →
      (c.step = 1 → (s.dmrSource c.params).2 = true → exec (.dmrLoad tag) s = .next (s.stepDone c.tag [])) ∧
      (c.step = 1 → (s.dmrSource c.params).2 = false → exec (.dmrLoad tag) s = .next (s.finishCmd c.tag stFault [])) ∧
      (5 ≤ c.step → s.crcHolds = false → exec (.dmrLoad tag) s = .next (s.demuraCommit c (byteAt c.params 1)))) ∧
    (s.atStep tag 0x0703 = some c → s.on .light = true → leAt c.params 0 2 ≠ 0xFFFF → exec (.zoneClear tag) s = .next (State.finishCmd
      ((zonesNamed (leAt c.params 0 2)).foldl State.clearZone s) c.tag stOk [])) ∧
    (s.atStep tag 0x0705 = some c → s.on .light = true → s.bl.latch = none → s.allDark = true → s.bl.nbr = false →
      exec (.nbrTest tag) s = .next (State.waitIn ((s.setFlag F.BLD_STATUS_NBR_BUSY true).setBl { s.bl with nbr := true })
        c.tag .waitEvent [])) ∧
    (s.atStep tag 0x0706 = some c → s.on .light = true → byteAt c.params 0 = 1 → exec (.xchainSet tag) s = .next (State.finishCmd
      (s.regWrite (R.BLD_XCH (leAt c.params 2 2)) (BitVec.ofNat 32 (leAt c.params 4 2 + 2 ^ 17 * leAt c.params 6 2))) c.tag stOk [])) ∧
    (s.atStep tag 0x0800 = some c → c.mb ≠ 2 → exec (.ttHostReq tag) s =
      .next (State.waitFrame (s.regWrite R.SAF_HOST_REQ (BitVec.ofNat 32 (leAt c.params 0 4))) c false)) ∧
    (s.atStep tag 0x0801 = some c →
      (byteAt c.params 0 = 1 → (s.safeLatch true).rowOpen 13 = true → exec (.ttSafeState tag) s = .next ((s.safeLatch true).waitRow c 13)) ∧
      (byteAt c.params 0 ≠ 1 → s.mode = .telltaleOnly → s.saf.run < 8 →
        exec (.ttSafeState tag) s = .next (s.finishCmd c.tag stBusy [])) ∧
      (byteAt c.params 0 ≠ 1 → s.mode = .telltaleOnly → 8 ≤ s.saf.run →
        exec (.ttSafeState tag) s = .next ((s.safeLatch false).waitRow c 14))) ∧
    (s.atStep tag 0x0806 = some c → exec (.ttAction tag) s = .next (State.finishCmd
      (s.regWrite R.SAF_CTRL (BitVec.ofNat 32 (byteAt c.params 0))) c.tag stOk [])) ∧
    (s.atStep tag 0x0900 = some c → s.mode.isV = true → s.ttAsked = false → exec (.calFullRun tag) s = .next (s.waitRow c 15)) ∧
    (s.atStep tag 0x0901 = some c → s.calCmd = none → exec (.calAbort tag) s = .next (State.finishCmd (s.calDrop.latch 16 none)
      c.tag stOk [])) ∧
    (s.atStep tag 0x0904 = some c → s.on .light = true → exec (.calSave tag) s = .next (State.finishCmd
      (State.calRelease (s.fstWrite (stagingOff + leAt c.params 0 4) (s.calRecord ++ sha256 s.calRecord))) c.tag stOk
      (leBytes 4 calRecLen))) ∧
    (s.atStep tag 0x0905 = some c → c.step = 0 → s.stagedOk (leAt c.params 0 4) calRecLen = false →
      exec (.calRestore tag) s = .next (s.calRelease.finishCmd c.tag stFault [])) ∧
    (s.atStep tag 0x0905 = some c → 3 ≤ c.step → ∀ (n : Nat × Nat) (u : State),
      restoreGroup (fun s i => s.restoreSink (s.stagedAt (leAt c.params 0 4) calRecLen) i) (List.range 192) s = (n, u) →
      exec (.calRestore tag) s = .next ((u.restoreTref (s.stagedAt (leAt c.params 0 4) calRecLen)).calRelease.finishCmd c.tag stOk
        (leBytes 2 (c.note.getD 0 0 + n.1) ++ leBytes 2 (c.note.getD 1 0 + n.2))))

/-- The memory, log and register commands. A read of an access that is done answers its bytes, a bus error is a FAULT, a register
write writes under its mask and answers the value read back. -/
def Obligations.MemoryCommands : Prop :=
  ∀ (tag : Fin 64) (c : RunCmd) (s : State),
    (∀ (e : Nat) (bs : List Byte) (u : State), s.atStep tag 0x0A00 = some c →
      (s.busRead .core (leAt c.params 0 4) 8 e = (.done bs, u) → exec (.memRead tag e) s = .next (u.finishCmd c.tag stOk bs)) ∧
      (s.busRead .core (leAt c.params 0 4) 8 e = (.error, u) → exec (.memRead tag e) s = .next (u.finishCmd c.tag stFault []))) ∧
    (∀ (e : Nat) (bs : List Byte) (u : State), s.atStep tag 0x0A01 = some c → byteAt c.params 4 = 8 →
      s.busWrite .core (leAt c.params 0 4) ((c.params.drop 8).take 8) e = (.done bs, u) →
      exec (.memWrite tag e) s = .next (u.finishCmd c.tag stOk [])) ∧
    (∀ (ecc : List (Nat × Nat)) (n : Nat × Nat) (u : State), s.atStep tag 0x0A02 = some c → s.on .pix = true →
      leAt c.params 12 4 ≠ 0 → leAt c.params 12 4 ≤ 0x100000 * (c.step + 1) → byteAt c.params 0 ≠ 2 →
      State.jobWords c.dmaJob ecc (c.dmaJob.len / 8) 0 (c.note.getD 0 0, c.note.getD 1 0xFFFFFFFF) s = (some n, u) →
      exec (.dmaRun tag ⟨ecc, []⟩) s = .next (u.finishCmd c.tag stOk [])) ∧
    (s.atStep tag 0x0A03 = some c → ∃ bs : List Byte, bs = ((List.range (leAt c.params 6 2)).map fun j =>
        s.captureLine (leAt c.params 0 2) (leAt c.params 2 2 + j) (leAt c.params 4 2)).flatten ∧
      exec (.capture tag) s = .next (State.finishCmd (s.fstWrite captureOff bs) c.tag stOk (leBytes 4 s.frame.toNat ++ leBytes 4 bs.length))) ∧
    (s.atStep tag 0x0B00 = some c → (byteAt c.params 2).testBit 1 = true → exec (.ledgerRead tag) s =
      .next (s.ledgerAcked.finishCmd c.tag stOk (List.replicate 8 0#8))) ∧
    (∀ a : Nat, s.atStep tag 0x0B01 = some c → s.logEntryAddr (leAt c.params 0 2) = some a → byteAt c.params 2 = 0 →
      exec (.logRead tag) s = .next (s.finishCmd c.tag stOk (s.bytes a 8))) ∧
    (s.atStep tag 0x0B03 = some c → exec (.eventCfg tag) s = .next (State.finishCmd
      (s.regWrite R.SYS_EVT_EN (BitVec.ofNat 32 (leAt c.params 0 4))) c.tag stOk [])) ∧
    (∀ (bs : List Byte) (u : State) (b : Blk), s.atStep tag 0x0D00 = some c → blkOf (leAt c.params 0 4) = some b → s.on b.domain = true →
      s.regRead .core (leAt c.params 0 4) = (.done bs, u) → exec (.regRead tag) s = .next (u.finishCmd c.tag stOk bs)) ∧
    (∀ (bs : List Byte) (u : State) (b : Blk), s.atStep tag 0x0D01 = some c → blkOf (leAt c.params 0 4) = some b → s.on b.domain = true →
      leAt c.params 8 4 = 0xFFFFFFFF →
      (s.regWrite (leAt c.params 0 4) (BitVec.ofNat 32 (leAt c.params 4 4))).regRead .core (leAt c.params 0 4) = (.done bs, u) →
      exec (.regWrite tag) s = .next (u.finishCmd c.tag stOk bs))

/-- The update and service commands. A sector of a write is erased and programmed with the staged bytes, and only the sector changes;
verifying answers the parts that pass; activation of a good image makes the reset due; a challenge draws the nonce and a
response unlocks mailbox 3 exactly where it is the CMAC over nonce and serial number. -/
def Obligations.UpdateCommands : Prop :=
  ∀ (tag : Fin 64) (c : RunCmd) (s : State),
    (s.atStep tag 0x0C00 = some c → exec (.updateBegin tag) s =
      .next (State.waitRow { s with mail := { s.mail with updOpen := byteAt c.params 0 } } c 20)) ∧
    (∀ base len : Nat, s.atStep tag 0x0C01 = some c → s.partOf (byteAt c.params 0) = some (base, len) → s.flashHeld = false →
      c.step = 0 → 0 < leAt c.params 8 4 → leAt c.params 8 4 ≤ 0x10000 → ∃ u : State,
        u = (s.setBytes (base + leAt c.params 4 4) (s.stagedAt 0 (leAt c.params 8 4) ++
          List.replicate (0x10000 - leAt c.params 8 4) 0xFF#8)).flashOver ∧
        exec (.updateWrite tag) s = .next (u.finishCmd c.tag stOk [])) ∧
    (∀ k : Nat, s.atStep tag 0x0C02 = some c → c.step = 0 → c.note = [] → k < 5 → byteAt c.params 0 = 2 ^ k →
      exec (.updateVerify tag) s = .next (if s.partOk k then s.finishCmd c.tag stOk [BitVec.ofNat 8 (2 ^ k)]
        else s.finishCmd c.tag stPartial [0#8])) ∧
    (s.atStep tag 0x0C03 = some c → c.step = 0 → exec (.updateActivate tag) s = .next (if s.imageOk s.nextImage = true
      then s.stepDone c.tag [] else s.finishCmd c.tag stFault [])) ∧
    (s.atStep tag 0x0C03 = some c → c.step = 1 → s.flashHeld = false → s.pw.rom = false → Leaves (exec (.updateActivate tag) s) fun t =>
      ∃ u : State, u.pw.resetDue = some (c.tag, F.RESET_CAUSE_UPDATE_ACTIVATE.lo) ∧
        u.mem = (s.newCopy s.nextImage).flashOver.mem ∧ t = u.finishCmd c.tag stOk []) ∧
    (s.atStep tag 0x0C04 = some c → (s.mail.cmds.all fun d => d.opcode ≠ 0x0C01 && d.opcode ≠ 0x0C02) = true → s.flashStep = false →
      exec (.updateAbort tag) s = .next (s.waitRow c 22)) ∧
    (s.atStep tag 0x0C05 = some c →
      (s.mail.lockedOut = true → exec (.svcChallenge tag) s = .next (s.finishCmd c.tag stBusy [])) ∧
      (s.mail.lockedOut = false → ∀ (n : Nat) (u : State), s.random (2 ^ 64) = (n, u) → exec (.svcChallenge tag) s = .next
        (State.finishCmd { u with mail := { u.mail with nonce := some n } } c.tag stOk (leBytes 8 n)))) ∧
    (s.atStep tag 0x0C06 = some c → ∀ n : Nat, s.mail.nonce = some n → exec (.svcResponse tag) s = .next (
      if c.params.take 16 = cmac (leBytes 16 Config.serviceKey) (leBytes 8 n ++ leBytes 8 Config.serial.toNat) then
        State.finishCmd { s with mail := { s.mail with nonce := none, unlockFails := 0, unlocked := true } } c.tag stOk []
      else s.respFails.finishCmd c.tag stDenied [])) ∧
    (s.atStep tag 0x0C07 = some c → exec (.svcLock tag) s = .next (s.finishCmd c.tag stOk []).svcLock)


/-! ### DMA, calibration, time and logs -/

/-- A channel's start and end. GO with EN to an idle channel that pacing does not turn away starts a job; the free engine takes the
lowest ready channel; PAUSE of a heavy job that waits pauses it and PAUSE = 0 resumes it; EN = 0 ends a light job, and a heavy one that
waits is written back and ends; CLR_HALT makes a halted channel idle. -/
def Obligations.DmaChannels : Prop :=
  ∀ (n : Fin 16) (s : State), s.on .ctrl = true → s.dma.chans.length = 16 →
    (s.chanIdle n = true → Leaves (exec (.dmaGo n 0) s) fun t =>
      t.chan n = { Channel.reset with job := true } ∧ t.reg (R.DMA_CH_CTRL n) = 1 ∧ t.flag (F.DMA_CH_STATUS_EMPTY n) = false ∧
      (∀ k, k < 16 → k ≠ n.val → t.chan k = s.chan k) ∧ t.mem = s.mem) ∧
    (heavy n = true → (s.chan n).job = true → s.dma.engine ≠ some n.val → s.flag (F.DMA_CH_CTRL_EN n) = true →
      s.flag (F.DMA_CH_CTRL_GO n) = false → s.flag (F.DMA_CH_CTRL_CLR_HALT n) = false →
      (Leaves (exec (.pause n) s) fun t => t.chan n = { s.chan n with paused := true } ∧ t.flag (F.DMA_CH_CTRL_PAUSE n) = true ∧
        t.mem = s.mem) ∧
      ((s.chan n).paused = true → s.flag (F.DMA_CH_CTRL_PAUSE n) = true → Leaves (exec (.resume n) s) fun t =>
        t.chan n = { s.chan n with paused := false } ∧ t.flag (F.DMA_CH_CTRL_PAUSE n) = false ∧ t.mem = s.mem) ∧
      ((s.chan n).halted = false → (s.chan n).desc = none → Leaves (exec (.heavyChannelDisable n) s) fun t =>
        (t.chan n).job = false ∧ t.flag (F.DMA_CH_CTRL_EN n) = false ∧ t.mem = s.mem)) ∧
    (heavy n = false → (s.chan n).job = true → (s.chan n).halted = false →
      (s.dma.engine ≠ some n.val ∨ (s.chan n).desc = none) → Leaves (exec (.lightChannelDisable n) s) fun t =>
      (t.chan n).job = false ∧ (t.chan n).desc = none ∧ t.dma.engine ≠ some n.val ∧ t.flag (F.DMA_CH_CTRL_EN n) = false ∧
      (∀ k, k < 16 → k ≠ n.val → t.chan k = s.chan k) ∧ t.reg R.DMA_IRQ_STATUS = s.reg R.DMA_IRQ_STATUS ∧ t.mem = s.mem) ∧
    ((s.chan n).halted = true → s.flag (F.DMA_CH_CTRL_EN n) = false → Leaves (exec (.clrHalt n) s) fun t =>
      t.chan n = Channel.reset ∧ t.mem = s.mem)

/-- The engine that takes a channel whose descriptor has OWN = 0 transfers nothing and writes nothing to it: the job ends with EMPTY
set, COUNT 0 and the channel's ERR interrupt raised. -/
def Obligations.EmptyDescriptor : Prop :=
  ∀ (n : Nat) (s : State), s.on .ctrl = true → s.dma.chans.length = 16 → s.flag F.DMA_CTRL_ENGINE_EN = true → s.dma.engine = none →
    n < 16 → s.chanReady n = true → (∀ k, k < n → s.chanReady k = false) → (s.chan n).desc = none →
    (s.byte ((s.reg (R.DMA_CH_DESC n)).toNat + 3)).getLsbD 7 = false → Leaves (exec .engineTake s) fun t =>
      t.mem = s.mem ∧ t.flag (F.DMA_CH_STATUS_EMPTY n) = true ∧ t.fld (F.DMA_CH_COUNT_VAL n) = 0 ∧
      (t.reg R.DMA_IRQ_STATUS).getLsbD (16 + n) = true ∧ (t.chan n).job = false ∧ t.dma.engine = none

/-- The engine's work. ENGINE_TAKE gives the free engine to the lowest ready channel: a position it holds is kept, else the descriptor
that DESC names is fetched, and one that its checks refuse is written back with its status, counted and raises ERR. A descriptor
whose words are all moved is written back DONE, COUNT steps down and DESC moves to NEXT; with COUNT or NEXT 0 the job ends with
the channel's interrupt. A drained pause leaves the engine with nothing moved. COUNT_ADD and the queues change their counts within
their bounds. -/
def Obligations.DmaWork : Prop :=
  ∀ s : State, s.on .ctrl = true →
    (∀ n : Nat, s.flag F.DMA_CTRL_ENGINE_EN = true → s.dma.engine = none → n < 16 → s.dma.chans.length = 16 → s.chanReady n = true →
      (∀ k, k < n → s.chanReady k = false) → s.flag (F.DMA_CH_CTRL_PACE_EN n) = false →
      ((s.chan n).desc.isSome = true → exec .engineTake s =
        .next { s with dma := { s.dma with engine := some n, burst := none } }) ∧
      (∀ a : Nat, a = (s.reg (R.DMA_CH_DESC n)).toNat → (s.chan n).desc = none → (s.byte (a + 3)).getLsbD 7 = true →
        (s.descStatus n (s.descAt a) = stOk → Leaves (exec .engineTake s) fun t =>
          t.dma.engine = some n ∧ (t.chan n).desc = some (s.descAt a) ∧ (t.chan n).done = 0 ∧ t.reg (R.DMA_CH_DONE n) = 0 ∧
          t.mem = s.mem) ∧
        (s.descStatus n (s.descAt a) ≠ stOk → Leaves (exec .engineTake s) fun t =>
          t.byte (a + 24) = BitVec.ofNat 8 (s.descStatus n (s.descAt a)) ∧ (t.byte (a + 3)).getLsbD 7 = false ∧
          (∀ b, b ≠ a + 3 → (b < a + 24 ∨ a + 40 ≤ b) → t.byte b = s.byte b) ∧
          t.fld F.DMA_CNT_REFUSED = min (s.fld F.DMA_CNT_REFUSED + 1) 255 ∧ (t.reg R.DMA_IRQ_STATUS).getLsbD (16 + n) = true ∧
          (t.chan n).job = false ∧ t.dma.engine = none))) ∧
    (∀ (ecc : List (Nat × Nat)) (n : Nat) (d : Desc), s.atWork = some (n, d) → n < 16 → s.dma.chans.length = 16 → s.draining n = false →
      d.words ≤ (s.chan n).done → (s.fld (F.DMA_CH_COUNT_VAL n) ≤ 1 ∨ d.next = 0) →
      Leaves (exec (.descriptorComplete ⟨ecc, []⟩) s) fun t =>
        t.mle (d.addr + 24) 4 = stOk ∧ t.mle (d.addr + 28) 4 = 8 * (s.chan n).done % 2 ^ 32 ∧ (t.byte (d.addr + 3)).getLsbD 7 = false ∧
        (∀ b, b ≠ d.addr + 3 → (b < d.addr + 24 ∨ d.addr + 40 ≤ b) → t.byte b = s.byte b) ∧
        t.fld F.DMA_CNT_DONE = min (s.fld F.DMA_CNT_DONE + 1) 65535 ∧
        t.fld (F.DMA_CH_COUNT_VAL n) = s.fld (F.DMA_CH_COUNT_VAL n) - 1 ∧ t.reg (R.DMA_CH_DESC n) = BitVec.ofNat 32 d.next ∧
        (t.reg R.DMA_IRQ_STATUS).getLsbD n = true ∧ (t.chan n).job = false ∧ t.dma.engine = none) ∧
    (∀ (ecc : List (Nat × Nat)) (n : Nat) (d : Desc), s.atWork = some (n, d) → n < 16 → s.dma.chans.length = 16 → s.draining n = true →
      (s.chan n).stopping = false → s.flag (F.DMA_CH_CTRL_PACE_EN n) = false → Leaves (exec (.pauseDrainDone 0 ⟨ecc, []⟩) s) fun t =>
        t.chan n = { s.chan n with paused := true } ∧ t.dma.engine = none ∧
        t.reg (R.DMA_CH_DONE n) = BitVec.ofNat 32 (8 * (s.chan n).done) ∧ t.mem = s.mem) ∧
    (∀ (n : Fin 16) (v : Word), (s.chan n).job = true → s.fld (F.DMA_CH_COUNT_VAL n) + v.toNat % 65536 ≤ 65535 →
      Leaves (exec (.countAdd n v) s) fun t => t.fld (F.DMA_CH_COUNT_VAL n) = s.fld (F.DMA_CH_COUNT_VAL n) + v.toNat % 65536 ∧
        s.keepsBits t [F.DMA_CH_COUNT_VAL n] ∧ t = { s with regs := t.regs }) ∧
    (∀ (q : Fin 4) (v : Word), s.dma.engine = none → v.toNat < 2 ^ 24 →
      (Leaves (exec (.queueAdd q v) s) fun t => t.fld (F.DMA_QFILL_VAL q) = min (s.fld (F.DMA_QFILL_VAL q) + v.toNat) 16777215 ∧
        s.keepsBits t [F.DMA_QFILL_VAL q, F.DMA_EVENT_QERR] ∧ t = { s with regs := t.regs }) ∧
      (Leaves (exec (.queueSub q v) s) fun t => t.fld (F.DMA_QFILL_VAL q) = s.fld (F.DMA_QFILL_VAL q) - v.toNat ∧
        (s.fld (F.DMA_QFILL_VAL q) < v.toNat → t.flag F.DMA_EVENT_QERR = true) ∧
        s.keepsBits t [F.DMA_QFILL_VAL q, F.DMA_EVENT_QERR] ∧ t = { s with regs := t.regs }))

/-- Calibration with CTRL on. A step that ends outside a full run, at an element boundary that is held: a lane's result that passes its
checks gives the lane its map and trims, to take effect at the next marker, and counts APPLIED; a refused one leaves them, counts KEPT
and sets REJECT; a photodiode takes its dark mean within bounds, a sink the 12 cells nearest to 40 mA. Either way the element leaves the run,
which waits. A burst is counted; a link step that 64 frames have not completed is skipped. In every run the steps are as their
results give. A write to an element's registers is taken where it passes its check, and else sets BAD_WR alone. -/
def Obligations.CalibrationSteps : Prop :=
  ∀ s : State, s.on .ctrl = true →
    (∀ (r : CalRun), s.cal.run = some r →
      (∀ (l : Nat) (a b : CalEye), s.calActive (.lane l) = true → r.kind = calFull ∨ 1024 ≤ r.slots →
        exec (.calStepDone (.lane l) (.eyes a b)) s = .next (s.eyeResult r.kind (.lane l) [(l, a)])) ∧
      (∀ a b : CalEye, s.calActive .backChannel = true → 16 ≤ r.bursts → exec (.calStepDone .backChannel (.eyes a b)) s =
        .next (s.eyeResult r.kind .backChannel [(9, a), (10, b)])) ∧
      (∀ k : Nat, s.calActive (.photodiode k) = true → exec (.calStepDone (.photodiode k) .dark) s = .next (s.pdResult r.kind k)) ∧
      (∀ (c : Nat) (l : List Nat), s.calActive (.sink c) = true → exec (.calStepDone (.sink c) (.cells l)) s = .next (s.sinkResult c l)) ∧
      (r.kind ≠ calFull → s.cal.held = true →
        (∀ (l : Nat) (a b : CalEye), l < 9 → s.calActive (.lane l) = true → 1024 ≤ r.slots →
          (s.eyeRefused r.kind l a = false → Leaves (exec (.calStepDone (.lane l) (.eyes a b)) s) fun t =>
            t.reg (R.CAL_LANE_MAP l) = a.map ∧ t.reg (R.CAL_LANE_TRIM l) = a.trim ∧ t.cal.laneDue.contains l = true ∧
            t.fld (F.CAL_LANE_CNT_APPLIED l) = min (s.fld (F.CAL_LANE_CNT_APPLIED l) + 1) 65535 ∧ t.flag F.CAL_STATUS_WAITING = true ∧
            t.cal.run = some { r with elems := r.elems.erase (.lane l), slots := 0, bursts := 0, frames := 0 } ∧
            s.keepsBits t [whole (R.CAL_LANE_MAP l), whole (R.CAL_LANE_TRIM l), whole (R.CAL_LANE_QUAL l), F.CAL_LANE_CNT_APPLIED l,
              F.CAL_STATUS_WAITING] ∧ t.mem = s.mem) ∧
          (s.eyeRefused r.kind l a = true → Leaves (exec (.calStepDone (.lane l) (.eyes a b)) s) fun t =>
            t.reg (R.CAL_LANE_MAP l) = s.reg (R.CAL_LANE_MAP l) ∧ t.reg (R.CAL_LANE_TRIM l) = s.reg (R.CAL_LANE_TRIM l) ∧
            t.cal.laneDue = s.cal.laneDue ∧ t.flag F.CAL_STATUS_REJECT = true ∧
            t.fld (F.CAL_LANE_CNT_KEPT l) = min (s.fld (F.CAL_LANE_CNT_KEPT l) + 1) 255 ∧ t.flag F.CAL_STATUS_WAITING = true ∧
            t.cal.run = some { r with elems := r.elems.erase (.lane l), slots := 0, bursts := 0, frames := 0 })) ∧
        (∀ (k m : Nat), k < 3 → s.calActive (.photodiode k) = true → (s.darkMean k).1.1 = m → 256 ≤ (s.cal.dark.map (·.2)).sum → m ≤ 4096 →
          m ≤ s.fld (F.OPT_PD_OFS_VAL k) + 1024 → s.fld (F.OPT_PD_OFS_VAL k) ≤ m + 1024 →
          Leaves (exec (.calStepDone (.photodiode k) .dark) s) fun t => t.fld (F.OPT_PD_OFS_VAL k) = m ∧
            t.flag F.CAL_STATUS_WAITING = true ∧ s.keepsBits t [F.OPT_PD_OFS_VAL k, F.CAL_STATUS_WAITING] ∧ t.mem = s.mem) ∧
        (∀ (c : Nat) (l : List Nat), c < 192 → s.calActive (.sink c) = true → cellOff (chooseCells l).1 ≤ 600 →
          Leaves (exec (.calStepDone (.sink c) (.cells l)) s) fun t => t.fld (F.CAL_SINK_CELL_MASK c) = (chooseCells l).2 % 65536 ∧
            t.flag (F.CAL_SINK_CALIBRATED c) = true ∧ t.cal.sinkDue.contains c = true ∧ t.flag F.CAL_STATUS_WAITING = true ∧
            s.keepsBits t [whole (R.CAL_SINK c), F.CAL_STATUS_WAITING] ∧ t.mem = s.mem) ∧
        (∀ l : Nat, l < 9 → s.calLane = some l → 64 ≤ r.frames → Leaves (exec .calStepTimeout s) fun t =>
          t.fld (F.CAL_LANE_CNT_SKIPPED l) = min (s.fld (F.CAL_LANE_CNT_SKIPPED l) + 1) 255 ∧ t.flag F.CAL_STATUS_WAITING = true ∧
          t.cal.run = some { r with elems := r.elems.erase (.lane l), slots := 0, bursts := 0, frames := 0 } ∧
          s.keepsBits t [F.CAL_LANE_CNT_SKIPPED l, F.CAL_STATUS_WAITING] ∧ t.mem = s.mem)) ∧
      (s.calActive .backChannel = true → s.mode = .calibrate → Leaves (exec .calBurst s) fun t =>
        t.cal.run = some { r with bursts := r.bursts + 1 } ∧ t = { s with cal := t.cal }) ∧
      (s.calActive .backChannel = true → s.mode ≠ .calibrate → s.rs.running = true → r.burstAt ≠ some s.frame →
        Leaves (exec .calBurst s) fun t => t.cal.run = some { r with bursts := r.bursts + 1, burstAt := some s.frame }) ∧
      (∀ l : Nat, s.calLane = some l → r.kind ≠ calFull → 64 ≤ r.frames →
        exec .calStepTimeout s = .next ((s.calSkip (.lane l)).calDone (.lane l) 2))) ∧
    (∀ (l : Fin 11) (v : Word), mapOk v = false → Leaves (exec (.calElementWrite (BitVec.ofNat 32 (R.CAL_LANE_MAP l)) v) s) fun t =>
      t.flag F.CAL_STATUS_BAD_WR = true ∧ s.keepsBits t [F.CAL_STATUS_BAD_WR] ∧ t = { s with regs := t.regs }) ∧
    (∀ (l : Fin 9) (v : Word), mapOk v = true → s.cal.run = none → s.cal.laneDue = [] →
      Leaves (exec (.calElementWrite (BitVec.ofNat 32 (R.CAL_LANE_MAP l)) v) s) fun t =>
        t.reg (R.CAL_LANE_MAP l) = v &&& 0x3FFFF ∧ t.cal.laneDue = [l.val] ∧ s.keepsBits t [whole (R.CAL_LANE_MAP l)] ∧ t.mem = s.mem) ∧
    (∀ (c : Fin 192) (v : Word), maskOk (v.toNat % 65536) = true → s.cal.run = none → s.cal.sinkDue = [] →
      Leaves (exec (.calElementWrite (BitVec.ofNat 32 (R.CAL_SINK c)) v) s) fun t =>
        t.fld (F.CAL_SINK_CELL_MASK c) = v.toNat % 65536 ∧ t.cal.sinkDue = [c.val] ∧ s.keepsBits t [F.CAL_SINK_CELL_MASK c] ∧
        t.mem = s.mem)

/-- A read of SYS_TIME_LO answers bits 31 to 0 of module time and copies bits 47 to 32 and OSC_TIME into the reading master's own
SYS_TIME_HI; a read of SYS_TIME_HI answers the copy of the master that reads. -/
def Obligations.TimeRead : Prop :=
  ∀ (m : Master) (s : State), s.on .ctrl = true → m ≠ .seq → Leaves (exec (.sysTimeLoRead m) s) fun t =>
    t.answer = ⟨leBytes 4 (s.time.toNat % 2 ^ 32), false⟩ ∧
    (t.regRead m R.SYS_TIME_HI).1 = .done (leBytes 4 (s.time.toNat / 2 ^ 32 + if s.oscTime then 65536 else 0)) ∧
    (∀ k : Master, k ≠ m → k ≠ .seq → (t.regRead k R.SYS_TIME_HI).1 = (s.regRead k R.SYS_TIME_HI).1) ∧
    t = { s with timeHi := t.timeHi, answer := t.answer }

/-- The snapshot address is stored and SNAP_BAD says whether it is a live counter's. An event packet queues the records that wait, up to
16, at a linked Inlet's return lane, as one packet with the module's address, and SEND moves past them; over a link that is down they are
counted in LOST. A LOG_POST of four words gives the writer a part: with room for its record the part waits in the queue, without it the
record is dropped and counted. A staged gamma half is dropped. -/
def Obligations.SnapshotsAndLogs : Prop :=
  (∀ (v : Word) (s : State), s.on .ctrl = true → Leaves (exec (.snapAddrWrite v) s) fun t =>
    t.reg R.SYS_SNAP_ADDR = v ∧ t.flag F.SYS_SNAP_THI_SNAP_BAD = !liveCounters.contains v.toNat ∧
    s.keepsBits t [whole R.SYS_SNAP_ADDR, F.SYS_SNAP_THI_SNAP_BAD] ∧ t = { s with regs := t.regs }) ∧
  (∀ (n : Nat) (s : State), s.on .ctrl = true → s.on .link = true → (s.port 0).tx.gotCredit = true → 16 ≤ s.log.evtHeld →
    s.evtFit s.log.evtHeld (s.fld F.SYS_EVT_RING_SEND) 16 = n → n ≠ 0 → Leaves (exec .eventPacketSend s) fun t =>
      t.fld F.SYS_EVT_RING_SEND = (s.fld F.SYS_EVT_RING_SEND + n) % 256 ∧ t.log.evtHeld = s.log.evtHeld - n ∧
      t.log.evtTimes = s.log.evtTimes.drop n ∧ t.mem = s.mem ∧
      (s.pLinked 0 = true → (t.port 0).tx.queue = (s.port 0).tx.queue ++ [outPkt tEvent s.address 0
          (((List.range n).map fun k => s.bytes (evtAddr (s.fld F.SYS_EVT_RING_SEND + k)) 16).flatten) true none] ∧
        s.keepsBits t [F.SYS_EVT_RING_SEND]) ∧
      (s.pLinked 0 = false → (t.port 0).tx = (s.port 0).tx ∧ s.keepsBits t [F.SYS_EVT_RING_SEND, F.PORT_DROP_LOST 0])) ∧
  (∀ (w0 w1 w2 w3 : Word) (bs : List Byte) (s : State), s.on .ctrl = true → s.log.logStage.length ≤ 4 →
    bs = ([w0, w1, w2, w3].map fun w => leBytes 4 w.toNat).flatten →
    exec (.logPost w0 w1 w2 w3) s =
      .next (State.postFirmwarePart { s with log := { s.log with logStage := [w0, w1, w2, w3] } } bs) ∧
    (s.ringRuns = true → byteAt bs 2 % 4 = 0 →
      (s.log.logQ.length + byteAt bs 2 / 4 % 4 + 1 ≤ 32 → Leaves (exec (.logPost w0 w1 w2 w3) s) fun t =>
        t.log.logQ = s.log.logQ ++ [.part (BitVec.ofNat 8 (byteAt bs 0 % 128 + if s.log.logLost = true then 128 else 0) :: bs.drop 1)
          (decide (byteAt bs 2 / 4 % 4 = 0))] ∧ t.log.logLost = false ∧ t = { s with log := t.log }) ∧
      (32 < s.log.logQ.length + byteAt bs 2 / 4 % 4 + 1 → Leaves (exec (.logPost w0 w1 w2 w3) s) fun t =>
        t.log.logQ = s.log.logQ ∧ t.log.logLost = true ∧
        t.fld F.SYS_LOG_CNT_DROPPED = min (s.fld F.SYS_LOG_CNT_DROPPED + 1) 65535 ∧ s.keepsBits t [F.SYS_LOG_CNT_DROPPED] ∧
        t = { s with regs := t.regs, log := t.log }))) ∧
  (∀ s : State, Leaves (exec .gammaStageDiscard s) fun t => t.mail.gammaStage = none ∧
    t = { s with mail := { s.mail with gammaStage := none } })


/-! ### Pins -/

/-- The pins' states. A pin whose domain has no supply floats; CTRL keeps its supply in STANDBY. With LINK on the output pairs of J1 and J2 are
driven and the input pairs are high impedance; J2 REFCLK runs on while a reference is on J1 and stops with it. With PANEL on the column link's
pins and the gate outputs are high impedance before their steps. A sleep entry's end leaves J1 to J6 floating. In STANDBY THERM, SPI_MISO
and INT_N are high impedance; elsewhere SPI_MISO is high impedance between transactions, and INT_N is low exactly while an
enabled interrupt is pending. FAULT_N is low exactly while it is held or a fault is latched. -/
def Obligations.PinStates : Prop :=
  ∀ s : State,
    (∀ p : Pin, s.on p.domain = false → (p.domain = .ctrl → s.mode ≠ .standby ∧ s.pw.resume = false) → s.pinState p = .floating) ∧
    (s.on .link = true → (∀ l : Fin 8, s.pinState (.j2Fwd l) = .driven ∧ s.pinState (.j1Fwd l) = .highImpedance) ∧
      s.pinState .j1Ret = .driven ∧ s.pinState .j2Ret = .highImpedance) ∧
    (s.acts .link = true → (Leaves (exec .refclkLoss s) fun t => t.pinState .j2RefClk = .highImpedance) ∧
      (s.pw.refclk = true → s.pinState .j2RefClk = .driven)) ∧
    (s.on .panel = true →
      (s.flag F.COL_CTRL_RUN = false → (∀ l : Fin 24, s.pinState (.lane l) = .highImpedance) ∧
        ∀ g : Fin 2, s.pinState (.cref g) = .highImpedance) ∧
      (s.flag F.COL_CTRL_RUN = true → ∀ l : Fin 24, s.pinState (.lane l) = .driven) ∧
      (s.bias.vddPl = false → s.pinState (.vddPl 0) = .highImpedance) ∧ (s.bias.vddPl = true → s.pinState (.vddPl 0) = .drivenHigh) ∧
      (s.bias.vgh = false → s.biasBusy = false → s.pinState .vgh = .highImpedance ∧ s.pinState .allOn = .highImpedance ∧
        ∀ i : Fin 12, s.pinState (.ckv i) = .highImpedance) ∧
      (s.bias.vgh = true → ∀ i : Fin 12, s.pinState (.ckv i) = if bitOf (s.reg R.GSQ_OUT) i then .drivenHigh else .drivenLow)) ∧
    (∀ e : SleepEntry, s.pw.trans = .entering e → 5 ≤ e.voted → s.on .light = false → s.on .panel = false → s.on .link = false →
      s.cal.run = none → s.pw.pendReq = none → s.mail.unlocked = false → Leaves (exec .sleepStateReached s) fun t =>
        ∀ p : Pin, p.domain = .link ∨ p.domain = .panel ∨ p.domain = .light → t.pinState p = .floating) ∧
    (s.mode = .standby → s.pinState .therm = .highImpedance ∧ s.pinState .spiMiso = .highImpedance ∧ s.pinState .intN = .highImpedance ∧
      s.pinState .spiCsN = .held true) ∧
    (s.on .ctrl = true → s.mode ≠ .standby → s.pinState .spiMiso = .highImpedance ∧ s.misoPin true = .driven ∧
      s.pinState .intN = if (s.intStatus &&& (s.reg R.SYS_INT_EN).toNat) = 0 then .highImpedance else .drivenLow) ∧
    (s.on .aon = true → s.pinState .wake = .held false ∧
      s.pinState .faultN = if s.pw.faultHeld || s.flag F.SAF_STATUS_FAULT then .drivenLow else .highImpedance)
end

