-- ==== Sys2Proof/Laws/Maps.lean ====
section
/-! SUPPORT. The laws of the canonical maps: what a key reads as after a write, and that every operation keeps the form. -/

namespace Sys2Proof.Machine

variable {α : Type} (d : Nat → α) (m : List (Nat × α)) (k j : Nat) (v : α)

theorem mapGet_erase : mapGet d (mapErase m k) j = if j = k then d j else mapGet d m j := by
  induction m with
  | nil => simp [mapErase, mapGet]
  | cons p t ih =>
    obtain ⟨a, w⟩ := p
    by_cases ha : a = k
    · subst ha
      simp only [mapErase, if_true, ih, mapGet]
      by_cases hj : j = a
      · simp [hj]
      · simp [hj, Ne.symm hj]
    · simp only [mapErase, if_neg ha, mapGet, ih]
      by_cases hj : j = k
      · subst hj; simp [ha]
      · simp [hj]

theorem mapErase_keys {p : Nat × α} (h : p ∈ mapErase m k) : p ∈ m ∧ p.1 ≠ k := by
  induction m with
  | nil => simp [mapErase] at h
  | cons q t ih =>
    obtain ⟨a, w⟩ := q
    by_cases ha : a = k
    · simp only [mapErase, if_pos ha] at h
      exact ⟨List.mem_cons_of_mem _ (ih h).1, (ih h).2⟩
    · simp only [mapErase, if_neg ha, List.mem_cons] at h
      rcases h with rfl | h
      · exact ⟨by simp, ha⟩
      · exact ⟨List.mem_cons_of_mem _ (ih h).1, (ih h).2⟩

theorem mapGet_insert (h : ∀ p ∈ m, p.1 ≠ k) :
    mapGet d (mapInsert m k v) j = if j = k then v else mapGet d m j := by
  induction m with
  | nil =>
    by_cases hj : j = k
    · simp [mapInsert, mapGet, hj]
    · simp [mapInsert, mapGet, hj, Ne.symm hj]
  | cons p t ih =>
    obtain ⟨a, w⟩ := p
    have hak : a ≠ k := h (a, w) (by simp)
    by_cases hk : k < a
    · simp only [mapInsert, if_pos hk, mapGet]
      by_cases hj : j = k
      · simp [hj]
      · simp [hj, Ne.symm hj]
    · simp only [mapInsert, if_neg hk, mapGet, ih fun p hp => h p (List.mem_cons_of_mem _ hp)]
      by_cases hj : j = k
      · subst hj; simp [hak]
      · simp [hj]

/-- Read after write of a map. -/
theorem mapGet_mapSet [DecidableEq α] : mapGet d (mapSet d m k v) j = if j = k then v else mapGet d m j := by
  unfold mapSet
  split
  · rename_i h
    rw [mapGet_erase]
    by_cases hj : j = k
    · subst hj; simp [h]
    · simp [hj]
  · rw [mapGet_insert _ _ _ _ _ fun p hp => (mapErase_keys _ _ hp).2, mapGet_erase]
    by_cases hj : j = k <;> simp [hj]

theorem mapGet_mapClear (lo hi : Nat) :
    mapGet d (mapClear m lo hi) j = if lo ≤ j ∧ j < hi then d j else mapGet d m j := by
  induction m with
  | nil => simp [mapClear, mapGet]
  | cons p t ih =>
    obtain ⟨a, w⟩ := p
    simp only [mapClear] at ih
    by_cases hp : a < lo ∨ hi ≤ a
    · simp only [mapClear, mapGet, List.filter_cons, decide_eq_true_eq, Bool.or_eq_true, hp, if_true, ih]
      by_cases hj : a = j
      · subst hj
        rw [if_pos rfl, if_pos rfl, if_neg (by omega)]
      · simp [hj]
    · simp only [mapClear, mapGet, List.filter_cons, decide_eq_true_eq, Bool.or_eq_true, hp, if_false, ih]
      by_cases hj : a = j
      · subst hj
        rw [if_pos (by omega), if_pos (by omega)]
      · simp [hj]

/-- Rising keys as a property of every pair of entries. -/
theorem mapSorted_iff : mapSorted m = true ↔ m.Pairwise fun p q => p.1 < q.1 := by
  induction m with
  | nil => simp [mapSorted]
  | cons p t ih =>
    cases t with
    | nil => simp [mapSorted]
    | cons q u =>
      simp only [mapSorted, Bool.and_eq_true, decide_eq_true_eq, ih, List.pairwise_cons]
      constructor
      · rintro ⟨h, h1, h2⟩
        refine ⟨fun r hr => ?_, h1, h2⟩
        rcases List.mem_cons.1 hr with rfl | hr
        · exact h
        · exact Nat.lt_trans h (h1 r hr)
      · rintro ⟨h, h1, h2⟩
        exact ⟨h q (by simp), h1, h2⟩

theorem mapWf_iff [DecidableEq α] :
    mapWf d m = true ↔ m.Pairwise (fun p q => p.1 < q.1) ∧ ∀ p ∈ m, p.2 ≠ d p.1 := by
  simp [mapWf, mapSorted_iff]

theorem mapWf_filter [DecidableEq α] {f : Nat × α → Bool} (h : mapWf d m = true) : mapWf d (m.filter f) = true := by
  rw [mapWf_iff] at h ⊢
  exact ⟨h.1.sublist List.filter_sublist, fun p hp => h.2 p (List.mem_filter.1 hp).1⟩

theorem mapErase_sublist : (mapErase m k).Sublist m := by
  induction m with
  | nil => simp [mapErase]
  | cons q t ih =>
    obtain ⟨a, w⟩ := q
    by_cases ha : a = k
    · simp only [mapErase, if_pos ha]; exact ih.cons _
    · simp only [mapErase, if_neg ha]; exact ih.cons_cons _

theorem mapInsert_keys {p : Nat × α} (h : p ∈ mapInsert m k v) : p = (k, v) ∨ p ∈ m := by
  induction m with
  | nil => simpa [mapInsert] using h
  | cons q t ih =>
    obtain ⟨a, w⟩ := q
    simp only [mapInsert] at h
    split at h
    · simpa using h
    · rcases List.mem_cons.1 h with rfl | h
      · simp
      · rcases ih h with h | h
        · exact .inl h
        · exact .inr (List.mem_cons_of_mem _ h)

theorem mapInsert_sorted (h : m.Pairwise fun p q => p.1 < q.1) (hk : ∀ p ∈ m, p.1 ≠ k) :
    (mapInsert m k v).Pairwise fun p q => p.1 < q.1 := by
  induction m with
  | nil => simp [mapInsert]
  | cons q t ih =>
    obtain ⟨a, w⟩ := q
    rw [List.pairwise_cons] at h
    have hak : a ≠ k := hk (a, w) (by simp)
    simp only [mapInsert]
    split
    · rename_i hlt
      refine List.pairwise_cons.2 ⟨fun p hp => ?_, List.pairwise_cons.2 h⟩
      rcases List.mem_cons.1 hp with rfl | hp
      · exact hlt
      · exact Nat.lt_trans hlt (h.1 p hp)
    · refine List.pairwise_cons.2 ⟨fun p hp => ?_, ih h.2 fun p hp => hk p (List.mem_cons_of_mem _ hp)⟩
      rcases mapInsert_keys _ _ _ hp with rfl | hp
      · show a < k
        omega
      · exact h.1 p hp

/-- A write keeps the canonical form. -/
theorem mapWf_mapSet [DecidableEq α] (h : mapWf d m = true) : mapWf d (mapSet d m k v) = true := by
  rw [mapWf_iff] at h ⊢
  have he : (mapErase m k).Pairwise fun p q => p.1 < q.1 := h.1.sublist (mapErase_sublist m k)
  have hd : ∀ p ∈ mapErase m k, p.2 ≠ d p.1 := fun p hp => h.2 p (mapErase_keys _ _ hp).1
  unfold mapSet
  split
  · exact ⟨he, hd⟩
  · rename_i hv
    refine ⟨mapInsert_sorted _ _ _ he fun p hp => (mapErase_keys _ _ hp).2, fun p hp => ?_⟩
    rcases mapInsert_keys _ _ _ hp with rfl | hp
    · exact hv
    · exact hd p hp

theorem mapWf_mapClear [DecidableEq α] (lo hi : Nat) (h : mapWf d m = true) : mapWf d (mapClear m lo hi) = true :=
  mapWf_filter d m h

end Sys2Proof.Machine
end

