-- ==== Sys2Proof/Laws/State.lean ====
section
/-! SUPPORT. What each update of the state leaves in each field: one lemma per field and update, so that no proof unfolds a record update. -/

namespace Sys2Proof.Machine

variable (s : State)

/-! ### setReg -/

section

variable (a : Nat) (v : Word)

@[simp] theorem State.setReg_inForce : (s.setReg a v).inForce = s.inForce := by cases s; rfl
@[simp] theorem State.setReg_snap : (s.setReg a v).snap = s.snap := by cases s; rfl
@[simp] theorem State.setReg_mem : (s.setReg a v).mem = s.mem := by cases s; rfl
@[simp] theorem State.setReg_time : (s.setReg a v).time = s.time := by cases s; rfl
@[simp] theorem State.setReg_timeHi : (s.setReg a v).timeHi = s.timeHi := by cases s; rfl
@[simp] theorem State.setReg_pw : (s.setReg a v).pw = s.pw := by cases s; rfl
@[simp] theorem State.setReg_log : (s.setReg a v).log = s.log := by cases s; rfl
@[simp] theorem State.setReg_mail : (s.setReg a v).mail = s.mail := by cases s; rfl
@[simp] theorem State.setReg_rs : (s.setReg a v).rs = s.rs := by cases s; rfl
@[simp] theorem State.setReg_commits : (s.setReg a v).commits = s.commits := by cases s; rfl
@[simp] theorem State.setReg_rng : (s.setReg a v).rng = s.rng := by cases s; rfl
@[simp] theorem State.setReg_gov : (s.setReg a v).gov = s.gov := by cases s; rfl
@[simp] theorem State.setReg_inl : (s.setReg a v).inl = s.inl := by cases s; rfl
@[simp] theorem State.setReg_chn : (s.setReg a v).chn = s.chn := by cases s; rfl
@[simp] theorem State.setReg_vid : (s.setReg a v).vid = s.vid := by cases s; rfl
@[simp] theorem State.setReg_pipe : (s.setReg a v).pipe = s.pipe := by cases s; rfl
@[simp] theorem State.setReg_col : (s.setReg a v).col = s.col := by cases s; rfl
@[simp] theorem State.setReg_gate : (s.setReg a v).gate = s.gate := by cases s; rfl
@[simp] theorem State.setReg_bias : (s.setReg a v).bias = s.bias := by cases s; rfl
@[simp] theorem State.setReg_bl : (s.setReg a v).bl = s.bl := by cases s; rfl
@[simp] theorem State.setReg_lda : (s.setReg a v).lda = s.lda := by cases s; rfl
@[simp] theorem State.setReg_opt : (s.setReg a v).opt = s.opt := by cases s; rfl
@[simp] theorem State.setReg_saf : (s.setReg a v).saf = s.saf := by cases s; rfl
@[simp] theorem State.setReg_pondWeak : (s.setReg a v).pondWeak = s.pondWeak := by cases s; rfl
@[simp] theorem State.setReg_dma : (s.setReg a v).dma = s.dma := by cases s; rfl
@[simp] theorem State.setReg_eddy : (s.setReg a v).eddy = s.eddy := by cases s; rfl
@[simp] theorem State.setReg_cal : (s.setReg a v).cal = s.cal := by cases s; rfl
@[simp] theorem State.setReg_fw : (s.setReg a v).fw = s.fw := by cases s; rfl
@[simp] theorem State.setReg_flashWrites : (s.setReg a v).flashWrites = s.flashWrites := by cases s; rfl
@[simp] theorem State.setReg_answer : (s.setReg a v).answer = s.answer := by cases s; rfl
@[simp] theorem State.setReg_pending : (s.setReg a v).pending = s.pending := by cases s; rfl
@[simp] theorem State.setReg_free : (s.setReg a v).free = s.free := by cases s; rfl

end

/-! ### setLive -/

section

variable (a : Nat) (v : Word)

@[simp] theorem State.setLive_regs : (s.setLive a v).regs = s.regs := by cases s; rfl
@[simp] theorem State.setLive_snap : (s.setLive a v).snap = s.snap := by cases s; rfl
@[simp] theorem State.setLive_mem : (s.setLive a v).mem = s.mem := by cases s; rfl
@[simp] theorem State.setLive_time : (s.setLive a v).time = s.time := by cases s; rfl
@[simp] theorem State.setLive_timeHi : (s.setLive a v).timeHi = s.timeHi := by cases s; rfl
@[simp] theorem State.setLive_pw : (s.setLive a v).pw = s.pw := by cases s; rfl
@[simp] theorem State.setLive_log : (s.setLive a v).log = s.log := by cases s; rfl
@[simp] theorem State.setLive_mail : (s.setLive a v).mail = s.mail := by cases s; rfl
@[simp] theorem State.setLive_rs : (s.setLive a v).rs = s.rs := by cases s; rfl
@[simp] theorem State.setLive_commits : (s.setLive a v).commits = s.commits := by cases s; rfl
@[simp] theorem State.setLive_rng : (s.setLive a v).rng = s.rng := by cases s; rfl
@[simp] theorem State.setLive_gov : (s.setLive a v).gov = s.gov := by cases s; rfl
@[simp] theorem State.setLive_inl : (s.setLive a v).inl = s.inl := by cases s; rfl
@[simp] theorem State.setLive_chn : (s.setLive a v).chn = s.chn := by cases s; rfl
@[simp] theorem State.setLive_vid : (s.setLive a v).vid = s.vid := by cases s; rfl
@[simp] theorem State.setLive_pipe : (s.setLive a v).pipe = s.pipe := by cases s; rfl
@[simp] theorem State.setLive_col : (s.setLive a v).col = s.col := by cases s; rfl
@[simp] theorem State.setLive_gate : (s.setLive a v).gate = s.gate := by cases s; rfl
@[simp] theorem State.setLive_bias : (s.setLive a v).bias = s.bias := by cases s; rfl
@[simp] theorem State.setLive_bl : (s.setLive a v).bl = s.bl := by cases s; rfl
@[simp] theorem State.setLive_lda : (s.setLive a v).lda = s.lda := by cases s; rfl
@[simp] theorem State.setLive_opt : (s.setLive a v).opt = s.opt := by cases s; rfl
@[simp] theorem State.setLive_saf : (s.setLive a v).saf = s.saf := by cases s; rfl
@[simp] theorem State.setLive_pondWeak : (s.setLive a v).pondWeak = s.pondWeak := by cases s; rfl
@[simp] theorem State.setLive_dma : (s.setLive a v).dma = s.dma := by cases s; rfl
@[simp] theorem State.setLive_eddy : (s.setLive a v).eddy = s.eddy := by cases s; rfl
@[simp] theorem State.setLive_cal : (s.setLive a v).cal = s.cal := by cases s; rfl
@[simp] theorem State.setLive_fw : (s.setLive a v).fw = s.fw := by cases s; rfl
@[simp] theorem State.setLive_flashWrites : (s.setLive a v).flashWrites = s.flashWrites := by cases s; rfl
@[simp] theorem State.setLive_answer : (s.setLive a v).answer = s.answer := by cases s; rfl
@[simp] theorem State.setLive_pending : (s.setLive a v).pending = s.pending := by cases s; rfl
@[simp] theorem State.setLive_free : (s.setLive a v).free = s.free := by cases s; rfl
@[simp] theorem State.fld_setLive (k : Fld) : (s.setLive a v).fld k = s.fld k := by cases s; rfl
@[simp] theorem State.flag_setLive (k : Fld) : (s.setLive a v).flag k = s.flag k := by cases s; rfl
@[simp] theorem State.on_setLive (k : Domain) : (s.setLive a v).on k = s.on k := by cases s; rfl
@[simp] theorem State.byte_setLive (k : Nat) : (s.setLive a v).byte k = s.byte k := by cases s; rfl

end

/-! ### setByte -/

section

variable (a : Nat) (b : Byte)

@[simp] theorem State.setByte_regs : (s.setByte a b).regs = s.regs := by cases s; rfl
@[simp] theorem State.setByte_inForce : (s.setByte a b).inForce = s.inForce := by cases s; rfl
@[simp] theorem State.setByte_snap : (s.setByte a b).snap = s.snap := by cases s; rfl
@[simp] theorem State.setByte_time : (s.setByte a b).time = s.time := by cases s; rfl
@[simp] theorem State.setByte_timeHi : (s.setByte a b).timeHi = s.timeHi := by cases s; rfl
@[simp] theorem State.setByte_pw : (s.setByte a b).pw = s.pw := by cases s; rfl
@[simp] theorem State.setByte_log : (s.setByte a b).log = s.log := by cases s; rfl
@[simp] theorem State.setByte_mail : (s.setByte a b).mail = s.mail := by cases s; rfl
@[simp] theorem State.setByte_rs : (s.setByte a b).rs = s.rs := by cases s; rfl
@[simp] theorem State.setByte_commits : (s.setByte a b).commits = s.commits := by cases s; rfl
@[simp] theorem State.setByte_rng : (s.setByte a b).rng = s.rng := by cases s; rfl
@[simp] theorem State.setByte_gov : (s.setByte a b).gov = s.gov := by cases s; rfl
@[simp] theorem State.setByte_inl : (s.setByte a b).inl = s.inl := by cases s; rfl
@[simp] theorem State.setByte_chn : (s.setByte a b).chn = s.chn := by cases s; rfl
@[simp] theorem State.setByte_vid : (s.setByte a b).vid = s.vid := by cases s; rfl
@[simp] theorem State.setByte_pipe : (s.setByte a b).pipe = s.pipe := by cases s; rfl
@[simp] theorem State.setByte_col : (s.setByte a b).col = s.col := by cases s; rfl
@[simp] theorem State.setByte_gate : (s.setByte a b).gate = s.gate := by cases s; rfl
@[simp] theorem State.setByte_bias : (s.setByte a b).bias = s.bias := by cases s; rfl
@[simp] theorem State.setByte_bl : (s.setByte a b).bl = s.bl := by cases s; rfl
@[simp] theorem State.setByte_lda : (s.setByte a b).lda = s.lda := by cases s; rfl
@[simp] theorem State.setByte_opt : (s.setByte a b).opt = s.opt := by cases s; rfl
@[simp] theorem State.setByte_saf : (s.setByte a b).saf = s.saf := by cases s; rfl
@[simp] theorem State.setByte_pondWeak : (s.setByte a b).pondWeak = s.pondWeak := by cases s; rfl
@[simp] theorem State.setByte_dma : (s.setByte a b).dma = s.dma := by cases s; rfl
@[simp] theorem State.setByte_eddy : (s.setByte a b).eddy = s.eddy := by cases s; rfl
@[simp] theorem State.setByte_cal : (s.setByte a b).cal = s.cal := by cases s; rfl
@[simp] theorem State.setByte_fw : (s.setByte a b).fw = s.fw := by cases s; rfl
@[simp] theorem State.setByte_flashWrites : (s.setByte a b).flashWrites = s.flashWrites := by cases s; rfl
@[simp] theorem State.setByte_answer : (s.setByte a b).answer = s.answer := by cases s; rfl
@[simp] theorem State.setByte_pending : (s.setByte a b).pending = s.pending := by cases s; rfl
@[simp] theorem State.setByte_free : (s.setByte a b).free = s.free := by cases s; rfl
@[simp] theorem State.fld_setByte (k : Fld) : (s.setByte a b).fld k = s.fld k := by cases s; rfl
@[simp] theorem State.flag_setByte (k : Fld) : (s.setByte a b).flag k = s.flag k := by cases s; rfl
@[simp] theorem State.on_setByte (k : Domain) : (s.setByte a b).on k = s.on k := by cases s; rfl
@[simp] theorem State.live_setByte (k : Nat) : (s.setByte a b).live k = s.live k := by cases s; rfl

end

/-! ### setFld -/

section

variable (f : Fld) (n : Nat)

@[simp] theorem State.setFld_inForce : (s.setFld f n).inForce = s.inForce := by cases s; rfl
@[simp] theorem State.setFld_snap : (s.setFld f n).snap = s.snap := by cases s; rfl
@[simp] theorem State.setFld_mem : (s.setFld f n).mem = s.mem := by cases s; rfl
@[simp] theorem State.setFld_time : (s.setFld f n).time = s.time := by cases s; rfl
@[simp] theorem State.setFld_timeHi : (s.setFld f n).timeHi = s.timeHi := by cases s; rfl
@[simp] theorem State.setFld_pw : (s.setFld f n).pw = s.pw := by cases s; rfl
@[simp] theorem State.setFld_log : (s.setFld f n).log = s.log := by cases s; rfl
@[simp] theorem State.setFld_mail : (s.setFld f n).mail = s.mail := by cases s; rfl
@[simp] theorem State.setFld_rs : (s.setFld f n).rs = s.rs := by cases s; rfl
@[simp] theorem State.setFld_commits : (s.setFld f n).commits = s.commits := by cases s; rfl
@[simp] theorem State.setFld_rng : (s.setFld f n).rng = s.rng := by cases s; rfl
@[simp] theorem State.setFld_gov : (s.setFld f n).gov = s.gov := by cases s; rfl
@[simp] theorem State.setFld_inl : (s.setFld f n).inl = s.inl := by cases s; rfl
@[simp] theorem State.setFld_chn : (s.setFld f n).chn = s.chn := by cases s; rfl
@[simp] theorem State.setFld_vid : (s.setFld f n).vid = s.vid := by cases s; rfl
@[simp] theorem State.setFld_pipe : (s.setFld f n).pipe = s.pipe := by cases s; rfl
@[simp] theorem State.setFld_col : (s.setFld f n).col = s.col := by cases s; rfl
@[simp] theorem State.setFld_gate : (s.setFld f n).gate = s.gate := by cases s; rfl
@[simp] theorem State.setFld_bias : (s.setFld f n).bias = s.bias := by cases s; rfl
@[simp] theorem State.setFld_bl : (s.setFld f n).bl = s.bl := by cases s; rfl
@[simp] theorem State.setFld_lda : (s.setFld f n).lda = s.lda := by cases s; rfl
@[simp] theorem State.setFld_opt : (s.setFld f n).opt = s.opt := by cases s; rfl
@[simp] theorem State.setFld_saf : (s.setFld f n).saf = s.saf := by cases s; rfl
@[simp] theorem State.setFld_pondWeak : (s.setFld f n).pondWeak = s.pondWeak := by cases s; rfl
@[simp] theorem State.setFld_dma : (s.setFld f n).dma = s.dma := by cases s; rfl
@[simp] theorem State.setFld_eddy : (s.setFld f n).eddy = s.eddy := by cases s; rfl
@[simp] theorem State.setFld_cal : (s.setFld f n).cal = s.cal := by cases s; rfl
@[simp] theorem State.setFld_fw : (s.setFld f n).fw = s.fw := by cases s; rfl
@[simp] theorem State.setFld_flashWrites : (s.setFld f n).flashWrites = s.flashWrites := by cases s; rfl
@[simp] theorem State.setFld_answer : (s.setFld f n).answer = s.answer := by cases s; rfl
@[simp] theorem State.setFld_pending : (s.setFld f n).pending = s.pending := by cases s; rfl
@[simp] theorem State.setFld_free : (s.setFld f n).free = s.free := by cases s; rfl
@[simp] theorem State.live_setFld (k : Nat) : (s.setFld f n).live k = s.live k := by cases s; rfl

end

/-! ### setFlag -/

section

variable (f : Fld) (c : Bool)

@[simp] theorem State.setFlag_inForce : (s.setFlag f c).inForce = s.inForce := by cases s; rfl
@[simp] theorem State.setFlag_snap : (s.setFlag f c).snap = s.snap := by cases s; rfl
@[simp] theorem State.setFlag_mem : (s.setFlag f c).mem = s.mem := by cases s; rfl
@[simp] theorem State.setFlag_time : (s.setFlag f c).time = s.time := by cases s; rfl
@[simp] theorem State.setFlag_timeHi : (s.setFlag f c).timeHi = s.timeHi := by cases s; rfl
@[simp] theorem State.setFlag_pw : (s.setFlag f c).pw = s.pw := by cases s; rfl
@[simp] theorem State.setFlag_log : (s.setFlag f c).log = s.log := by cases s; rfl
@[simp] theorem State.setFlag_mail : (s.setFlag f c).mail = s.mail := by cases s; rfl
@[simp] theorem State.setFlag_rs : (s.setFlag f c).rs = s.rs := by cases s; rfl
@[simp] theorem State.setFlag_commits : (s.setFlag f c).commits = s.commits := by cases s; rfl
@[simp] theorem State.setFlag_rng : (s.setFlag f c).rng = s.rng := by cases s; rfl
@[simp] theorem State.setFlag_gov : (s.setFlag f c).gov = s.gov := by cases s; rfl
@[simp] theorem State.setFlag_inl : (s.setFlag f c).inl = s.inl := by cases s; rfl
@[simp] theorem State.setFlag_chn : (s.setFlag f c).chn = s.chn := by cases s; rfl
@[simp] theorem State.setFlag_vid : (s.setFlag f c).vid = s.vid := by cases s; rfl
@[simp] theorem State.setFlag_pipe : (s.setFlag f c).pipe = s.pipe := by cases s; rfl
@[simp] theorem State.setFlag_col : (s.setFlag f c).col = s.col := by cases s; rfl
@[simp] theorem State.setFlag_gate : (s.setFlag f c).gate = s.gate := by cases s; rfl
@[simp] theorem State.setFlag_bias : (s.setFlag f c).bias = s.bias := by cases s; rfl
@[simp] theorem State.setFlag_bl : (s.setFlag f c).bl = s.bl := by cases s; rfl
@[simp] theorem State.setFlag_lda : (s.setFlag f c).lda = s.lda := by cases s; rfl
@[simp] theorem State.setFlag_opt : (s.setFlag f c).opt = s.opt := by cases s; rfl
@[simp] theorem State.setFlag_saf : (s.setFlag f c).saf = s.saf := by cases s; rfl
@[simp] theorem State.setFlag_pondWeak : (s.setFlag f c).pondWeak = s.pondWeak := by cases s; rfl
@[simp] theorem State.setFlag_dma : (s.setFlag f c).dma = s.dma := by cases s; rfl
@[simp] theorem State.setFlag_eddy : (s.setFlag f c).eddy = s.eddy := by cases s; rfl
@[simp] theorem State.setFlag_cal : (s.setFlag f c).cal = s.cal := by cases s; rfl
@[simp] theorem State.setFlag_fw : (s.setFlag f c).fw = s.fw := by cases s; rfl
@[simp] theorem State.setFlag_flashWrites : (s.setFlag f c).flashWrites = s.flashWrites := by cases s; rfl
@[simp] theorem State.setFlag_answer : (s.setFlag f c).answer = s.answer := by cases s; rfl
@[simp] theorem State.setFlag_pending : (s.setFlag f c).pending = s.pending := by cases s; rfl
@[simp] theorem State.setFlag_free : (s.setFlag f c).free = s.free := by cases s; rfl
@[simp] theorem State.live_setFlag (k : Nat) : (s.setFlag f c).live k = s.live k := by cases s; rfl

end

/-! ### countUp -/

section

variable (f : Fld) (n : Nat)

@[simp] theorem State.countUp_inForce : (s.countUp f n).inForce = s.inForce := by cases s; rfl
@[simp] theorem State.countUp_snap : (s.countUp f n).snap = s.snap := by cases s; rfl
@[simp] theorem State.countUp_mem : (s.countUp f n).mem = s.mem := by cases s; rfl
@[simp] theorem State.countUp_time : (s.countUp f n).time = s.time := by cases s; rfl
@[simp] theorem State.countUp_timeHi : (s.countUp f n).timeHi = s.timeHi := by cases s; rfl
@[simp] theorem State.countUp_pw : (s.countUp f n).pw = s.pw := by cases s; rfl
@[simp] theorem State.countUp_log : (s.countUp f n).log = s.log := by cases s; rfl
@[simp] theorem State.countUp_mail : (s.countUp f n).mail = s.mail := by cases s; rfl
@[simp] theorem State.countUp_rs : (s.countUp f n).rs = s.rs := by cases s; rfl
@[simp] theorem State.countUp_commits : (s.countUp f n).commits = s.commits := by cases s; rfl
@[simp] theorem State.countUp_rng : (s.countUp f n).rng = s.rng := by cases s; rfl
@[simp] theorem State.countUp_gov : (s.countUp f n).gov = s.gov := by cases s; rfl
@[simp] theorem State.countUp_inl : (s.countUp f n).inl = s.inl := by cases s; rfl
@[simp] theorem State.countUp_chn : (s.countUp f n).chn = s.chn := by cases s; rfl
@[simp] theorem State.countUp_vid : (s.countUp f n).vid = s.vid := by cases s; rfl
@[simp] theorem State.countUp_pipe : (s.countUp f n).pipe = s.pipe := by cases s; rfl
@[simp] theorem State.countUp_col : (s.countUp f n).col = s.col := by cases s; rfl
@[simp] theorem State.countUp_gate : (s.countUp f n).gate = s.gate := by cases s; rfl
@[simp] theorem State.countUp_bias : (s.countUp f n).bias = s.bias := by cases s; rfl
@[simp] theorem State.countUp_bl : (s.countUp f n).bl = s.bl := by cases s; rfl
@[simp] theorem State.countUp_lda : (s.countUp f n).lda = s.lda := by cases s; rfl
@[simp] theorem State.countUp_opt : (s.countUp f n).opt = s.opt := by cases s; rfl
@[simp] theorem State.countUp_saf : (s.countUp f n).saf = s.saf := by cases s; rfl
@[simp] theorem State.countUp_pondWeak : (s.countUp f n).pondWeak = s.pondWeak := by cases s; rfl
@[simp] theorem State.countUp_dma : (s.countUp f n).dma = s.dma := by cases s; rfl
@[simp] theorem State.countUp_eddy : (s.countUp f n).eddy = s.eddy := by cases s; rfl
@[simp] theorem State.countUp_cal : (s.countUp f n).cal = s.cal := by cases s; rfl
@[simp] theorem State.countUp_fw : (s.countUp f n).fw = s.fw := by cases s; rfl
@[simp] theorem State.countUp_flashWrites : (s.countUp f n).flashWrites = s.flashWrites := by cases s; rfl
@[simp] theorem State.countUp_answer : (s.countUp f n).answer = s.answer := by cases s; rfl
@[simp] theorem State.countUp_pending : (s.countUp f n).pending = s.pending := by cases s; rfl
@[simp] theorem State.countUp_free : (s.countUp f n).free = s.free := by cases s; rfl
@[simp] theorem State.live_countUp (k : Nat) : (s.countUp f n).live k = s.live k := by cases s; rfl
@[simp] theorem State.byte_countUp (k : Nat) : (s.countUp f n).byte k = s.byte k := by cases s; rfl

end

/-! ### wrapUp -/

section

variable (f : Fld) (n : Nat)

@[simp] theorem State.wrapUp_inForce : (s.wrapUp f n).inForce = s.inForce := by cases s; rfl
@[simp] theorem State.wrapUp_snap : (s.wrapUp f n).snap = s.snap := by cases s; rfl
@[simp] theorem State.wrapUp_mem : (s.wrapUp f n).mem = s.mem := by cases s; rfl
@[simp] theorem State.wrapUp_time : (s.wrapUp f n).time = s.time := by cases s; rfl
@[simp] theorem State.wrapUp_timeHi : (s.wrapUp f n).timeHi = s.timeHi := by cases s; rfl
@[simp] theorem State.wrapUp_pw : (s.wrapUp f n).pw = s.pw := by cases s; rfl
@[simp] theorem State.wrapUp_log : (s.wrapUp f n).log = s.log := by cases s; rfl
@[simp] theorem State.wrapUp_mail : (s.wrapUp f n).mail = s.mail := by cases s; rfl
@[simp] theorem State.wrapUp_rs : (s.wrapUp f n).rs = s.rs := by cases s; rfl
@[simp] theorem State.wrapUp_commits : (s.wrapUp f n).commits = s.commits := by cases s; rfl
@[simp] theorem State.wrapUp_rng : (s.wrapUp f n).rng = s.rng := by cases s; rfl
@[simp] theorem State.wrapUp_gov : (s.wrapUp f n).gov = s.gov := by cases s; rfl
@[simp] theorem State.wrapUp_inl : (s.wrapUp f n).inl = s.inl := by cases s; rfl
@[simp] theorem State.wrapUp_chn : (s.wrapUp f n).chn = s.chn := by cases s; rfl
@[simp] theorem State.wrapUp_vid : (s.wrapUp f n).vid = s.vid := by cases s; rfl
@[simp] theorem State.wrapUp_pipe : (s.wrapUp f n).pipe = s.pipe := by cases s; rfl
@[simp] theorem State.wrapUp_col : (s.wrapUp f n).col = s.col := by cases s; rfl
@[simp] theorem State.wrapUp_gate : (s.wrapUp f n).gate = s.gate := by cases s; rfl
@[simp] theorem State.wrapUp_bias : (s.wrapUp f n).bias = s.bias := by cases s; rfl
@[simp] theorem State.wrapUp_bl : (s.wrapUp f n).bl = s.bl := by cases s; rfl
@[simp] theorem State.wrapUp_lda : (s.wrapUp f n).lda = s.lda := by cases s; rfl
@[simp] theorem State.wrapUp_opt : (s.wrapUp f n).opt = s.opt := by cases s; rfl
@[simp] theorem State.wrapUp_saf : (s.wrapUp f n).saf = s.saf := by cases s; rfl
@[simp] theorem State.wrapUp_pondWeak : (s.wrapUp f n).pondWeak = s.pondWeak := by cases s; rfl
@[simp] theorem State.wrapUp_dma : (s.wrapUp f n).dma = s.dma := by cases s; rfl
@[simp] theorem State.wrapUp_eddy : (s.wrapUp f n).eddy = s.eddy := by cases s; rfl
@[simp] theorem State.wrapUp_cal : (s.wrapUp f n).cal = s.cal := by cases s; rfl
@[simp] theorem State.wrapUp_fw : (s.wrapUp f n).fw = s.fw := by cases s; rfl
@[simp] theorem State.wrapUp_flashWrites : (s.wrapUp f n).flashWrites = s.flashWrites := by cases s; rfl
@[simp] theorem State.wrapUp_answer : (s.wrapUp f n).answer = s.answer := by cases s; rfl
@[simp] theorem State.wrapUp_pending : (s.wrapUp f n).pending = s.pending := by cases s; rfl
@[simp] theorem State.wrapUp_free : (s.wrapUp f n).free = s.free := by cases s; rfl
@[simp] theorem State.live_wrapUp (k : Nat) : (s.wrapUp f n).live k = s.live k := by cases s; rfl
@[simp] theorem State.byte_wrapUp (k : Nat) : (s.wrapUp f n).byte k = s.byte k := by cases s; rfl

end

/-! ### setPw -/

section

variable (x : Power)

@[simp] theorem State.setPw_regs : (s.setPw x).regs = s.regs := by cases s; rfl
@[simp] theorem State.setPw_inForce : (s.setPw x).inForce = s.inForce := by cases s; rfl
@[simp] theorem State.setPw_snap : (s.setPw x).snap = s.snap := by cases s; rfl
@[simp] theorem State.setPw_mem : (s.setPw x).mem = s.mem := by cases s; rfl
@[simp] theorem State.setPw_time : (s.setPw x).time = s.time := by cases s; rfl
@[simp] theorem State.setPw_timeHi : (s.setPw x).timeHi = s.timeHi := by cases s; rfl
@[simp] theorem State.setPw_pw : (s.setPw x).pw = x := by cases s; rfl
@[simp] theorem State.setPw_log : (s.setPw x).log = s.log := by cases s; rfl
@[simp] theorem State.setPw_mail : (s.setPw x).mail = s.mail := by cases s; rfl
@[simp] theorem State.setPw_rs : (s.setPw x).rs = s.rs := by cases s; rfl
@[simp] theorem State.setPw_commits : (s.setPw x).commits = s.commits := by cases s; rfl
@[simp] theorem State.setPw_rng : (s.setPw x).rng = s.rng := by cases s; rfl
@[simp] theorem State.setPw_gov : (s.setPw x).gov = s.gov := by cases s; rfl
@[simp] theorem State.setPw_inl : (s.setPw x).inl = s.inl := by cases s; rfl
@[simp] theorem State.setPw_chn : (s.setPw x).chn = s.chn := by cases s; rfl
@[simp] theorem State.setPw_vid : (s.setPw x).vid = s.vid := by cases s; rfl
@[simp] theorem State.setPw_pipe : (s.setPw x).pipe = s.pipe := by cases s; rfl
@[simp] theorem State.setPw_col : (s.setPw x).col = s.col := by cases s; rfl
@[simp] theorem State.setPw_gate : (s.setPw x).gate = s.gate := by cases s; rfl
@[simp] theorem State.setPw_bias : (s.setPw x).bias = s.bias := by cases s; rfl
@[simp] theorem State.setPw_bl : (s.setPw x).bl = s.bl := by cases s; rfl
@[simp] theorem State.setPw_lda : (s.setPw x).lda = s.lda := by cases s; rfl
@[simp] theorem State.setPw_opt : (s.setPw x).opt = s.opt := by cases s; rfl
@[simp] theorem State.setPw_saf : (s.setPw x).saf = s.saf := by cases s; rfl
@[simp] theorem State.setPw_pondWeak : (s.setPw x).pondWeak = s.pondWeak := by cases s; rfl
@[simp] theorem State.setPw_dma : (s.setPw x).dma = s.dma := by cases s; rfl
@[simp] theorem State.setPw_eddy : (s.setPw x).eddy = s.eddy := by cases s; rfl
@[simp] theorem State.setPw_cal : (s.setPw x).cal = s.cal := by cases s; rfl
@[simp] theorem State.setPw_fw : (s.setPw x).fw = s.fw := by cases s; rfl
@[simp] theorem State.setPw_flashWrites : (s.setPw x).flashWrites = s.flashWrites := by cases s; rfl
@[simp] theorem State.setPw_answer : (s.setPw x).answer = s.answer := by cases s; rfl
@[simp] theorem State.setPw_pending : (s.setPw x).pending = s.pending := by cases s; rfl
@[simp] theorem State.setPw_free : (s.setPw x).free = s.free := by cases s; rfl
@[simp] theorem State.reg_setPw (k : Nat) : (s.setPw x).reg k = s.reg k := by cases s; rfl
@[simp] theorem State.fld_setPw (k : Fld) : (s.setPw x).fld k = s.fld k := by cases s; rfl
@[simp] theorem State.flag_setPw (k : Fld) : (s.setPw x).flag k = s.flag k := by cases s; rfl
@[simp] theorem State.on_setPw (k : Domain) : (s.setPw x).on k = s.on k := by cases s; rfl
@[simp] theorem State.live_setPw (k : Nat) : (s.setPw x).live k = s.live k := by cases s; rfl
@[simp] theorem State.byte_setPw (k : Nat) : (s.setPw x).byte k = s.byte k := by cases s; rfl

end

/-! ### setCmds -/

section

variable (l : List RunCmd)

@[simp] theorem State.setCmds_regs : (s.setCmds l).regs = s.regs := by cases s; rfl
@[simp] theorem State.setCmds_inForce : (s.setCmds l).inForce = s.inForce := by cases s; rfl
@[simp] theorem State.setCmds_snap : (s.setCmds l).snap = s.snap := by cases s; rfl
@[simp] theorem State.setCmds_mem : (s.setCmds l).mem = s.mem := by cases s; rfl
@[simp] theorem State.setCmds_time : (s.setCmds l).time = s.time := by cases s; rfl
@[simp] theorem State.setCmds_timeHi : (s.setCmds l).timeHi = s.timeHi := by cases s; rfl
@[simp] theorem State.setCmds_pw : (s.setCmds l).pw = s.pw := by cases s; rfl
@[simp] theorem State.setCmds_log : (s.setCmds l).log = s.log := by cases s; rfl
@[simp] theorem State.setCmds_rs : (s.setCmds l).rs = s.rs := by cases s; rfl
@[simp] theorem State.setCmds_commits : (s.setCmds l).commits = s.commits := by cases s; rfl
@[simp] theorem State.setCmds_rng : (s.setCmds l).rng = s.rng := by cases s; rfl
@[simp] theorem State.setCmds_gov : (s.setCmds l).gov = s.gov := by cases s; rfl
@[simp] theorem State.setCmds_inl : (s.setCmds l).inl = s.inl := by cases s; rfl
@[simp] theorem State.setCmds_chn : (s.setCmds l).chn = s.chn := by cases s; rfl
@[simp] theorem State.setCmds_vid : (s.setCmds l).vid = s.vid := by cases s; rfl
@[simp] theorem State.setCmds_pipe : (s.setCmds l).pipe = s.pipe := by cases s; rfl
@[simp] theorem State.setCmds_col : (s.setCmds l).col = s.col := by cases s; rfl
@[simp] theorem State.setCmds_gate : (s.setCmds l).gate = s.gate := by cases s; rfl
@[simp] theorem State.setCmds_bias : (s.setCmds l).bias = s.bias := by cases s; rfl
@[simp] theorem State.setCmds_bl : (s.setCmds l).bl = s.bl := by cases s; rfl
@[simp] theorem State.setCmds_lda : (s.setCmds l).lda = s.lda := by cases s; rfl
@[simp] theorem State.setCmds_opt : (s.setCmds l).opt = s.opt := by cases s; rfl
@[simp] theorem State.setCmds_saf : (s.setCmds l).saf = s.saf := by cases s; rfl
@[simp] theorem State.setCmds_pondWeak : (s.setCmds l).pondWeak = s.pondWeak := by cases s; rfl
@[simp] theorem State.setCmds_dma : (s.setCmds l).dma = s.dma := by cases s; rfl
@[simp] theorem State.setCmds_eddy : (s.setCmds l).eddy = s.eddy := by cases s; rfl
@[simp] theorem State.setCmds_cal : (s.setCmds l).cal = s.cal := by cases s; rfl
@[simp] theorem State.setCmds_fw : (s.setCmds l).fw = s.fw := by cases s; rfl
@[simp] theorem State.setCmds_flashWrites : (s.setCmds l).flashWrites = s.flashWrites := by cases s; rfl
@[simp] theorem State.setCmds_answer : (s.setCmds l).answer = s.answer := by cases s; rfl
@[simp] theorem State.setCmds_pending : (s.setCmds l).pending = s.pending := by cases s; rfl
@[simp] theorem State.setCmds_free : (s.setCmds l).free = s.free := by cases s; rfl
@[simp] theorem State.reg_setCmds (k : Nat) : (s.setCmds l).reg k = s.reg k := by cases s; rfl
@[simp] theorem State.fld_setCmds (k : Fld) : (s.setCmds l).fld k = s.fld k := by cases s; rfl
@[simp] theorem State.flag_setCmds (k : Fld) : (s.setCmds l).flag k = s.flag k := by cases s; rfl
@[simp] theorem State.on_setCmds (k : Domain) : (s.setCmds l).on k = s.on k := by cases s; rfl
@[simp] theorem State.live_setCmds (k : Nat) : (s.setCmds l).live k = s.live k := by cases s; rfl
@[simp] theorem State.byte_setCmds (k : Nat) : (s.setCmds l).byte k = s.byte k := by cases s; rfl

end

/-! ### setMb -/

section

variable (n : Nat) (x : Mailbox)

@[simp] theorem State.setMb_regs : (s.setMb n x).regs = s.regs := by cases s; rfl
@[simp] theorem State.setMb_inForce : (s.setMb n x).inForce = s.inForce := by cases s; rfl
@[simp] theorem State.setMb_snap : (s.setMb n x).snap = s.snap := by cases s; rfl
@[simp] theorem State.setMb_mem : (s.setMb n x).mem = s.mem := by cases s; rfl
@[simp] theorem State.setMb_time : (s.setMb n x).time = s.time := by cases s; rfl
@[simp] theorem State.setMb_timeHi : (s.setMb n x).timeHi = s.timeHi := by cases s; rfl
@[simp] theorem State.setMb_pw : (s.setMb n x).pw = s.pw := by cases s; rfl
@[simp] theorem State.setMb_log : (s.setMb n x).log = s.log := by cases s; rfl
@[simp] theorem State.setMb_rs : (s.setMb n x).rs = s.rs := by cases s; rfl
@[simp] theorem State.setMb_commits : (s.setMb n x).commits = s.commits := by cases s; rfl
@[simp] theorem State.setMb_rng : (s.setMb n x).rng = s.rng := by cases s; rfl
@[simp] theorem State.setMb_gov : (s.setMb n x).gov = s.gov := by cases s; rfl
@[simp] theorem State.setMb_inl : (s.setMb n x).inl = s.inl := by cases s; rfl
@[simp] theorem State.setMb_chn : (s.setMb n x).chn = s.chn := by cases s; rfl
@[simp] theorem State.setMb_vid : (s.setMb n x).vid = s.vid := by cases s; rfl
@[simp] theorem State.setMb_pipe : (s.setMb n x).pipe = s.pipe := by cases s; rfl
@[simp] theorem State.setMb_col : (s.setMb n x).col = s.col := by cases s; rfl
@[simp] theorem State.setMb_gate : (s.setMb n x).gate = s.gate := by cases s; rfl
@[simp] theorem State.setMb_bias : (s.setMb n x).bias = s.bias := by cases s; rfl
@[simp] theorem State.setMb_bl : (s.setMb n x).bl = s.bl := by cases s; rfl
@[simp] theorem State.setMb_lda : (s.setMb n x).lda = s.lda := by cases s; rfl
@[simp] theorem State.setMb_opt : (s.setMb n x).opt = s.opt := by cases s; rfl
@[simp] theorem State.setMb_saf : (s.setMb n x).saf = s.saf := by cases s; rfl
@[simp] theorem State.setMb_pondWeak : (s.setMb n x).pondWeak = s.pondWeak := by cases s; rfl
@[simp] theorem State.setMb_dma : (s.setMb n x).dma = s.dma := by cases s; rfl
@[simp] theorem State.setMb_eddy : (s.setMb n x).eddy = s.eddy := by cases s; rfl
@[simp] theorem State.setMb_cal : (s.setMb n x).cal = s.cal := by cases s; rfl
@[simp] theorem State.setMb_fw : (s.setMb n x).fw = s.fw := by cases s; rfl
@[simp] theorem State.setMb_flashWrites : (s.setMb n x).flashWrites = s.flashWrites := by cases s; rfl
@[simp] theorem State.setMb_answer : (s.setMb n x).answer = s.answer := by cases s; rfl
@[simp] theorem State.setMb_pending : (s.setMb n x).pending = s.pending := by cases s; rfl
@[simp] theorem State.setMb_free : (s.setMb n x).free = s.free := by cases s; rfl
@[simp] theorem State.reg_setMb (k : Nat) : (s.setMb n x).reg k = s.reg k := by cases s; rfl
@[simp] theorem State.fld_setMb (k : Fld) : (s.setMb n x).fld k = s.fld k := by cases s; rfl
@[simp] theorem State.flag_setMb (k : Fld) : (s.setMb n x).flag k = s.flag k := by cases s; rfl
@[simp] theorem State.on_setMb (k : Domain) : (s.setMb n x).on k = s.on k := by cases s; rfl
@[simp] theorem State.live_setMb (k : Nat) : (s.setMb n x).live k = s.live k := by cases s; rfl
@[simp] theorem State.byte_setMb (k : Nat) : (s.setMb n x).byte k = s.byte k := by cases s; rfl

end

/-! ### setGate -/

section

variable (x : Gate)

@[simp] theorem State.setGate_regs : (s.setGate x).regs = s.regs := by cases s; rfl
@[simp] theorem State.setGate_inForce : (s.setGate x).inForce = s.inForce := by cases s; rfl
@[simp] theorem State.setGate_snap : (s.setGate x).snap = s.snap := by cases s; rfl
@[simp] theorem State.setGate_mem : (s.setGate x).mem = s.mem := by cases s; rfl
@[simp] theorem State.setGate_time : (s.setGate x).time = s.time := by cases s; rfl
@[simp] theorem State.setGate_timeHi : (s.setGate x).timeHi = s.timeHi := by cases s; rfl
@[simp] theorem State.setGate_pw : (s.setGate x).pw = s.pw := by cases s; rfl
@[simp] theorem State.setGate_log : (s.setGate x).log = s.log := by cases s; rfl
@[simp] theorem State.setGate_mail : (s.setGate x).mail = s.mail := by cases s; rfl
@[simp] theorem State.setGate_rs : (s.setGate x).rs = s.rs := by cases s; rfl
@[simp] theorem State.setGate_commits : (s.setGate x).commits = s.commits := by cases s; rfl
@[simp] theorem State.setGate_rng : (s.setGate x).rng = s.rng := by cases s; rfl
@[simp] theorem State.setGate_gov : (s.setGate x).gov = s.gov := by cases s; rfl
@[simp] theorem State.setGate_inl : (s.setGate x).inl = s.inl := by cases s; rfl
@[simp] theorem State.setGate_chn : (s.setGate x).chn = s.chn := by cases s; rfl
@[simp] theorem State.setGate_vid : (s.setGate x).vid = s.vid := by cases s; rfl
@[simp] theorem State.setGate_pipe : (s.setGate x).pipe = s.pipe := by cases s; rfl
@[simp] theorem State.setGate_col : (s.setGate x).col = s.col := by cases s; rfl
@[simp] theorem State.setGate_gate : (s.setGate x).gate = x := by cases s; rfl
@[simp] theorem State.setGate_bias : (s.setGate x).bias = s.bias := by cases s; rfl
@[simp] theorem State.setGate_bl : (s.setGate x).bl = s.bl := by cases s; rfl
@[simp] theorem State.setGate_lda : (s.setGate x).lda = s.lda := by cases s; rfl
@[simp] theorem State.setGate_opt : (s.setGate x).opt = s.opt := by cases s; rfl
@[simp] theorem State.setGate_saf : (s.setGate x).saf = s.saf := by cases s; rfl
@[simp] theorem State.setGate_pondWeak : (s.setGate x).pondWeak = s.pondWeak := by cases s; rfl
@[simp] theorem State.setGate_dma : (s.setGate x).dma = s.dma := by cases s; rfl
@[simp] theorem State.setGate_eddy : (s.setGate x).eddy = s.eddy := by cases s; rfl
@[simp] theorem State.setGate_cal : (s.setGate x).cal = s.cal := by cases s; rfl
@[simp] theorem State.setGate_fw : (s.setGate x).fw = s.fw := by cases s; rfl
@[simp] theorem State.setGate_flashWrites : (s.setGate x).flashWrites = s.flashWrites := by cases s; rfl
@[simp] theorem State.setGate_answer : (s.setGate x).answer = s.answer := by cases s; rfl
@[simp] theorem State.setGate_pending : (s.setGate x).pending = s.pending := by cases s; rfl
@[simp] theorem State.setGate_free : (s.setGate x).free = s.free := by cases s; rfl
@[simp] theorem State.reg_setGate (k : Nat) : (s.setGate x).reg k = s.reg k := by cases s; rfl
@[simp] theorem State.fld_setGate (k : Fld) : (s.setGate x).fld k = s.fld k := by cases s; rfl
@[simp] theorem State.flag_setGate (k : Fld) : (s.setGate x).flag k = s.flag k := by cases s; rfl
@[simp] theorem State.on_setGate (k : Domain) : (s.setGate x).on k = s.on k := by cases s; rfl
@[simp] theorem State.live_setGate (k : Nat) : (s.setGate x).live k = s.live k := by cases s; rfl
@[simp] theorem State.byte_setGate (k : Nat) : (s.setGate x).byte k = s.byte k := by cases s; rfl

end

/-! ### setBias -/

section

variable (x : Bias)

@[simp] theorem State.setBias_regs : (s.setBias x).regs = s.regs := by cases s; rfl
@[simp] theorem State.setBias_inForce : (s.setBias x).inForce = s.inForce := by cases s; rfl
@[simp] theorem State.setBias_snap : (s.setBias x).snap = s.snap := by cases s; rfl
@[simp] theorem State.setBias_mem : (s.setBias x).mem = s.mem := by cases s; rfl
@[simp] theorem State.setBias_time : (s.setBias x).time = s.time := by cases s; rfl
@[simp] theorem State.setBias_timeHi : (s.setBias x).timeHi = s.timeHi := by cases s; rfl
@[simp] theorem State.setBias_pw : (s.setBias x).pw = s.pw := by cases s; rfl
@[simp] theorem State.setBias_log : (s.setBias x).log = s.log := by cases s; rfl
@[simp] theorem State.setBias_mail : (s.setBias x).mail = s.mail := by cases s; rfl
@[simp] theorem State.setBias_rs : (s.setBias x).rs = s.rs := by cases s; rfl
@[simp] theorem State.setBias_commits : (s.setBias x).commits = s.commits := by cases s; rfl
@[simp] theorem State.setBias_rng : (s.setBias x).rng = s.rng := by cases s; rfl
@[simp] theorem State.setBias_gov : (s.setBias x).gov = s.gov := by cases s; rfl
@[simp] theorem State.setBias_inl : (s.setBias x).inl = s.inl := by cases s; rfl
@[simp] theorem State.setBias_chn : (s.setBias x).chn = s.chn := by cases s; rfl
@[simp] theorem State.setBias_vid : (s.setBias x).vid = s.vid := by cases s; rfl
@[simp] theorem State.setBias_pipe : (s.setBias x).pipe = s.pipe := by cases s; rfl
@[simp] theorem State.setBias_col : (s.setBias x).col = s.col := by cases s; rfl
@[simp] theorem State.setBias_gate : (s.setBias x).gate = s.gate := by cases s; rfl
@[simp] theorem State.setBias_bias : (s.setBias x).bias = x := by cases s; rfl
@[simp] theorem State.setBias_bl : (s.setBias x).bl = s.bl := by cases s; rfl
@[simp] theorem State.setBias_lda : (s.setBias x).lda = s.lda := by cases s; rfl
@[simp] theorem State.setBias_opt : (s.setBias x).opt = s.opt := by cases s; rfl
@[simp] theorem State.setBias_saf : (s.setBias x).saf = s.saf := by cases s; rfl
@[simp] theorem State.setBias_pondWeak : (s.setBias x).pondWeak = s.pondWeak := by cases s; rfl
@[simp] theorem State.setBias_dma : (s.setBias x).dma = s.dma := by cases s; rfl
@[simp] theorem State.setBias_eddy : (s.setBias x).eddy = s.eddy := by cases s; rfl
@[simp] theorem State.setBias_cal : (s.setBias x).cal = s.cal := by cases s; rfl
@[simp] theorem State.setBias_fw : (s.setBias x).fw = s.fw := by cases s; rfl
@[simp] theorem State.setBias_flashWrites : (s.setBias x).flashWrites = s.flashWrites := by cases s; rfl
@[simp] theorem State.setBias_answer : (s.setBias x).answer = s.answer := by cases s; rfl
@[simp] theorem State.setBias_pending : (s.setBias x).pending = s.pending := by cases s; rfl
@[simp] theorem State.setBias_free : (s.setBias x).free = s.free := by cases s; rfl
@[simp] theorem State.reg_setBias (k : Nat) : (s.setBias x).reg k = s.reg k := by cases s; rfl
@[simp] theorem State.fld_setBias (k : Fld) : (s.setBias x).fld k = s.fld k := by cases s; rfl
@[simp] theorem State.flag_setBias (k : Fld) : (s.setBias x).flag k = s.flag k := by cases s; rfl
@[simp] theorem State.on_setBias (k : Domain) : (s.setBias x).on k = s.on k := by cases s; rfl
@[simp] theorem State.live_setBias (k : Nat) : (s.setBias x).live k = s.live k := by cases s; rfl
@[simp] theorem State.byte_setBias (k : Nat) : (s.setBias x).byte k = s.byte k := by cases s; rfl

end

/-! ### setBl -/

section

variable (x : Carousel)

@[simp] theorem State.setBl_regs : (s.setBl x).regs = s.regs := by cases s; rfl
@[simp] theorem State.setBl_inForce : (s.setBl x).inForce = s.inForce := by cases s; rfl
@[simp] theorem State.setBl_snap : (s.setBl x).snap = s.snap := by cases s; rfl
@[simp] theorem State.setBl_mem : (s.setBl x).mem = s.mem := by cases s; rfl
@[simp] theorem State.setBl_time : (s.setBl x).time = s.time := by cases s; rfl
@[simp] theorem State.setBl_timeHi : (s.setBl x).timeHi = s.timeHi := by cases s; rfl
@[simp] theorem State.setBl_pw : (s.setBl x).pw = s.pw := by cases s; rfl
@[simp] theorem State.setBl_log : (s.setBl x).log = s.log := by cases s; rfl
@[simp] theorem State.setBl_mail : (s.setBl x).mail = s.mail := by cases s; rfl
@[simp] theorem State.setBl_rs : (s.setBl x).rs = s.rs := by cases s; rfl
@[simp] theorem State.setBl_commits : (s.setBl x).commits = s.commits := by cases s; rfl
@[simp] theorem State.setBl_rng : (s.setBl x).rng = s.rng := by cases s; rfl
@[simp] theorem State.setBl_gov : (s.setBl x).gov = s.gov := by cases s; rfl
@[simp] theorem State.setBl_inl : (s.setBl x).inl = s.inl := by cases s; rfl
@[simp] theorem State.setBl_chn : (s.setBl x).chn = s.chn := by cases s; rfl
@[simp] theorem State.setBl_vid : (s.setBl x).vid = s.vid := by cases s; rfl
@[simp] theorem State.setBl_pipe : (s.setBl x).pipe = s.pipe := by cases s; rfl
@[simp] theorem State.setBl_col : (s.setBl x).col = s.col := by cases s; rfl
@[simp] theorem State.setBl_gate : (s.setBl x).gate = s.gate := by cases s; rfl
@[simp] theorem State.setBl_bias : (s.setBl x).bias = s.bias := by cases s; rfl
@[simp] theorem State.setBl_bl : (s.setBl x).bl = x := by cases s; rfl
@[simp] theorem State.setBl_lda : (s.setBl x).lda = s.lda := by cases s; rfl
@[simp] theorem State.setBl_opt : (s.setBl x).opt = s.opt := by cases s; rfl
@[simp] theorem State.setBl_saf : (s.setBl x).saf = s.saf := by cases s; rfl
@[simp] theorem State.setBl_pondWeak : (s.setBl x).pondWeak = s.pondWeak := by cases s; rfl
@[simp] theorem State.setBl_dma : (s.setBl x).dma = s.dma := by cases s; rfl
@[simp] theorem State.setBl_eddy : (s.setBl x).eddy = s.eddy := by cases s; rfl
@[simp] theorem State.setBl_cal : (s.setBl x).cal = s.cal := by cases s; rfl
@[simp] theorem State.setBl_fw : (s.setBl x).fw = s.fw := by cases s; rfl
@[simp] theorem State.setBl_flashWrites : (s.setBl x).flashWrites = s.flashWrites := by cases s; rfl
@[simp] theorem State.setBl_answer : (s.setBl x).answer = s.answer := by cases s; rfl
@[simp] theorem State.setBl_pending : (s.setBl x).pending = s.pending := by cases s; rfl
@[simp] theorem State.setBl_free : (s.setBl x).free = s.free := by cases s; rfl
@[simp] theorem State.reg_setBl (k : Nat) : (s.setBl x).reg k = s.reg k := by cases s; rfl
@[simp] theorem State.fld_setBl (k : Fld) : (s.setBl x).fld k = s.fld k := by cases s; rfl
@[simp] theorem State.flag_setBl (k : Fld) : (s.setBl x).flag k = s.flag k := by cases s; rfl
@[simp] theorem State.on_setBl (k : Domain) : (s.setBl x).on k = s.on k := by cases s; rfl
@[simp] theorem State.live_setBl (k : Nat) : (s.setBl x).live k = s.live k := by cases s; rfl
@[simp] theorem State.byte_setBl (k : Nat) : (s.setBl x).byte k = s.byte k := by cases s; rfl

end

/-! ### setSaf -/

section

variable (x : Tightrope)

@[simp] theorem State.setSaf_regs : (s.setSaf x).regs = s.regs := by cases s; rfl
@[simp] theorem State.setSaf_inForce : (s.setSaf x).inForce = s.inForce := by cases s; rfl
@[simp] theorem State.setSaf_snap : (s.setSaf x).snap = s.snap := by cases s; rfl
@[simp] theorem State.setSaf_mem : (s.setSaf x).mem = s.mem := by cases s; rfl
@[simp] theorem State.setSaf_time : (s.setSaf x).time = s.time := by cases s; rfl
@[simp] theorem State.setSaf_timeHi : (s.setSaf x).timeHi = s.timeHi := by cases s; rfl
@[simp] theorem State.setSaf_pw : (s.setSaf x).pw = s.pw := by cases s; rfl
@[simp] theorem State.setSaf_log : (s.setSaf x).log = s.log := by cases s; rfl
@[simp] theorem State.setSaf_mail : (s.setSaf x).mail = s.mail := by cases s; rfl
@[simp] theorem State.setSaf_rs : (s.setSaf x).rs = s.rs := by cases s; rfl
@[simp] theorem State.setSaf_commits : (s.setSaf x).commits = s.commits := by cases s; rfl
@[simp] theorem State.setSaf_rng : (s.setSaf x).rng = s.rng := by cases s; rfl
@[simp] theorem State.setSaf_gov : (s.setSaf x).gov = s.gov := by cases s; rfl
@[simp] theorem State.setSaf_inl : (s.setSaf x).inl = s.inl := by cases s; rfl
@[simp] theorem State.setSaf_chn : (s.setSaf x).chn = s.chn := by cases s; rfl
@[simp] theorem State.setSaf_vid : (s.setSaf x).vid = s.vid := by cases s; rfl
@[simp] theorem State.setSaf_pipe : (s.setSaf x).pipe = s.pipe := by cases s; rfl
@[simp] theorem State.setSaf_col : (s.setSaf x).col = s.col := by cases s; rfl
@[simp] theorem State.setSaf_gate : (s.setSaf x).gate = s.gate := by cases s; rfl
@[simp] theorem State.setSaf_bias : (s.setSaf x).bias = s.bias := by cases s; rfl
@[simp] theorem State.setSaf_bl : (s.setSaf x).bl = s.bl := by cases s; rfl
@[simp] theorem State.setSaf_lda : (s.setSaf x).lda = s.lda := by cases s; rfl
@[simp] theorem State.setSaf_opt : (s.setSaf x).opt = s.opt := by cases s; rfl
@[simp] theorem State.setSaf_saf : (s.setSaf x).saf = x := by cases s; rfl
@[simp] theorem State.setSaf_pondWeak : (s.setSaf x).pondWeak = s.pondWeak := by cases s; rfl
@[simp] theorem State.setSaf_dma : (s.setSaf x).dma = s.dma := by cases s; rfl
@[simp] theorem State.setSaf_eddy : (s.setSaf x).eddy = s.eddy := by cases s; rfl
@[simp] theorem State.setSaf_cal : (s.setSaf x).cal = s.cal := by cases s; rfl
@[simp] theorem State.setSaf_fw : (s.setSaf x).fw = s.fw := by cases s; rfl
@[simp] theorem State.setSaf_flashWrites : (s.setSaf x).flashWrites = s.flashWrites := by cases s; rfl
@[simp] theorem State.setSaf_answer : (s.setSaf x).answer = s.answer := by cases s; rfl
@[simp] theorem State.setSaf_pending : (s.setSaf x).pending = s.pending := by cases s; rfl
@[simp] theorem State.setSaf_free : (s.setSaf x).free = s.free := by cases s; rfl
@[simp] theorem State.reg_setSaf (k : Nat) : (s.setSaf x).reg k = s.reg k := by cases s; rfl
@[simp] theorem State.fld_setSaf (k : Fld) : (s.setSaf x).fld k = s.fld k := by cases s; rfl
@[simp] theorem State.flag_setSaf (k : Fld) : (s.setSaf x).flag k = s.flag k := by cases s; rfl
@[simp] theorem State.on_setSaf (k : Domain) : (s.setSaf x).on k = s.on k := by cases s; rfl
@[simp] theorem State.live_setSaf (k : Nat) : (s.setSaf x).live k = s.live k := by cases s; rfl
@[simp] theorem State.byte_setSaf (k : Nat) : (s.setSaf x).byte k = s.byte k := by cases s; rfl

end

/-! ### setCal -/

section

variable (x : Calibration)

@[simp] theorem State.setCal_regs : (s.setCal x).regs = s.regs := by cases s; rfl
@[simp] theorem State.setCal_inForce : (s.setCal x).inForce = s.inForce := by cases s; rfl
@[simp] theorem State.setCal_snap : (s.setCal x).snap = s.snap := by cases s; rfl
@[simp] theorem State.setCal_mem : (s.setCal x).mem = s.mem := by cases s; rfl
@[simp] theorem State.setCal_time : (s.setCal x).time = s.time := by cases s; rfl
@[simp] theorem State.setCal_timeHi : (s.setCal x).timeHi = s.timeHi := by cases s; rfl
@[simp] theorem State.setCal_pw : (s.setCal x).pw = s.pw := by cases s; rfl
@[simp] theorem State.setCal_log : (s.setCal x).log = s.log := by cases s; rfl
@[simp] theorem State.setCal_mail : (s.setCal x).mail = s.mail := by cases s; rfl
@[simp] theorem State.setCal_rs : (s.setCal x).rs = s.rs := by cases s; rfl
@[simp] theorem State.setCal_commits : (s.setCal x).commits = s.commits := by cases s; rfl
@[simp] theorem State.setCal_rng : (s.setCal x).rng = s.rng := by cases s; rfl
@[simp] theorem State.setCal_gov : (s.setCal x).gov = s.gov := by cases s; rfl
@[simp] theorem State.setCal_inl : (s.setCal x).inl = s.inl := by cases s; rfl
@[simp] theorem State.setCal_chn : (s.setCal x).chn = s.chn := by cases s; rfl
@[simp] theorem State.setCal_vid : (s.setCal x).vid = s.vid := by cases s; rfl
@[simp] theorem State.setCal_pipe : (s.setCal x).pipe = s.pipe := by cases s; rfl
@[simp] theorem State.setCal_col : (s.setCal x).col = s.col := by cases s; rfl
@[simp] theorem State.setCal_gate : (s.setCal x).gate = s.gate := by cases s; rfl
@[simp] theorem State.setCal_bias : (s.setCal x).bias = s.bias := by cases s; rfl
@[simp] theorem State.setCal_bl : (s.setCal x).bl = s.bl := by cases s; rfl
@[simp] theorem State.setCal_lda : (s.setCal x).lda = s.lda := by cases s; rfl
@[simp] theorem State.setCal_opt : (s.setCal x).opt = s.opt := by cases s; rfl
@[simp] theorem State.setCal_saf : (s.setCal x).saf = s.saf := by cases s; rfl
@[simp] theorem State.setCal_pondWeak : (s.setCal x).pondWeak = s.pondWeak := by cases s; rfl
@[simp] theorem State.setCal_dma : (s.setCal x).dma = s.dma := by cases s; rfl
@[simp] theorem State.setCal_eddy : (s.setCal x).eddy = s.eddy := by cases s; rfl
@[simp] theorem State.setCal_cal : (s.setCal x).cal = x := by cases s; rfl
@[simp] theorem State.setCal_fw : (s.setCal x).fw = s.fw := by cases s; rfl
@[simp] theorem State.setCal_flashWrites : (s.setCal x).flashWrites = s.flashWrites := by cases s; rfl
@[simp] theorem State.setCal_answer : (s.setCal x).answer = s.answer := by cases s; rfl
@[simp] theorem State.setCal_pending : (s.setCal x).pending = s.pending := by cases s; rfl
@[simp] theorem State.setCal_free : (s.setCal x).free = s.free := by cases s; rfl
@[simp] theorem State.reg_setCal (k : Nat) : (s.setCal x).reg k = s.reg k := by cases s; rfl
@[simp] theorem State.fld_setCal (k : Fld) : (s.setCal x).fld k = s.fld k := by cases s; rfl
@[simp] theorem State.flag_setCal (k : Fld) : (s.setCal x).flag k = s.flag k := by cases s; rfl
@[simp] theorem State.on_setCal (k : Domain) : (s.setCal x).on k = s.on k := by cases s; rfl
@[simp] theorem State.live_setCal (k : Nat) : (s.setCal x).live k = s.live k := by cases s; rfl
@[simp] theorem State.byte_setCal (k : Nat) : (s.setCal x).byte k = s.byte k := by cases s; rfl

end

/-! ### withPending -/

section

variable (l : List Instr)

@[simp] theorem State.withPending_regs : (s.withPending l).regs = s.regs := by cases s; rfl
@[simp] theorem State.withPending_inForce : (s.withPending l).inForce = s.inForce := by cases s; rfl
@[simp] theorem State.withPending_snap : (s.withPending l).snap = s.snap := by cases s; rfl
@[simp] theorem State.withPending_mem : (s.withPending l).mem = s.mem := by cases s; rfl
@[simp] theorem State.withPending_time : (s.withPending l).time = s.time := by cases s; rfl
@[simp] theorem State.withPending_timeHi : (s.withPending l).timeHi = s.timeHi := by cases s; rfl
@[simp] theorem State.withPending_pw : (s.withPending l).pw = s.pw := by cases s; rfl
@[simp] theorem State.withPending_log : (s.withPending l).log = s.log := by cases s; rfl
@[simp] theorem State.withPending_mail : (s.withPending l).mail = s.mail := by cases s; rfl
@[simp] theorem State.withPending_rs : (s.withPending l).rs = s.rs := by cases s; rfl
@[simp] theorem State.withPending_commits : (s.withPending l).commits = s.commits := by cases s; rfl
@[simp] theorem State.withPending_rng : (s.withPending l).rng = s.rng := by cases s; rfl
@[simp] theorem State.withPending_gov : (s.withPending l).gov = s.gov := by cases s; rfl
@[simp] theorem State.withPending_inl : (s.withPending l).inl = s.inl := by cases s; rfl
@[simp] theorem State.withPending_chn : (s.withPending l).chn = s.chn := by cases s; rfl
@[simp] theorem State.withPending_vid : (s.withPending l).vid = s.vid := by cases s; rfl
@[simp] theorem State.withPending_pipe : (s.withPending l).pipe = s.pipe := by cases s; rfl
@[simp] theorem State.withPending_col : (s.withPending l).col = s.col := by cases s; rfl
@[simp] theorem State.withPending_gate : (s.withPending l).gate = s.gate := by cases s; rfl
@[simp] theorem State.withPending_bias : (s.withPending l).bias = s.bias := by cases s; rfl
@[simp] theorem State.withPending_bl : (s.withPending l).bl = s.bl := by cases s; rfl
@[simp] theorem State.withPending_lda : (s.withPending l).lda = s.lda := by cases s; rfl
@[simp] theorem State.withPending_opt : (s.withPending l).opt = s.opt := by cases s; rfl
@[simp] theorem State.withPending_saf : (s.withPending l).saf = s.saf := by cases s; rfl
@[simp] theorem State.withPending_pondWeak : (s.withPending l).pondWeak = s.pondWeak := by cases s; rfl
@[simp] theorem State.withPending_dma : (s.withPending l).dma = s.dma := by cases s; rfl
@[simp] theorem State.withPending_eddy : (s.withPending l).eddy = s.eddy := by cases s; rfl
@[simp] theorem State.withPending_cal : (s.withPending l).cal = s.cal := by cases s; rfl
@[simp] theorem State.withPending_fw : (s.withPending l).fw = s.fw := by cases s; rfl
@[simp] theorem State.withPending_flashWrites : (s.withPending l).flashWrites = s.flashWrites := by cases s; rfl
@[simp] theorem State.withPending_answer : (s.withPending l).answer = s.answer := by cases s; rfl
@[simp] theorem State.withPending_pending : (s.withPending l).pending = l := by cases s; rfl
@[simp] theorem State.withPending_free : (s.withPending l).free = s.free := by cases s; rfl
@[simp] theorem State.reg_withPending (k : Nat) : (s.withPending l).reg k = s.reg k := by cases s; rfl
@[simp] theorem State.fld_withPending (k : Fld) : (s.withPending l).fld k = s.fld k := by cases s; rfl
@[simp] theorem State.flag_withPending (k : Fld) : (s.withPending l).flag k = s.flag k := by cases s; rfl
@[simp] theorem State.on_withPending (k : Domain) : (s.withPending l).on k = s.on k := by cases s; rfl
@[simp] theorem State.live_withPending (k : Nat) : (s.withPending l).live k = s.live k := by cases s; rfl
@[simp] theorem State.byte_withPending (k : Nat) : (s.withPending l).byte k = s.byte k := by cases s; rfl

end

/-! ### Ports -/

section

variable (p : Nat) (x : PortSt)

@[simp] theorem State.setPort_regs : (s.setPort p x).regs = s.regs := by unfold State.setPort; split <;> rfl
@[simp] theorem State.setPort_inForce : (s.setPort p x).inForce = s.inForce := by unfold State.setPort; split <;> rfl
@[simp] theorem State.setPort_snap : (s.setPort p x).snap = s.snap := by unfold State.setPort; split <;> rfl
@[simp] theorem State.setPort_mem : (s.setPort p x).mem = s.mem := by unfold State.setPort; split <;> rfl
@[simp] theorem State.setPort_time : (s.setPort p x).time = s.time := by unfold State.setPort; split <;> rfl
@[simp] theorem State.setPort_timeHi : (s.setPort p x).timeHi = s.timeHi := by unfold State.setPort; split <;> rfl
@[simp] theorem State.setPort_pw : (s.setPort p x).pw = s.pw := by unfold State.setPort; split <;> rfl
@[simp] theorem State.setPort_log : (s.setPort p x).log = s.log := by unfold State.setPort; split <;> rfl
@[simp] theorem State.setPort_mail : (s.setPort p x).mail = s.mail := by unfold State.setPort; split <;> rfl
@[simp] theorem State.setPort_rs : (s.setPort p x).rs = s.rs := by unfold State.setPort; split <;> rfl
@[simp] theorem State.setPort_commits : (s.setPort p x).commits = s.commits := by unfold State.setPort; split <;> rfl
@[simp] theorem State.setPort_rng : (s.setPort p x).rng = s.rng := by unfold State.setPort; split <;> rfl
@[simp] theorem State.setPort_gov : (s.setPort p x).gov = s.gov := by unfold State.setPort; split <;> rfl
@[simp] theorem State.setPort_vid : (s.setPort p x).vid = s.vid := by unfold State.setPort; split <;> rfl
@[simp] theorem State.setPort_pipe : (s.setPort p x).pipe = s.pipe := by unfold State.setPort; split <;> rfl
@[simp] theorem State.setPort_col : (s.setPort p x).col = s.col := by unfold State.setPort; split <;> rfl
@[simp] theorem State.setPort_gate : (s.setPort p x).gate = s.gate := by unfold State.setPort; split <;> rfl
@[simp] theorem State.setPort_bias : (s.setPort p x).bias = s.bias := by unfold State.setPort; split <;> rfl
@[simp] theorem State.setPort_bl : (s.setPort p x).bl = s.bl := by unfold State.setPort; split <;> rfl
@[simp] theorem State.setPort_lda : (s.setPort p x).lda = s.lda := by unfold State.setPort; split <;> rfl
@[simp] theorem State.setPort_opt : (s.setPort p x).opt = s.opt := by unfold State.setPort; split <;> rfl
@[simp] theorem State.setPort_saf : (s.setPort p x).saf = s.saf := by unfold State.setPort; split <;> rfl
@[simp] theorem State.setPort_pondWeak : (s.setPort p x).pondWeak = s.pondWeak := by unfold State.setPort; split <;> rfl
@[simp] theorem State.setPort_dma : (s.setPort p x).dma = s.dma := by unfold State.setPort; split <;> rfl
@[simp] theorem State.setPort_eddy : (s.setPort p x).eddy = s.eddy := by unfold State.setPort; split <;> rfl
@[simp] theorem State.setPort_cal : (s.setPort p x).cal = s.cal := by unfold State.setPort; split <;> rfl
@[simp] theorem State.setPort_fw : (s.setPort p x).fw = s.fw := by unfold State.setPort; split <;> rfl
@[simp] theorem State.setPort_flashWrites : (s.setPort p x).flashWrites = s.flashWrites := by unfold State.setPort; split <;> rfl
@[simp] theorem State.setPort_answer : (s.setPort p x).answer = s.answer := by unfold State.setPort; split <;> rfl
@[simp] theorem State.setPort_pending : (s.setPort p x).pending = s.pending := by unfold State.setPort; split <;> rfl
@[simp] theorem State.setPort_free : (s.setPort p x).free = s.free := by unfold State.setPort; split <;> rfl
@[simp] theorem State.reg_setPort (k : Nat) : (s.setPort p x).reg k = s.reg k := by unfold State.setPort; split <;> rfl
@[simp] theorem State.fld_setPort (k : Fld) : (s.setPort p x).fld k = s.fld k := by unfold State.setPort; split <;> rfl
@[simp] theorem State.flag_setPort (k : Fld) : (s.setPort p x).flag k = s.flag k := by unfold State.setPort; split <;> rfl
@[simp] theorem State.on_setPort (k : Domain) : (s.setPort p x).on k = s.on k := by unfold State.setPort; split <;> rfl
@[simp] theorem State.live_setPort (k : Nat) : (s.setPort p x).live k = s.live k := by unfold State.setPort; split <;> rfl
@[simp] theorem State.byte_setPort (k : Nat) : (s.setPort p x).byte k = s.byte k := by unfold State.setPort; split <;> rfl
@[simp] theorem State.port_setPort_same : (s.setPort p x).port p = x := by unfold State.setPort State.port; split <;> rfl

end

end Sys2Proof.Machine
end

