-- ==== Sys2Proof/Laws/Regs.lean ====
section
/-! SUPPORT. Registers and their fields: what a read gives after a write. -/

namespace Sys2Proof.Machine

variable (s : State) (a b : Nat) (v : Word) (f g : Fld) (n : Nat)

theorem State.reg_setReg : (s.setReg a v).reg b = if b = a then v else s.reg b := mapGet_mapSet _ _ _ _ _

@[simp] theorem State.reg_setReg_same : (s.setReg a v).reg a = v := by simp [State.reg_setReg]

theorem State.reg_setReg_ne (h : b ≠ a) : (s.setReg a v).reg b = s.reg b := by simp [State.reg_setReg, h]

theorem State.live_setLive : (s.setLive a v).live b = if b = a then v else s.live b := mapGet_mapSet _ _ _ _ _

@[simp] theorem State.reg_setLive : (s.setLive a v).reg b = s.reg b := by cases s; rfl

@[simp] theorem State.live_setReg : (s.setReg a v).live b = s.live b := by cases s; rfl

@[simp] theorem State.byte_setReg : (s.setReg a v).byte b = s.byte b := by cases s; rfl

@[simp] theorem State.byte_setFld : (s.setFld f n).byte b = s.byte b := by cases s; rfl

@[simp] theorem State.byte_setFlag (c : Bool) : (s.setFlag f c).byte b = s.byte b := by cases s; rfl

theorem State.byte_setByte (w : Byte) : (s.setByte a w).byte b = if b = a then w else s.byte b := mapGet_mapSet _ _ _ _ _

@[simp] theorem State.reg_setByte (w : Byte) : (s.setByte a w).reg b = s.reg b := by cases s; rfl

/-! ### Bits of a word -/

/-- The bits of a mask over [lo, lo + w). -/
theorem mask_bit (lo w i : Nat) : ((2 ^ w - 1) <<< lo).testBit i = (decide (lo ≤ i) && decide (i < lo + w)) := by
  rw [Nat.testBit_shiftLeft, Nat.testBit_two_pow_sub_one]
  by_cases h : lo ≤ i
  · simp [h]; omega
  · simp [h]

/-- Bit `i` of a word with a field replaced. -/
theorem withBits_bit (x : Word) (lo w v i : Nat) (h : lo + w ≤ 32) :
    (withBits x lo w v).getLsbD i = if lo ≤ i ∧ i < lo + w then v.testBit (i - lo) else x.getLsbD i := by
  have hm : ∀ j, (BitVec.ofNat 32 ((2 ^ w - 1) <<< lo)).getLsbD j = (decide (j < 32) && (decide (lo ≤ j) && decide (j < lo + w))) := by
    intro j
    rw [BitVec.getLsbD_ofNat, mask_bit]
  simp only [withBits, BitVec.getLsbD_or, BitVec.getLsbD_and, BitVec.getLsbD_not, hm, BitVec.getLsbD_ofNat,
    Nat.testBit_shiftLeft, Nat.testBit_mod_two_pow]
  by_cases hi : lo ≤ i ∧ i < lo + w
  · have h32 : i < 32 := by omega
    have hw : i - lo < w := by omega
    simp [hi.1, hi.2, h32, hw]
  · rw [if_neg hi]
    by_cases h32 : i < 32
    · by_cases h1 : lo ≤ i
      · have h2 : ¬ i < lo + w := fun c => hi ⟨h1, c⟩
        simp [h1, h2, h32]
      · simp [h1, h32]
    · simp [h32, BitVec.getLsbD_of_ge x i (by omega)]

/-- A field of a word, bit by bit. -/
theorem bitsOf_testBit (x : Word) (lo w i : Nat) : (bitsOf x lo w).testBit i = (decide (i < w) && x.getLsbD (lo + i)) := by
  simp [bitsOf, Nat.testBit_mod_two_pow, Nat.testBit_shiftRight, BitVec.getLsbD]

theorem bitsOf_withBits_same (x : Word) (lo w v : Nat) (h : lo + w ≤ 32) : bitsOf (withBits x lo w v) lo w = v % 2 ^ w := by
  apply Nat.eq_of_testBit_eq
  intro i
  rw [bitsOf_testBit, withBits_bit _ _ _ _ _ h, Nat.testBit_mod_two_pow]
  by_cases hi : i < w
  · simp [hi]
  · simp [hi]

theorem bitsOf_withBits_disjoint (x : Word) (lo w v lo' w' : Nat) (h : lo + w ≤ 32) (hd : lo' + w' ≤ lo ∨ lo + w ≤ lo') :
    bitsOf (withBits x lo w v) lo' w' = bitsOf x lo' w' := by
  apply Nat.eq_of_testBit_eq
  intro i
  rw [bitsOf_testBit, bitsOf_testBit, withBits_bit _ _ _ _ _ h]
  by_cases hi : i < w'
  · rw [if_neg (by omega)]
  · simp [hi]

/-! ### Fields -/

theorem State.reg_setFld_ne (h : b ≠ f.reg) : (s.setFld f n).reg b = s.reg b := State.reg_setReg_ne _ _ _ _ h

theorem State.fld_setFld_same (h : f.lo + f.width ≤ 32) : (s.setFld f n).fld f = n % 2 ^ f.width := by
  simp [State.fld, State.setFld, bitsOf_withBits_same _ _ _ _ h]

theorem State.fld_setFld_ne (h : g.reg ≠ f.reg) : (s.setFld f n).fld g = s.fld g := by
  simp [State.fld, State.reg_setFld_ne _ _ _ _ h]

/-- A write of one field leaves another: of another register, or of other bits. -/
theorem State.fld_setFld_other (h : f.lo + f.width ≤ 32)
    (hd : g.reg ≠ f.reg ∨ g.lo + g.width ≤ f.lo ∨ f.lo + f.width ≤ g.lo) : (s.setFld f n).fld g = s.fld g := by
  by_cases hr : g.reg = f.reg
  · rcases hd with hd | hd
    · exact absurd hr hd
    · simp only [State.fld, State.setFld, hr, State.reg_setReg_same]
      exact bitsOf_withBits_disjoint _ _ _ _ _ _ h hd
  · exact State.fld_setFld_ne _ _ _ _ hr

theorem State.flag_setFlag_same (c : Bool) (h : f.lo + f.width ≤ 32) (hw : 0 < f.width) : (s.setFlag f c).flag f = c := by
  rw [State.flag, State.setFlag, State.fld_setFld_same _ _ _ h]
  cases c
  · simp
  · have : 1 < 2 ^ f.width := Nat.one_lt_two_pow (by omega)
    simp [Nat.mod_eq_of_lt this]

theorem State.flag_setFlag_other (c : Bool) (h : f.lo + f.width ≤ 32)
    (hd : g.reg ≠ f.reg ∨ g.lo + g.width ≤ f.lo ∨ f.lo + f.width ≤ g.lo) : (s.setFlag f c).flag g = s.flag g := by
  rw [State.flag, State.setFlag, State.fld_setFld_other _ _ _ _ h hd, State.flag]

theorem State.fld_setReg_ne (h : g.reg ≠ a) : (s.setReg a v).fld g = s.fld g := by
  simp [State.fld, State.reg_setReg_ne _ _ _ _ h]

theorem State.fld_setReg_same : (s.setReg f.reg v).fld f = bitsOf v f.lo f.width := by simp [State.fld]

/-! ### A field after the other writes of a field: counters, flags, whole registers -/

theorem State.fld_setFlag_other (c : Bool) (h : f.lo + f.width ≤ 32)
    (hd : g.reg ≠ f.reg ∨ g.lo + g.width ≤ f.lo ∨ f.lo + f.width ≤ g.lo) : (s.setFlag f c).fld g = s.fld g :=
  State.fld_setFld_other _ _ _ _ h hd

theorem State.fld_countUp_other (h : f.lo + f.width ≤ 32)
    (hd : g.reg ≠ f.reg ∨ g.lo + g.width ≤ f.lo ∨ f.lo + f.width ≤ g.lo) : (s.countUp f n).fld g = s.fld g :=
  State.fld_setFld_other _ _ _ _ h hd

theorem State.fld_wrapUp_other (h : f.lo + f.width ≤ 32)
    (hd : g.reg ≠ f.reg ∨ g.lo + g.width ≤ f.lo ∨ f.lo + f.width ≤ g.lo) : (s.wrapUp f n).fld g = s.fld g :=
  State.fld_setFld_other _ _ _ _ h hd

theorem State.flag_setFld_other (h : f.lo + f.width ≤ 32)
    (hd : g.reg ≠ f.reg ∨ g.lo + g.width ≤ f.lo ∨ f.lo + f.width ≤ g.lo) : (s.setFld f n).flag g = s.flag g := by
  rw [State.flag, State.fld_setFld_other _ _ _ _ h hd, State.flag]

theorem State.flag_countUp_other (h : f.lo + f.width ≤ 32)
    (hd : g.reg ≠ f.reg ∨ g.lo + g.width ≤ f.lo ∨ f.lo + f.width ≤ g.lo) : (s.countUp f n).flag g = s.flag g :=
  State.flag_setFld_other _ _ _ _ h hd

theorem State.flag_wrapUp_other (h : f.lo + f.width ≤ 32)
    (hd : g.reg ≠ f.reg ∨ g.lo + g.width ≤ f.lo ∨ f.lo + f.width ≤ g.lo) : (s.wrapUp f n).flag g = s.flag g :=
  State.flag_setFld_other _ _ _ _ h hd

theorem State.flag_setReg_ne (h : g.reg ≠ a) : (s.setReg a v).flag g = s.flag g := by
  rw [State.flag, State.fld_setReg_ne _ _ _ _ h, State.flag]

/-- A counter that saturates. -/
theorem State.fld_countUp_same (h : f.lo + f.width ≤ 32) :
    (s.countUp f n).fld f = min (s.fld f + n) (2 ^ f.width - 1) := by
  have hp : 0 < 2 ^ f.width := Nat.two_pow_pos _
  rw [State.countUp, State.fld_setFld_same _ _ _ h, Nat.mod_eq_of_lt (by omega)]

/-- A counter that wraps. -/
theorem State.fld_wrapUp_same (h : f.lo + f.width ≤ 32) : (s.wrapUp f n).fld f = (s.fld f + n) % 2 ^ f.width := by
  rw [State.wrapUp, State.fld_setFld_same _ _ _ h]

theorem State.fld_setFlag_same (c : Bool) (h : f.lo + f.width ≤ 32) (hw : 0 < f.width) :
    (s.setFlag f c).fld f = if c then 1 else 0 := by
  rw [State.setFlag, State.fld_setFld_same _ _ _ h]
  cases c
  · simp
  · exact Nat.mod_eq_of_lt (Nat.one_lt_two_pow (by omega))

/-! ### Frames over register bits -/

variable {s f} {t : State} {fs : List Fld}

theorem keepsBits_refl : s.keepsBits s fs := fun _ _ _ => rfl

theorem keepsBits_setFld (h : s.keepsBits t fs) (hf : f ∈ fs) (hw : f.lo + f.width ≤ 32) : s.keepsBits (t.setFld f n) fs := by
  intro b i hb
  rw [← h b i hb]
  by_cases hr : b = f.reg
  · subst hr
    have := hb f hf
    simp only [State.setFld, State.reg_setReg_same]
    rw [withBits_bit _ _ _ _ _ hw, if_neg (by simpa using this)]
  · rw [State.reg_setFld_ne _ _ _ _ hr]

theorem keepsBits_setFlag (c : Bool) (h : s.keepsBits t fs) (hf : f ∈ fs) (hw : f.lo + f.width ≤ 32) :
    s.keepsBits (t.setFlag f c) fs := keepsBits_setFld _ h hf hw

theorem keepsBits_countUp (h : s.keepsBits t fs) (hf : f ∈ fs) (hw : f.lo + f.width ≤ 32) :
    s.keepsBits (t.countUp f n) fs := keepsBits_setFld _ h hf hw

theorem keepsBits_wrapUp (h : s.keepsBits t fs) (hf : f ∈ fs) (hw : f.lo + f.width ≤ 32) :
    s.keepsBits (t.wrapUp f n) fs := keepsBits_setFld _ h hf hw

theorem keepsBits_setReg (h : s.keepsBits t fs) (hf : whole a ∈ fs) : s.keepsBits (t.setReg a v) fs := by
  intro b i hb
  rw [← h b i hb]
  by_cases hr : b = a
  · subst hr
    have hi : 32 ≤ i := by
      have := hb _ hf
      simp at this
      exact this
    rw [BitVec.getLsbD_of_ge _ _ hi, BitVec.getLsbD_of_ge _ _ hi]
  · rw [State.reg_setReg_ne _ _ _ _ hr]

end Sys2Proof.Machine
end

