-- ==== Sys2Proof/Laws/Effects.lean ====
section
/-! SUPPORT. What the operations that many commands share can do at most: events and log records. -/

namespace Sys2Proof.Machine

variable {s t u : State}

/-! ### Bytes -/

theorem byte_setBytes_out (bs : List Byte) (s : State) (a b : Nat) (h : b < a ∨ a + bs.length ≤ b) :
    (s.setBytes a bs).byte b = s.byte b := by
  induction bs generalizing s a with
  | nil => rfl
  | cons x t ih =>
    simp only [List.length_cons] at h
    simp only [State.setBytes]
    rw [ih _ _ (by omega), State.byte_setByte, if_neg (by omega)]

theorem setBytes_frame (s : State) (a : Nat) (bs : List Byte) : s.setBytes a bs = { s with mem := (s.setBytes a bs).mem } := by
  induction bs generalizing s a with
  | nil => rfl
  | cons x t ih => simp only [State.setBytes]; rw [ih]; rfl

@[simp] theorem reg_setBytes (s : State) (a b : Nat) (bs : List Byte) : (s.setBytes a bs).reg b = s.reg b := by
  rw [setBytes_frame]; rfl

theorem leBytes_length (n v : Nat) : (leBytes n v).length = n := by
  induction n generalizing v with
  | zero => rfl
  | succ n ih => simp [leBytes, ih]

theorem padTo_length {α : Type} (d : α) (n : Nat) (l : List α) : (padTo d n l).length = n := by simp [padTo]

theorem withCheck_length (bs : List Byte) : (withCheck bs).length = 16 := by simp [withCheck, padTo_length]

theorem fld_lt (s : State) (f : Fld) : s.fld f < 2 ^ f.width := by
  simp only [State.fld, bitsOf]; exact Nat.mod_lt _ (Nat.two_pow_pos _)

/-! ### Events and log records -/

theorem State.recorded.refl : s.recorded s := ⟨fun _ _ => rfl, fun _ _ => rfl, rfl⟩

theorem State.recorded.trans (h : s.recorded t) (k : t.recorded u) : s.recorded u := by
  refine ⟨fun a ha => (k.1 a ha).trans (h.1 a ha), fun a ha => (k.2.1 a ha).trans (h.2.1 a ha), ?_⟩
  rw [k.2.2, h.2.2]

theorem State.recorded.reg (h : s.recorded t) {a : Nat} (ha : a ∉ recordRegs) : t.reg a = s.reg a := h.2.1 a ha

theorem State.recorded.fld (h : s.recorded t) {f : Fld} (ha : f.reg ∉ recordRegs) : t.fld f = s.fld f := by
  simp [State.fld, h.2.1 _ ha]

theorem State.recorded.flag (h : s.recorded t) {f : Fld} (ha : f.reg ∉ recordRegs) : t.flag f = s.flag f := by
  simp [State.flag, h.fld ha]

theorem recorded_setBytes {a : Nat} {bs : List Byte} (h : s.recorded t)
    (ha : (evtBase ≤ a ∧ a + bs.length ≤ evtBase + 4096) ∨ (logBase ≤ a ∧ a + bs.length ≤ flashBase)) : s.recorded (t.setBytes a bs) := by
  refine h.trans ⟨fun b hb => ?_, fun b _ => reg_setBytes _ _ _ _, ?_⟩
  · apply byte_setBytes_out
    simp only [recordByte, Bool.or_eq_false_iff, decide_eq_false_iff_not] at hb
    omega
  · rw [setBytes_frame]

theorem recorded_setByte {a : Nat} {b : Byte} (h : s.recorded t) (ha : logBase ≤ a ∧ a < flashBase) : s.recorded (t.setByte a b) :=
  recorded_setBytes (bs := [b]) h (Or.inr ⟨ha.1, ha.2⟩)

theorem recorded_setReg {a : Nat} {v : Word} (h : s.recorded t) (ha : a ∈ recordRegs) : s.recorded (t.setReg a v) := by
  refine h.trans ⟨fun b _ => State.byte_setReg _ _ _ _, fun b hb => State.reg_setReg_ne _ _ _ _ (fun e => hb (e ▸ ha)), ?_⟩
  rfl

theorem recorded_setFld {f : Fld} {n : Nat} (h : s.recorded t) (ha : f.reg ∈ recordRegs) : s.recorded (t.setFld f n) :=
  recorded_setReg h ha

theorem recorded_log (h : s.recorded t) (l : Recorder) : s.recorded { t with log := l } :=
  h.trans ⟨fun _ _ => rfl, fun _ _ => rfl, rfl⟩

theorem evtPut_recorded {r : List Byte} (h : s.recorded t) (hr : r.length = 16) : s.recorded (t.evtPut r) := by
  have hw := fld_lt t F.SYS_EVT_RING_WRITE
  refine recorded_setFld (recorded_setBytes h (Or.inl ?_)) (by decide)
  rw [hr]
  change _ < 2 ^ 8 at hw
  omega

theorem evtRecord_length (s : State) (cls code : Nat) (data : List Byte) (ext : Bool) : (s.evtRecord cls code data ext).length = 16 := by
  simp [State.evtRecord, leBytes_length, padTo_length]

theorem event_recorded (s : State) (cls code : Nat) (data : List Byte) (cont : Option (List Byte)) : s.recorded (s.event cls code data cont) := by
  unfold State.event
  split
  · exact .refl
  · generalize (if cont.isSome then 2 else 1 : Nat) = n
    dsimp only
    split
    · exact recorded_log (recorded_setFld (f := F.SYS_EVT_CNT_LOST) .refl (by decide)) _
    · refine recorded_log (recorded_setFld (f := F.SYS_EVT_CNT_WRITTEN) ?_ (by decide)) _
      refine recorded_setReg (recorded_setReg (recorded_setReg (recorded_setReg ?_ (by decide)) (by decide)) (by decide)) (by decide)
      have h := evtPut_recorded (.refl (s := s)) (evtRecord_length s cls code data cont.isSome)
      cases cont with
      | none => exact h
      | some c => exact evtPut_recorded h (padTo_length _ _ _)

theorem leAt_lt (bs : List Byte) (off n : Nat) : leAt bs off n < 256 ^ n := by
  have key : ∀ l : List Byte, ofLe l < 256 ^ l.length := by
    intro l
    induction l with
    | nil => simp [ofLe]
    | cons b t ih =>
      simp only [ofLe, List.length_cons, Nat.pow_succ]
      have := b.isLt
      omega
  refine Nat.lt_of_lt_of_le (key _) (Nat.pow_le_pow_right (by decide) ?_)
  simp

theorem mle_lt (s : State) (a n : Nat) : s.mle a n < 256 ^ n := by
  have key : ∀ n a, ofLe (s.bytes a n) < 256 ^ n := by
    intro n
    induction n with
    | zero => intro a; simp [State.bytes, ofLe]
    | succ n ih =>
      intro a
      simp only [State.bytes, ofLe, Nat.pow_succ]
      have := (s.byte a).isLt
      have := ih (a + 1)
      omega
  exact key n a

theorem putZoneSummary_recorded {z code : Nat} (h : s.recorded t) (hz : z < 65536) : s.recorded (t.putZoneSummary z code) := by
  refine recorded_setBytes (recorded_setByte h ?_) (Or.inr ?_)
  · simp [logBase, flashBase, zoneSummary]; omega
  · rw [leBytes_length]; decide

theorem flogHeader_recorded {n : Nat} (h : s.recorded t) : s.recorded (t.flogHeader n) :=
  recorded_setBytes h (Or.inr (by rw [withCheck_length]; decide))

theorem writePart_recorded {bs : List Byte} {last : Bool} (h : s.recorded t) : s.recorded (t.writePart bs last) := by
  have hn := fld_lt t F.SYS_LOG_NEXT_NEXT
  change _ < 2 ^ 13 at hn
  have h3 : ∀ (n g : Nat) (e : List Byte), e.length = 16 → s.recorded (((t.setBytes (flogBase + 16 * t.fld F.SYS_LOG_NEXT_NEXT) e).setFld
      F.SYS_LOG_NEXT_NEXT n).setFld F.SYS_LOG_NEXT_GEN g) := by
    intro n g e he
    refine recorded_setFld (recorded_setFld (recorded_setBytes h (Or.inr ?_)) (by decide)) (by decide)
    rw [he]; simp [logBase, flashBase, flogBase]; omega
  unfold State.writePart
  simp only
  split
  · split
    · exact putZoneSummary_recorded (recorded_setFld (flogHeader_recorded (h3 _ _ _ (withCheck_length _))) (by decide)) (leAt_lt _ _ 2)
    · exact recorded_setFld (flogHeader_recorded (h3 _ _ _ (withCheck_length _))) (by decide)
  · exact h3 _ _ _ (withCheck_length _)

theorem writeLedger_recorded {bs : List Byte} (h : s.recorded t) : s.recorded (t.writeLedger bs) := by
  have hn : t.ledgerNext < 65536 := by
    have := mle_lt t ledgerBase 2
    simp only [State.ledgerNext]
    omega
  have h1 : ∀ e : List Byte, e.length = 16 → s.recorded (t.setBytes (ledgerBase + 16 * t.ledgerNext) e) := by
    intro e he
    refine recorded_setBytes h (Or.inr ?_)
    rw [he]; simp [logBase, flashBase, ledgerBase]; omega
  unfold State.writeLedger
  simp only
  split <;> exact recorded_setBytes (h1 _ (withCheck_length _)) (Or.inr (by rw [withCheck_length]; decide))

theorem logWriteOne_recorded (h : s.recorded t) : s.recorded t.logWriteOne := by
  unfold State.logWriteOne
  split
  · exact h
  · exact writePart_recorded (recorded_log h _)
  · exact writeLedger_recorded (recorded_log h _)

theorem logWriteAll_recorded {n : Nat} (h : s.recorded t) : s.recorded (State.logWriteAll n t) := by
  induction n generalizing t with
  | zero => exact h
  | succ n ih => exact ih (logWriteOne_recorded h)

theorem logPump_recorded (h : s.recorded t) : s.recorded t.logPump := by
  unfold State.logPump
  split
  · exact h
  · exact logWriteAll_recorded h

theorem postRecord_recorded {ps : List (List Byte)} (h : s.recorded t) : s.recorded (t.postRecord ps) := by
  unfold State.postRecord
  split
  · exact recorded_log (recorded_setFld (f := F.SYS_LOG_CNT_DROPPED) h (by decide)) _
  · exact logPump_recorded (recorded_log h _)

/-- An event with its log record touches the event ring, the log store, their registers and the writer's queue, and nothing else. -/
theorem eventLogged_recorded (s : State) (cls code : Nat) (data : List Byte) : s.recorded (s.eventLogged cls code data) :=
  postRecord_recorded (event_recorded _ _ _ _ _)

end Sys2Proof.Machine
end

