-- ==== Sys2Proof/Laws/Good.lean ====
section
/-! SUPPORT. What every operation keeps: canonical data and the queue of waiting commands. `State.Good q` says both; each file
Laws/Good*.lean says it of the operations of one part of the machine, so that a proof about a step cites one lemma per
operation and unfolds none. -/

namespace Sys2Proof.Machine

/-- Canonical data, and `q` the queue of waiting commands. -/
def State.Good (q : List Instr) (s : State) : Prop := canonMaps s.mem s.regs s.inForce s.snap ∧ s.pending = q

/-- Every next state of an outcome is good. -/
def OutGood (q : List Instr) (o : Out) : Prop := ∀ t, o = .next t → t.Good q

/-- A state that may be absent is good. -/
def OptGood (q : List Instr) (o : Option State) : Prop := ∀ t, o = some t → t.Good q

/-- A state beside a value that may be absent is good. -/
def OptPairGood {α : Type} (q : List Instr) (o : Option (α × State)) : Prop := ∀ t, o = some t → t.2.Good q

variable {q : List Instr} {s t : State}

theorem good_canon (h : s.Good q) : s.canon := h.1

theorem good_self (h : s.canon) : s.Good s.pending := ⟨h, rfl⟩

theorem good_mk (h : canonMaps t.mem t.regs t.inForce t.snap ∧ t.pending = q) : t.Good q := h

theorem good_of (h : s.Good q) : canonMaps s.mem s.regs s.inForce s.snap ∧ s.pending = q := h

theorem outGood_next (h : s.Good q) : OutGood q (.next s) := by
  intro t e; cases e; exact h

theorem good_of_out {o : Out} (h : OutGood q o) (e : o = .next s) : s.Good q := h s e

theorem good_of_next (h : OutGood q (.next s)) : s.Good q := h s rfl

theorem optGood_some (h : s.Good q) : OptGood q (some s) := by
  intro t e; cases e; exact h

theorem optGood_none : OptGood q none := by
  intro t e; cases e

theorem good_of_opt {o : Option State} (e : o = some s) (h : OptGood q o) : s.Good q := h s e

theorem optPairGood_some {α : Type} {p : α × State} (h : p.2.Good q) : OptPairGood q (some p) := by
  intro t e; cases e; exact h

theorem optPairGood_none {α : Type} : OptPairGood q (none : Option (α × State)) := by
  intro t e; cases e

theorem good_of_optPair {α : Type} {o : Option (α × State)} {a : α} (e : o = some (a, s)) (h : OptPairGood q o) :
    s.Good q := h (a, s) e

theorem good_of_pair {α : Type} {p : α × State} {a : α} (e : p = (a, s)) (h : p.2.Good q) : s.Good q := by
  subst e; exact h

theorem good_of_trip {α β : Type} {p : α × β × State} {a : α} {b : β} (e : p = (a, b, s)) (h : p.2.2.Good q) :
    s.Good q := by
  subst e; exact h

theorem good_of_tail {α β : Type} {p : α × β × State} {a : α} {b : β × State} (e : p = (a, b)) (h : p.2.2.Good q) :
    b.2.Good q := by
  subst e; exact h

theorem foldl_good {α : Type} {f : State → α → State} {l : List α} (hf : ∀ s a, s.Good q → (f s a).Good q)
    (h : s.Good q) : (l.foldl f s).Good q := by
  induction l generalizing s with
  | nil => exact h
  | cons a t ih => exact ih (hf s a h)

theorem foldl_pair_good {α β : Type} {f : β × State → α → β × State} {l : List α} {p : β × State}
    (hf : ∀ p a, p.2.Good q → (f p a).2.Good q) (h : p.2.Good q) : (l.foldl f p).2.Good q := by
  induction l generalizing p with
  | nil => exact h
  | cons a t ih => exact ih (hf p a h)

/-! ### The operations that write a map -/

theorem State.setReg_good {a : Nat} {v : Word} (h : s.Good q) : (s.setReg a v).Good q :=
  ⟨⟨h.1.1, mapWf_mapSet _ _ _ _ h.1.2.1, h.1.2.2.1, h.1.2.2.2⟩, h.2⟩

theorem State.setLive_good {a : Nat} {v : Word} (h : s.Good q) : (s.setLive a v).Good q :=
  ⟨⟨h.1.1, h.1.2.1, mapWf_mapSet _ _ _ _ h.1.2.2.1, h.1.2.2.2⟩, h.2⟩

theorem State.resetRegs_good {lo hi : Nat} (h : s.Good q) : (s.resetRegs lo hi).Good q :=
  ⟨⟨h.1.1, mapWf_mapClear _ _ _ _ h.1.2.1, mapWf_mapClear _ _ _ _ h.1.2.2.1, h.1.2.2.2⟩, h.2⟩

theorem State.setByte_good {a : Nat} {v : Byte} (h : s.Good q) : (s.setByte a v).Good q :=
  ⟨⟨mapWf_mapSet _ _ _ _ h.1.1, h.1.2⟩, h.2⟩

theorem State.clearMem_good {lo hi : Nat} (h : s.Good q) : (s.clearMem lo hi).Good q :=
  ⟨⟨mapWf_mapClear _ _ _ _ h.1.1, h.1.2⟩, h.2⟩

theorem State.setBytes_good {a : Nat} {l : List Byte} (h : s.Good q) : (s.setBytes a l).Good q := by
  induction l generalizing s a with
  | nil => exact h
  | cons b t ih => exact ih (State.setByte_good h)

theorem State.setSnap_good {a : Nat} {v : Word} (h : s.Good q) : (s.setSnap a v).Good q :=
  ⟨⟨h.1.1, h.1.2.1, h.1.2.2.1, mapWf_mapSet _ _ _ _ h.1.2.2.2⟩, h.2⟩

/-- A full reset keeps the always-on registers and the log store: parts of canonical maps. -/
theorem State.afterReset_good (h : s.Good q) : s.afterReset.Good q := by
  refine State.setReg_good (State.setReg_good ?_)
  exact ⟨⟨mapWf_filter _ _ h.1.1, mapWf_filter _ _ h.1.2.1, rfl, rfl⟩, h.2⟩

end Sys2Proof.Machine
end

