-- ==== Sys2Proof/Laws/GoodMail.lean ====
section
/-! SUPPORT. Good states kept by memory, records, stores, the frame path and the mailboxes. -/

namespace Sys2Proof.Machine

open State

variable {pq : List Instr} {s : State}

theorem State.setFld_good {f : Fld} {v : Nat} (hs : s.Good pq) : Good pq (setFld s f v) := by
  unfold setFld
  exact setReg_good hs

theorem State.setFlag_good {f : Fld} {b : Bool} (hs : s.Good pq) : Good pq (setFlag s f b) := by
  unfold setFlag
  exact setFld_good hs

theorem State.setLiveFld_good {f : Fld} {v : Nat} (hs : s.Good pq) : Good pq (setLiveFld s f v) := by
  unfold setLiveFld
  exact setLive_good hs

theorem State.countUp_good {f : Fld} {n : Nat} (hs : s.Good pq) : Good pq (countUp s f n) := by
  unfold countUp
  exact setFld_good hs

theorem State.wrapUp_good {f : Fld} {n : Nat} (hs : s.Good pq) : Good pq (wrapUp s f n) := by
  unfold wrapUp
  exact setFld_good hs

theorem State.handOver_good {a : Nat} (hs : s.Good pq) : Good pq (handOver s a) := by
  unfold handOver
  exact setLive_good hs

theorem State.handOverAll_good {as : List Nat} (hs : s.Good pq) : Good pq (handOverAll s as) := by
  unfold handOverAll
  exact foldl_good (fun y00 y01 y02 => handOver_good y02) hs

theorem State.setMle_good {a : Nat} {n : Nat} {v : Nat} (hs : s.Good pq) : Good pq (setMle s a n v) := by
  unfold setMle
  exact setBytes_good hs

theorem State.resetBlk_good {b : Blk} (hs : s.Good pq) : Good pq (resetBlk s b) := by
  unfold resetBlk
  exact resetRegs_good hs

theorem State.demand_good {d : Domain} (hs : s.Good pq) : Good pq (demand s d).2 := by
  unfold demand
  split
  · dsimp only
    exact setFlag_good hs
  · split
    · dsimp only
      exact hs
    · dsimp only
      refine good_mk ?_
      dsimp only
      exact good_of hs

theorem State.stall_good {d : Domain} {x : Stall} (hs : s.Good pq) : Good pq (stall s d x) := by
  unfold stall
  split
  split
  · refine good_mk ?_
    dsimp only
    exact good_of (good_of_pair ‹_› (demand_good hs))
  · exact good_of_pair ‹_› (demand_good hs)

theorem State.stallWrite_good {a : Nat} {v : Word} (hs : s.Good pq) : Good pq (stallWrite s a v) := by
  unfold stallWrite
  split
  · exact hs
  · exact stall_good hs

theorem State.cancelWake_good {d : Domain} (hs : s.Good pq) : Good pq (cancelWake s d) := by
  unfold cancelWake
  split
  · refine setFlag_good ?_
    refine good_mk ?_
    dsimp only
    exact good_of hs
  · exact hs

theorem State.draw_good {n : Nat} (hs : s.Good pq) : Good pq (draw s n).2 := by
  unfold draw
  dsimp only
  refine good_mk ?_
  dsimp only
  exact good_of hs

theorem State.random_good {n : Nat} (hs : s.Good pq) : Good pq (random s n).2 := by
  unfold random
  dsimp only
  refine good_mk ?_
  dsimp only
  exact good_of hs

theorem State.roundOpen_good {q : ℚ} (hs : s.Good pq) : Good pq (roundOpen s q).2 := by
  unfold roundOpen
  dsimp only
  split
  · dsimp only
    exact hs
  · dsimp only
    exact draw_good hs

theorem State.quot_good {n : Nat} {d : Nat} (hs : s.Good pq) : Good pq (quot s n d).2 := by
  unfold quot
  split
  · exact draw_good hs
  · split
    · dsimp only
      exact hs
    · split
      dsimp only
      exact good_of_pair ‹_› (draw_good hs)

theorem State.reachPos_good {line : Nat} {tick : Nat} (hs : s.Good pq) : Good pq (reachPos s line tick) := by
  unfold reachPos
  split
  · refine good_mk ?_
    dsimp only
    exact good_of hs
  · exact hs

theorem State.evtPut_good {r : List Byte} (hs : s.Good pq) : Good pq (evtPut s r) := by
  unfold evtPut
  dsimp only
  exact setFld_good (setBytes_good hs)

theorem State.event_good {cls : Nat} {code : Nat} {data : List Byte} {cont : Option (List Byte)} (hs : s.Good pq) : Good pq (event s cls code data cont) := by
  unfold event
  split
  · exact hs
  · dsimp only
    split
    · split
      · refine good_mk ?_
        dsimp only
        exact good_of (countUp_good hs)
      · refine good_mk ?_
        dsimp only
        refine good_of ?_
        refine countUp_good ?_
        refine setReg_good ?_
        refine setReg_good ?_
        refine setReg_good ?_
        refine setReg_good ?_
        split
        · exact evtPut_good (evtPut_good hs)
        · exact evtPut_good hs
    · split
      · refine good_mk ?_
        dsimp only
        exact good_of (countUp_good hs)
      · refine good_mk ?_
        dsimp only
        refine good_of ?_
        refine countUp_good ?_
        refine setReg_good ?_
        refine setReg_good ?_
        refine setReg_good ?_
        refine setReg_good ?_
        split
        · exact evtPut_good (evtPut_good hs)
        · exact evtPut_good hs

theorem State.putZoneSummary_good {z : Nat} {code : Nat} (hs : s.Good pq) : Good pq (putZoneSummary s z code) := by
  unfold putZoneSummary
  dsimp only
  exact setMle_good (setByte_good hs)

theorem State.flogHeader_good {n : Nat} (hs : s.Good pq) : Good pq (flogHeader s n) := by
  unfold flogHeader
  dsimp only
  exact setBytes_good hs

theorem State.writePart_good {bs : List Byte} {last : Bool} (hs : s.Good pq) : Good pq (writePart s bs last) := by
  unfold writePart
  dsimp only
  split
  · split
    · exact putZoneSummary_good (countUp_good (flogHeader_good (setFld_good (setFld_good (setBytes_good hs)))))
    · exact countUp_good (flogHeader_good (setFld_good (setFld_good (setBytes_good hs))))
  · exact setFld_good (setFld_good (setBytes_good hs))

theorem State.ledgerHeader_good {next : Nat} {gen : Nat} {boots : Nat} (hs : s.Good pq) : Good pq (ledgerHeader s next gen boots) := by
  unfold ledgerHeader
  exact setBytes_good hs

theorem State.writeLedger_good {bs : List Byte} (hs : s.Good pq) : Good pq (writeLedger s bs) := by
  unfold writeLedger
  dsimp only
  split
  · exact ledgerHeader_good (setBytes_good hs)
  · exact ledgerHeader_good (setBytes_good hs)

theorem State.logWriteOne_good (hs : s.Good pq) : Good pq (logWriteOne s) := by
  unfold logWriteOne
  split
  · exact hs
  · refine writePart_good ?_
    refine good_mk ?_
    dsimp only
    exact good_of hs
  · refine writeLedger_good ?_
    refine good_mk ?_
    dsimp only
    exact good_of hs

theorem State.logWriteAll_good {x0 : Nat} {x1 : State} (hx1 : x1.Good pq) : Good pq (logWriteAll x0 x1) := by
  induction x0 generalizing x1 with
  | zero =>
    unfold logWriteAll
    exact hx1
  | succ n ih =>
    unfold logWriteAll
    exact ih (logWriteOne_good hx1)

theorem State.logPump_good (hs : s.Good pq) : Good pq (logPump s) := by
  unfold logPump
  split
  · exact hs
  · exact logWriteAll_good hs

theorem State.postRecord_good {parts : List (List Byte)} (hs : s.Good pq) : Good pq (postRecord s parts) := by
  unfold postRecord
  split
  · dsimp only
    refine good_mk ?_
    dsimp only
    exact good_of (countUp_good hs)
  · dsimp only
    refine logPump_good ?_
    refine good_mk ?_
    dsimp only
    exact good_of hs

theorem State.logFault_good {cls : Nat} {code : Nat} {data : List Byte} (hs : s.Good pq) : Good pq (logFault s cls code data) := by
  unfold logFault
  exact postRecord_good hs

theorem State.eventLogged_good {cls : Nat} {code : Nat} {data : List Byte} (hs : s.Good pq) : Good pq (eventLogged s cls code data) := by
  unfold eventLogged
  exact logFault_good (event_good hs)

theorem State.postLedger_good {bs : List Byte} {tag : Nat} (hs : s.Good pq) : Good pq (postLedger s bs tag) := by
  unfold postLedger
  refine logPump_good ?_
  refine good_mk ?_
  dsimp only
  exact good_of hs

theorem State.postFirmwarePart_good {bs : List Byte} (hs : s.Good pq) : Good pq (postFirmwarePart s bs) := by
  unfold postFirmwarePart
  dsimp only
  split
  · split
    · refine good_mk ?_
      dsimp only
      exact good_of (countUp_good hs)
    · refine logPump_good ?_
      refine good_mk ?_
      dsimp only
      exact good_of hs
  · split
    · refine good_mk ?_
      dsimp only
      exact good_of hs
    · refine logPump_good ?_
      refine good_mk ?_
      dsimp only
      exact good_of hs

theorem State.logScan_good {x0 : Nat} {x1 : State} (hx1 : x1.Good pq) : Good pq (logScan x0 x1) := by
  induction x0 generalizing x1 with
  | zero =>
    unfold logScan
    exact hx1
  | succ n ih =>
    unfold logScan
    dsimp only
    split
    · exact ih (setFld_good (setFld_good hx1))
    · exact hx1

theorem State.logStart_good (hs : s.Good pq) : Good pq (logStart s) := by
  unfold logStart
  dsimp only
  exact setFlag_good (logScan_good (setFld_good (setFld_good hs)))

theorem State.logMarkRead_good (hs : s.Good pq) : Good pq (logMarkRead s) := by
  unfold logMarkRead
  dsimp only
  exact setBytes_good hs

theorem State.writePersist_good {kind : Nat} (hs : s.Good pq) : Good pq (writePersist s kind) := by
  unfold writePersist
  split
  dsimp only
  exact setBytes_good hs

theorem State.ask_good {rank : Nat} {n : Nat} (hs : s.Good pq) : Good pq (ask s rank n) := by
  unfold ask
  refine good_mk ?_
  dsimp only
  exact good_of hs

theorem State.readerCode_good {x1 : Option Reader} (hs : s.Good pq) : Good pq (readerCode s x1).2 := by
  unfold readerCode
  split
  · dsimp only
    exact hs
  · exact draw_good hs

theorem State.fstLog_good {off : Nat} {symbols : Nat} {uncorr : Bool} {hard : Bool} {rd : Nat} (hs : s.Good pq) : Good pq (fstLog s off symbols uncorr hard rd) := by
  unfold fstLog
  dsimp only
  exact setFld_good (setFld_good (setReg_good (setReg_good hs)))

theorem State.fstUncorr_good {off : Nat} {rd : Nat} (hs : s.Good pq) : Good pq (fstUncorr s off rd) := by
  unfold fstUncorr
  dsimp only
  exact eventLogged_good (fstLog_good (setFlag_good (countUp_good hs)))

theorem State.fstCorr_good {off : Nat} {symbols : Nat} {rd : Nat} (hs : s.Good pq) : Good pq (fstCorr s off symbols rd) := by
  unfold fstCorr
  exact fstLog_good (setFlag_good (countUp_good hs))

theorem State.setErrs_good {cw : Nat} {e : SymErrs} (hs : s.Good pq) : Good pq (setErrs s cw e) := by
  unfold setErrs
  refine good_mk ?_
  dsimp only
  exact good_of hs

theorem State.upset_good {ups : Upsets} (hs : s.Good pq) : Good pq (upset s ups) := by
  unfold upset
  refine foldl_good ?_ hs
  intro y00 y01 y02
  split
  · exact setErrs_good y02
  · exact y02

theorem State.encodeAfresh_good {off : Nat} {n : Nat} (hs : s.Good pq) : Good pq (encodeAfresh s off n) := by
  unfold encodeAfresh
  refine good_mk ?_
  dsimp only
  exact good_of hs

theorem State.flipData_good {cw : Nat} {left : SymErrs} (hs : s.Good pq) : Good pq (flipData s cw left) := by
  unfold flipData
  refine foldl_good ?_ hs
  intro y00 y01 y02
  dsimp only
  split
  · exact setByte_good y02
  · exact y02

theorem State.seen_good {l : Upsets} (hs : s.Good pq) : Good pq (seen s l) := by
  unfold seen
  exact foldl_good (fun y00 y01 y02 => flipData_good y02) hs

theorem State.readWord_good {rd : Option Reader} {detect : Bool} {cw : Nat} (hs : s.Good pq) : Good pq (readWord s rd detect cw).2 := by
  unfold readWord
  split
  · split
    dsimp only
    exact fstUncorr_good (good_of_pair ‹_› (readerCode_good hs))
  · dsimp only
    exact hs
  · split
    dsimp only
    exact fstCorr_good (good_of_pair ‹_› (readerCode_good hs))

theorem WordsRead.more_st_good {r : WordsRead} {rd : Reader} {detect : Bool} {hit : Nat → Bool} {p : Nat × SymErrs} (h : Good pq r.st) :
    Good pq (r.more rd detect hit p).st := by
  have hr := readWord_good (rd := some rd) (detect := detect) (cw := p.1) h
  unfold WordsRead.more
  split
  · exact h
  · split <;> rename_i e <;> rw [e] at hr <;> exact hr

theorem State.readWords_st_good {rd : Reader} {detect : Bool} {hit : Nat → Bool} (h : Good pq s) :
    Good pq (s.readWords rd detect hit).st := by
  have key : ∀ (l : Upsets) (r : WordsRead), Good pq r.st → Good pq (l.foldl (fun r p => r.more rd detect hit p) r).st := by
    intro l
    induction l with
    | nil => intro r h; exact h
    | cons a t ih => intro r h; exact ih _ (WordsRead.more_st_good h)
  exact key _ _ h

theorem State.fstPut_good {off : Nat} {bs : List Byte} (hs : s.Good pq) : Good pq (fstPut s off bs) := by
  unfold fstPut
  dsimp only
  refine good_mk ?_
  dsimp only
  exact good_of (setBytes_good hs)

theorem State.fstStore_good {rd : Option Reader} {off : Nat} {bs : List Byte} (hs : s.Good pq) : Good pq (fstStore s rd off bs).2 := by
  unfold fstStore
  dsimp only
  refine fstPut_good ?_
  refine foldl_pair_good ?_ ?_
  · intro y00 y01 y02
    split
    · exact y02
    · split
      · dsimp only
        exact setErrs_good y02
      · split
        · dsimp only
          exact setFlag_good (good_of_pair ‹_› (readWord_good y02))
        · dsimp only
          exact setErrs_good (flipData_good (good_of_pair ‹_› (readWord_good y02)))
  · dsimp only
    exact hs

theorem State.fstWrite_good {off : Nat} {bs : List Byte} (hs : s.Good pq) : Good pq (fstWrite s off bs) := by
  unfold fstWrite
  exact ask_good (fstStore_good hs)

theorem State.setRawPixel_good {line : Nat} {x : Nat} {p : Px} (hs : s.Good pq) : Good pq (setRawPixel s line x p) := by
  unfold setRawPixel
  dsimp only
  exact fstWrite_good hs

theorem State.setStore_good {i : Nat} {st : Store} (hs : s.Good pq) : Good pq (setStore s i st) := by
  unfold setStore
  refine good_mk ?_
  dsimp only
  exact good_of hs

theorem State.setStream_good {i : Nat} {st : Stream} (hs : s.Good pq) : Good pq (setStream s i st) := by
  unfold setStream
  refine good_mk ?_
  dsimp only
  exact good_of hs

theorem State.setDamage_good {st : Nat} {r : Rect} (hs : s.Good pq) : Good pq (setDamage s st r) := by
  unfold setDamage
  exact setReg_good (setReg_good hs)

theorem State.addDamage_good {st : Nat} {r : Rect} (hs : s.Good pq) : Good pq (addDamage s st r) := by
  unfold addDamage
  exact setDamage_good hs

theorem State.copyPiece_good {v : State} {bad : List Nat} {g : Geo} {ks : Nat} {kd : Nat} {ly : Nat} {x6 : Nat} {x7 : Nat} {x8 : State} (hv : v.Good pq) (hx8 : x8.Good pq) : Good pq (copyPiece v bad g ks kd ly x6 x7 x8) := by
  induction x6 generalizing v bad g ks kd ly x7 x8 with
  | zero =>
    unfold copyPiece
    exact hx8
  | succ n ih =>
    unfold copyPiece
    split
    refine ih hv ?_
    refine setRawPixel_good ?_
    refine good_of_pair (by assumption) ?_
    split
    · split
      dsimp only
      exact good_of_pair ‹_› (draw_good hx8)
    · dsimp only
      exact hx8

theorem State.freshTile_good {g : Geo} {k : Nat} {r : Rect} (hs : s.Good pq) : Good pq (freshTile s g k r) := by
  unfold freshTile
  refine foldl_good ?_ hs
  intro y00 y01 y02
  dsimp only
  exact encodeAfresh_good y02

theorem State.copyTile_good {g : Geo} {ks : Nat} {kd : Nat} {r : Rect} (hs : s.Good pq) : Good pq (copyTile s g ks kd r) := by
  unfold copyTile
  dsimp only
  refine countUp_good ?_
  refine foldl_good (fun y00 y01 y02 => copyPiece_good (seen_good (readWords_st_good hs)) y02) ?_
  refine freshTile_good ?_
  refine ask_good ?_
  split
  · split
    · exact readWords_st_good hs
    · exact addDamage_good (readWords_st_good hs)
  · exact readWords_st_good hs

theorem State.takeTile_good {g : Geo} {old : TileAt} {k : Nat} {t : Nat} {direct : Bool} (hs : s.Good pq) : Good pq (takeTile s g old k t direct).2 := by
  unfold takeTile
  dsimp only
  split
  · dsimp only
    exact freshTile_good hs
  · dsimp only
    exact copyTile_good hs

theorem State.openTile_good {i : Nat} {t : Nat} {toNext : Bool} {seg : Rect} (hs : s.Good pq) : Good pq (openTile s i t toNext seg) := by
  unfold openTile
  dsimp only
  split
  · split
    · exact setStore_good hs
    · exact setStore_good (takeTile_good hs)
  · split
    · exact setStore_good hs
    · exact setStore_good (takeTile_good hs)

theorem State.storePixel_good {i : Nat} {stream : Nat} {toNext : Bool} {seg : Rect} {x : Nat} {y : Nat} {p : Px} (hs : s.Good pq) : Good pq (storePixel s i stream toNext seg x y p) := by
  unfold storePixel
  dsimp only
  split
  · exact setRawPixel_good (openTile_good hs)
  · exact hs

theorem State.putPixel_good {stream : Nat} {toNext : Bool} {seg : Rect} {x : Nat} {y : Nat} {p : Px} (hs : s.Good pq) : Good pq (putPixel s stream toNext seg x y p) := by
  unfold putPixel
  split
  · exact countUp_good (foldl_good (fun y00 y01 y02 => storePixel_good y02) hs)
  · exact hs

theorem State.poison_good {i : Nat} {t : Nat} (hs : s.Good pq) : Good pq (poison s i t) := by
  unfold poison
  dsimp only
  exact countUp_good (setStore_good hs)

theorem State.setEngine_good {e : Nat} {l : List Seg} (hs : s.Good pq) : Good pq (setEngine s e l) := by
  unfold setEngine
  refine good_mk ?_
  dsimp only
  exact good_of hs

theorem State.ringWrite_good {base : Nat} {n : Nat} {at' : Nat} {bs : List Byte} (hs : s.Good pq) : Good pq (ringWrite s base n at' bs) := by
  unfold ringWrite
  dsimp only
  split
  · split
    · exact hs
    · exact fstWrite_good hs
  · refine fstWrite_good ?_
    split
    · exact hs
    · exact fstWrite_good hs

theorem State.spillBytes_good {e : Nat} {q : Nat} {bs : List Byte} (hs : s.Good pq) : Good pq (spillBytes s e q bs) := by
  unfold spillBytes
  dsimp only
  refine good_mk ?_
  dsimp only
  refine good_of ?_
  split
  · split
    · exact hs
    · exact ringWrite_good hs
  · split
    · exact hs
    · exact ringWrite_good hs

theorem State.mapStores_good {st : Nat} {f : Store → Store} (hs : s.Good pq) : Good pq (mapStores s st f) := by
  unfold mapStores
  exact foldl_good (fun y00 y01 y02 => setStore_good y02) hs

theorem State.nextToBuild_good {st : Nat} (hs : s.Good pq) : Good pq (nextToBuild s st) := by
  unfold nextToBuild
  refine good_mk ?_
  dsimp only
  exact good_of hs

theorem State.lateSegment_good (hs : s.Good pq) : Good pq (lateSegment s) := by
  unfold lateSegment
  exact setFlag_good (countUp_good hs)

theorem State.tryComplete_good {st : Nat} (hs : s.Good pq) : Good pq (tryComplete s st) := by
  unfold tryComplete
  dsimp only
  split
  · exact hs
  · split
    · exact hs
    · split
      · exact setStream_good (nextToBuild_good (mapStores_good hs))
      · exact setStream_good (nextToBuild_good (lateSegment_good (mapStores_good hs)))

theorem State.completeBuilds_good {st : Nat} (hs : s.Good pq) : Good pq (completeBuilds s st) := by
  unfold completeBuilds
  exact tryComplete_good (tryComplete_good hs)

theorem State.countEnd_good {code : Nat} (hs : s.Good pq) : Good pq (countEnd s code) := by
  unfold countEnd
  split
  · exact countUp_good hs
  · exact countUp_good hs
  · exact countUp_good hs
  · exact countUp_good hs
  · exact countUp_good hs
  · exact countUp_good hs
  · exact countUp_good hs
  · exact countUp_good hs

theorem State.noteEnd_good {st : Nat} {id : Nat} {code : Nat} {px : Nat} {py : Nat} {bit : Nat} (hs : s.Good pq) : Good pq (noteEnd s st id code px py bit) := by
  unfold noteEnd
  dsimp only
  exact setReg_good (setReg_good (setReg_good (setFlag_good (countEnd_good hs))))

theorem State.endCode_good {h : SegHead} {code : Nat} {px : Nat} {py : Nat} {bit : Nat} (hs : s.Good pq) : Good pq (endCode s h code px py bit) := by
  unfold endCode
  dsimp only
  split
  · split
    · exact setDamage_good (countEnd_good hs)
    · exact countEnd_good hs
  · exact event_good (noteEnd_good (addDamage_good hs))

theorem State.engineIdle_good {e : Nat} (hs : s.Good pq) : Good pq (engineIdle s e) := by
  unfold engineIdle
  dsimp only
  exact setFlag_good (setFlag_good (setFlag_good (setReg_good hs)))

theorem State.endSegment_good {e : Nat} {g : Seg} {code : Nat} {px : Nat} {py : Nat} {bit : Nat} (hs : s.Good pq) : Good pq (endSegment s e g code px py bit) := by
  unfold endSegment
  dsimp only
  refine completeBuilds_good ?_
  refine endCode_good ?_
  split
  · split
    · exact engineIdle_good (setEngine_good hs)
    · exact setEngine_good hs
  · refine setStream_good ?_
    split
    · exact engineIdle_good (setEngine_good hs)
    · exact setEngine_good hs

theorem State.finishSegment_good {e : Nat} {g : Seg} (hs : s.Good pq) : Good pq (finishSegment s e g) := by
  unfold finishSegment
  split
  · exact hs
  · split
    split
    · exact endSegment_good hs
    · split
      · exact endSegment_good hs
      · exact hs

theorem State.toWeir_good {y : Nat} {p : Px} (hs : s.Good pq) : Good pq (toWeir s y p) := by
  unfold toWeir
  dsimp only
  refine good_mk ?_
  dsimp only
  exact good_of hs

theorem State.writePixel_good {h : SegHead} {k : Nat} {p : Px} (hs : s.Good pq) : Good pq (writePixel s h k p) := by
  unfold writePixel
  dsimp only
  split
  · exact toWeir_good (putPixel_good hs)
  · exact putPixel_good hs

theorem State.engineShow_good {e : Nat} {g : Seg} {out' : Bool} {in' : Bool} (hs : s.Good pq) : Good pq (engineShow s e g out' in') := by
  unfold engineShow
  exact setFld_good (setFlag_good (setFlag_good hs))

theorem State.setFront_good {e : Nat} {g : Seg} (hs : s.Good pq) : Good pq (setFront s e g) := by
  unfold setFront
  exact setEngine_good hs

theorem State.engineMake_good {e : Nat} {x1 : Nat} {x2 : State} (hx2 : x2.Good pq) : Good pq (engineMake e x1 x2) := by
  induction x1 generalizing e x2 with
  | zero =>
    unfold engineMake
    exact hx2
  | succ n ih =>
    unfold engineMake
    split
    · exact hx2
    · split
      · exact engineShow_good hx2
      · dsimp only
        split
        · exact ih (setFront_good (writePixel_good hx2))
        · exact finishSegment_good (engineShow_good (setFront_good (writePixel_good hx2)))

theorem State.engineGo_good {e : Nat} (hs : s.Good pq) : Good pq (engineGo s e) := by
  unfold engineGo
  split
  · exact hs
  · split
    · exact endSegment_good hs
    · exact engineShow_good (setFront_good hs)
    · exact engineMake_good (setFront_good hs)
    · split
      · exact endSegment_good hs
      · exact engineShow_good (setFront_good hs)

theorem State.engineToken_good {e : Nat} {t : Token} (hs : s.Good pq) : Good pq (engineToken s e t) := by
  unfold engineToken
  split
  · exact hs
  · split
    · exact hs
    · split
      · exact engineGo_good hs
      · exact hs

theorem State.engineRaw_good {e : Nat} {x1 : Nat} {x2 : State} (hx2 : x2.Good pq) : Good pq (engineRaw e x1 x2) := by
  induction x1 generalizing e x2 with
  | zero =>
    unfold engineRaw
    exact hx2
  | succ n ih =>
    unfold engineRaw
    split
    · exact hx2
    · dsimp only
      split
      · exact engineGo_good hx2
      · split
        · exact ih (engineGo_good hx2)
        · exact engineGo_good hx2

theorem State.engineOn_good {e : Nat} (hs : s.Good pq) : Good pq (engineOn s e) := by
  unfold engineOn
  split
  · exact hs
  · split
    · exact hs
    · split
      · exact engineRaw_good hs
      · split
        · exact hs
        · exact engineGo_good hs

theorem State.engineStart_good {e : Nat} (hs : s.Good pq) : Good pq (engineStart s e) := by
  unfold engineStart
  split
  · exact hs
  · split
    · exact hs
    · split
      · exact setFlag_good hs
      · dsimp only
        split
        · split
          · exact endSegment_good (setFlag_good (setReg_good (setFront_good hs)))
          · exact engineRaw_good (setFlag_good (setReg_good (setFront_good hs)))
        · exact engineShow_good (setFlag_good (setReg_good (setFront_good hs)))

theorem State.engineResume_good {e : Nat} {long : Bool} (hs : s.Good pq) : Good pq (engineResume s e long) := by
  unfold engineResume
  split
  · dsimp only
    refine engineOn_good ?_
    split
    · exact countUp_good (setFlag_good (setFlag_good hs))
    · exact setFlag_good (setFlag_good hs)
  · exact hs

theorem State.endHead_good {h : SegHead} {code : Nat} {last : Bool} (hs : s.Good pq) : Good pq (endHead s h code last) := by
  unfold endHead
  dsimp only
  exact completeBuilds_good (endCode_good (setStream_good hs))

theorem State.firstPacket_good {st : Nat} {last : Bool} {bs : List Byte} (hs : s.Good pq) : OptGood pq (firstPacket s st last bs) := by
  unfold firstPacket
  dsimp only
  split
  · refine optGood_some ?_
    refine endHead_good ?_
    refine good_mk ?_
    dsimp only
    exact good_of hs
  · split
    · refine optGood_some ?_
      refine endHead_good ?_
      refine good_mk ?_
      dsimp only
      exact good_of hs
    · split
      · refine optGood_some ?_
        refine endHead_good ?_
        refine good_mk ?_
        dsimp only
        exact good_of hs
      · split
        · refine optGood_some ?_
          refine endHead_good ?_
          refine good_mk ?_
          dsimp only
          exact good_of hs
        · split
          · refine optGood_some ?_
            refine endHead_good ?_
            refine good_mk ?_
            dsimp only
            exact good_of hs
          · split
            · refine optGood_some ?_
              refine setStream_good ?_
              refine good_mk ?_
              dsimp only
              exact good_of hs
            · split
              · exact optGood_none
              · refine optGood_some ?_
                refine setStream_good ?_
                refine setEngine_good ?_
                refine spillBytes_good ?_
                refine good_mk ?_
                dsimp only
                exact good_of hs

theorem State.segPacket_good {st : Nat} {first : Bool} {last : Bool} {bs : List Byte} (hs : s.Good pq) : OptGood pq (segPacket s st first last bs) := by
  unfold segPacket
  dsimp only
  split
  · refine firstPacket_good ?_
    split
    · split
      · exact endSegment_good hs
      · exact hs
    · exact hs
  · split
    · exact optGood_some (setFlag_good (countUp_good hs))
    · refine optGood_some ?_
      split
      · exact setStream_good hs
      · exact hs
    · split
      · exact optGood_none
      · split
        · refine optGood_some ?_
          split
          · refine finishSegment_good ?_
            split
            · exact setStream_good (setEngine_good (spillBytes_good hs))
            · exact setEngine_good (spillBytes_good hs)
          · split
            · exact setStream_good (setEngine_good (spillBytes_good hs))
            · exact setEngine_good (spillBytes_good hs)
        · refine optGood_some ?_
          split
          · exact setStream_good (setEngine_good (spillBytes_good hs))
          · exact setEngine_good (spillBytes_good hs)

theorem State.abandonLink_good (hs : s.Good pq) : Good pq (abandonLink s) := by
  unfold abandonLink
  refine foldl_good ?_ hs
  intro y00 y01 y02
  dsimp only
  refine setStream_good ?_
  split
  · split
    · exact endSegment_good y02
    · exact y02
  · exact y02

theorem State.abandonCfg_good {st : Nat} (hs : s.Good pq) : Good pq (abandonCfg s st) := by
  unfold abandonCfg
  dsimp only
  exact setDamage_good (mapStores_good (foldl_good (fun y00 y01 y02 => foldl_good (fun y10 y11 y12 => endSegment_good y12) y02) (setStream_good hs)))

theorem State.setPort_good {p : Nat} {x : PortSt} (hs : s.Good pq) : Good pq (setPort s p x) := by
  unfold setPort
  split
  · refine good_mk ?_
    dsimp only
    exact good_of hs
  · refine good_mk ?_
    dsimp only
    exact good_of hs

theorem State.rxTake_good {p : Nat} {c : PClass} {n : Nat} {uses : Nat} (hs : s.Good pq) : Good pq (rxTake s p c n uses).2 := by
  unfold rxTake
  dsimp only
  exact setPort_good hs

theorem State.rxRelease_good {p : Nat} {id : Nat} (hs : s.Good pq) : Good pq (rxRelease s p id) := by
  unfold rxRelease
  dsimp only
  split
  · exact hs
  · split
    · exact setPort_good hs
    · exact setPort_good hs

theorem State.enqueue_good {p : Nat} {o : OutPkt} (hs : s.Good pq) : Good pq (enqueue s p o) := by
  unfold enqueue
  dsimp only
  exact setPort_good hs

theorem State.sendUp_good {typ : Nat} {spec : Nat} {payload : List Byte} (hs : s.Good pq) : Good pq (sendUp s typ spec payload) := by
  unfold sendUp
  split
  · exact enqueue_good hs
  · exact countUp_good hs

theorem State.putWire_good {p : Nat} {w : Wire} (hs : s.Good pq) : Good pq (putWire s p w) := by
  unfold putWire
  dsimp only
  exact setPort_good hs

theorem State.freshPackets_good {p : Nat} (hs : s.Good pq) : Good pq (freshPackets s p) := by
  unfold freshPackets
  dsimp only
  exact setFld_good (setFld_good (setPort_good hs))

theorem State.discardPackets_good {p : Nat} (hs : s.Good pq) : Good pq (discardPackets s p) := by
  unfold discardPackets
  dsimp only
  exact countUp_good (foldl_good (fun y00 y01 y02 => rxRelease_good y02) (setPort_good (setPort_good hs)))

theorem State.setMb_good {n : Nat} {b : Mailbox} (hs : s.Good pq) : Good pq (setMb s n b) := by
  unfold setMb
  refine good_mk ?_
  dsimp only
  exact good_of hs

theorem State.setCmds_good {l : List RunCmd} (hs : s.Good pq) : Good pq (setCmds s l) := by
  unfold setCmds
  refine good_mk ?_
  dsimp only
  exact good_of hs

theorem State.countRefused_good {n : Nat} {tail : Nat} {x3 : Nat} {x4 : Nat} (hs : s.Good pq) : Good pq (countRefused s n tail x3 x4) := by
  induction x4 generalizing s n tail x3 with
  | zero =>
    unfold countRefused
    exact hs
  | succ n ih =>
    unfold countRefused
    dsimp only
    refine ih ?_
    split
    · exact hs
    · exact countUp_good (setMb_good hs)

theorem State.ringDisabled_good {n : Nat} (hs : s.Good pq) : Good pq (ringDisabled s n) := by
  unfold ringDisabled
  exact setFlag_good (setFlag_good (setFlag_good hs))

theorem State.ring_good {n : Nat} {t : Nat} (hs : s.Good pq) : Good pq (ring s n t) := by
  unfold ring
  dsimp only
  split
  · exact hs
  · split
    · exact ringDisabled_good hs
    · split
      · exact countRefused_good (setFlag_good (setFlag_good (setFlag_good (setFld_good (setMb_good hs)))))
      · exact setFlag_good (setFlag_good (setFld_good (setMb_good hs)))

theorem State.hostRing_good (hs : s.Good pq) : Good pq (hostRing s) := by
  unfold hostRing
  split
  · exact hs
  · dsimp only
    split
    · split
      · exact ring_good hs
      · refine rxRelease_good ?_
        refine good_mk ?_
        dsimp only
        exact good_of (ring_good hs)
    · split
      · exact ring_good (setBytes_good hs)
      · refine rxRelease_good ?_
        refine good_mk ?_
        dsimp only
        exact good_of (ring_good (setBytes_good hs))

theorem State.hostRingAll_good {x0 : Nat} {x1 : State} (hx1 : x1.Good pq) : Good pq (hostRingAll x0 x1) := by
  induction x0 generalizing x1 with
  | zero =>
    unfold hostRingAll
    exact hx1
  | succ n ih =>
    unfold hostRingAll
    dsimp only
    split
    · exact ih (hostRing_good hx1)
    · exact hostRing_good hx1

theorem State.hostCommand_good {bs : List Byte} {id : Nat} (hs : s.Good pq) : Good pq (hostCommand s bs id) := by
  unfold hostCommand
  split
  · exact rxRelease_good (ringDisabled_good hs)
  · dsimp only
    split
    · refine hostRing_good ?_
      refine good_mk ?_
      dsimp only
      exact good_of hs
    · refine good_mk ?_
      dsimp only
      exact good_of hs

theorem State.partnerRing_good (hs : s.Good pq) : Good pq (partnerRing s) := by
  unfold partnerRing
  dsimp only
  split
  · exact hs
  · exact setMb_good (ring_good hs)

theorem State.ownRsp_good {status : Nat} {opcode : Nat} {cookie : Nat} (hs : s.Good pq) : Good pq (ownRsp s status opcode cookie) := by
  unfold ownRsp
  refine good_mk ?_
  dsimp only
  exact good_of hs

theorem State.partnerCommand_good {bs : List Byte} (hs : s.Good pq) : Good pq (partnerCommand s bs) := by
  unfold partnerCommand
  dsimp only
  split
  · exact ownRsp_good (ringDisabled_good hs)
  · split
    · exact ownRsp_good (setFlag_good (countUp_good hs))
    · exact partnerRing_good (setMb_good (setBytes_good hs))

theorem State.consume_good {n : Nat} {k : Nat} (hs : s.Good pq) : Good pq (consume s n k) := by
  unfold consume
  dsimp only
  split
  · exact wrapUp_good (setMb_good hs)
  · split
    · exact hostRingAll_good (wrapUp_good (setMb_good hs))
    · split
      · exact partnerRing_good (wrapUp_good (setMb_good hs))
      · exact wrapUp_good (setMb_good hs)

theorem State.postCpl_good {n : Nat} {tag : Nat} {status : Nat} {opcode : Nat} {cookie : Nat} {step : Nat} {result : List Byte} (hs : s.Good pq) : Good pq (postCpl s n tag status opcode cookie step result) := by
  unfold postCpl
  dsimp only
  split
  · refine consume_good ?_
    split
    · split
      · split
        · split
          · exact sendUp_good (countUp_good (setFlag_good (countUp_good (setMb_good (setFld_good (setFld_good (setByte_good (setBytes_good hs))))))))
          · exact countUp_good (countUp_good (setFlag_good (countUp_good (setMb_good (setFld_good (setFld_good (setByte_good (setBytes_good hs))))))))
        · split
          · exact sendUp_good (countUp_good (setFlag_good (countUp_good (setMb_good (setFld_good (setByte_good (setBytes_good hs)))))))
          · exact countUp_good (countUp_good (setFlag_good (countUp_good (setMb_good (setFld_good (setByte_good (setBytes_good hs)))))))
      · split
        · split
          · exact sendUp_good (countUp_good (setMb_good (setFld_good (setFld_good (setByte_good (setBytes_good hs))))))
          · exact countUp_good (countUp_good (setMb_good (setFld_good (setFld_good (setByte_good (setBytes_good hs))))))
        · split
          · exact sendUp_good (countUp_good (setMb_good (setFld_good (setByte_good (setBytes_good hs)))))
          · exact countUp_good (countUp_good (setMb_good (setFld_good (setByte_good (setBytes_good hs)))))
    · split
      · split
        · split
          · exact sendUp_good (setFlag_good (countUp_good (setMb_good (setFld_good (setFld_good (setByte_good (setBytes_good hs)))))))
          · exact countUp_good (setFlag_good (countUp_good (setMb_good (setFld_good (setFld_good (setByte_good (setBytes_good hs)))))))
        · split
          · exact sendUp_good (setFlag_good (countUp_good (setMb_good (setFld_good (setByte_good (setBytes_good hs))))))
          · exact countUp_good (setFlag_good (countUp_good (setMb_good (setFld_good (setByte_good (setBytes_good hs))))))
      · split
        · split
          · exact sendUp_good (setMb_good (setFld_good (setFld_good (setByte_good (setBytes_good hs)))))
          · exact countUp_good (setMb_good (setFld_good (setFld_good (setByte_good (setBytes_good hs)))))
        · split
          · exact sendUp_good (setMb_good (setFld_good (setByte_good (setBytes_good hs))))
          · exact countUp_good (setMb_good (setFld_good (setByte_good (setBytes_good hs))))
  · split
    · refine good_mk ?_
      dsimp only
      refine good_of ?_
      split
      · refine countUp_good ?_
        split
        · refine setFlag_good ?_
          refine countUp_good ?_
          refine setMb_good ?_
          split
          · exact setFld_good (setFld_good (setByte_good (setBytes_good hs)))
          · exact setFld_good (setByte_good (setBytes_good hs))
        · refine setMb_good ?_
          split
          · exact setFld_good (setFld_good (setByte_good (setBytes_good hs)))
          · exact setFld_good (setByte_good (setBytes_good hs))
      · split
        · refine setFlag_good ?_
          refine countUp_good ?_
          refine setMb_good ?_
          split
          · exact setFld_good (setFld_good (setByte_good (setBytes_good hs)))
          · exact setFld_good (setByte_good (setBytes_good hs))
        · refine setMb_good ?_
          split
          · exact setFld_good (setFld_good (setByte_good (setBytes_good hs)))
          · exact setFld_good (setByte_good (setBytes_good hs))
    · split
      · refine countUp_good ?_
        split
        · refine setFlag_good ?_
          refine countUp_good ?_
          refine setMb_good ?_
          split
          · exact setFld_good (setFld_good (setByte_good (setBytes_good hs)))
          · exact setFld_good (setByte_good (setBytes_good hs))
        · refine setMb_good ?_
          split
          · exact setFld_good (setFld_good (setByte_good (setBytes_good hs)))
          · exact setFld_good (setByte_good (setBytes_good hs))
      · split
        · refine setFlag_good ?_
          refine countUp_good ?_
          refine setMb_good ?_
          split
          · exact setFld_good (setFld_good (setByte_good (setBytes_good hs)))
          · exact setFld_good (setByte_good (setBytes_good hs))
        · refine setMb_good ?_
          split
          · exact setFld_good (setFld_good (setByte_good (setBytes_good hs)))
          · exact setFld_good (setByte_good (setBytes_good hs))

theorem State.setCmd_good {c : RunCmd} (hs : s.Good pq) : Good pq (setCmd s c) := by
  unfold setCmd
  exact setCmds_good hs

theorem State.postCmd_good {c : RunCmd} (hs : s.Good pq) : Good pq (postCmd s c) := by
  unfold postCmd
  dsimp only
  exact postCpl_good (setCmds_good hs)

theorem State.settleList_good {x0 : List RunCmd} {x1 : State} (hx1 : x1.Good pq) : Good pq (settleList x0 x1) := by
  induction x0 generalizing x1 with
  | nil =>
    unfold settleList
    exact hx1
  | cons b t ih =>
    unfold settleList
    split
    · split
      · exact ih (postCmd_good hx1)
      · exact ih (setCmd_good hx1)
    · exact ih hx1

theorem State.settle_good (hs : s.Good pq) : Good pq (settle s) := by
  unfold settle
  exact settleList_good hs

theorem State.cmdEntry_good {kind : Nat} {c : RunCmd} {status : Nat} (hs : s.Good pq) : Good pq (cmdEntry s kind c status) := by
  unfold cmdEntry
  split
  · exact hs
  · exact postLedger_good hs

theorem State.endCmd_good {tag : Nat} {status : Nat} {result : List Byte} (hs : s.Good pq) : Good pq (endCmd s tag status result) := by
  unfold endCmd
  split
  · exact hs
  · dsimp only
    exact settle_good (cmdEntry_good (setCmd_good hs))

theorem State.finishCmd_good {tag : Nat} {status : Nat} {result : List Byte} (hs : s.Good pq) : Good pq (finishCmd s tag status result) := by
  unfold finishCmd
  split
  · exact hs
  · dsimp only
    split
    · exact endCmd_good (setCmd_good hs)
    · exact endCmd_good (setCmd_good hs)

theorem State.stepDone_good {tag : Nat} {note : List Nat} (hs : s.Good pq) : Good pq (stepDone s tag note) := by
  unfold stepDone
  split
  · exact hs
  · exact setCmd_good hs

theorem State.waitIn_good {tag : Nat} {ph : CmdPhase} {note : List Nat} (hs : s.Good pq) : Good pq (waitIn s tag ph note) := by
  unfold waitIn
  split
  · exact hs
  · exact setCmd_good hs

theorem State.abortUntaken_good {n : Nat} {x2 : Nat} (hs : s.Good pq) : Good pq (abortUntaken s n x2) := by
  induction x2 generalizing s n with
  | zero =>
    unfold abortUntaken
    exact hs
  | succ n ih =>
    unfold abortUntaken
    dsimp only
    split
    · exact hs
    · exact ih (postCpl_good (setFld_good (setMb_good hs)))

theorem State.disableActs_good {n : Nat} (hs : s.Good pq) : Good pq (disableActs s n) := by
  unfold disableActs
  exact abortUntaken_good hs

theorem State.disableMb_good {n : Nat} (hs : s.Good pq) : Good pq (disableMb s n) := by
  unfold disableMb
  split
  · exact hs
  · exact disableActs_good (setMb_good hs)

theorem State.enableMb_good {n : Nat} (hs : s.Good pq) : Good pq (enableMb s n) := by
  unfold enableMb
  exact setMb_good hs

theorem State.lockMb3_good (hs : s.Good pq) : Good pq (lockMb3 s) := by
  unfold lockMb3
  split
  · exact hs
  · dsimp only
    refine disableActs_good ?_
    refine good_mk ?_
    dsimp only
    exact good_of hs

theorem State.dropHost_good (hs : s.Good pq) : Good pq (dropHost s) := by
  unfold dropHost
  dsimp only
  refine disableMb_good ?_
  refine countUp_good ?_
  refine good_mk ?_
  dsimp only
  exact good_of hs

theorem State.disableAll_good (hs : s.Good pq) : Good pq (disableAll s) := by
  unfold disableAll
  exact disableMb_good (disableMb_good (disableMb_good (disableMb_good hs)))

end Sys2Proof.Machine
end

