-- ==== Sys2Proof/Laws/GoodLink.lean ====
section
/-! SUPPORT. Good states kept by channels, calibration, the ports and packets. -/

namespace Sys2Proof.Machine

open State

variable {pq : List Instr} {s : State}

theorem State.setChan_good {n : Nat} {c : Channel} (hs : s.Good pq) : Good pq (setChan s n c) := by
  unfold setChan
  refine good_mk ?_
  dsimp only
  exact good_of hs

theorem State.setBit_good {a : Nat} {n : Nat} (hs : s.Good pq) : Good pq (setBit s a n) := by
  unfold setBit
  exact setReg_good hs

theorem State.freeEngine_good {n : Nat} (hs : s.Good pq) : Good pq (freeEngine s n) := by
  unfold freeEngine
  split
  · refine good_mk ?_
    dsimp only
    exact good_of hs
  · exact hs

theorem State.showPos_good {n : Nat} (hs : s.Good pq) : Good pq (showPos s n) := by
  unfold showPos
  dsimp only
  split
  · exact hs
  · exact setReg_good (setReg_good (setReg_good (setReg_good hs)))

theorem State.writeBack_good {n : Nat} {addr : Nat} {status : Nat} (hs : s.Good pq) : Good pq (writeBack s n addr status) := by
  unfold writeBack
  dsimp only
  exact setByte_good (setMle_good (setMle_good (setMle_good (setMle_good hs))))

theorem State.endJob_good {n : Nat} (hs : s.Good pq) : Good pq (endJob s n) := by
  unfold endJob
  dsimp only
  exact freeEngine_good (setChan_good hs)

theorem State.endHeavy_good {n : Nat} (hs : s.Good pq) : Good pq (endHeavy s n) := by
  unfold endHeavy
  dsimp only
  refine endJob_good ?_
  split
  · exact writeBack_good hs
  · exact hs

theorem State.disableChan_good {n : Nat} (hs : s.Good pq) : Good pq (disableChan s n) := by
  unfold disableChan
  dsimp only
  split
  · exact hs
  · split
    · split
      · exact endHeavy_good hs
      · exact setChan_good hs
    · exact foldl_good (fun y00 y01 y02 => setReg_good y02) (draw_good (draw_good (draw_good (draw_good (draw_good (draw_good (endJob_good hs)))))))

theorem State.pauseChan_good {n : Nat} (hs : s.Good pq) : Good pq (pauseChan s n) := by
  unfold pauseChan
  dsimp only
  split
  · exact freeEngine_good (setChan_good hs)
  · exact hs

theorem State.resumeChan_good {n : Nat} (hs : s.Good pq) : Good pq (resumeChan s n) := by
  unfold resumeChan
  dsimp only
  split
  · exact setChan_good hs
  · exact hs

theorem State.goChan_good {n : Nat} {pause : Bool} (hs : s.Good pq) : Good pq (goChan s n pause) := by
  unfold goChan
  split
  · exact hs
  · split
    · exact setFlag_good hs
    · exact setFlag_good (setChan_good hs)

theorem State.chanCtrl_good {n : Nat} {v : Word} (hs : s.Good pq) : Good pq (chanCtrl s n v) := by
  unfold chanCtrl
  dsimp only
  split
  · refine disableChan_good ?_
    split
    · split
      · split
        · exact setChan_good (setReg_good (setFlag_good hs))
        · exact setReg_good (setFlag_good hs)
      · split
        · exact setChan_good (setReg_good (setFlag_good hs))
        · exact setReg_good (setFlag_good hs)
    · split
      · split
        · exact setChan_good (setReg_good hs)
        · exact setReg_good hs
      · split
        · exact setChan_good (setReg_good hs)
        · exact setReg_good hs
  · split
    · refine goChan_good ?_
      split
      · refine pauseChan_good ?_
        split
        · split
          · split
            · exact setChan_good (setReg_good (setFlag_good hs))
            · exact setReg_good (setFlag_good hs)
          · split
            · exact setChan_good (setReg_good (setFlag_good hs))
            · exact setReg_good (setFlag_good hs)
        · split
          · split
            · exact setChan_good (setReg_good hs)
            · exact setReg_good hs
          · split
            · exact setChan_good (setReg_good hs)
            · exact setReg_good hs
      · split
        · refine resumeChan_good ?_
          split
          · split
            · split
              · exact setChan_good (setReg_good (setFlag_good hs))
              · exact setReg_good (setFlag_good hs)
            · split
              · exact setChan_good (setReg_good (setFlag_good hs))
              · exact setReg_good (setFlag_good hs)
          · split
            · split
              · exact setChan_good (setReg_good hs)
              · exact setReg_good hs
            · split
              · exact setChan_good (setReg_good hs)
              · exact setReg_good hs
        · split
          · split
            · split
              · exact setChan_good (setReg_good (setFlag_good hs))
              · exact setReg_good (setFlag_good hs)
            · split
              · exact setChan_good (setReg_good (setFlag_good hs))
              · exact setReg_good (setFlag_good hs)
          · split
            · split
              · exact setChan_good (setReg_good hs)
              · exact setReg_good hs
            · split
              · exact setChan_good (setReg_good hs)
              · exact setReg_good hs
    · split
      · refine pauseChan_good ?_
        split
        · split
          · split
            · exact setChan_good (setReg_good (setFlag_good hs))
            · exact setReg_good (setFlag_good hs)
          · split
            · exact setChan_good (setReg_good (setFlag_good hs))
            · exact setReg_good (setFlag_good hs)
        · split
          · split
            · exact setChan_good (setReg_good hs)
            · exact setReg_good hs
          · split
            · exact setChan_good (setReg_good hs)
            · exact setReg_good hs
      · split
        · refine resumeChan_good ?_
          split
          · split
            · split
              · exact setChan_good (setReg_good (setFlag_good hs))
              · exact setReg_good (setFlag_good hs)
            · split
              · exact setChan_good (setReg_good (setFlag_good hs))
              · exact setReg_good (setFlag_good hs)
          · split
            · split
              · exact setChan_good (setReg_good hs)
              · exact setReg_good hs
            · split
              · exact setChan_good (setReg_good hs)
              · exact setReg_good hs
        · split
          · split
            · split
              · exact setChan_good (setReg_good (setFlag_good hs))
              · exact setReg_good (setFlag_good hs)
            · split
              · exact setChan_good (setReg_good (setFlag_good hs))
              · exact setReg_good (setFlag_good hs)
          · split
            · split
              · exact setChan_good (setReg_good hs)
              · exact setReg_good hs
            · split
              · exact setChan_good (setReg_good hs)
              · exact setReg_good hs

theorem State.chanDesc_good {n : Nat} {v : Word} (hs : s.Good pq) : Good pq (chanDesc s n v) := by
  unfold chanDesc
  split
  · exact setReg_good hs
  · exact setFlag_good hs

theorem State.chanCount_good {n : Nat} {v : Word} (hs : s.Good pq) : Good pq (chanCount s n v) := by
  unfold chanCount
  split
  · exact setReg_good hs
  · exact setFlag_good hs

theorem State.chanAdd_good {n : Nat} {v : Word} (hs : s.Good pq) : Good pq (chanAdd s n v) := by
  unfold chanAdd
  dsimp only
  split
  · exact hs
  · split
    · exact setFlag_good hs
    · exact setFld_good hs

theorem State.queueMove_good {q : Nat} {add : Nat} {sub : Nat} (hs : s.Good pq) : Good pq (queueMove s q add sub) := by
  unfold queueMove
  dsimp only
  split
  · exact setFlag_good (setFld_good hs)
  · split
    · exact setFlag_good (setFld_good hs)
    · exact setFld_good hs

theorem State.dmaSleep_good (hs : s.Good pq) : Good pq (dmaSleep s) := by
  unfold dmaSleep
  refine foldl_good ?_ hs
  intro y00 y01 y02
  split
  · exact chanCtrl_good y02
  · exact y02

theorem State.latch_good {row : Nat} {cmd : Option Nat} (hs : s.Good pq) : Good pq (latch s row cmd) := by
  unfold latch
  split
  · refine good_mk ?_
    dsimp only
    exact good_of hs
  · refine good_mk ?_
    dsimp only
    exact good_of hs

theorem State.noteReady_good {st : Nat} (hs : s.Good pq) : Good pq (noteReady s st) := by
  unfold noteReady
  dsimp only
  split
  · split
    · refine latch_good ?_
      refine latch_good ?_
      refine good_mk ?_
      dsimp only
      exact good_of hs
    · refine latch_good ?_
      refine good_mk ?_
      dsimp only
      exact good_of hs
  · split
    · refine latch_good ?_
      refine good_mk ?_
      dsimp only
      exact good_of hs
    · refine good_mk ?_
      dsimp only
      exact good_of hs

theorem State.noteNoHost_good (hs : s.Good pq) : Good pq (noteNoHost s) := by
  unfold noteNoHost
  split
  · exact hs
  · refine good_mk ?_
    dsimp only
    exact good_of hs

theorem State.noteHost_good (hs : s.Good pq) : Good pq (noteHost s) := by
  unfold noteHost
  refine good_mk ?_
  dsimp only
  exact good_of hs

theorem State.pauseOne_good {c : RunCmd} (hs : s.Good pq) : Good pq (pauseOne s c) := by
  unfold pauseOne
  dsimp only
  split
  · exact countUp_good (setCmd_good hs)
  · exact setCmd_good hs

theorem State.syncPauses_good (hs : s.Good pq) : Good pq (syncPauses s) := by
  unfold syncPauses
  exact foldl_good (fun y00 y01 y02 => pauseOne_good y02) hs

theorem State.tellRetrain_good {p : Nat} {status : Nat} (hs : s.Good pq) : Good pq (tellRetrain s p status) := by
  unfold tellRetrain
  refine foldl_good ?_ hs
  intro y00 y01 y02
  split
  · exact finishCmd_good y02
  · exact y02

theorem State.setCal_good {c : Calibration} (hs : s.Good pq) : Good pq (setCal s c) := by
  unfold setCal
  refine good_mk ?_
  dsimp only
  exact good_of hs

theorem State.setRun_good {r : CalRun} (hs : s.Good pq) : Good pq (setRun s r) := by
  unfold setRun
  exact setCal_good hs

theorem State.calQual_good {l : Nat} {e : CalEye} (hs : s.Good pq) : Good pq (calQual s l e) := by
  unfold calQual
  dsimp only
  exact setReg_good hs

theorem State.laneValues_good {l : Nat} {map : Word} {trim : Word} (hs : s.Good pq) : Good pq (laneValues s l map trim) := by
  unfold laneValues
  dsimp only
  split
  · exact setCal_good (setReg_good (setReg_good hs))
  · exact setCal_good (setReg_good (setReg_good hs))

theorem State.laneTake_good {l : Nat} (hs : s.Good pq) : Good pq (laneTake s l) := by
  unfold laneTake
  exact setCal_good hs

theorem State.sinkValue_good {c : Nat} {mask : Nat} (hs : s.Good pq) : Good pq (sinkValue s c mask) := by
  unfold sinkValue
  dsimp only
  exact setCal_good (setFlag_good (setFld_good hs))

theorem State.calApply_good {d : Domain} (hs : s.Good pq) : Good pq (calApply s d) := by
  unfold calApply
  split
  · exact foldl_good (fun y00 y01 y02 => laneTake_good y02) (setCal_good hs)
  · exact laneTake_good (laneTake_good hs)
  · exact setCal_good hs
  · exact hs
  · exact hs
  · exact hs

theorem State.calReject_good {e : CalElem} (hs : s.Good pq) : Good pq (calReject s e) := by
  unfold calReject
  dsimp only
  exact eventLogged_good (foldl_good (fun y00 y01 y02 => countUp_good y02) (setFlag_good (countUp_good hs)))

theorem State.calSkip_good {e : CalElem} (hs : s.Good pq) : Good pq (calSkip s e) := by
  unfold calSkip
  exact foldl_good (fun y00 y01 y02 => countUp_good y02) hs

theorem State.calStep_good {how : Nat} (hs : s.Good pq) : Good pq (calStep s how) := by
  unfold calStep
  split
  · exact hs
  · exact stepDone_good hs

theorem State.calEnd_good {kind : Nat} (hs : s.Good pq) : Good pq (calEnd s kind) := by
  unfold calEnd
  dsimp only
  split
  · split
    · exact latch_good (event_good (setCal_good (setReg_good (setReg_good (setReg_good (setReg_good (setFlag_good (setFld_good (setFlag_good hs)))))))))
    · exact latch_good (event_good (setCal_good (setReg_good (setReg_good (setReg_good (setReg_good (setFlag_good (setFld_good (setFlag_good hs)))))))))
  · exact event_good (setCal_good (setReg_good (setReg_good (setReg_good (setReg_good (setFlag_good (setFld_good (setFlag_good hs))))))))

theorem State.calDrop_good (hs : s.Good pq) : Good pq (calDrop s) := by
  unfold calDrop
  exact setCal_good (setFlag_good (setFld_good (setFlag_good hs)))

theorem State.askBurst_good {p : Nat} (hs : s.Good pq) : Good pq (askBurst s p) := by
  unfold askBurst
  exact countUp_good (setPort_good hs)

theorem State.calAsk_good {kind : Nat} {e : CalElem} (hs : s.Good pq) : Good pq (calAsk s kind e) := by
  unfold calAsk
  split
  · split
    · exact askBurst_good hs
    · exact hs
  · exact hs

theorem State.calNext_good {x0 : Nat} {x1 : State} (hx1 : x1.Good pq) : Good pq (calNext x0 x1) := by
  induction x0 generalizing x1 with
  | zero =>
    unfold calNext
    exact hx1
  | succ n ih =>
    unfold calNext
    split
    · exact hx1
    · split
      · exact calDrop_good hx1
      · split
        · exact hx1
        · split
          · exact calEnd_good hx1
          · split
            · exact calAsk_good hx1
            · dsimp only
              refine ih ?_
              split
              · refine calStep_good ?_
                refine setRun_good ?_
                split
                · exact calSkip_good hx1
                · exact hx1
              · refine setRun_good ?_
                split
                · exact calSkip_good hx1
                · exact hx1

theorem State.calStart_good {kind : Nat} {elems : List CalElem} {pdWait : Bool} (hs : s.Good pq) : Good pq (calStart s kind elems pdWait) := by
  unfold calStart
  dsimp only
  exact calNext_good (setRun_good (setFld_good (setFlag_good (foldl_good (fun y00 y01 y02 => setReg_good y02) hs))))

theorem State.calIdle_good (hs : s.Good pq) : Good pq (calIdle s) := by
  unfold calIdle
  split
  · exact hs
  · split
    · split
      · split
        · exact calStart_good (setCal_good (setFlag_good (waitIn_good hs)))
        · exact hs
      · exact hs
    · split
      · exact hs
      · exact calStart_good (setCal_good hs)

theorem State.calDone_good {e : CalElem} {how : Nat} (hs : s.Good pq) : Good pq (calDone s e how) := by
  unfold calDone
  split
  · exact hs
  · dsimp only
    split
    · split
      · exact setFlag_good (calStep_good (setRun_good hs))
      · exact calIdle_good (calNext_good (calStep_good (setRun_good hs)))
    · split
      · exact setFlag_good (setRun_good hs)
      · exact calIdle_good (calNext_good (setRun_good hs))

theorem State.calRelease_good (hs : s.Good pq) : Good pq (calRelease s) := by
  unfold calRelease
  dsimp only
  split
  · exact calIdle_good (calNext_good (setFlag_good (setCal_good hs)))
  · exact setCal_good hs

theorem State.calSlot_good (hs : s.Good pq) : Good pq (calSlot s) := by
  unfold calSlot
  split
  · exact setRun_good hs
  · exact hs

theorem State.calPortUp_good {p : Nat} (hs : s.Good pq) : Good pq (calPortUp s p) := by
  unfold calPortUp
  split
  · exact hs
  · exact calIdle_good (setCal_good hs)

theorem State.calDomainOff_good {d : Domain} (hs : s.Good pq) : Good pq (calDomainOff s d) := by
  unfold calDomainOff
  dsimp only
  split
  · exact setCal_good hs
  · split
    · exact calNext_good (setRun_good (foldl_good (fun y00 y01 y02 => calSkip_good y02) (setCal_good hs)))
    · exact calNext_good (setCal_good hs)

theorem State.calCheck_good (hs : s.Good pq) : Good pq (calCheck s) := by
  unfold calCheck
  dsimp only
  split
  · exact setFlag_good hs
  · exact hs

theorem State.calFrame_good (hs : s.Good pq) : Good pq (calFrame s) := by
  unfold calFrame
  split
  · dsimp only
    exact calIdle_good (calNext_good (setRun_good hs))
  · split
    · exact calStart_good (setFlag_good hs)
    · exact calIdle_good hs

theorem State.eyeResult_good {kind : Nat} {e : CalElem} {l : List (Nat × CalEye)} (hs : s.Good pq) : Good pq (eyeResult s kind e l) := by
  unfold eyeResult
  dsimp only
  split
  · exact calDone_good (calReject_good (foldl_good (fun y00 y01 y02 => calQual_good y02) hs))
  · exact calDone_good (foldl_good (fun y00 y01 y02 => countUp_good (laneValues_good y02)) (foldl_good (fun y00 y01 y02 => calQual_good y02) hs))

theorem State.darkMean_good {k : Nat} (hs : s.Good pq) : Good pq (darkMean s k).2 := by
  unfold darkMean
  dsimp only
  exact quot_good hs

theorem State.pdResult_good {kind : Nat} {k : Nat} (hs : s.Good pq) : Good pq (pdResult s kind k) := by
  unfold pdResult
  split
  dsimp only
  split
  · exact calDone_good (calReject_good (good_of_pair ‹_› (darkMean_good hs)))
  · exact calDone_good (setFld_good (good_of_pair ‹_› (darkMean_good hs)))

theorem State.sinkResult_good {c : Nat} {cells : List Nat} (hs : s.Good pq) : Good pq (sinkResult s c cells) := by
  unfold sinkResult
  split
  split
  dsimp only
  split
  · exact calDone_good (calReject_good (setFlag_good (setFld_good (good_of_pair ‹_› (quot_good hs)))))
  · exact calDone_good (sinkValue_good (setFlag_good (setFld_good (good_of_pair ‹_› (quot_good hs)))))

theorem execCalStepDone_good {e : CalElem} {m : CalMeas} (hs : s.Good pq) : OutGood pq (execCalStepDone e m s) := by
  unfold execCalStepDone
  split
  · exact outGood_next hs
  · split
    · exact outGood_next hs
    · split
      · split
        · exact outGood_next (eyeResult_good hs)
        · exact outGood_next hs
      · split
        · exact outGood_next (eyeResult_good hs)
        · exact outGood_next hs
      · exact outGood_next (pdResult_good hs)
      · exact outGood_next (sinkResult_good hs)
      · exact outGood_next hs

theorem execCalBurst_good (hs : s.Good pq) : OutGood pq (execCalBurst s) := by
  unfold execCalBurst
  split
  · exact outGood_next hs
  · split
    · exact outGood_next hs
    · split
      · exact outGood_next (setRun_good hs)
      · split
        · exact outGood_next (setRun_good (reachPos_good hs))
        · exact outGood_next hs

theorem execCalStepTimeout_good (hs : s.Good pq) : OutGood pq (execCalStepTimeout s) := by
  unfold execCalStepTimeout
  split
  · split
    · exact outGood_next (calDone_good (calSkip_good hs))
    · exact outGood_next hs
  · exact outGood_next hs

theorem State.calAbandon_good {e : CalElem} (hs : s.Good pq) : Good pq (calAbandon s e) := by
  unfold calAbandon
  split
  · exact calDone_good (calSkip_good hs)
  · exact hs

theorem execCalElementWrite_good {a : BitVec 32} {v : Word} (hs : s.Good pq) : OutGood pq (execCalElementWrite a v s) := by
  unfold execCalElementWrite
  dsimp only
  split
  · exact outGood_next hs
  · split
    · split
      · split
        · exact outGood_next (calAbandon_good (laneValues_good hs))
        · exact outGood_next (setFlag_good hs)
      · split
        · exact outGood_next (calAbandon_good (laneValues_good hs))
        · exact outGood_next hs
    · split
      · split
        · exact outGood_next (calAbandon_good (setCal_good (setFld_good hs)))
        · exact outGood_next (setFlag_good hs)
      · exact outGood_next hs

theorem State.setLane_good {p : Nat} {l : Nat} {x : RxLane} (hs : s.Good pq) : Good pq (setLane s p l x) := by
  unfold setLane
  exact setPort_good hs

theorem State.setCap_good {p : Nat} (hs : s.Good pq) : Good pq (setCap s p) := by
  unfold setCap
  dsimp only
  exact setFld_good hs

theorem State.linkEvent_good {p : Nat} {code : Nat} (hs : s.Good pq) : Good pq (linkEvent s p code) := by
  unfold linkEvent
  split
  · exact eventLogged_good hs
  · exact event_good hs

theorem State.leaveLink_good {p : Nat} (hs : s.Good pq) : Good pq (leaveLink s p) := by
  unfold leaveLink
  split
  · dsimp only
    refine syncPauses_good ?_
    refine noteNoHost_good ?_
    refine setFld_good ?_
    refine good_mk ?_
    dsimp only
    exact good_of (abandonLink_good (discardPackets_good (dropHost_good hs)))
  · exact syncPauses_good (discardPackets_good hs)

theorem State.txStart_good {p : Nat} (hs : s.Good pq) : Good pq (txStart s p) := by
  unfold txStart
  exact setPort_good hs

theorem State.toRate_good {p : Nat} {r : Nat} (hs : s.Good pq) : Good pq (toRate s p r) := by
  unfold toRate
  refine setFld_good ?_
  split
  · exact hs
  · exact txStart_good hs

theorem State.noBurst_good {p : Nat} (hs : s.Good pq) : Good pq (noBurst s p) := by
  unfold noBurst
  exact setPort_good hs

theorem State.goPort_good {p : Nat} {new : Nat} (hs : s.Good pq) : Good pq (goPort s p new) := by
  unfold goPort
  dsimp only
  split
  · refine leaveLink_good ?_
    split
    · refine tellRetrain_good ?_
      split
      · refine linkEvent_good ?_
        refine setFlag_good ?_
        refine setFld_good ?_
        split
        · exact txStart_good hs
        · split
          · exact hs
          · exact noBurst_good hs
      · refine setFld_good ?_
        split
        · exact txStart_good hs
        · split
          · exact hs
          · exact noBurst_good hs
    · split
      · refine linkEvent_good ?_
        refine setFlag_good ?_
        refine setFld_good ?_
        split
        · exact txStart_good hs
        · split
          · exact hs
          · exact noBurst_good hs
      · refine setFld_good ?_
        split
        · exact txStart_good hs
        · split
          · exact hs
          · exact noBurst_good hs
  · split
    · refine tellRetrain_good ?_
      split
      · refine linkEvent_good ?_
        refine setFlag_good ?_
        refine setFld_good ?_
        split
        · exact txStart_good hs
        · split
          · exact hs
          · exact noBurst_good hs
      · refine setFld_good ?_
        split
        · exact txStart_good hs
        · split
          · exact hs
          · exact noBurst_good hs
    · split
      · refine linkEvent_good ?_
        refine setFlag_good ?_
        refine setFld_good ?_
        split
        · exact txStart_good hs
        · split
          · exact hs
          · exact noBurst_good hs
      · refine setFld_good ?_
        split
        · exact txStart_good hs
        · split
          · exact hs
          · exact noBurst_good hs

theorem State.clearRuns_good {p : Nat} (hs : s.Good pq) : Good pq (clearRuns s p) := by
  unfold clearRuns
  dsimp only
  exact setFlag_good (setFlag_good (setPort_good hs))

theorem State.unlockLane_good {p : Nat} {l : Nat} (hs : s.Good pq) : Good pq (unlockLane s p l) := by
  unfold unlockLane
  dsimp only
  exact setFld_good (setFlag_good (setFlag_good (setLane_good hs)))

theorem State.unlockLanes_good {p : Nat} (hs : s.Good pq) : Good pq (unlockLanes s p) := by
  unfold unlockLanes
  exact foldl_good (fun y00 y01 y02 => unlockLane_good y02) hs

theorem State.newTrainId_good {p : Nat} (hs : s.Good pq) : Good pq (newTrainId s p) := by
  unfold newTrainId
  split
  dsimp only
  exact setPort_good (good_of_pair ‹_› (random_good hs))

theorem State.startPeaks_good {p : Nat} (hs : s.Good pq) : Good pq (startPeaks s p) := by
  unfold startPeaks
  exact foldl_good (fun y00 y01 y02 => setFld_good y02) hs

theorem State.attempt_good {p : Nat} (hs : s.Good pq) : Good pq (attempt s p) := by
  unfold attempt
  split
  · dsimp only
    exact goPort_good (toRate_good (countUp_good (setPort_good (startPeaks_good (clearRuns_good (newTrainId_good hs))))))
  · exact hs

theorem State.failAttempt_good {p : Nat} (hs : s.Good pq) : Good pq (failAttempt s p) := by
  unfold failAttempt
  dsimp only
  refine goPort_good ?_
  refine clearRuns_good ?_
  split
  · exact linkEvent_good (setFlag_good (setCap_good (toRate_good (setFld_good (setPort_good hs)))))
  · exact toRate_good (setFld_good (setPort_good hs))

theorem State.enterUp_good {p : Nat} (hs : s.Good pq) : Good pq (enterUp s p) := by
  unfold enterUp
  dsimp only
  refine tellRetrain_good ?_
  refine calPortUp_good ?_
  refine syncPauses_good ?_
  split
  · split
    · split
      · split
        · refine linkEvent_good ?_
          refine enableMb_good ?_
          refine noteHost_good ?_
          refine good_mk ?_
          dsimp only
          exact good_of (setPort_good (linkEvent_good (setFlag_good (goPort_good (countUp_good (setFld_good (setPort_good hs)))))))
        · refine enableMb_good ?_
          refine noteHost_good ?_
          refine good_mk ?_
          dsimp only
          exact good_of (setPort_good (linkEvent_good (setFlag_good (goPort_good (countUp_good (setFld_good (setPort_good hs)))))))
      · split
        · refine linkEvent_good ?_
          refine enableMb_good ?_
          refine noteHost_good ?_
          refine good_mk ?_
          dsimp only
          exact good_of (linkEvent_good (setFlag_good (goPort_good (countUp_good (setFld_good (setPort_good hs))))))
        · refine enableMb_good ?_
          refine noteHost_good ?_
          refine good_mk ?_
          dsimp only
          exact good_of (linkEvent_good (setFlag_good (goPort_good (countUp_good (setFld_good (setPort_good hs))))))
    · split
      · refine linkEvent_good ?_
        refine enableMb_good ?_
        refine noteHost_good ?_
        refine good_mk ?_
        dsimp only
        exact good_of (freshPackets_good (linkEvent_good (setFlag_good (goPort_good (countUp_good (setFld_good (setPort_good hs)))))))
      · refine enableMb_good ?_
        refine noteHost_good ?_
        refine good_mk ?_
        dsimp only
        exact good_of (freshPackets_good (linkEvent_good (setFlag_good (goPort_good (countUp_good (setFld_good (setPort_good hs)))))))
  · split
    · split
      · split
        · exact linkEvent_good (setPort_good (linkEvent_good (setFlag_good (goPort_good (countUp_good (setFld_good (setPort_good hs)))))))
        · exact setPort_good (linkEvent_good (setFlag_good (goPort_good (countUp_good (setFld_good (setPort_good hs))))))
      · split
        · exact linkEvent_good (linkEvent_good (setFlag_good (goPort_good (countUp_good (setFld_good (setPort_good hs))))))
        · exact linkEvent_good (setFlag_good (goPort_good (countUp_good (setFld_good (setPort_good hs)))))
    · split
      · exact linkEvent_good (freshPackets_good (linkEvent_good (setFlag_good (goPort_good (countUp_good (setFld_good (setPort_good hs)))))))
      · exact freshPackets_good (linkEvent_good (setFlag_good (goPort_good (countUp_good (setFld_good (setPort_good hs))))))

theorem State.retrain_good {p : Nat} (hs : s.Good pq) : Good pq (retrain s p) := by
  unfold retrain
  split
  · exact syncPauses_good (goPort_good (countUp_good (clearRuns_good hs)))
  · exact hs

theorem State.failRetrain_good {p : Nat} {count : Bool} (hs : s.Good pq) : Good pq (failRetrain s p count) := by
  unfold failRetrain
  dsimp only
  refine attempt_good ?_
  refine setPort_good ?_
  refine goPort_good ?_
  refine toRate_good ?_
  split
  · exact countUp_good (setFlag_good hs)
  · exact setFlag_good hs

theorem State.handshake_good {p : Nat} (hs : s.Good pq) : Good pq (handshake s p) := by
  unfold handshake
  dsimp only
  split
  · split
    · split
      · exact goPort_good (unlockLanes_good (clearRuns_good (setPort_good (setFlag_good (setFlag_good hs)))))
      · exact enterUp_good (setFlag_good (setFlag_good hs))
    · exact setFlag_good (setFlag_good hs)
  · exact hs

theorem State.enterTest_good {p : Nat} {active : Fld} (hs : s.Good pq) : Good pq (enterTest s p active) := by
  unfold enterTest
  exact goPort_good (setFlag_good (clearRuns_good hs))

theorem State.endLoop_good {p : Nat} (hs : s.Good pq) : Good pq (endLoop s p) := by
  unfold endLoop
  dsimp only
  exact goPort_good (clearRuns_good (toRate_good (setFlag_good (setFlag_good hs))))

theorem State.endFar_good {p : Nat} (hs : s.Good pq) : Good pq (endFar s p) := by
  unfold endFar
  exact attempt_good (endLoop_good hs)

theorem State.takeSet_good {p : Nat} {l : Nat} {bs : List Byte} (hs : s.Good pq) : Good pq (takeSet s p l bs) := by
  unfold takeSet
  dsimp only
  exact setFld_good (setFld_good (setFld_good (setFld_good (setLane_good hs))))

theorem State.trainingSet_good {p : Nat} {l : Nat} {c0 : Sym} {c1 : Sym} {bs : List Byte} (hs : s.Good pq) : Good pq (trainingSet s p l c0 c1 bs) := by
  unfold trainingSet
  split
  · exact hs
  · split
    · dsimp only
      exact setFlag_good (setLane_good hs)
    · dsimp only
      split
      · split
        · split
          · split
            · exact endFar_good (setLane_good hs)
            · exact setLane_good hs
          · split
            · exact endFar_good (setLane_good hs)
            · exact setLane_good hs
        · exact hs
      · split
        · split
          · exact attempt_good (takeSet_good hs)
          · exact takeSet_good hs
        · split
          · exact retrain_good (takeSet_good hs)
          · split
            · exact takeSet_good hs
            · split
              · exact setPort_good (takeSet_good hs)
              · split
                · exact enterTest_good (takeSet_good hs)
                · exact handshake_good (takeSet_good hs)

theorem State.deskew_good (hs : s.Good pq) : Good pq (deskew s) := by
  unfold deskew
  dsimp only
  split
  · split
    · exact handshake_good (foldl_good (fun y00 y01 y02 => setFld_good (setFlag_good (setLane_good y02))) hs)
    · split
      · exact failAttempt_good (setFlag_good hs)
      · exact setFlag_good hs
  · exact hs

theorem State.markerError_good {p : Nat} {l : Nat} (hs : s.Good pq) : Good pq (markerError s p l) := by
  unfold markerError
  dsimp only
  split
  · exact retrain_good (countUp_good (setFlag_good (setLane_good hs)))
  · exact countUp_good (setFlag_good (setLane_good hs))

theorem State.marker_good {s0 : State} {p : Nat} {l : Nat} {m : Option (Byte × Byte)} {arrival : Nat} (hs0 : s0.Good pq) : Good pq (marker s0 p l m arrival) := by
  unfold marker
  dsimp only
  split
  · split
    · exact laneTake_good hs0
    · split
      · exact setLane_good (laneTake_good hs0)
      · split
        · split
          · exact markerError_good (laneTake_good hs0)
          · exact setLane_good (laneTake_good hs0)
        · split
          · split
            · refine setLane_good ?_
              split
              · exact setFld_good (laneTake_good hs0)
              · exact laneTake_good hs0
            · refine markerError_good ?_
              split
              · exact setFld_good (laneTake_good hs0)
              · exact laneTake_good hs0
          · split
            · refine deskew_good ?_
              refine setLane_good ?_
              split
              · exact setFld_good (laneTake_good hs0)
              · exact laneTake_good hs0
            · refine setLane_good ?_
              split
              · exact setFld_good (laneTake_good hs0)
              · exact laneTake_good hs0
  · split
    · exact hs0
    · split
      · exact setLane_good hs0
      · split
        · split
          · exact markerError_good hs0
          · exact setLane_good hs0
        · split
          · split
            · refine setLane_good ?_
              split
              · exact setFld_good hs0
              · exact hs0
            · refine markerError_good ?_
              split
              · exact setFld_good hs0
              · exact hs0
          · split
            · refine deskew_good ?_
              refine setLane_good ?_
              split
              · exact setFld_good hs0
              · exact hs0
            · refine setLane_good ?_
              split
              · exact setFld_good hs0
              · exact hs0

theorem State.lossOfLock_good {p : Nat} {l : Nat} (hs : s.Good pq) : Good pq (lossOfLock s p l) := by
  unfold lossOfLock
  split
  · exact hs
  · dsimp only
    split
    · exact retrain_good (unlockLane_good (setFlag_good (countUp_good (setFlag_good hs))))
    · split
      · exact endFar_good (unlockLane_good (setFlag_good (countUp_good (setFlag_good hs))))
      · split
        · exact handshake_good (unlockLane_good (setFlag_good (countUp_good (setFlag_good hs))))
        · exact unlockLane_good (setFlag_good (countUp_good (setFlag_good hs)))

theorem State.violation_good {p : Nat} {l : Nat} (hs : s.Good pq) : Good pq (violation s p l) := by
  unfold violation
  split
  · exact hs
  · dsimp only
    split
    · exact lossOfLock_good (countUp_good (setLane_good hs))
    · exact countUp_good (setLane_good hs)

theorem State.signalGone_good {p : Nat} (hs : s.Good pq) : Good pq (signalGone s p) := by
  unfold signalGone
  split
  · exact hs
  · split
    · exact failAttempt_good hs
    · split
      · exact goPort_good (toRate_good hs)
      · split
        · split
          · exact endFar_good hs
          · exact endLoop_good hs
        · exact hs

theorem State.portCtrl_good {p : Nat} {v : Word} (hs : s.Good pq) : Good pq (portCtrl s p v) := by
  unfold portCtrl
  dsimp only
  split
  · refine retrain_good ?_
    split
    · split
      · exact goPort_good (setCap_good (setPort_good (setReg_good hs)))
      · split
        · exact setFlag_good (setFlag_good (goPort_good (clearRuns_good (toRate_good (setCap_good (setPort_good (setReg_good hs)))))))
        · exact setCap_good (setPort_good (setReg_good hs))
    · split
      · exact goPort_good (setCap_good (setReg_good hs))
      · split
        · exact setFlag_good (setFlag_good (goPort_good (clearRuns_good (toRate_good (setCap_good (setReg_good hs))))))
        · exact setCap_good (setReg_good hs)
  · split
    · split
      · exact goPort_good (setCap_good (setPort_good (setReg_good hs)))
      · split
        · exact setFlag_good (setFlag_good (goPort_good (clearRuns_good (toRate_good (setCap_good (setPort_good (setReg_good hs)))))))
        · exact setCap_good (setPort_good (setReg_good hs))
    · split
      · exact goPort_good (setCap_good (setReg_good hs))
      · split
        · exact setFlag_good (setFlag_good (goPort_good (clearRuns_good (toRate_good (setCap_good (setReg_good hs))))))
        · exact setCap_good (setReg_good hs)

theorem execLossOfSignal_good {p : Fin 2} {l : Fin 9} (hs : s.Good pq) : OutGood pq (execLossOfSignal p l s) := by
  unfold execLossOfSignal
  split
  · exact outGood_next hs
  · dsimp only
    exact outGood_next (signalGone_good (unlockLane_good (setFlag_good (setFlag_good hs))))

theorem execSignalDetect_good {p : Fin 2} {l : Fin 9} (hs : s.Good pq) : OutGood pq (execSignalDetect p l s) := by
  unfold execSignalDetect
  split
  · exact outGood_next hs
  · dsimp only
    refine outGood_next ?_
    split
    · exact attempt_good (setFlag_good hs)
    · exact setFlag_good hs

theorem execLossOfLock_good {p : Fin 2} {l : Fin 9} (hs : s.Good pq) : OutGood pq (execLossOfLock p l s) := by
  unfold execLossOfLock
  exact outGood_next (lossOfLock_good hs)

theorem execCdrLock_good {p : Fin 2} {l : Fin 9} (hs : s.Good pq) : OutGood pq (execCdrLock p l s) := by
  unfold execCdrLock
  split
  · exact outGood_next hs
  · dsimp only
    refine outGood_next ?_
    refine handshake_good ?_
    split
    · exact setFlag_good (setFlag_good (setFlag_good (setLane_good hs)))
    · exact setFlag_good (setFlag_good (setLane_good hs))

theorem execCodeViolation_good {p : Fin 2} {l : LaneSym} (hs : s.Good pq) : OutGood pq (execCodeViolation p l s) := by
  unfold execCodeViolation
  refine outGood_next ?_
  split
  · exact violation_good hs
  · exact hs

theorem execTrainingSetReceived_good {p : Fin 2} {l : Fin 9} {ctl : Sym × Sym} {bs : List Byte} (hs : s.Good pq) : OutGood pq (execTrainingSetReceived p l ctl bs s) := by
  unfold execTrainingSetReceived
  exact outGood_next (trainingSet_good hs)

theorem execAttemptTimeout_good {p : Fin 2} (hs : s.Good pq) : OutGood pq (execAttemptTimeout p s) := by
  unfold execAttemptTimeout
  split
  · exact outGood_next (failAttempt_good (setFlag_good hs))
  · exact outGood_next hs

theorem execRetryTimerExpiry_good {p : Fin 2} (hs : s.Good pq) : OutGood pq (execRetryTimerExpiry p s) := by
  unfold execRetryTimerExpiry
  split
  · dsimp only
    refine outGood_next ?_
    split
    · exact attempt_good (setPort_good hs)
    · exact setPort_good hs
  · exact outGood_next hs

theorem execPllLocked_good {p : Fin 2} (hs : s.Good pq) : OutGood pq (execPllLocked p s) := by
  unfold execPllLocked
  split
  · exact outGood_next (goPort_good (txStart_good (setFld_good hs)))
  · exact outGood_next hs

theorem execLosMaskEnd_good {p : Fin 2} (hs : s.Good pq) : OutGood pq (execLosMaskEnd p s) := by
  unfold execLosMaskEnd
  split
  · dsimp only
    refine outGood_next ?_
    split
    · exact setPort_good hs
    · exact signalGone_good (setPort_good hs)
  · exact outGood_next hs

theorem execEqualiserDwellDone_good {p : Fin 2} {l : Fin 9} (hs : s.Good pq) : OutGood pq (execEqualiserDwellDone p l s) := by
  unfold execEqualiserDwellDone
  split
  · exact outGood_next (handshake_good (setLane_good hs))
  · exact outGood_next hs

theorem execEqAdaptInterval_good {p : Fin 2} {l : Fin 9} {dir : Fin 3} (hs : s.Good pq) : OutGood pq (execEqAdaptInterval p l dir s) := by
  unfold execEqAdaptInterval
  split
  · dsimp only
    exact outGood_next (setFld_good hs)
  · exact outGood_next hs

theorem execLaneMarkerReceived_good {p : Fin 2} {l : Fin 9} {m : Option (Byte × Byte)} {arrival : Nat} (hs : s.Good pq) : OutGood pq (execLaneMarkerReceived p l m arrival s) := by
  unfold execLaneMarkerReceived
  exact outGood_next (marker_good hs)

theorem execRetrainTimeout_good {p : Fin 2} (hs : s.Good pq) : OutGood pq (execRetrainTimeout p s) := by
  unfold execRetrainTimeout
  split
  · exact outGood_next (failRetrain_good hs)
  · exact outGood_next hs

theorem execIdleSetReceived_good {p : Fin 2} {l : Fin 9} {flags : Byte} {check : Byte} (hs : s.Good pq) : OutGood pq (execIdleSetReceived p l flags check s) := by
  unfold execIdleSetReceived
  split
  · exact outGood_next hs
  · split
    · exact outGood_next (violation_good hs)
    · split
      · exact outGood_next (setPort_good hs)
      · exact outGood_next hs

theorem execIdleBurstRequest_good {p : Fin 2} (hs : s.Good pq) : OutGood pq (execIdleBurstRequest p s) := by
  unfold execIdleBurstRequest
  split
  · exact outGood_next (askBurst_good hs)
  · exact outGood_next hs

theorem execBurstEnd_good {p : Fin 2} (hs : s.Good pq) : OutGood pq (execBurstEnd p s) := by
  unfold execBurstEnd
  exact outGood_next (setPort_good hs)

theorem State.portLoop_good {p : Nat} {v : Word} (hs : s.Good pq) : Good pq (portLoop s p v) := by
  unfold portLoop
  dsimp only
  split
  · exact setFlag_good hs
  · split
    · split
      · exact endLoop_good (setFld_good (setFld_good hs))
      · exact setFld_good (setFld_good hs)
    · split
      · split
        · exact retrain_good (setFld_good (setFld_good hs))
        · split
          · exact setFld_good (setFld_good hs)
          · exact attempt_good (goPort_good (setFld_good (setFld_good hs)))
      · exact goPort_good (setFlag_good (setFld_good (setFld_good hs)))

theorem State.genStart_good {p : Nat} (hs : s.Good pq) : Good pq (genStart s p) := by
  unfold genStart
  dsimp only
  split
  · exact setPort_good hs
  · exact setPort_good (draw_good hs)

theorem State.portPat_good {p : Nat} {v : Word} (hs : s.Good pq) : Good pq (portPat s p v) := by
  unfold portPat
  dsimp only
  split
  · refine foldl_good (fun y00 y01 y02 => setReg_good y02) ?_
    split
    · exact genStart_good (setFld_good (setReg_good hs))
    · exact setFld_good (setReg_good hs)
  · split
    · exact genStart_good (setFld_good (setReg_good hs))
    · exact setFld_good (setReg_good hs)

theorem State.refLost_good {p : Nat} (hs : s.Good pq) : Good pq (refLost s p) := by
  unfold refLost
  dsimp only
  split
  · exact setFlag_good hs
  · split
    · exact endLoop_good (setFlag_good hs)
    · exact goPort_good (clearRuns_good (toRate_good (setFlag_good hs)))

theorem execRefclkLoss_good (hs : s.Good pq) : OutGood pq (execRefclkLoss s) := by
  unfold execRefclkLoss
  dsimp only
  refine outGood_next ?_
  split
  · refine refLost_good ?_
    refine refLost_good ?_
    refine good_mk ?_
    dsimp only
    exact good_of hs
  · refine good_mk ?_
    dsimp only
    exact good_of hs

theorem execRefclkReturn_good (hs : s.Good pq) : OutGood pq (execRefclkReturn s) := by
  unfold execRefclkReturn
  dsimp only
  split
  · refine outGood_next ?_
    refine good_mk ?_
    dsimp only
    exact good_of hs
  · refine outGood_next ?_
    split
    · split
      · refine attempt_good ?_
        refine setFlag_good ?_
        refine attempt_good ?_
        refine setFlag_good ?_
        refine good_mk ?_
        dsimp only
        exact good_of hs
      · refine setFlag_good ?_
        refine attempt_good ?_
        refine setFlag_good ?_
        refine good_mk ?_
        dsimp only
        exact good_of hs
    · split
      · refine attempt_good ?_
        refine setFlag_good ?_
        refine setFlag_good ?_
        refine good_mk ?_
        dsimp only
        exact good_of hs
      · refine setFlag_good ?_
        refine setFlag_good ?_
        refine good_mk ?_
        dsimp only
        exact good_of hs

theorem State.askLink_good {p : Nat} {m : LinkMsg} (hs : s.Good pq) : Good pq (askLink s p m) := by
  unfold askLink
  dsimp only
  exact setPort_good hs

theorem State.discardNak_good {p : Nat} (hs : s.Good pq) : Good pq (discardNak s p) := by
  unfold discardNak
  dsimp only
  refine syncPauses_good ?_
  split
  · split
    · exact askLink_good (setPort_good hs)
    · exact setPort_good hs
  · split
    · exact askLink_good (setPort_good hs)
    · exact setPort_good hs

theorem State.acceptSeq_good {p : Nat} (hs : s.Good pq) : Good pq (acceptSeq s p) := by
  unfold acceptSeq
  dsimp only
  refine syncPauses_good ?_
  split
  · exact askLink_good (setPort_good (wrapUp_good hs))
  · exact setPort_good (wrapUp_good hs)

theorem State.defect_good {p : Nat} {k : Packet} (hs : s.Good pq) : Good pq (defect s p k) := by
  unfold defect
  dsimp only
  split
  · exact countUp_good hs
  · exact rxRelease_good (rxTake_good (countUp_good hs))

theorem State.forwardDown_good {k : Packet} {id : Nat} (hs : s.Good pq) : Good pq (forwardDown s k id) := by
  unfold forwardDown
  split
  · exact enqueue_good hs
  · exact rxRelease_good (countUp_good hs)

theorem State.forwardUp_good {k : Packet} {id : Nat} (hs : s.Good pq) : Good pq (forwardUp s k id) := by
  unfold forwardUp
  split
  · exact enqueue_good hs
  · exact rxRelease_good (countUp_good hs)

theorem State.cutAbort_good {p : Nat} {k : Packet} (hs : s.Good pq) : Good pq (cutAbort s p k) := by
  unfold cutAbort
  split
  · exact putWire_good hs
  · exact hs

theorem State.videoSeg_good {k : Packet} (hs : s.Good pq) : OptGood pq (videoSeg s k) := by
  unfold videoSeg
  dsimp only
  split
  · exact optGood_some hs
  · split
    · exact optGood_some (countUp_good hs)
    · split
      · exact optGood_none
      · exact segPacket_good hs

theorem State.frameReadyPkt_good {k : Packet} (hs : s.Good pq) : OptGood pq (frameReadyPkt s k) := by
  unfold frameReadyPkt
  dsimp only
  split
  · exact optGood_some hs
  · split
    · exact optGood_none
    · exact optGood_some (completeBuilds_good (noteReady_good (setStream_good hs)))

theorem State.streamCfg_good {k : Packet} (hs : s.Good pq) : OptGood pq (streamCfg s k) := by
  unfold streamCfg
  dsimp only
  split
  · exact optGood_none
  · refine optGood_some ?_
    refine mapStores_good ?_
    refine setStream_good ?_
    split
    · exact abandonCfg_good hs
    · exact hs

theorem State.consumeVideo_good {k : Packet} (hs : s.Good pq) : OptGood pq (consumeVideo s k) := by
  unfold consumeVideo
  dsimp only
  split
  · exact videoSeg_good hs
  · split
    · exact frameReadyPkt_good hs
    · exact streamCfg_good hs

theorem State.drainWaiting_good {x0 : Nat} {x1 : State} (hx1 : x1.Good pq) : Good pq (drainWaiting x0 x1) := by
  induction x0 generalizing x1 with
  | zero =>
    unfold drainWaiting
    exact hx1
  | succ n ih =>
    unfold drainWaiting
    split
    · exact hx1
    · split
      · exact hx1
      · dsimp only
        refine ih ?_
        split
        · refine rxRelease_good ?_
          refine good_mk ?_
          dsimp only
          exact good_of (good_of_opt ‹_› (consumeVideo_good hx1))
        · refine good_mk ?_
          dsimp only
          exact good_of (good_of_opt ‹_› (consumeVideo_good hx1))

theorem State.drain_good (hs : s.Good pq) : Good pq (drain s) := by
  unfold drain
  exact drainWaiting_good hs

theorem State.takeVideo_good {k : Packet} {id : Nat} (hs : s.Good pq) : Good pq (takeVideo s k id) := by
  unfold takeVideo
  split
  · split
    · exact drain_good (rxRelease_good (good_of_opt ‹_› (consumeVideo_good hs)))
    · refine good_mk ?_
      dsimp only
      exact good_of hs
  · refine good_mk ?_
    dsimp only
    exact good_of hs

theorem State.assign_good {k : Packet} {rid : Nat} (hs : s.Good pq) : Good pq (assign s k rid) := by
  unfold assign
  dsimp only
  split
  · exact rxRelease_good (sendUp_good (setFlag_good (setPort_good hs)))
  · split
    · exact enqueue_good (sendUp_good (setFld_good (setFlag_good (setPort_good hs))))
    · exact rxRelease_good (sendUp_good (sendUp_good (setFld_good (setFlag_good (setPort_good hs)))))

theorem State.defectDown_good {k : Packet} {c : PClass} {cut : Bool} (hs : s.Good pq) : Good pq (defectDown s k c cut) := by
  unfold defectDown
  split
  · split
    exact forwardDown_good (good_of_pair ‹_› (rxTake_good (countUp_good hs)))
  · exact defect_good hs

theorem State.downstream_good {k : Packet} {cut : Bool} (hs : s.Good pq) : Good pq (downstream s k cut) := by
  unfold downstream
  dsimp only
  split
  · exact defect_good hs
  · split
    · exact defectDown_good hs
    · split
      · split
        · exact assign_good (rxTake_good hs)
        · exact defect_good hs
      · split
        · exact forwardDown_good (rxTake_good hs)
        · split
          · exact defectDown_good hs
          · split
            · refine hostCommand_good ?_
              split
              · exact forwardDown_good (rxTake_good hs)
              · exact rxTake_good hs
            · refine takeVideo_good ?_
              split
              · exact forwardDown_good (rxTake_good hs)
              · exact rxTake_good hs

theorem State.upstream_good {k : Packet} (hs : s.Good pq) : Good pq (upstream s k) := by
  unfold upstream
  split
  · exact defect_good hs
  · split
    · exact defect_good hs
    · split
      exact forwardUp_good (good_of_pair ‹_› (rxTake_good hs))

theorem State.receive_good {p : Nat} {k : Packet} (hs : s.Good pq) : Good pq (receive s p k) := by
  unfold receive
  split
  · exact hs
  · split
    · refine countUp_good ?_
      split
      · exact cutAbort_good hs
      · exact hs
    · split
      · exact discardNak_good (countUp_good hs)
      · split
        · exact discardNak_good (cutAbort_good (countUp_good hs))
        · dsimp only
          split
          · split
            · exact downstream_good (acceptSeq_good hs)
            · exact upstream_good (acceptSeq_good hs)
          · split
            · exact askLink_good hs
            · exact discardNak_good hs

theorem State.receiveAs_good {p : Nat} {t : Nat} {op : Option Nat} {k : Packet} (hs : s.Good pq) : Good pq (receiveAs s p t op k) := by
  unfold receiveAs
  dsimp only
  split
  · exact receive_good hs
  · exact hs

theorem State.linkControl_good {p : Nat} {t : Nat} {k : Packet} (hs : s.Good pq) : Good pq (linkControl s p t k).2 := by
  unfold linkControl
  split
  · dsimp only
    exact hs
  · split
    · dsimp only
      exact countUp_good hs
    · split
      · dsimp only
        exact discardNak_good (countUp_good hs)
      · split
        · dsimp only
          exact hs
        · split
          · dsimp only
            exact discardNak_good (countUp_good hs)
          · split
            · dsimp only
              exact countUp_good hs
            · dsimp only
              exact hs

theorem State.exhaust_good {p : Nat} (hs : s.Good pq) : Good pq (exhaust s p) := by
  unfold exhaust
  dsimp only
  split
  · exact failRetrain_good hs
  · exact retrain_good (setPort_good hs)

theorem State.replayFrom_good {p : Nat} {seq : Nat} (hs : s.Good pq) : Good pq (replayFrom s p seq) := by
  unfold replayFrom
  dsimp only
  split
  · exact hs
  · split
    · exact exhaust_good hs
    · exact syncPauses_good (setPort_good hs)

theorem State.leaves_good {p : Nat} {o : OutPkt} (hs : s.Good pq) : Good pq (leaves s p o) := by
  unfold leaves
  dsimp only
  split
  · refine setFlag_good ?_
    refine setFld_good ?_
    split
    · split
      · split
        · exact setFlag_good (rxRelease_good hs)
        · exact rxRelease_good hs
      · split
        · exact setFlag_good (rxRelease_good (countUp_good hs))
        · exact rxRelease_good (countUp_good hs)
    · split
      · split
        · exact setFlag_good hs
        · exact hs
      · split
        · exact setFlag_good (countUp_good hs)
        · exact countUp_good hs
  · split
    · refine rxRelease_good ?_
      split
      · exact hs
      · exact countUp_good hs
    · split
      · exact hs
      · exact countUp_good hs

theorem State.startClass_good {p : Nat} {c : PClass} (hs : s.Good pq) : OptGood pq (startClass s p c) := by
  unfold startClass
  dsimp only
  split
  · exact optGood_none
  · split
    · exact optGood_none
    · exact optGood_some (leaves_good (putWire_good (wrapUp_good (setPort_good hs))))

theorem State.startFirst_good {p : Nat} {x2 : List PClass} (hs : s.Good pq) : OptGood pq (startFirst s p x2) := by
  induction x2 generalizing s p with
  | nil =>
    unfold startFirst
    exact optGood_none
  | cons b t ih =>
    unfold startFirst
    split
    · exact optGood_some (good_of_opt ‹_› (startClass_good hs))
    · exact ih hs

theorem State.markWait_good {p : Nat} {c : PClass} (hs : s.Good pq) : Good pq (markWait s p c) := by
  unfold markWait
  dsimp only
  split
  · exact hs
  · split
    · split
      · exact hs
      · exact countUp_good (setPort_good hs)
    · split
      · split
        · exact hs
        · exact countUp_good (setPort_good hs)
      · exact hs

theorem State.markWaits_good {p : Nat} (hs : s.Good pq) : Good pq (markWaits s p) := by
  unfold markWaits
  exact markWait_good (markWait_good (markWait_good hs))

theorem State.nextPacket_good {p : Nat} (hs : s.Good pq) : OptGood pq (nextPacket s p) := by
  unfold nextPacket
  dsimp only
  split
  · exact optGood_some (putWire_good (setPort_good hs))
  · split
    · split
      · exact optGood_some (setPort_good hs)
      · refine optGood_some ?_
        refine putWire_good ?_
        split
        · exact setPort_good hs
        · exact countUp_good (setPort_good hs)
    · exact startFirst_good hs

theorem State.burstSet_good {p : Nat} {st : Nat} (hs : s.Good pq) : Good pq (burstSet s p st) := by
  unfold burstSet
  dsimp only
  exact putWire_good (setPort_good hs)

theorem State.transmit_good {s0 : State} {p : Nat} (hs0 : s0.Good pq) : Good pq (transmit s0 p) := by
  unfold transmit
  dsimp only
  split
  · exact countUp_good (burstSet_good (setPort_good (markWaits_good hs0)))
  · split
    · split
      · exact putWire_good (setPort_good (markWaits_good hs0))
      · exact setPort_good (good_of_opt ‹_› (nextPacket_good (markWaits_good hs0)))
    · split
      · exact burstSet_good (markWaits_good hs0)
      · exact putWire_good (setPort_good (markWaits_good hs0))

theorem execVideoSeg_good {p : Fin 2} {k : Packet} (hs : s.Good pq) : OutGood pq (execVideoSeg p k s) := by
  unfold execVideoSeg
  exact outGood_next (receiveAs_good hs)

theorem execFrameReady_good {p : Fin 2} {k : Packet} (hs : s.Good pq) : OutGood pq (execFrameReady p k s) := by
  unfold execFrameReady
  exact outGood_next (receiveAs_good hs)

theorem execStreamCfg_good {p : Fin 2} {k : Packet} (hs : s.Good pq) : OutGood pq (execStreamCfg p k s) := by
  unfold execStreamCfg
  exact outGood_next (receiveAs_good hs)

theorem execCtrlReq_good {p : Fin 2} {k : Packet} (hs : s.Good pq) : OutGood pq (execCtrlReq p k s) := by
  unfold execCtrlReq
  exact outGood_next (receiveAs_good hs)

theorem execCtrlRsp_good {p : Fin 2} {k : Packet} (hs : s.Good pq) : OutGood pq (execCtrlRsp p k s) := by
  unfold execCtrlRsp
  exact outGood_next (receiveAs_good hs)

theorem execEnumAssign_good {p : Fin 2} {k : Packet} (hs : s.Good pq) : OutGood pq (execEnumAssign p k s) := by
  unfold execEnumAssign
  exact outGood_next (receiveAs_good hs)

theorem execEnumReply_good {p : Fin 2} {k : Packet} (hs : s.Good pq) : OutGood pq (execEnumReply p k s) := by
  unfold execEnumReply
  exact outGood_next (receiveAs_good hs)

theorem execEnumEnd_good {p : Fin 2} {k : Packet} (hs : s.Good pq) : OutGood pq (execEnumEnd p k s) := by
  unfold execEnumEnd
  exact outGood_next (receiveAs_good hs)

theorem execEvent_good {p : Fin 2} {k : Packet} (hs : s.Good pq) : OutGood pq (execEvent p k s) := by
  unfold execEvent
  exact outGood_next (receiveAs_good hs)

theorem execAck_good {p : Fin 2} {k : Packet} (hs : s.Good pq) : OutGood pq (execAck p k s) := by
  unfold execAck
  split
  split
  · exact outGood_next (good_of_pair ‹_› (linkControl_good hs))
  · dsimp only
    split
    · exact outGood_next (syncPauses_good (setPort_good (good_of_pair ‹_› (linkControl_good hs))))
    · exact outGood_next (good_of_pair ‹_› (linkControl_good hs))

theorem execNak_good {p : Fin 2} {k : Packet} (hs : s.Good pq) : OutGood pq (execNak p k s) := by
  unfold execNak
  split
  split
  · exact outGood_next (good_of_pair ‹_› (linkControl_good hs))
  · exact outGood_next (replayFrom_good (countUp_good (good_of_pair ‹_› (linkControl_good hs))))

theorem execCredit_good {p : Fin 2} {k : Packet} (hs : s.Good pq) : OutGood pq (execCredit p k s) := by
  unfold execCredit
  split
  split
  · exact outGood_next (good_of_pair ‹_› (linkControl_good hs))
  · dsimp only
    exact outGood_next (setPort_good (good_of_pair ‹_› (linkControl_good hs)))

theorem execAckTimer_good {p : Fin 2} (hs : s.Good pq) : OutGood pq (execAckTimer p s) := by
  unfold execAckTimer
  refine outGood_next ?_
  split
  · exact askLink_good hs
  · exact hs

theorem execReplayTimer_good {p : Fin 2} (hs : s.Good pq) : OutGood pq (execReplayTimer p s) := by
  unfold execReplayTimer
  split
  · split
    · exact outGood_next (replayFrom_good (countUp_good hs))
    · exact outGood_next hs
  · exact outGood_next hs

theorem execCreditPeriodic_good {p : Fin 2} (hs : s.Good pq) : OutGood pq (execCreditPeriodic p s) := by
  unfold execCreditPeriodic
  refine outGood_next ?_
  split
  · exact askLink_good hs
  · exact hs

theorem execPacketTransmit_good {p : Fin 2} (hs : s.Good pq) : OutGood pq (execPacketTransmit p s) := by
  unfold execPacketTransmit
  refine outGood_next ?_
  split
  · exact transmit_good hs
  · exact hs

theorem execEnumBusyTimeout_good (hs : s.Good pq) : OutGood pq (execEnumBusyTimeout s) := by
  unfold execEnumBusyTimeout
  exact outGood_next (setFlag_good hs)

theorem State.txMove_good {p : Nat} {ui : Nat} (hs : s.Good pq) : Good pq (txMove s p ui) := by
  unfold txMove
  dsimp only
  split
  · exact setPort_good hs
  · split
    · exact handshake_good (setPort_good hs)
    · exact setPort_good hs

theorem State.blockEnd_good {p : Nat} (hs : s.Good pq) : Good pq (blockEnd s p) := by
  unfold blockEnd
  dsimp only
  split
  · exact enterTest_good (setPort_good hs)
  · exact setPort_good hs

theorem State.checkBits_good {p : Nat} {n : Nat} (hs : s.Good pq) : Good pq (checkBits s p n) := by
  unfold checkBits
  split
  · exact setFlag_good hs
  · dsimp only
    exact countUp_good (draw_good (setFlag_good (draw_good hs)))

theorem State.testTick_good {p : Nat} (hs : s.Good pq) : Good pq (testTick s p) := by
  unfold testTick
  split
  · exact hs
  · dsimp only
    split
    · exact checkBits_good (setPort_good hs)
    · exact setPort_good hs

theorem State.txPlace_good {p : Nat} {ui : Nat} (hs : s.Good pq) : Good pq (txPlace s p ui) := by
  unfold txPlace
  split
  · exact hs
  · exact setPort_good hs

theorem State.portTick_good {p : Nat} (hs : s.Good pq) : Good pq (portTick s p) := by
  unfold portTick
  dsimp only
  split
  · exact hs
  · split
    · exact testTick_good hs
    · split
      · exact txMove_good (setPort_good hs)
      · exact txPlace_good (blockEnd_good (txMove_good (setPort_good hs)))

end Sys2Proof.Machine
end

