-- ==== Sys2Proof/Laws/GoodPanel.lean ====
section
/-! SUPPORT. Good states kept by the pixel pipeline, the slots, the governor, columns and gates. -/

namespace Sys2Proof.Machine

open State

variable {pq : List Instr} {s : State}

theorem State.toTick_good {t : Nat} (hs : s.Good pq) : Good pq (toTick s t) := by
  unfold toTick
  split
  · exact reachPos_good hs
  · exact reachPos_good hs

theorem State.strayIn_good {owner : Nat} {line : Nat} {slots : List Nat} (hs : s.Good pq) : Good pq (strayIn s owner line slots) := by
  unfold strayIn
  split
  · exact hs
  · split
    · exact hs
    · dsimp only
      refine countUp_good ?_
      refine good_mk ?_
      dsimp only
      exact good_of hs

theorem State.strayAct_good {owner : Nat} {line : Nat} {tick : Nat} (hs : s.Good pq) : Good pq (strayAct s owner line tick) := by
  unfold strayAct
  exact strayIn_good hs

theorem State.useSlot_good {c : Nat} {line : Nat} {slot : Nat} (hs : s.Good pq) : Good pq (useSlot s c line slot) := by
  unfold useSlot
  refine good_mk ?_
  dsimp only
  exact good_of hs

theorem State.latchUsed_good (hs : s.Good pq) : Good pq (latchUsed s) := by
  unfold latchUsed
  dsimp only
  refine good_mk ?_
  dsimp only
  exact good_of (foldl_good (fun y00 y01 y02 => setReg_good y02) hs)

theorem State.ratQuot_good {n : ℚ} {d : ℚ} (hs : s.Good pq) : Good pq (ratQuot s n d).2 := by
  unfold ratQuot
  split
  · split
    dsimp only
    exact good_of_pair ‹_› (draw_good hs)
  · dsimp only
    exact hs

theorem State.govBase_good {i : GovIn} {iWant : Nat} {iFloor : Nat} (hs : s.Good pq) : Good pq (govBase s i iWant iFloor).2 := by
  unfold govBase
  dsimp only
  exact ratQuot_good (ratQuot_good hs)

theorem State.evaluate_good {i : GovIn} {iWant : Nat} {iFloor : Nat} (hs : s.Good pq) : Good pq (evaluate s i iWant iFloor) := by
  unfold evaluate
  split
  dsimp only
  refine good_mk ?_
  dsimp only
  exact good_of (roundOpen_good (good_of_pair ‹_› (govBase_good hs)))

theorem State.govLatch_good {r : GovResult} (hs : s.Good pq) : Good pq (govLatch s r) := by
  unfold govLatch
  split
  split
  split
  split
  split
  dsimp only
  split
  · split
    · refine countUp_good ?_
      refine good_mk ?_
      dsimp only
      exact good_of (setFld_good (foldl_good (fun y00 y01 y02 => setFld_good y02) (setReg_good (setReg_good (setReg_good (setReg_good (setReg_good (setReg_good (good_of_pair ‹_› (quot_good (good_of_pair ‹_› (quot_good (good_of_pair ‹_› (roundOpen_good (good_of_pair ‹_› (roundOpen_good (good_of_pair ‹_› (roundOpen_good hs))))))))))))))))))
    · refine event_good ?_
      refine countUp_good ?_
      refine good_mk ?_
      dsimp only
      exact good_of (setFld_good (foldl_good (fun y00 y01 y02 => setFld_good y02) (setReg_good (setReg_good (setReg_good (setReg_good (setReg_good (setReg_good (good_of_pair ‹_› (quot_good (good_of_pair ‹_› (quot_good (good_of_pair ‹_› (roundOpen_good (good_of_pair ‹_› (roundOpen_good (good_of_pair ‹_› (roundOpen_good hs))))))))))))))))))
  · refine good_mk ?_
    dsimp only
    exact good_of (setFld_good (foldl_good (fun y00 y01 y02 => setFld_good y02) (setReg_good (setReg_good (setReg_good (setReg_good (setReg_good (setReg_good (good_of_pair ‹_› (quot_good (good_of_pair ‹_› (quot_good (good_of_pair ‹_› (roundOpen_good (good_of_pair ‹_› (roundOpen_good (good_of_pair ‹_› (roundOpen_good hs))))))))))))))))))

theorem State.levelStart_good (hs : s.Good pq) : Good pq (levelStart s) := by
  unfold levelStart
  split
  · exact hs
  · split
    · exact hs
    · dsimp only
      split
      · refine good_mk ?_
        dsimp only
        exact good_of (setFlag_good (setFlag_good hs))
      · exact setFlag_good (setFlag_good hs)

theorem execLevelChangeDone_good (hs : s.Good pq) : OutGood pq (execLevelChangeDone s) := by
  unfold execLevelChangeDone
  split
  · exact outGood_next (setFlag_good (setFld_good hs))
  · exact outGood_next hs

theorem State.govDebt_good {energy : Nat} {dur : ℚ} (hs : s.Good pq) : Good pq (govDebt s energy dur) := by
  unfold govDebt
  dsimp only
  refine setFld_good ?_
  refine good_mk ?_
  dsimp only
  exact good_of (roundOpen_good hs)

theorem State.govFrame_good {dur : ℚ} (hs : s.Good pq) : Good pq (govFrame s dur) := by
  unfold govFrame
  dsimp only
  refine good_mk ?_
  dsimp only
  exact good_of hs

theorem execGovBudgetWrite_good {v : Word} (hs : s.Good pq) : OutGood pq (execGovBudgetWrite v s) := by
  unfold execGovBudgetWrite
  dsimp only
  split
  · exact outGood_next (setFld_good hs)
  · exact outGood_next (setFlag_good hs)

theorem execGovManualWrite_good {v : Word} (hs : s.Good pq) : OutGood pq (execGovManualWrite v s) := by
  unfold execGovManualWrite
  split
  · split
    · exact outGood_next (setFlag_good hs)
    · exact outGood_next (setFlag_good hs)
  · exact outGood_next (setFlag_good hs)

theorem State.setCl_good {l : Nat} {x : ColLane} (hs : s.Good pq) : Good pq (setCl s l x) := by
  unfold setCl
  refine good_mk ?_
  dsimp only
  exact good_of hs

theorem State.mapCl_good {f : Nat → ColLane → ColLane} (hs : s.Good pq) : Good pq (mapCl s f) := by
  unfold mapCl
  refine good_mk ?_
  dsimp only
  exact good_of hs

theorem State.colHandOver_good {holdRate : Bool} (hs : s.Good pq) : Good pq (colHandOver s holdRate).2 := by
  unfold colHandOver
  dsimp only
  split
  · dsimp only
    exact setFld_good (setFlag_good hs)
  · dsimp only
    refine good_mk ?_
    dsimp only
    exact good_of (setReg_good (setReg_good (mapCl_good (handOverAll_good hs))))

theorem State.colFits_good (hs : s.Good pq) : Good pq (colFits s) := by
  unfold colFits
  dsimp only
  split
  · refine good_mk ?_
    dsimp only
    exact good_of hs
  · refine setFld_good ?_
    refine setFlag_good ?_
    refine good_mk ?_
    dsimp only
    exact good_of hs

theorem State.colTrain0_good (hs : s.Good pq) : Good pq (colTrain0 s) := by
  unfold colTrain0
  dsimp only
  split
  · split
    · exact countUp_good (setReg_good hs)
    · exact setFlag_good (countUp_good (setReg_good hs))
  · refine setReg_good ?_
    split
    · exact countUp_good (setReg_good hs)
    · exact setFlag_good (countUp_good (setReg_good hs))

theorem State.colOverflow_good (hs : s.Good pq) : Good pq (colOverflow s) := by
  unfold colOverflow
  dsimp only
  split
  · exact setFlag_good (setReg_good hs)
  · exact setReg_good hs

theorem State.colConfigure_good {hold : Bool} (hs : s.Good pq) : Good pq (colConfigure s hold) := by
  unfold colConfigure
  dsimp only
  split
  · exact mapCl_good hs
  · exact strayAct_good (mapCl_good hs)

theorem State.colLine0_good {scan : Bool} (hs : s.Good pq) : Good pq (colLine0 s scan) := by
  unfold colLine0
  split
  · exact hs
  · dsimp only
    refine good_mk ?_
    dsimp only
    exact good_of (colConfigure_good (colOverflow_good (colTrain0_good hs)))

theorem State.sendLine_good {y : Nat} {phase : Nat} {px : List Px} (hs : s.Good pq) : Good pq (sendLine s y phase px) := by
  unfold sendLine
  dsimp only
  exact mapCl_good hs

theorem State.laneReturns_good {l : Nat} (hs : s.Good pq) : Good pq (laneReturns s l) := by
  unfold laneReturns
  dsimp only
  exact event_good (setReg_good (setReg_good (setCl_good hs)))

theorem State.columnReply_good {l : Nat} {bs : Option (List Byte)} (hs : s.Good pq) : Good pq (columnReply s l bs).2 := by
  unfold columnReply
  dsimp only
  split
  · split
    · dsimp only
      split
      · refine laneReturns_good ?_
        refine setCl_good ?_
        refine countUp_good ?_
        split
        · exact countUp_good (setReg_good hs)
        · exact setReg_good hs
      · refine setCl_good ?_
        refine countUp_good ?_
        split
        · exact countUp_good (setReg_good hs)
        · exact setReg_good hs
    · dsimp only
      exact countUp_good (setCl_good hs)
  · dsimp only
    exact countUp_good (setCl_good hs)

theorem State.markLane_good {l : Nat} (hs : s.Good pq) : Good pq (markLane s l) := by
  unfold markLane
  dsimp only
  split
  · split
    · exact setCl_good hs
    · exact setCl_good hs
  · split
    · exact setCl_good hs
    · split
      · split
        · exact eventLogged_good (setFlag_good (setReg_good (setReg_good (setCl_good hs))))
        · exact setCl_good hs
      · exact setCl_good hs

theorem execBackChannelSync_good (hs : s.Good pq) : OutGood pq (execBackChannelSync s) := by
  unfold execBackChannelSync
  split
  · dsimp only
    refine outGood_next ?_
    refine good_mk ?_
    dsimp only
    exact good_of (foldl_good (fun y00 y01 y02 => setFlag_good y02) (reachPos_good hs))
  · exact outGood_next hs

theorem execLaneRetrainMark_good (hs : s.Good pq) : OutGood pq (execLaneRetrainMark s) := by
  unfold execLaneRetrainMark
  split
  · exact outGood_next (foldl_good (fun y00 y01 y02 => markLane_good y02) (reachPos_good hs))
  · exact outGood_next hs

theorem State.rollSend_good (hs : s.Good pq) : Good pq (rollSend s) := by
  unfold rollSend
  dsimp only
  refine good_mk ?_
  dsimp only
  exact good_of (mapCl_good hs)

theorem State.rollCall_good {locked : Word} (hs : s.Good pq) : Good pq (rollCall s locked) := by
  unfold rollCall
  dsimp only
  split
  · refine good_mk ?_
    dsimp only
    refine good_of ?_
    refine setFlag_good ?_
    refine good_mk ?_
    dsimp only
    exact good_of (setReg_good (setReg_good hs))
  · split
    · refine good_mk ?_
      dsimp only
      refine good_of ?_
      refine setFlag_good ?_
      refine setReg_good ?_
      refine foldl_good (fun y00 y01 y02 => eventLogged_good (setFlag_good (setReg_good (setCl_good y02)))) ?_
      refine good_mk ?_
      dsimp only
      exact good_of (setReg_good (setReg_good hs))
    · refine good_mk ?_
      dsimp only
      exact good_of (setReg_good (setReg_good hs))

theorem execRollCall_good {locked : Word} (hs : s.Good pq) : OutGood pq (execRollCall locked s) := by
  unfold execRollCall
  split
  · exact outGood_next hs
  · split
    · exact outGood_next (rollCall_good (rollSend_good hs))
    · split
      · dsimp only
        refine outGood_next ?_
        refine good_mk ?_
        dsimp only
        exact good_of (setReg_good (mapCl_good (setReg_good (setReg_good (rollSend_good hs)))))
      · exact outGood_next hs

theorem State.setGate_good {g : Gate} (hs : s.Good pq) : Good pq (setGate s g) := by
  unfold setGate
  refine good_mk ?_
  dsimp only
  exact good_of hs

theorem State.gLow_good (hs : s.Good pq) : Good pq (gLow s) := by
  unfold gLow
  exact setFld_good hs

theorem State.gStop_good (hs : s.Good pq) : Good pq (gStop s) := by
  unfold gStop
  exact setFlag_good (gLow_good hs)

theorem State.gAt_good {line : Nat} {tick : Nat} (hs : s.Good pq) : Good pq (gAt s line tick) := by
  unfold gAt
  dsimp only
  refine reachPos_good ?_
  split
  · split
    · exact countUp_good (setFlag_good (setGate_good hs))
    · exact setGate_good hs
  · split
    · exact countUp_good (setFlag_good (setGate_good hs))
    · exact setGate_good hs

theorem State.gGoto_good {pc : Nat} (hs : s.Good pq) : Good pq (gGoto s pc) := by
  unfold gGoto
  split
  · exact setFld_good (gStop_good (setGate_good hs))
  · exact setFld_good hs

theorem State.gNext_good (hs : s.Good pq) : Good pq (gNext s) := by
  unfold gNext
  exact gGoto_good hs

theorem State.gAct_good {now : Bool} {t : Nat} (hs : s.Good pq) : Good pq (gAct s now t) := by
  unfold gAct
  dsimp only
  exact strayAct_good (gAt_good hs)

theorem execGateEnd_good (hs : s.Good pq) : OutGood pq (execGateEnd s) := by
  unfold execGateEnd
  split
  · exact outGood_next hs
  · dsimp only
    exact outGood_next (gStop_good (setGate_good (gAt_good hs)))

theorem execGateWaitLine_good (hs : s.Good pq) : OutGood pq (execGateWaitLine s) := by
  unfold execGateWaitLine
  split
  · exact outGood_next hs
  · dsimp only
    split
    · exact outGood_next hs
    · split
      · exact outGood_next (gNext_good (gAt_good hs))
      · refine outGood_next ?_
        refine gNext_good ?_
        split
        · exact gAt_good hs
        · exact countUp_good (setFlag_good (gAt_good hs))

theorem execGateWaitTick_good (hs : s.Good pq) : OutGood pq (execGateWaitTick s) := by
  unfold execGateWaitTick
  split
  · exact outGood_next hs
  · dsimp only
    refine outGood_next ?_
    split
    · exact gNext_good (gAt_good hs)
    · exact hs

theorem execGateOut_good (hs : s.Good pq) : OutGood pq (execGateOut s) := by
  unfold execGateOut
  split
  · exact outGood_next hs
  · split
    · exact outGood_next hs
    · dsimp only
      exact outGood_next (gNext_good (setFld_good (gAct_good hs)))

theorem execGateClk_good (hs : s.Good pq) : OutGood pq (execGateClk s) := by
  unfold execGateClk
  split
  · exact outGood_next hs
  · split
    · exact outGood_next hs
    · dsimp only
      refine outGood_next ?_
      refine gNext_good ?_
      split
      · exact setFld_good (setFld_good (gAct_good hs))
      · exact setFld_good (gAct_good hs)

theorem execGateLoop_good (hs : s.Good pq) : OutGood pq (execGateLoop s) := by
  unfold execGateLoop
  split
  · exact outGood_next hs
  · dsimp only
    exact outGood_next (gNext_good (setGate_good (gAt_good hs)))

theorem execGateNext_good (hs : s.Good pq) : OutGood pq (execGateNext s) := by
  unfold execGateNext
  split
  · exact outGood_next hs
  · dsimp only
    split
    · split
      · exact outGood_next (gGoto_good (setGate_good (gAt_good hs)))
      · exact outGood_next (gNext_good (setGate_good (gAt_good hs)))
    · exact outGood_next (gNext_good (gAt_good hs))

theorem execGateSense_good (hs : s.Good pq) : OutGood pq (execGateSense s) := by
  unfold execGateSense
  split
  · exact outGood_next hs
  · dsimp only
    exact outGood_next (gNext_good (setFlag_good (setGate_good (gAt_good hs))))

theorem execGatePhSet_good (hs : s.Good pq) : OutGood pq (execGatePhSet s) := by
  unfold execGatePhSet
  split
  · exact outGood_next hs
  · exact outGood_next (gNext_good (setFld_good (gAt_good hs)))

theorem execScanEndCrossing_good {ns : Nat} (hs : s.Good pq) : OutGood pq (execScanEndCrossing ns s) := by
  unfold execScanEndCrossing
  split
  · exact outGood_next (setGate_good hs)
  · exact outGood_next hs

theorem State.gLatch_good {f : Word} (hs : s.Good pq) : Good pq (gLatch s f) := by
  unfold gLatch
  split
  · exact hs
  · dsimp only
    split
    · split
      · exact countUp_good (setReg_good (countUp_good (setFlag_good (gStop_good hs))))
      · exact setReg_good (countUp_good (setFlag_good (gStop_good hs)))
    · split
      · exact countUp_good (setReg_good hs)
      · exact setReg_good hs

theorem State.gStart_good {scan : Bool} (hs : s.Good pq) : Good pq (gStart s scan) := by
  unfold gStart
  split
  · exact hs
  · dsimp only
    refine setFlag_good ?_
    refine setFlag_good ?_
    refine setFld_good ?_
    refine setFld_good ?_
    refine setGate_good ?_
    split
    · exact gLow_good hs
    · exact hs

end Sys2Proof.Machine
end

