-- ==== Sys2Proof/Laws/GoodLight.lean ====
section
/-! SUPPORT. Good states kept by backlight, dimming and Tightrope. -/

namespace Sys2Proof.Machine

open State

variable {pq : List Instr} {s : State}

theorem State.setBl_good {b : Carousel} (hs : s.Good pq) : Good pq (setBl s b) := by
  unfold setBl
  refine good_mk ?_
  dsimp only
  exact good_of hs

theorem State.setZone_good {z : Nat} {x : Zone} (hs : s.Good pq) : Good pq (setZone s z x) := by
  unfold setZone
  exact setBl_good hs

theorem State.takeValues_good {vals : List Nat} (hs : s.Good pq) : Good pq (takeValues s vals) := by
  unfold takeValues
  dsimp only
  split
  · exact countUp_good (setFlag_good (setBl_good (setReg_good (roundOpen_good hs))))
  · exact setBl_good (setReg_good (roundOpen_good hs))

theorem State.openRow_good {row : Nat} {vals : List Nat} (hs : s.Good pq) : Good pq (openRow s row vals) := by
  unfold openRow
  split
  · exact setBl_good hs
  · split
    dsimp only
    refine setBl_good ?_
    refine foldl_pair_good ?_ ?_
    · intro y00 y01 y02
      dsimp only
      split
      · exact countUp_good (setZone_good y02)
      · exact setZone_good y02
    · dsimp only
      refine good_of_pair (by assumption) ?_
      split
      · exact draw_good hs
      · dsimp only
        exact hs

theorem State.checkZone_good {z : Nat} {w : WinZone} {units : Nat} (hs : s.Good pq) : Good pq (checkZone s z w units) := by
  unfold checkZone
  split
  dsimp only
  split
  · exact setZone_good hs
  · exact countUp_good (setZone_good hs)

theorem State.enterZone_good {z : Nat} {st : Nat} (hs : s.Good pq) : Good pq (enterZone s z st) := by
  unfold enterZone
  dsimp only
  exact eventLogged_good (setFlag_good (setReg_good (setZone_good hs)))

theorem State.diagnose_good {z : Nat} {v : Nat} (hs : s.Good pq) : Good pq (diagnose s z v) := by
  unfold diagnose
  dsimp only
  split
  · exact setZone_good hs
  · split
    · exact enterZone_good hs
    · exact setZone_good hs

theorem State.closeRow_good {units : List (Nat × Nat)} (hs : s.Good pq) : Good pq (closeRow s units) := by
  unfold closeRow
  split
  · exact hs
  · dsimp only
    refine setBl_good ?_
    refine foldl_good ?_ ?_
    · intro y00 y01 y02
      split
      · exact diagnose_good y02
      · exact y02
    · refine foldl_good ?_ hs
      intro y00 y01 y02
      split
      · exact checkZone_good y02
      · exact y02

theorem State.boostRaise_good (hs : s.Good pq) : Good pq (boostRaise s) := by
  unfold boostRaise
  split
  · dsimp only
    exact setBl_good (countUp_good (setFld_good hs))
  · exact setBl_good hs

theorem execRowBoundary_good {units : List (Nat × Nat)} (hs : s.Good pq) : OutGood pq (execRowBoundary units s) := by
  unfold execRowBoundary
  split
  · exact outGood_next hs
  · split
    · exact outGood_next hs
    · dsimp only
      refine outGood_next ?_
      refine reachPos_good ?_
      refine openRow_good ?_
      refine setBl_good ?_
      refine good_mk ?_
      dsimp only
      exact good_of (boostRaise_good (closeRow_good (strayAct_good (strayAct_good (reachPos_good hs)))))

theorem execHeadroomSample_good {sink : Fin 192} {mv : Nat} {percent : Nat} (hs : s.Good pq) : OutGood pq (execHeadroomSample sink mv percent s) := by
  unfold execHeadroomSample
  split
  · exact outGood_next hs
  · split
    · exact outGood_next hs
    · split
      · exact outGood_next hs
      · dsimp only
        exact outGood_next (setBl_good hs)

theorem State.boostPlan_good (hs : s.Good pq) : Good pq (boostPlan s) := by
  unfold boostPlan
  split
  · exact hs
  · dsimp only
    split
    · exact setFld_good hs
    · exact setFld_good (setReg_good (quot_good (quot_good hs)))

theorem State.stageBits_good (hs : s.Good pq) : Good pq (stageBits s) := by
  unfold stageBits
  exact setFld_good (setFlag_good hs)

theorem State.gainsStart_good (hs : s.Good pq) : Good pq (gainsStart s) := by
  unfold gainsStart
  split
  · exact hs
  · dsimp only
    refine good_mk ?_
    dsimp only
    exact good_of (setReg_good (setReg_good hs))

theorem State.blRun_good (hs : s.Good pq) : Good pq (blRun s) := by
  unfold blRun
  split
  · exact hs
  · dsimp only
    split
    · exact gainsStart_good (setFlag_good hs)
    · exact setBl_good (setFlag_good (setFld_good (gainsStart_good (setFlag_good hs))))

theorem execBacklightRun_good (hs : s.Good pq) : OutGood pq (execBacklightRun s) := by
  unfold execBacklightRun
  refine outGood_next ?_
  split
  · exact blRun_good hs
  · exact stallWrite_good hs

theorem execBoostReady_good (hs : s.Good pq) : OutGood pq (execBoostReady s) := by
  unfold execBoostReady
  split
  · exact outGood_next (setBl_good (setFld_good hs))
  · exact outGood_next hs

theorem State.turnDown_good (hs : s.Good pq) : Good pq (turnDown s) := by
  unfold turnDown
  split
  · exact hs
  · exact hs
  · exact setBl_good (setFlag_good hs)
  · exact setBl_good (setFlag_good hs)
  · exact setBl_good (setFlag_good hs)
  · exact setBl_good (setFlag_good hs)

theorem State.rampDown_good (hs : s.Good pq) : Good pq (rampDown s) := by
  unfold rampDown
  exact turnDown_good (setFlag_good hs)

theorem execBacklightStop_good (hs : s.Good pq) : OutGood pq (execBacklightStop s) := by
  unfold execBacklightStop
  refine outGood_next ?_
  split
  · exact stallWrite_good hs
  · split
    · exact rampDown_good hs
    · exact hs

theorem State.blOff_good (hs : s.Good pq) : Good pq (blOff s) := by
  unfold blOff
  dsimp only
  exact setBl_good (setFld_good (setFlag_good hs))

theorem execBacklightRampDownDone_good (hs : s.Good pq) : OutGood pq (execBacklightRampDownDone s) := by
  unfold execBacklightRampDownDone
  split
  · exact outGood_next (blOff_good hs)
  · exact outGood_next hs

theorem execStageFault_good {code : Fin 8} (hs : s.Good pq) : OutGood pq (execStageFault code s) := by
  unfold execStageFault
  split
  · exact outGood_next hs
  · dsimp only
    exact outGood_next (eventLogged_good (stageBits_good (setBl_good (blOff_good hs))))

theorem execStageClr_good {fw : Bool} (hs : s.Good pq) : OutGood pq (execStageClr fw s) := by
  unfold execStageClr
  dsimp only
  split
  · split
    · exact outGood_next hs
    · split
      · exact outGood_next (blRun_good (setFlag_good (stageBits_good (setBl_good hs))))
      · exact outGood_next (stageBits_good (setBl_good hs))
  · split
    · exact outGood_next hs
    · split
      · exact outGood_next (blRun_good (setFlag_good (stageBits_good (setBl_good hs))))
      · exact outGood_next (stageBits_good (setBl_good hs))

theorem execNbrStart_good (hs : s.Good pq) : OutGood pq (execNbrStart s) := by
  unfold execNbrStart
  split
  · exact outGood_next (setBl_good (setFlag_good hs))
  · exact outGood_next hs

theorem State.nbrPair_good {p : Nat × Nat} (hs : s.Good pq) : Good pq (nbrPair s p) := by
  unfold nbrPair
  dsimp only
  exact eventLogged_good (setFlag_good (setZone_good (setZone_good hs)))

theorem State.tellNbr_good (hs : s.Good pq) : Good pq (tellNbr s) := by
  unfold tellNbr
  split
  · exact finishCmd_good hs
  · exact hs

theorem execNbrTestDone_good {pairs : List (Nat × Nat)} (hs : s.Good pq) : OutGood pq (execNbrTestDone pairs s) := by
  unfold execNbrTestDone
  split
  · exact outGood_next hs
  · dsimp only
    exact outGood_next (tellNbr_good (foldl_good (fun y00 y01 y02 => nbrPair_good y02) (setBl_good (setFlag_good hs))))

theorem State.xError_good (hs : s.Good pq) : Good pq (xError s) := by
  unfold xError
  dsimp only
  exact eventLogged_good (setBl_good (setFlag_good (countUp_good (setFlag_good hs))))

theorem execXchainCount_good {bits : Nat} (hs : s.Good pq) : OutGood pq (execXchainCount bits s) := by
  unfold execXchainCount
  split
  · exact outGood_next hs
  · dsimp only
    split
    · exact outGood_next (xError_good hs)
    · exact outGood_next (setBl_good (setFlag_good (setFld_good hs)))

theorem execXchainTransfer_good {ret : List (BitVec 64)} (hs : s.Good pq) : OutGood pq (execXchainTransfer ret s) := by
  unfold execXchainTransfer
  split
  · exact outGood_next hs
  · split
    · exact outGood_next hs
    · dsimp only
      refine outGood_next ?_
      split
      · split
        · refine setBl_good ?_
          split
          · exact reachPos_good hs
          · exact hs
        · refine xError_good ?_
          refine setBl_good ?_
          split
          · exact reachPos_good hs
          · exact hs
      · split
        · refine setBl_good ?_
          split
          · exact reachPos_good hs
          · exact hs
        · refine xError_good ?_
          refine setBl_good ?_
          split
          · exact reachPos_good hs
          · exact hs

theorem State.xFrame_good (hs : s.Good pq) : Good pq (xFrame s) := by
  unfold xFrame
  split
  · exact hs
  · split
    · exact setBl_good hs
    · dsimp only
      exact setBl_good hs

theorem State.witnessLatch_good {f : Word} {drawn : List Nat} (hs : s.Good pq) : Good pq (witnessLatch s f drawn) := by
  unfold witnessLatch
  dsimp only
  refine setBl_good ?_
  split
  · exact setFlag_good (setReg_good (setReg_good hs))
  · exact setReg_good (setReg_good hs)

theorem State.rampFrame_good (hs : s.Good pq) : Good pq (rampFrame s).2 := by
  unfold rampFrame
  dsimp only
  split
  · dsimp only
    exact setBl_good hs
  · split
    · dsimp only
      exact setBl_good (setFlag_good hs)
    · dsimp only
      exact setBl_good hs
  · dsimp only
    exact hs

theorem State.carouselFrame_good {len : Nat} {hold : Bool} (hs : s.Good pq) : Good pq (carouselFrame s len hold) := by
  unfold carouselFrame
  split
  · exact hs
  · split
    dsimp only
    refine xFrame_good ?_
    refine setBl_good ?_
    split
    · exact setFld_good (good_of_pair ‹_› (rampFrame_good hs))
    · exact good_of_pair ‹_› (rampFrame_good hs)

theorem State.clearZone_good {z : Nat} (hs : s.Good pq) : Good pq (clearZone s z) := by
  unfold clearZone
  dsimp only
  exact eventLogged_good (setReg_good (setZone_good hs))

theorem State.lightLost_good (hs : s.Good pq) : Good pq (lightLost s) := by
  unfold lightLost
  dsimp only
  refine setBl_good ?_
  refine good_mk ?_
  dsimp only
  exact good_of (resetBlk_good (resetBlk_good hs))

theorem State.countLine_good {y : Nat} {vs : List (Option Nat)} (hs : s.Good pq) : Good pq (countLine s y vs) := by
  unfold countLine
  dsimp only
  refine good_mk ?_
  dsimp only
  exact good_of hs

theorem State.ldaPartial_good (hs : s.Good pq) : Good pq (ldaPartial s).2 := by
  unfold ldaPartial
  dsimp only
  exact setReg_good (roundOpen_good (roundOpen_good hs))

theorem State.ldaDecide_good (hs : s.Good pq) : Good pq (ldaDecide s) := by
  unfold ldaDecide
  split
  · refine good_mk ?_
    dsimp only
    exact good_of hs
  · split
    dsimp only
    refine setReg_good ?_
    refine good_mk ?_
    dsimp only
    refine good_of ?_
    split
    · refine countUp_good ?_
      refine setFlag_good ?_
      split
      · exact countUp_good hs
      · exact hs
    · split
      · exact countUp_good hs
      · exact hs

theorem execZoneValuesDelivered_good (hs : s.Good pq) : OutGood pq (execZoneValuesDelivered s) := by
  unfold execZoneValuesDelivered
  split
  · exact outGood_next hs
  · dsimp only
    refine outGood_next ?_
    refine takeValues_good ?_
    refine good_mk ?_
    dsimp only
    exact good_of hs

theorem execFieldRowBuild_good (hs : s.Good pq) : OutGood pq (execFieldRowBuild s) := by
  unfold execFieldRowBuild
  split
  · split
    · refine outGood_next ?_
      refine good_mk ?_
      dsimp only
      exact good_of hs
    · exact outGood_next hs
  · exact outGood_next hs

theorem State.fieldLate_good {y : Nat} (hs : s.Good pq) : Good pq (fieldLate s y) := by
  unfold fieldLate
  split
  · exact countUp_good (setFlag_good hs)
  · exact hs

theorem State.ldaFrame_good (hs : s.Good pq) : Good pq (ldaFrame s) := by
  unfold ldaFrame
  refine good_mk ?_
  dsimp only
  exact good_of hs

theorem execPdSample_good {r : Nat} {g : Nat} {b : Nat} (hs : s.Good pq) : OutGood pq (execPdSample r g b s) := by
  unfold execPdSample
  dsimp only
  split
  · exact outGood_next hs
  · split
    · split
      · refine outGood_next ?_
        refine good_mk ?_
        dsimp only
        exact good_of (strayIn_good (reachPos_good hs))
      · split
        · exact outGood_next (countUp_good (strayIn_good (reachPos_good hs)))
        · split
          · refine outGood_next ?_
            refine countUp_good ?_
            refine good_mk ?_
            dsimp only
            exact good_of (strayIn_good (reachPos_good hs))
          · exact outGood_next (strayIn_good (reachPos_good hs))
    · split
      · refine outGood_next ?_
        refine good_mk ?_
        dsimp only
        exact good_of (strayIn_good (reachPos_good (reachPos_good hs)))
      · split
        · exact outGood_next (countUp_good (strayIn_good (reachPos_good (reachPos_good hs))))
        · split
          · refine outGood_next ?_
            refine countUp_good ?_
            refine good_mk ?_
            dsimp only
            exact good_of (strayIn_good (reachPos_good (reachPos_good hs)))
          · exact outGood_next (strayIn_good (reachPos_good (reachPos_good hs)))

theorem State.darkLatch_good (hs : s.Good pq) : Good pq (darkLatch s) := by
  unfold darkLatch
  dsimp only
  refine good_mk ?_
  dsimp only
  refine good_of ?_
  refine foldl_good (fun y00 y01 y02 => setReg_good y02) ?_
  refine foldl_pair_good ?_ ?_
  · intro y00 y01 y02
    dsimp only
    exact quot_good y02
  · dsimp only
    exact hs

theorem State.divOpen_good {n : Nat} {d : Nat} (hs : s.Good pq) : Good pq (divOpen s n d).2 := by
  unfold divOpen
  split
  · exact draw_good hs
  · dsimp only
    exact hs

theorem State.colourLoop_good (hs : s.Good pq) : Good pq (colourLoop s) := by
  unfold colourLoop
  dsimp only
  split
  · refine good_mk ?_
    dsimp only
    exact good_of hs
  · split
    · refine setFlag_good ?_
      refine countUp_good ?_
      refine setFld_good ?_
      refine good_mk ?_
      dsimp only
      exact good_of hs
    · split
      · refine event_good ?_
        refine setFlag_good ?_
        refine setFlag_good ?_
        refine setReg_good ?_
        refine setReg_good ?_
        refine setReg_good ?_
        refine divOpen_good ?_
        refine divOpen_good ?_
        refine divOpen_good ?_
        refine divOpen_good ?_
        refine setFld_good ?_
        refine good_mk ?_
        dsimp only
        exact good_of hs
      · refine setFlag_good ?_
        refine setFlag_good ?_
        refine setReg_good ?_
        refine setReg_good ?_
        refine setReg_good ?_
        refine divOpen_good ?_
        refine divOpen_good ?_
        refine divOpen_good ?_
        refine divOpen_good ?_
        refine setFld_good ?_
        refine good_mk ?_
        dsimp only
        exact good_of hs

theorem State.gainsNow_good (hs : s.Good pq) : Good pq (gainsNow s) := by
  unfold gainsNow
  split
  · split
    · exact setReg_good (setReg_good hs)
    · exact hs
  · exact setReg_good (setReg_good hs)

theorem State.opticsFrame_good {scan : Bool} (hs : s.Good pq) : Good pq (opticsFrame s scan) := by
  unfold opticsFrame
  dsimp only
  split
  · exact gainsNow_good hs
  · split
    · exact colourLoop_good (darkLatch_good (gainsNow_good hs))
    · exact darkLatch_good (gainsNow_good hs)

theorem State.setSaf_good {t : Tightrope} (hs : s.Good pq) : Good pq (setSaf s t) := by
  unfold setSaf
  refine good_mk ?_
  dsimp only
  exact good_of hs

theorem State.settleReq_good (hs : s.Good pq) : Good pq (settleReq s) := by
  unfold settleReq
  dsimp only
  exact setSaf_good hs

theorem State.ttYield_good (hs : s.Good pq) : Good pq (ttYield s) := by
  unfold ttYield
  split
  · exact hs
  · split
    · exact setCmds_good (latch_good hs)
    · split
      · exact latch_good hs
      · exact hs

theorem State.partnerReq_good {bits : Word} {excl : Bool} (hs : s.Good pq) : Good pq (partnerReq s bits excl) := by
  unfold partnerReq
  dsimp only
  exact ttYield_good (setSaf_good (setFlag_good (setFlag_good (setReg_good hs))))

theorem execSafPartnerReqWrite_good {v : Word} (hs : s.Good pq) : OutGood pq (execSafPartnerReqWrite v s) := by
  unfold execSafPartnerReqWrite
  split
  · exact outGood_next hs
  · exact outGood_next (ttYield_good (setSaf_good (setReg_good hs)))

theorem State.canDiscard_good (hs : s.Good pq) : Good pq (canDiscard s) := by
  unfold canDiscard
  exact countUp_good hs

theorem State.canTake_good {f : CanFrame} {k : Nat} {len : Nat} (hs : s.Good pq) : OptPairGood pq (canTake s f k len) := by
  unfold canTake
  split
  · exact optPairGood_none
  · split
    · refine optPairGood_some ?_
      dsimp only
      exact canDiscard_good hs
    · split
      · exact optPairGood_none
      · split
        · refine optPairGood_some ?_
          dsimp only
          exact canDiscard_good hs
        · refine optPairGood_some ?_
          dsimp only
          exact hs

theorem State.takeRequest_good {d : List Byte} (hs : s.Good pq) : Good pq (takeRequest s d) := by
  unfold takeRequest
  dsimp only
  exact partnerReq_good (setSaf_good (countUp_good hs))

theorem execTtKey_good {f : CanFrame} (hs : s.Good pq) : OutGood pq (execTtKey f s) := by
  unfold execTtKey
  split
  · exact outGood_next hs
  · exact outGood_next (good_of_optPair ‹_› (canTake_good hs))
  · dsimp only
    split
    · exact outGood_next (setFlag_good (setSaf_good (good_of_optPair ‹_› (canTake_good hs))))
    · refine outGood_next ?_
      split
      · exact eventLogged_good (countUp_good (setFlag_good (good_of_optPair ‹_› (canTake_good hs))))
      · exact countUp_good (setFlag_good (good_of_optPair ‹_› (canTake_good hs)))

theorem execMb2Cmd_good {f : CanFrame} (hs : s.Good pq) : OutGood pq (execMb2Cmd f s) := by
  unfold execMb2Cmd
  split
  · exact outGood_next hs
  · exact outGood_next (good_of_optPair ‹_› (canTake_good hs))
  · refine outGood_next ?_
    split
    · exact partnerCommand_good (good_of_optPair ‹_› (canTake_good hs))
    · exact ownRsp_good (good_of_optPair ‹_› (canTake_good hs))

theorem execTtProof_good (hs : s.Good pq) : OutGood pq (execTtProof s) := by
  unfold execTtProof
  split
  · exact outGood_next (setSaf_good hs)
  · exact outGood_next hs

theorem execMb2Rsp_good (hs : s.Good pq) : OutGood pq (execMb2Rsp s) := by
  unfold execMb2Rsp
  split
  · exact outGood_next hs
  · split
    · exact outGood_next hs
    · dsimp only
      refine outGood_next ?_
      split
      · refine consume_good ?_
        refine good_mk ?_
        dsimp only
        exact good_of hs
      · refine good_mk ?_
        dsimp only
        exact good_of hs

theorem execBusOff_good (hs : s.Good pq) : OutGood pq (execBusOff s) := by
  unfold execBusOff
  split
  · exact outGood_next hs
  · exact outGood_next (countUp_good (setFlag_good hs))

theorem execBusOffRecovery_good (hs : s.Good pq) : OutGood pq (execBusOffRecovery s) := by
  unfold execBusOffRecovery
  refine outGood_next ?_
  split
  · exact setFlag_good hs
  · exact hs

theorem execSafHoldWrite_good {v : Word} (hs : s.Good pq) : OutGood pq (execSafHoldWrite v s) := by
  unfold execSafHoldWrite
  split
  · exact outGood_next hs
  · split
    · exact outGood_next (setFlag_good hs)
    · dsimp only
      exact outGood_next (setFld_good (setFld_good hs))

theorem State.holdFrame_good (hs : s.Good pq) : Good pq (holdFrame s) := by
  unfold holdFrame
  dsimp only
  split
  · exact setFlag_good hs
  · exact setFlag_good (setFld_good hs)

theorem State.winLanes_good (hs : s.Good pq) : Good pq (winLanes s) := by
  unfold winLanes
  refine foldl_good ?_ hs
  intro y00 y01 y02
  dsimp only
  exact setReg_good y02

theorem State.takeReply_good (hs : s.Good pq) : Good pq (takeReply s) := by
  unfold takeReply
  split
  · exact hs
  · exact strayAct_good hs

theorem execColumnReply_good {lane : Fin 24} {bs : Option (List Byte)} (hs : s.Good pq) : OutGood pq (execColumnReply lane bs s) := by
  unfold execColumnReply
  dsimp only
  split
  · exact outGood_next hs
  · exact outGood_next (setSaf_good (columnReply_good (takeReply_good hs)))

theorem State.setUnproven_good {i : Nat} {v : Nat} (hs : s.Good pq) : Good pq (setUnproven s i v) := by
  unfold setUnproven
  exact setFld_good hs

theorem State.safeLatch_good {b : Bool} (hs : s.Good pq) : Good pq (safeLatch s b) := by
  unfold safeLatch
  split
  · exact hs
  · exact eventLogged_good (setFlag_good hs)

theorem State.countProof_good {req : Word} {proven : Word} {excused : Word} {i : Nat} (hs : s.Good pq) : Good pq (countProof s req proven excused i) := by
  unfold countProof
  split
  · exact setUnproven_good hs
  · split
    · exact hs
    · exact countUp_good (setUnproven_good hs)

theorem State.escalate_good {p : ProofFrame} {new : Word} {proven : Word} {w1 : Word} {w2 : Word} {w3 : Word} {scan : Bool} (hs : s.Good pq) : Good pq (escalate s p new proven w1 w2 w3 scan) := by
  unfold escalate
  split
  · exact hs
  · dsimp only
    split
    · split
      · exact safeLatch_good (postRecord_good (event_good (setReg_good (setFlag_good hs))))
      · exact postRecord_good (event_good (setReg_good (setFlag_good hs)))
    · split
      · exact safeLatch_good (postRecord_good (event_good (setReg_good (setFlag_good hs))))
      · exact postRecord_good (event_good (setReg_good (setFlag_good hs)))

theorem State.proofRun_good {p : ProofFrame} {good : Bool} {excused : Bool} (hs : s.Good pq) : Good pq (proofRun s p good excused) := by
  unfold proofRun
  dsimp only
  split
  · split
    · split
      · refine good_mk ?_
        dsimp only
        exact good_of (eventLogged_good (setFlag_good (setSaf_good hs)))
      · exact eventLogged_good (setFlag_good (setSaf_good hs))
    · split
      · refine good_mk ?_
        dsimp only
        exact good_of (setSaf_good hs)
      · exact setSaf_good hs
  · split
    · split
      · refine good_mk ?_
        dsimp only
        exact good_of (eventLogged_good (setFlag_good (setSaf_good hs)))
      · exact eventLogged_good (setFlag_good (setSaf_good hs))
    · split
      · refine good_mk ?_
        dsimp only
        exact good_of (setSaf_good hs)
      · exact setSaf_good hs

theorem State.showProof_good {bs : List Byte} {status : Nat} {w1 : Word} {w2 : Word} {w3 : Word} {excused : Word} (hs : s.Good pq) : Good pq (showProof s bs status w1 w2 w3 excused) := by
  unfold showProof
  dsimp only
  exact setReg_good (setReg_good (setReg_good (setReg_good (setReg_good (foldl_good (fun y00 y01 y02 => setReg_good y02) hs)))))

theorem State.showParts_good {lanes : List (List Nat)} (hs : s.Good pq) : Good pq (showParts s lanes) := by
  unfold showParts
  dsimp only
  exact foldl_good (fun y00 y01 y02 => setReg_good (setReg_good y02)) hs

theorem State.sendProof_good {p : ProofFrame} {bs : List Byte} {status : Nat} {excused : Word} (hs : s.Good pq) : Good pq (sendProof s p bs status excused) := by
  unfold sendProof
  dsimp only
  refine setSaf_good ?_
  split
  · split
    · exact setFlag_good (countUp_good (countUp_good (countUp_good hs)))
    · exact countUp_good (countUp_good hs)
  · split
    · exact setFlag_good (countUp_good (countUp_good (countUp_good hs)))
    · exact countUp_good (countUp_good hs)

theorem State.proofRecord_good {p : ProofFrame} (hs : s.Good pq) : Good pq (proofRecord s p) := by
  unfold proofRecord
  dsimp only
  exact sendProof_good (showParts_good (setReg_good (showProof_good (proofRun_good (escalate_good (event_good (foldl_good (fun y00 y01 y02 => countProof_good y02) hs)))))))

theorem execSafeSet_good (hs : s.Good pq) : OutGood pq (execSafeSet s) := by
  unfold execSafeSet
  refine outGood_next ?_
  split
  · exact safeLatch_good hs
  · exact hs

theorem execSafeClr_good (hs : s.Good pq) : OutGood pq (execSafeClr s) := by
  unfold execSafeClr
  refine outGood_next ?_
  split
  · exact safeLatch_good hs
  · exact hs

theorem State.absentStart_good (hs : s.Good pq) : Good pq (absentStart s) := by
  unfold absentStart
  exact setFlag_good (setFld_good (setSaf_good hs))

theorem execSafAlive_good (hs : s.Good pq) : OutGood pq (execSafAlive s) := by
  unfold execSafAlive
  split
  · exact outGood_next hs
  · exact outGood_next (setFlag_good (setSaf_good hs))

theorem State.absentFrame_good (hs : s.Good pq) : Good pq (absentFrame s) := by
  unfold absentFrame
  split
  · exact countUp_good hs
  · exact hs

theorem State.proofClose_good (hs : s.Good pq) : Good pq (proofClose s) := by
  unfold proofClose
  dsimp only
  exact setReg_good (setSaf_good hs)

theorem State.present_good (hs : s.Good pq) : Good pq (present s) := by
  unfold present
  dsimp only
  exact setReg_good (settleReq_good hs)

theorem State.proofOpen_good {hold : Bool} (hs : s.Good pq) : Good pq (proofOpen s hold) := by
  unfold proofOpen
  dsimp only
  exact setSaf_good hs

end Sys2Proof.Machine
end

