-- ==== Sys2Proof/Laws/GoodPower.lean ====
section
/-! SUPPORT. Good states kept by domains, commits, power transitions, lines and the ledger. -/

namespace Sys2Proof.Machine

open State

variable {pq : List Instr} {s : State}

theorem State.lostRegs_good {d : Domain} (hs : s.Good pq) : Good pq (lostRegs s d) := by
  unfold lostRegs
  dsimp only
  refine good_mk ?_
  dsimp only
  exact good_of (foldl_good (fun y00 y01 y02 => resetBlk_good y02) hs)

theorem State.pixLost_good (hs : s.Good pq) : Good pq (pixLost s) := by
  unfold pixLost
  dsimp only
  refine good_mk ?_
  dsimp only
  exact good_of (clearMem_good (lostRegs_good hs))

theorem State.linkLost_good (hs : s.Good pq) : Good pq (linkLost s) := by
  unfold linkLost
  dsimp only
  refine good_mk ?_
  dsimp only
  refine good_of ?_
  refine lostRegs_good ?_
  split
  · split
    · exact leaveLink_good (leaveLink_good hs)
    · exact leaveLink_good hs
  · split
    · exact leaveLink_good hs
    · exact hs

theorem State.panelLost_good (hs : s.Good pq) : Good pq (panelLost s) := by
  unfold panelLost
  dsimp only
  refine good_mk ?_
  dsimp only
  exact good_of (lostRegs_good hs)

theorem State.lightGone_good (hs : s.Good pq) : Good pq (lightGone s) := by
  unfold lightGone
  dsimp only
  refine good_mk ?_
  dsimp only
  exact good_of (lightLost_good (lostRegs_good hs))

theorem State.ctrlLost_good (hs : s.Good pq) : Good pq (ctrlLost s) := by
  unfold ctrlLost
  dsimp only
  refine good_mk ?_
  dsimp only
  exact good_of (clearMem_good (lostRegs_good hs))

theorem State.domainLost_good {d : Domain} (hs : s.Good pq) : Good pq (domainLost s d) := by
  unfold domainLost
  split
  · exact hs
  · exact ctrlLost_good hs
  · exact pixLost_good hs
  · exact linkLost_good hs
  · exact panelLost_good hs
  · exact lightGone_good hs

theorem State.domainOff_good {d : Domain} (hs : s.Good pq) : Good pq (domainOff s d) := by
  unfold domainOff
  split
  · exact hs
  · dsimp only
    exact domainLost_good (calDomainOff_good (setFlag_good (setFlag_good hs)))

theorem State.rebuildSummary_good {x0 : Nat} {x1 : State} (hx1 : x1.Good pq) : Good pq (rebuildSummary x0 x1) := by
  induction x0 generalizing x1 with
  | zero =>
    unfold rebuildSummary
    exact hx1
  | succ n ih =>
    unfold rebuildSummary
    split
    · exact ih hx1
    · dsimp only
      refine ih ?_
      split
      · exact putZoneSummary_good hx1
      · exact hx1

theorem State.restoreZones_good (hs : s.Good pq) : Good pq (restoreZones s) := by
  unfold restoreZones
  dsimp only
  refine setReg_good ?_
  refine setBl_good ?_
  split
  · exact hs
  · exact rebuildSummary_good (clearMem_good hs)

theorem State.domainOn_good {d : Domain} (hs : s.Good pq) : Good pq (domainOn s d) := by
  unfold domainOn
  split
  · exact hs
  · dsimp only
    split
    · refine setFlag_good ?_
      refine setFlag_good ?_
      refine calApply_good ?_
      refine good_mk ?_
      dsimp only
      exact good_of (setFlag_good hs)
    · refine restoreZones_good ?_
      refine stageBits_good ?_
      refine calApply_good ?_
      refine good_mk ?_
      dsimp only
      exact good_of (setFlag_good hs)
    · refine calApply_good ?_
      refine good_mk ?_
      dsimp only
      exact good_of (setFlag_good hs)
    · refine calApply_good ?_
      refine good_mk ?_
      dsimp only
      exact good_of (setFlag_good hs)
    · refine calApply_good ?_
      refine good_mk ?_
      dsimp only
      exact good_of (setFlag_good hs)
    · refine calApply_good ?_
      refine good_mk ?_
      dsimp only
      exact good_of (setFlag_good hs)

theorem State.setBias_good {b : Bias} (hs : s.Good pq) : Good pq (setBias s b) := by
  unfold setBias
  refine good_mk ?_
  dsimp only
  exact good_of hs

theorem State.biasStep_good {n : Nat} (hs : s.Good pq) : Good pq (biasStep s n) := by
  unfold biasStep
  exact setFld_good hs

theorem State.allOn_good {b : Bool} (hs : s.Good pq) : Good pq (allOn s b) := by
  unfold allOn
  exact setFlag_good hs

theorem State.colBringUp_good (hs : s.Good pq) : Good pq (colBringUp s) := by
  unfold colBringUp
  dsimp only
  refine good_mk ?_
  dsimp only
  exact good_of (setReg_good (setReg_good (setReg_good (setFlag_good (setFlag_good hs)))))

theorem State.colStop_good (hs : s.Good pq) : Good pq (colStop s) := by
  unfold colStop
  dsimp only
  refine good_mk ?_
  dsimp only
  exact good_of (setReg_good (setReg_good (setFlag_good (setFlag_good hs))))

theorem State.downBegin_good {n : Nat} (hs : s.Good pq) : Good pq (downBegin s n) := by
  unfold downBegin
  dsimp only
  refine biasStep_good ?_
  split
  · exact allOn_good hs
  · split
    · exact allOn_good hs
    · exact hs

theorem State.biasDownStart_good (hs : s.Good pq) : Good pq (biasDownStart s) := by
  unfold biasDownStart
  exact downBegin_good (setFlag_good (setFlag_good hs))

theorem State.biasUpStart_good (hs : s.Good pq) : Good pq (biasUpStart s) := by
  unfold biasUpStart
  exact biasStep_good (setFlag_good hs)

theorem State.biasUp_good (hs : s.Good pq) : Good pq (biasUp s) := by
  unfold biasUp
  dsimp only
  split
  · exact setBias_good (setFlag_good hs)
  · split
    · exact setBias_good (setFlag_good hs)
    · split
      · exact setFlag_good hs
      · exact biasUpStart_good (setFlag_good hs)

theorem State.biasDown_good (hs : s.Good pq) : Good pq (biasDown s) := by
  unfold biasDown
  dsimp only
  split
  · exact setBias_good (setFlag_good hs)
  · split
    · exact setBias_good (setFlag_good hs)
    · exact biasDownStart_good (setFlag_good hs)

theorem State.tellPanel_good {up : Bool} (hs : s.Good pq) : Good pq (tellPanel s up) := by
  unfold tellPanel
  refine foldl_good ?_ hs
  intro y00 y01 y02
  split
  · exact finishCmd_good y02
  · exact y02

theorem State.biasUpDone_good (hs : s.Good pq) : Good pq (biasUpDone s) := by
  unfold biasUpDone
  exact tellPanel_good (biasStep_good (setFlag_good hs))

theorem State.upStepDone_good (hs : s.Good pq) : Good pq (upStepDone s) := by
  unfold upStepDone
  dsimp only
  split
  · split
    · exact biasDownStart_good (setBias_good (biasStep_good (colBringUp_good (setBias_good hs))))
    · exact biasStep_good (colBringUp_good (setBias_good hs))
  · split
    · exact biasDownStart_good (setBias_good (biasStep_good (setBias_good hs)))
    · exact biasStep_good (setBias_good hs)
  · split
    · exact biasDownStart_good (setBias_good (biasStep_good (setBias_good hs)))
    · exact biasStep_good (setBias_good hs)
  · split
    · exact biasDownStart_good (setBias_good (biasStep_good (setFlag_good (allOn_good (setFld_good (setBias_good hs))))))
    · exact biasStep_good (setFlag_good (allOn_good (setFld_good (setBias_good hs))))
  · split
    · exact biasDownStart_good (setBias_good (biasStep_good (allOn_good hs)))
    · exact biasStep_good (allOn_good hs)
  · split
    · split
      · exact biasDownStart_good (setBias_good (biasUpDone_good (setBias_good hs)))
      · exact biasUpDone_good (setBias_good hs)
    · split
      · exact biasDownStart_good (setBias_good (biasStep_good (setBias_good hs)))
      · exact biasStep_good (setBias_good hs)
  · split
    · split
      · exact biasDownStart_good (setBias_good (biasUpDone_good hs))
      · exact biasUpDone_good hs
    · split
      · exact biasDownStart_good (setBias_good hs)
      · exact hs
  · split
    · exact biasDownStart_good (setBias_good hs)
    · exact hs

theorem State.downDone_good (hs : s.Good pq) : Good pq (downDone s) := by
  unfold downDone
  dsimp only
  split
  · exact tellPanel_good (domainOff_good (biasStep_good hs))
  · split
    · exact biasUpStart_good (setBias_good (biasStep_good hs))
    · exact tellPanel_good (biasStep_good hs)

theorem State.downStepDone_good (hs : s.Good pq) : Good pq (downStepDone s) := by
  unfold downStepDone
  dsimp only
  split
  · exact downBegin_good (gStop_good hs)
  · exact downBegin_good hs
  · exact downBegin_good (setBias_good hs)
  · exact downBegin_good (setBias_good hs)
  · exact downBegin_good (setBias_good hs)
  · exact downBegin_good (setBias_good hs)
  · exact downBegin_good (colStop_good (setBias_good hs))
  · exact downDone_good hs
  · exact hs

theorem execBiasPowerUp_good (hs : s.Good pq) : OutGood pq (execBiasPowerUp s) := by
  unfold execBiasPowerUp
  refine outGood_next ?_
  split
  · exact biasUp_good hs
  · exact stallWrite_good hs

theorem execBiasPowerDown_good (hs : s.Good pq) : OutGood pq (execBiasPowerDown s) := by
  unfold execBiasPowerDown
  refine outGood_next ?_
  split
  · exact biasDown_good hs
  · exact stallWrite_good hs

theorem execBiasStepDone_good {m0 : Word} {m1 : Word} {m2 : Word} (hs : s.Good pq) : OutGood pq (execBiasStepDone m0 m1 m2 s) := by
  unfold execBiasStepDone
  split
  · exact outGood_next hs
  · dsimp only
    refine outGood_next ?_
    split
    · exact upStepDone_good (setReg_good (setReg_good (setReg_good hs)))
    · exact downStepDone_good (setReg_good (setReg_good (setReg_good hs)))

theorem State.powerOff_good {d : Domain} (hs : s.Good pq) : Good pq (powerOff s d) := by
  unfold powerOff
  split
  · refine biasDown_good ?_
    refine good_mk ?_
    dsimp only
    exact good_of hs
  · exact domainOff_good hs

theorem State.demandMode_good {m : Mode} (hs : s.Good pq) : Good pq (demandMode s m) := by
  unfold demandMode
  refine foldl_good ?_ hs
  intro y00 y01 y02
  split
  · exact setFlag_good y02
  · split
    · exact y02
    · exact powerOff_good y02

theorem execIdleOffTimeout_good {d : Domain} (hs : s.Good pq) : OutGood pq (execIdleOffTimeout d s) := by
  unfold execIdleOffTimeout
  split
  · exact outGood_next (powerOff_good hs)
  · exact outGood_next hs

theorem State.enterMode_good {m : Mode} {row : Nat} (hs : s.Good pq) : Good pq (enterMode s m row) := by
  unfold enterMode
  dsimp only
  refine event_good ?_
  split
  · refine setFlag_good ?_
    refine demandMode_good ?_
    refine good_mk ?_
    dsimp only
    exact good_of hs
  · refine demandMode_good ?_
    refine good_mk ?_
    dsimp only
    exact good_of hs

theorem State.levelP0_good (hs : s.Good pq) : Good pq (levelP0 s) := by
  unfold levelP0
  exact setFlag_good (setFlag_good (setFld_good (setFld_good hs)))

theorem State.panelFault_good (hs : s.Good pq) : Good pq (panelFault s) := by
  unfold panelFault
  dsimp only
  split
  · refine good_mk ?_
    dsimp only
    exact good_of (levelP0_good (setFlag_good (domainOff_good (domainOff_good hs))))
  · refine enterMode_good ?_
    refine good_mk ?_
    dsimp only
    exact good_of (levelP0_good (setFlag_good (domainOff_good (domainOff_good hs))))

theorem execRailFault_good {rail : Fin 8} (hs : s.Good pq) : OutGood pq (execRailFault rail s) := by
  unfold execRailFault
  split
  · exact outGood_next hs
  · dsimp only
    split
    · exact outGood_next (eventLogged_good hs)
    · exact outGood_next (panelFault_good (biasDownStart_good (eventLogged_good (setFld_good (setFlag_good hs)))))

theorem execVddPlOverload_good {conn : Fin 2} (hs : s.Good pq) : OutGood pq (execVddPlOverload conn s) := by
  unfold execVddPlOverload
  dsimp only
  split
  · split
    · exact outGood_next hs
    · refine outGood_next ?_
      refine panelFault_good ?_
      split
      · exact eventLogged_good (setBias_good hs)
      · exact biasDownStart_good (eventLogged_good (setBias_good hs))
  · split
    · exact outGood_next hs
    · refine outGood_next ?_
      refine panelFault_good ?_
      split
      · exact eventLogged_good (setBias_good hs)
      · exact biasDownStart_good (eventLogged_good (setBias_good hs))

theorem State.relay_good (hs : s.Good pq) : Good pq (relay s) := by
  unfold relay
  dsimp only
  refine good_mk ?_
  dsimp only
  exact good_of hs

theorem State.timingHandOver_good (hs : s.Good pq) : Good pq (timingHandOver s).2.2 := by
  unfold timingHandOver
  dsimp only
  split
  · dsimp only
    exact setFld_good (setFlag_good hs)
  · dsimp only
    split
    · refine relay_good ?_
      refine good_mk ?_
      dsimp only
      exact good_of (handOverAll_good hs)
    · refine good_mk ?_
      dsimp only
      exact good_of (handOverAll_good hs)

theorem State.tableRefused_good {b : Blk} {code : Nat} (hs : s.Good pq) : Good pq (tableRefused s b code) := by
  unfold tableRefused
  split
  · exact setFld_good (setFlag_good hs)
  · exact setFld_good (setFlag_good hs)
  · exact setFld_good (setFlag_good hs)
  · exact setFld_good (setFlag_good hs)
  · exact setFld_good (setFlag_good hs)
  · exact hs

theorem State.applySet_good {c : Commit} (hs : s.Good pq) : Good pq (applySet s c) := by
  unfold applySet
  split
  · refine good_mk ?_
    dsimp only
    exact good_of hs
  · split
    · dsimp only
      refine good_mk ?_
      dsimp only
      exact good_of (setFld_good hs)
    · exact hs
  · split
    · dsimp only
      refine good_mk ?_
      dsimp only
      exact good_of (setFld_good hs)
    · exact hs
  · dsimp only
    split
    · refine good_mk ?_
      dsimp only
      exact good_of (setFld_good (setReg_good (setReg_good hs)))
    · refine good_mk ?_
      dsimp only
      exact good_of hs
  · dsimp only
    split
    · refine setFlag_good ?_
      refine good_mk ?_
      dsimp only
      exact good_of (setFld_good hs)
    · refine good_mk ?_
      dsimp only
      exact good_of (setFld_good hs)
  · exact hs

theorem State.handOverSet_good {c : Commit} (hs : s.Good pq) : Good pq (handOverSet s c).2.2 := by
  unfold handOverSet
  dsimp only
  split
  · exact timingHandOver_good hs
  · split
    · dsimp only
      exact setFld_good (setFlag_good hs)
    · dsimp only
      exact applySet_good (handOverAll_good hs)
  · split
    · dsimp only
      exact setFlag_good hs
    · dsimp only
      exact applySet_good (handOverAll_good hs)
  · split
    · dsimp only
      exact setFlag_good hs
    · dsimp only
      exact applySet_good (handOverAll_good hs)
  · split
    · dsimp only
      exact setFlag_good hs
    · dsimp only
      exact applySet_good (handOverAll_good hs)
  · split
    · dsimp only
      exact setFlag_good hs
    · dsimp only
      exact applySet_good (handOverAll_good hs)
  · split
    · dsimp only
      exact applySet_good (handOverAll_good hs)
    · dsimp only
      exact tableRefused_good hs
  · dsimp only
    exact colHandOver_good hs
  · dsimp only
    exact applySet_good (handOverAll_good hs)

theorem State.tellCommands_good {b : Blk} {priv : Bool} {ok : Bool} (hs : s.Good pq) : Good pq (tellCommands s b priv ok) := by
  unfold tellCommands
  dsimp only
  exact setCmds_good hs

theorem State.commitsDone_good (hs : s.Good pq) : Good pq (commitsDone s) := by
  unfold commitsDone
  refine foldl_good ?_ hs
  intro y00 y01 y02
  split
  · split
    · split
      · exact stepDone_good y02
      · split
        · exact finishCmd_good y02
        · exact finishCmd_good y02
    · exact y02
  · exact y02

theorem State.clearCommit_good {c : Commit} (hs : s.Good pq) : Good pq (clearCommit s c) := by
  unfold clearCommit
  dsimp only
  split
  · split
    · refine setFlag_good ?_
      refine setFlag_good ?_
      refine setFlag_good ?_
      refine good_mk ?_
      dsimp only
      exact good_of hs
    · refine setFlag_good ?_
      refine setFlag_good ?_
      refine good_mk ?_
      dsimp only
      exact good_of hs
  · refine good_mk ?_
    dsimp only
    exact good_of hs

theorem State.loadDone_good {c : Commit} {bad : Bool} (hs : s.Good pq) : Good pq (loadDone s c bad) := by
  unfold loadDone
  dsimp only
  split
  · exact tellCommands_good (tableRefused_good (clearCommit_good hs))
  · split
    · split
      · refine setFlag_good ?_
        refine good_mk ?_
        dsimp only
        exact good_of hs
      · refine good_mk ?_
        dsimp only
        exact good_of hs
    · refine good_mk ?_
      dsimp only
      exact good_of hs

theorem State.handOverCommit_good {c : Commit} (hs : s.Good pq) : Good pq (handOverCommit s c).2 := by
  unfold handOverCommit
  dsimp only
  exact tellCommands_good (handOverSet_good (clearCommit_good hs))

theorem State.handNow_good (hs : s.Good pq) : Good pq (handNow s) := by
  unfold handNow
  split
  · exact hs
  · dsimp only
    exact commitsDone_good (foldl_good (fun y00 y01 y02 => handOverCommit_good y02) hs)

theorem State.commit_good {b : Blk} {priv : Bool} {lut : Bool} (hs : s.Good pq) : Good pq (commit s b priv lut) := by
  unfold commit
  split
  · exact hs
  · split
    · exact hs
    · dsimp only
      refine handNow_good ?_
      refine good_mk ?_
      dsimp only
      refine good_of ?_
      split
      · refine setFlag_good ?_
        split
        · split
          · exact countUp_good (setReg_good (setFlag_good (setFlag_good (setFlag_good hs))))
          · exact setReg_good (setFlag_good (setFlag_good (setFlag_good hs)))
        · exact setFlag_good (setFlag_good hs)
      · split
        · split
          · exact countUp_good (setReg_good (setFlag_good (setFlag_good (setFlag_good hs))))
          · exact setReg_good (setFlag_good (setFlag_good (setFlag_good hs)))
        · exact setFlag_good (setFlag_good hs)

theorem State.commitWrite_good {b : Blk} {priv : Bool} {lut : Bool} {v : Word} (hs : s.Good pq) : Good pq (commitWrite s b priv lut v) := by
  unfold commitWrite
  split
  · exact commit_good hs
  · split
    · exact stallWrite_good hs
    · exact hs

theorem execShadowCommit_good {b : Blk} (hs : s.Good pq) : OutGood pq (execShadowCommit b s) := by
  unfold execShadowCommit
  exact outGood_next (commitWrite_good hs)

theorem execPrivilegedCommit_good {b : Blk} (hs : s.Good pq) : OutGood pq (execPrivilegedCommit b s) := by
  unfold execPrivilegedCommit
  split
  · exact outGood_next (commitWrite_good hs)
  · exact outGood_next (commitWrite_good hs)
  · exact outGood_next hs

theorem execTimingCommit_good (hs : s.Good pq) : OutGood pq (execTimingCommit s) := by
  unfold execTimingCommit
  exact outGood_next (commitWrite_good hs)

theorem execRngTableCommit_good (hs : s.Good pq) : OutGood pq (execRngTableCommit s) := by
  unfold execRngTableCommit
  exact outGood_next (commitWrite_good hs)

theorem execLutLoadCommit_good {b : Blk} (hs : s.Good pq) : OutGood pq (execLutLoadCommit b s) := by
  unfold execLutLoadCommit
  split
  · exact outGood_next (commitWrite_good hs)
  · exact outGood_next (commitWrite_good hs)
  · exact outGood_next hs

theorem execDemuraSetCommit_good (hs : s.Good pq) : OutGood pq (execDemuraSetCommit s) := by
  unfold execDemuraSetCommit
  exact outGood_next (commitWrite_good hs)

theorem execGateProgramCommit_good (hs : s.Good pq) : OutGood pq (execGateProgramCommit s) := by
  unfold execGateProgramCommit
  exact outGood_next (commitWrite_good hs)

theorem execCommitLoadDone_good {b : Blk} {bad : Bool} (hs : s.Good pq) : OutGood pq (execCommitLoadDone b bad s) := by
  unfold execCommitLoadDone
  split
  · exact outGood_next hs
  · exact outGood_next (commitsDone_good (handNow_good (loadDone_good hs)))

theorem State.setPw_good {p : Power} (hs : s.Good pq) : Good pq (setPw s p) := by
  unfold setPw
  refine good_mk ?_
  dsimp only
  exact good_of hs

theorem State.setTrans_good {t : Transition} (hs : s.Good pq) : Good pq (setTrans s t) := by
  unfold setTrans
  exact setPw_good hs

theorem State.wakeLatch_good {source : Nat} {fromD : Bool} {fromS : Bool} {entry : Bool} {t : Time × Bool} (hs : s.Good pq) : Good pq (wakeLatch s source fromD fromS entry t) := by
  unfold wakeLatch
  dsimp only
  exact setFld_good (setFld_good (wrapUp_good (setFlag_good (setFlag_good (setFlag_good (setFlag_good (setFld_good hs)))))))

theorem State.startStep1_good {source : Nat} {fromD : Bool} {fromS : Bool} {entry : Bool} {t : Time × Bool} (hs : s.Good pq) : Good pq (startStep1 s source fromD fromS entry t) := by
  unfold startStep1
  dsimp only
  exact setPw_good (setFld_good (levelP0_good (setReg_good (wakeLatch_good hs))))

theorem State.fullReset_good {causes : List Fld} {source : Nat} (hs : s.Good pq) : Good pq (fullReset s causes source) := by
  unfold fullReset
  dsimp only
  split
  · exact startStep1_good (foldl_good (fun y00 y01 y02 => setFlag_good y02) (afterReset_good hs))
  · exact setPw_good (setFld_good (foldl_good (fun y00 y01 y02 => setFlag_good y02) (afterReset_good hs)))

theorem State.dormantWake_good {source : Nat} {entry : Bool} {t : Time × Bool} (hs : s.Good pq) : Good pq (dormantWake s source entry t) := by
  unfold dormantWake
  exact startStep1_good (setFlag_good (afterReset_good hs))

theorem State.standbyWake_good {source : Nat} {entry : Bool} {t : Time × Bool} (hs : s.Good pq) : Good pq (standbyWake s source entry t) := by
  unfold standbyWake
  dsimp only
  exact setPw_good (startStep1_good hs)

theorem State.tellSleep_good {src : SleepSource} {status : Nat} {result : List Byte} (hs : s.Good pq) : Good pq (tellSleep s src status result) := by
  unfold tellSleep
  split
  · exact finishCmd_good hs
  · exact hs
  · exact hs

theorem State.restartAll_good {e : SleepEntry} {l : List Domain} (hs : s.Good pq) : Good pq (restartAll s e l) := by
  unfold restartAll
  dsimp only
  split
  · refine biasUp_good ?_
    split
    · refine good_mk ?_
      dsimp only
      refine good_of ?_
      split
      · refine foldl_good ?_ hs
        intro y00 y01 y02
        split
        · exact retrain_good y02
        · exact y02
      · exact hs
    · split
      · refine foldl_good ?_ hs
        intro y00 y01 y02
        split
        · exact retrain_good y02
        · exact y02
      · exact hs
  · split
    · refine good_mk ?_
      dsimp only
      refine good_of ?_
      split
      · refine foldl_good ?_ hs
        intro y00 y01 y02
        split
        · exact retrain_good y02
        · exact y02
      · exact hs
    · split
      · refine foldl_good ?_ hs
        intro y00 y01 y02
        split
        · exact retrain_good y02
        · exact y02
      · exact hs

theorem State.refuseSleep_good {e : SleepEntry} {d : Domain} {reason : Nat} (hs : s.Good pq) : Good pq (refuseSleep s e d reason) := by
  unfold refuseSleep
  dsimp only
  exact restartAll_good (setPw_good (eventLogged_good (countUp_good (setFld_good (setFld_good (setFld_good (setFld_good hs)))))))

theorem State.linkVotes_good {e : SleepEntry} (hs : s.Good pq) : Good pq (linkVotes s e) := by
  unfold linkVotes
  split
  · exact refuseSleep_good hs
  · split
    · dsimp only
      split
      · exact tellSleep_good (setPw_good (setTrans_good hs))
      · exact setTrans_good hs
    · exact hs
    · exact hs

theorem State.ctrlVotes_good {e : SleepEntry} (hs : s.Good pq) : Good pq (ctrlVotes s e) := by
  unfold ctrlVotes
  split
  · split
    · exact dmaSleep_good hs
    · exact hs
  · dsimp only
    split
    · exact dmaSleep_good (setPw_good (setTrans_good hs))
    · exact setTrans_good hs

theorem State.stopBegin_good {e : SleepEntry} {d : Domain} (hs : s.Good pq) : Good pq (stopBegin s e d) := by
  unfold stopBegin
  split
  · split
    · exact rampDown_good hs
    · exact hs
  · split
    · exact biasDown_good hs
    · exact hs
  · exact linkVotes_good hs
  · exact ctrlVotes_good hs
  · exact hs
  · exact hs

theorem State.voteOn_good {x0 : Nat} {x1 : State} (hx1 : x1.Good pq) : Good pq (voteOn x0 x1) := by
  induction x0 generalizing x1 with
  | zero =>
    unfold voteOn
    exact hx1
  | succ n ih =>
    unfold voteOn
    split
    · split
      · exact hx1
      · dsimp only
        split
        · exact stopBegin_good hx1
        · split
          · exact ih (setTrans_good (cancelWake_good (stopBegin_good hx1)))
          · exact stopBegin_good hx1
    · exact hx1

theorem State.acceptSleep_good {t : SleepTarget} {src : SleepSource} (hs : s.Good pq) : Good pq (acceptSleep s t src) := by
  unfold acceptSleep
  dsimp only
  exact voteOn_good (setPw_good hs)

theorem State.ctrlAgrees_good {e : SleepEntry} (hs : s.Good pq) : Good pq (ctrlAgrees s e) := by
  unfold ctrlAgrees
  dsimp only
  refine setPw_good ?_
  refine setFld_good ?_
  refine setFld_good ?_
  refine setFld_good ?_
  refine setFld_good ?_
  refine writePersist_good ?_
  refine settle_good ?_
  refine logWriteAll_good ?_
  refine foldl_good ?_ (disableAll_good (dmaSleep_good hs))
  intro y00 y01 y02
  split
  · exact endCmd_good y02
  · exact y02

theorem execDomainStopped_good {d : Domain} {stuck : Bool} (hs : s.Good pq) : OutGood pq (execDomainStopped d stuck s) := by
  unfold execDomainStopped
  split
  · split
    · exact outGood_next hs
    · split
      · exact outGood_next (refuseSleep_good hs)
      · split
        · exact outGood_next hs
        · split
          · exact outGood_next (refuseSleep_good hs)
          · split
            · exact outGood_next hs
            · dsimp only
              refine outGood_next ?_
              refine voteOn_good ?_
              refine setTrans_good ?_
              split
              · exact blOff_good hs
              · refine good_mk ?_
                dsimp only
                exact good_of hs
              · exact ctrlAgrees_good hs
              · exact hs
              · exact hs
              · exact hs
  · exact outGood_next hs

theorem State.dropSleep_good (hs : s.Good pq) : Good pq (dropSleep s) := by
  unfold dropSleep
  split
  · exact endCmd_good hs
  · exact hs

theorem State.serve_good {r : PowerReq} {entry : Bool} {t : Time × Bool} (hs : s.Good pq) : Good pq (serve s r entry t) := by
  unfold serve
  split
  · exact countUp_good hs
  · exact countUp_good hs
  · exact acceptSleep_good hs
  · exact dormantWake_good hs
  · exact standbyWake_good hs
  · exact hs

theorem State.servePending_good {entry : Bool} {t : Time × Bool} (hs : s.Good pq) : Good pq (servePending s entry t) := by
  unfold servePending
  split
  · exact hs
  · exact serve_good (setPw_good hs)

theorem State.requestSleep_good {t : SleepTarget} {src : SleepSource} (hs : s.Good pq) : Good pq (requestSleep s t src) := by
  unfold requestSleep
  split
  · dsimp only
    exact setPw_good (dropSleep_good hs)
  · split
    · exact hs
    · exact acceptSleep_good hs

theorem State.requestWake_good {source : Nat} (hs : s.Good pq) : Good pq (requestWake s source) := by
  unfold requestWake
  dsimp only
  split
  · exact serve_good hs
  · exact setPw_good (dropSleep_good hs)
  · split
    · exact setPw_good (dropSleep_good hs)
    · exact hs
  · split
    · exact setPw_good (dropSleep_good hs)
    · exact hs

theorem execVinPowerOn_good {wakeAbove : Bool} (hs : s.Good pq) : OutGood pq (execVinPowerOn wakeAbove s) := by
  unfold execVinPowerOn
  split
  · exact outGood_next hs
  · dsimp only
    refine outGood_next ?_
    split
    · exact startStep1_good (setPw_good (setFlag_good hs))
    · exact setPw_good (setPw_good (setFlag_good hs))

theorem execWakeRise_good (hs : s.Good pq) : OutGood pq (execWakeRise s) := by
  unfold execWakeRise
  split
  · exact outGood_next hs
  · dsimp only
    exact outGood_next (requestWake_good (setPw_good (setFlag_good hs)))

theorem execWakeFall_good (hs : s.Good pq) : OutGood pq (execWakeFall s) := by
  unfold execWakeFall
  split
  · exact outGood_next hs
  · dsimp only
    exact outGood_next (requestSleep_good (setFlag_good hs))

theorem execNowakeTimeout_good (hs : s.Good pq) : OutGood pq (execNowakeTimeout s) := by
  unfold execNowakeTimeout
  split
  · exact outGood_next (requestSleep_good (setPw_good hs))
  · exact outGood_next hs

theorem execSleepRestartDone_good (hs : s.Good pq) : OutGood pq (execSleepRestartDone s) := by
  unfold execSleepRestartDone
  split
  · dsimp only
    split
    · exact outGood_next (servePending_good (tellSleep_good (setPw_good hs)))
    · exact outGood_next hs
  · exact outGood_next hs

theorem execSleepRevote_good (hs : s.Good pq) : OutGood pq (execSleepRevote s) := by
  unfold execSleepRevote
  split
  · exact outGood_next hs
  · split
    · exact outGood_next hs
    · split
      · exact outGood_next (setPw_good hs)
      · exact outGood_next (acceptSleep_good hs)

theorem execSleepStateReached_good (hs : s.Good pq) : OutGood pq (execSleepStateReached s) := by
  unfold execSleepStateReached
  split
  · split
    · exact outGood_next hs
    · dsimp only
      refine outGood_next ?_
      refine servePending_good ?_
      refine enterMode_good ?_
      refine setPw_good ?_
      split
      · exact domainOff_good (domainOff_good (domainOff_good (domainOff_good (domainOff_good hs))))
      · exact setFlag_good (lockMb3_good (domainOff_good (domainOff_good (domainOff_good (domainOff_good hs)))))
  · exact outGood_next hs

theorem execVinBrownOut_good (hs : s.Good pq) : OutGood pq (execVinBrownOut s) := by
  unfold execVinBrownOut
  split
  · exact outGood_next (fullReset_good hs)
  · exact outGood_next hs

theorem execAonBrownOut_good (hs : s.Good pq) : OutGood pq (execAonBrownOut s) := by
  unfold execAonBrownOut
  split
  · exact outGood_next (fullReset_good hs)
  · exact outGood_next hs

theorem execWatchdog_good (hs : s.Good pq) : OutGood pq (execWatchdog s) := by
  unfold execWatchdog
  split
  · exact outGood_next (fullReset_good hs)
  · exact outGood_next hs

theorem execLockstepReset_good (hs : s.Good pq) : OutGood pq (execLockstepReset s) := by
  unfold execLockstepReset
  split
  · exact outGood_next hs
  · dsimp only
    exact outGood_next (absentStart_good (setPw_good (wakeLatch_good (setFlag_good hs))))

theorem execTtHoldExpiry_good (hs : s.Good pq) : OutGood pq (execTtHoldExpiry s) := by
  unfold execTtHoldExpiry
  split
  · exact outGood_next (fullReset_good hs)
  · exact outGood_next hs

theorem execSpiCsWake_good (hs : s.Good pq) : OutGood pq (execSpiCsWake s) := by
  unfold execSpiCsWake
  split
  · exact outGood_next (requestWake_good hs)
  · exact outGood_next hs

theorem execTtRequest_good {f : CanFrame} (hs : s.Good pq) : OutGood pq (execTtRequest f s) := by
  unfold execTtRequest
  dsimp only
  split
  · exact outGood_next hs
  · refine outGood_next ?_
    split
    · split
      · exact requestWake_good (takeRequest_good (good_of_optPair ‹_› (canTake_good hs)))
      · exact takeRequest_good (good_of_optPair ‹_› (canTake_good hs))
    · split
      · exact requestWake_good (good_of_optPair ‹_› (canTake_good hs))
      · exact good_of_optPair ‹_› (canTake_good hs)

theorem execThermStandbyRead_good {temp : BitVec 16} (hs : s.Good pq) : OutGood pq (execThermStandbyRead temp s) := by
  unfold execThermStandbyRead
  split
  · refine outGood_next ?_
    refine good_mk ?_
    dsimp only
    exact good_of hs
  · exact outGood_next hs

theorem State.setPipe_good {p : Pipe} (hs : s.Good pq) : Good pq (setPipe s p) := by
  unfold setPipe
  refine good_mk ?_
  dsimp only
  exact good_of hs

theorem State.weirLevel_good {p : Nat} {fill : Nat} (hs : s.Good pq) : Good pq (weirLevel s p fill) := by
  unfold weirLevel
  dsimp only
  split
  · split
    · refine countUp_good ?_
      refine good_mk ?_
      dsimp only
      exact good_of hs
    · refine good_mk ?_
      dsimp only
      exact good_of hs
  · split
    · refine countUp_good ?_
      refine good_mk ?_
      dsimp only
      exact good_of hs
    · refine good_mk ?_
      dsimp only
      exact good_of hs

theorem State.poisonTiles_good {p : Nat} {y : Nat} {bad : List Nat} (hs : s.Good pq) : Good pq (poisonTiles s p y bad) := by
  unfold poisonTiles
  dsimp only
  exact foldl_good (fun y00 y01 y02 => poison_good y02) hs

theorem State.slotLine_good {p : Nat} {y : Nat} (hs : s.Good pq) : Good pq (slotLine s p y).2 := by
  unfold slotLine
  split
  · dsimp only
    exact hs
  · dsimp only
    split
    · exact ask_good (readWords_st_good hs)
    · exact poisonTiles_good (ask_good (readWords_st_good hs))

theorem State.holdLine_good {p : Nat} {y : Nat} {px : List Px} (hs : s.Good pq) : Good pq (holdLine s p y px) := by
  unfold holdLine
  dsimp only
  exact weirLevel_good (setPipe_good hs)

theorem State.dropBypass_good {y : Nat} (hs : s.Good pq) : Good pq (dropBypass s y) := by
  unfold dropBypass
  refine good_mk ?_
  dsimp only
  exact good_of hs

theorem execWeirLineFetch_good {plane : Fin 3} {y : Nat} {ups : Upsets} {s0 : State} (hs0 : s0.Good pq) : OutGood pq (execWeirLineFetch plane y ups s0) := by
  unfold execWeirLineFetch
  dsimp only
  split
  · split
    · exact outGood_next (upset_good hs0)
    · split
      · refine outGood_next ?_
        split
        · exact dropBypass_good (holdLine_good (reachPos_good (upset_good hs0)))
        · exact reachPos_good (upset_good hs0)
      · exact outGood_next (holdLine_good (slotLine_good (reachPos_good (upset_good hs0))))
  · split
    · exact outGood_next (upset_good hs0)
    · split
      · refine outGood_next ?_
        split
        · exact dropBypass_good (holdLine_good (reachPos_good (upset_good hs0)))
        · exact reachPos_good (upset_good hs0)
      · exact outGood_next (holdLine_good (slotLine_good (reachPos_good (upset_good hs0))))

theorem State.bypassNow_good {y : Nat} (hs : s.Good pq) : Good pq (bypassNow s y).2 := by
  unfold bypassNow
  split
  · dsimp only
    exact dropBypass_good hs
  · split
    dsimp only
    exact dropBypass_good (countUp_good (setFlag_good (good_of_pair ‹_› (slotLine_good hs))))

theorem State.takeLine_good {p : Nat} {y : Nat} (hs : s.Good pq) : Good pq (takeLine s p y).2 := by
  unfold takeLine
  split
  · dsimp only
    exact hs
  · dsimp only
    split
    · dsimp only
      exact weirLevel_good (setPipe_good hs)
    · split
      · dsimp only
        exact setPipe_good (bypassNow_good (weirLevel_good (setPipe_good hs)))
      · dsimp only
        exact countUp_good (setFlag_good (weirLevel_good (setPipe_good hs)))

theorem State.iconWord_good {hit : List Nat} {cw : Nat} (hs : s.Good pq) : Good pq (iconWord s hit cw).2 := by
  unfold iconWord
  split
  · dsimp only
    exact good_of_pair ‹_› (readWord_good hs)
  · dsimp only
    exact setPipe_good (setFlag_good (good_of_pair ‹_› (readWord_good hs)))

theorem State.iconReads_good {y : Nat} (hs : s.Good pq) : Good pq (iconReads s y).2 := by
  unfold iconReads
  dsimp only
  refine foldl_pair_good ?_ ?_
  · intro y00 y01 y02
    split
    · exact y02
    · dsimp only
      exact iconWord_good y02
  · dsimp only
    exact ask_good hs

theorem State.dmrZero_good {band : Nat} {code : Nat} {seg : Nat} (hs : s.Good pq) : Good pq (dmrZero s band code seg) := by
  unfold dmrZero
  dsimp only
  split
  · exact countUp_good (setFlag_good (setReg_good hs))
  · split
    · exact countUp_good (setFlag_good (setReg_good hs))
    · exact countUp_good (countUp_good (setFlag_good (setReg_good hs)))

theorem execDemuraBandFetch_good {band : Nat} {ups : Upsets} {s' : State} (hs' : Good pq (s')) : OutGood pq (execDemuraBandFetch band ups s') := by
  unfold execDemuraBandFetch
  dsimp only
  split
  · exact outGood_next (upset_good hs')
  · split
    · exact outGood_next (upset_good hs')
    · split
      · split
        · exact outGood_next (setPipe_good (dmrZero_good (setPipe_good (readWords_st_good (ask_good (reachPos_good (upset_good hs')))))))
        · split
          · exact outGood_next (setPipe_good (dmrZero_good (readWords_st_good (ask_good (reachPos_good (upset_good hs'))))))
          · exact outGood_next (setPipe_good (readWords_st_good (ask_good (reachPos_good (upset_good hs')))))
      · split
        · exact outGood_next (setPipe_good (dmrZero_good (setPipe_good (readWords_st_good (ask_good (reachPos_good (upset_good hs')))))))
        · split
          · exact outGood_next (setPipe_good (dmrZero_good (readWords_st_good (ask_good (reachPos_good (upset_good hs'))))))
          · exact outGood_next (setPipe_good (readWords_st_good (ask_good (reachPos_good (upset_good hs')))))

theorem State.bandFor_good {y : Nat} (hs : s.Good pq) : Good pq (bandFor s y).2 := by
  unfold bandFor
  split
  · dsimp only
    exact hs
  · split
    · dsimp only
      exact hs
    · split
      · dsimp only
        exact hs
      · dsimp only
        exact setPipe_good (dmrZero_good hs)

theorem State.histWrite_good {y : Nat} {c1 : List Byte} {c3 : List Byte} {c5 : List Byte} (hs : s.Good pq) : Good pq (histWrite s y c1 c3 c5) := by
  unfold histWrite
  split
  · exact hs
  · dsimp only
    refine good_mk ?_
    dsimp only
    exact good_of (setPipe_good (countUp_good (fstWrite_good (fstWrite_good hs))))

theorem execHistoryLineFetch_good {y : Nat} {ups : Upsets} {s' : State} (hs' : Good pq (s')) : OutGood pq (execHistoryLineFetch y ups s') := by
  unfold execHistoryLineFetch
  dsimp only
  split
  · exact outGood_next (upset_good hs')
  · refine outGood_next ?_
    split
    · refine histWrite_good ?_
      refine good_mk ?_
      dsimp only
      refine good_of ?_
      refine setPipe_good ?_
      split
      · split
        · exact countUp_good (readWords_st_good (ask_good (countUp_good (readWords_st_good (ask_good (reachPos_good (upset_good hs')))))))
        · exact readWords_st_good (ask_good (countUp_good (readWords_st_good (ask_good (reachPos_good (upset_good hs'))))))
      · split
        · exact countUp_good (readWords_st_good (ask_good (readWords_st_good (ask_good (reachPos_good (upset_good hs'))))))
        · exact readWords_st_good (ask_good (readWords_st_good (ask_good (reachPos_good (upset_good hs')))))
    · refine good_mk ?_
      dsimp only
      refine good_of ?_
      refine setPipe_good ?_
      split
      · split
        · exact countUp_good (readWords_st_good (ask_good (countUp_good (readWords_st_good (ask_good (reachPos_good (upset_good hs')))))))
        · exact readWords_st_good (ask_good (countUp_good (readWords_st_good (ask_good (reachPos_good (upset_good hs'))))))
      · split
        · exact countUp_good (readWords_st_good (ask_good (readWords_st_good (ask_good (reachPos_good (upset_good hs'))))))
        · exact readWords_st_good (ask_good (readWords_st_good (ask_good (reachPos_good (upset_good hs')))))

theorem State.histFor_good {y : Nat} (hs : s.Good pq) : Good pq (histFor s y).2 := by
  unfold histFor
  split
  · dsimp only
    exact hs
  · dsimp only
    split
    · dsimp only
      exact setPipe_good hs
    · dsimp only
      exact countUp_good (setFlag_good (setPipe_good hs))

theorem execHistoryLineWrite_good {y : Nat} {c1 : List Byte} {c3 : List Byte} {c5 : List Byte} (hs : s.Good pq) : OutGood pq (execHistoryLineWrite y c1 c3 c5 s) := by
  unfold execHistoryLineWrite
  split
  · exact outGood_next hs
  · split
    · dsimp only
      refine outGood_next ?_
      refine good_mk ?_
      dsimp only
      exact good_of (countUp_good (setFlag_good hs))
    · exact outGood_next (histWrite_good hs)

theorem State.lineCodes_good {y : Nat} (hs : s.Good pq) : Good pq (lineCodes s y).2 := by
  unfold lineCodes
  split
  split
  split
  split
  dsimp only
  split
  · split
    · exact setPipe_good (countLine_good (countUp_good (histFor_good (bandFor_good (fieldLate_good (good_of_pair ‹_› (iconReads_good (good_of_pair ‹_› (takeLine_good (good_of_pair ‹_› (takeLine_good (good_of_pair ‹_› (takeLine_good hs)))))))))))))
    · exact countLine_good (countUp_good (histFor_good (bandFor_good (fieldLate_good (good_of_pair ‹_› (iconReads_good (good_of_pair ‹_› (takeLine_good (good_of_pair ‹_› (takeLine_good (good_of_pair ‹_› (takeLine_good hs))))))))))))
  · split
    · exact setPipe_good (countLine_good (countUp_good (histFor_good (bandFor_good (good_of_pair ‹_› (iconReads_good (good_of_pair ‹_› (takeLine_good (good_of_pair ‹_› (takeLine_good (good_of_pair ‹_› (takeLine_good hs))))))))))))
    · exact countLine_good (countUp_good (histFor_good (bandFor_good (good_of_pair ‹_› (iconReads_good (good_of_pair ‹_› (takeLine_good (good_of_pair ‹_› (takeLine_good (good_of_pair ‹_› (takeLine_good hs)))))))))))

theorem execColumnLineSend_good {y : Nat} {phase : Fin 2} {ups : Upsets} {s' : State} (hs' : Good pq (s')) : OutGood pq (execColumnLineSend y phase ups s') := by
  unfold execColumnLineSend
  dsimp only
  split
  · split
    · exact outGood_next (upset_good hs')
    · refine outGood_next ?_
      refine good_mk ?_
      dsimp only
      refine good_of ?_
      refine sendLine_good ?_
      split
      · dsimp only
        exact strayAct_good (reachPos_good (upset_good hs'))
      · split
        · split
          · dsimp only
            exact strayAct_good (reachPos_good (upset_good hs'))
          · dsimp only
            exact strayAct_good (reachPos_good (upset_good hs'))
        · exact lineCodes_good (strayAct_good (reachPos_good (upset_good hs')))
  · split
    · split
      · exact outGood_next (upset_good hs')
      · refine outGood_next ?_
        refine good_mk ?_
        dsimp only
        refine good_of ?_
        refine sendLine_good ?_
        split
        · dsimp only
          exact strayAct_good (reachPos_good (upset_good hs'))
        · split
          · split
            · dsimp only
              exact strayAct_good (reachPos_good (upset_good hs'))
            · dsimp only
              exact strayAct_good (reachPos_good (upset_good hs'))
          · exact lineCodes_good (strayAct_good (reachPos_good (upset_good hs')))
    · split
      · exact outGood_next (upset_good hs')
      · refine outGood_next ?_
        refine good_mk ?_
        dsimp only
        refine good_of ?_
        refine sendLine_good ?_
        split
        · dsimp only
          exact strayAct_good (reachPos_good (upset_good hs'))
        · split
          · split
            · dsimp only
              exact strayAct_good (reachPos_good (upset_good hs'))
            · dsimp only
              exact strayAct_good (reachPos_good (upset_good hs'))
          · exact lineCodes_good (strayAct_good (reachPos_good (upset_good hs')))

theorem State.ledgerScan_good {x0 : Nat} {x1 : State} (hx1 : x1.Good pq) : Good pq (ledgerScan x0 x1) := by
  induction x0 generalizing x1 with
  | zero =>
    unfold ledgerScan
    exact hx1
  | succ n ih =>
    unfold ledgerScan
    dsimp only
    split
    · refine ih ?_
      split
      · exact ledgerHeader_good hx1
      · exact ledgerHeader_good hx1
    · exact hx1

theorem State.ledgerMark_good (hs : s.Good pq) : Good pq (ledgerMark s) := by
  unfold ledgerMark
  exact postLedger_good hs

theorem State.ledgerStart_good {boot : Bool} (hs : s.Good pq) : Good pq (ledgerStart s boot) := by
  unfold ledgerStart
  dsimp only
  split
  · split
    · refine ledgerMark_good ?_
      refine good_mk ?_
      dsimp only
      exact good_of (ledgerHeader_good (ledgerScan_good hs))
    · refine event_good ?_
      refine good_mk ?_
      dsimp only
      exact good_of (ledgerHeader_good (ledgerScan_good hs))
  · split
    · refine ledgerMark_good ?_
      refine good_mk ?_
      dsimp only
      exact good_of (ledgerScan_good hs)
    · refine event_good ?_
      refine good_mk ?_
      dsimp only
      exact good_of (ledgerScan_good hs)

theorem State.ringsStart_good (hs : s.Good pq) : Good pq (ringsStart s) := by
  unfold ringsStart
  dsimp only
  refine good_mk ?_
  dsimp only
  exact good_of (resetRegs_good (foldl_good (fun y00 y01 y02 => clearMem_good y02) hs))

theorem State.enableAll_good (hs : s.Good pq) : Good pq (enableAll s) := by
  unfold enableAll
  exact enableMb_good (enableMb_good (enableMb_good (enableMb_good hs)))

theorem State.lockstepResume_good (hs : s.Good pq) : Good pq (lockstepResume s) := by
  unfold lockstepResume
  dsimp only
  refine eventLogged_good ?_
  refine foldl_good ?_ (ledgerStart_good (setPw_good hs))
  intro y00 y01 y02
  split
  · exact endCmd_good (setCmd_good y02)
  · exact y02

theorem execSafAliveWrite_good (hs : s.Good pq) : OutGood pq (execSafAliveWrite s) := by
  unfold execSafAliveWrite
  split
  · refine outGood_next ?_
    split
    · refine lockstepResume_good ?_
      refine good_of_out ?_ (by assumption)
      exact execSafAlive_good hs
    · refine good_of_out ?_ (by assumption)
      exact execSafAlive_good hs
  · exact execSafAlive_good hs

end Sys2Proof.Machine
end

