-- ==== Sys2Proof/Laws/GoodBus.lean ====
section
/-! SUPPORT. Good states kept by register accesses, Juggler and the engines. -/

namespace Sys2Proof.Machine

open State

variable {pq : List Instr} {s : State}

theorem after_good {o : Out} (ho : OutGood pq (o)) (hs : s.Good pq) : Good pq (after o s) := by
  unfold after
  split
  · exact good_of_next ‹_›
  · exact hs
  · exact hs

theorem State.copyTime_good {m : Master} (hs : s.Good pq) : Good pq (copyTime s m) := by
  unfold copyTime
  dsimp only
  split
  · refine good_mk ?_
    dsimp only
    exact good_of hs
  · refine good_mk ?_
    dsimp only
    exact good_of hs
  · refine good_mk ?_
    dsimp only
    exact good_of hs
  · refine good_mk ?_
    dsimp only
    exact good_of hs

theorem State.wake_good {d : Domain} (hs : s.Good pq) : Good pq (wake s d).2 := by
  unfold wake
  split
  dsimp only
  exact good_of_pair ‹_› (demand_good hs)

theorem State.regRead_good {m : Master} {a : Nat} (hs : s.Good pq) : Good pq (regRead s m a).2 := by
  unfold regRead
  split
  · dsimp only
    exact hs
  · split
    · exact wake_good hs
    · dsimp only
      split
      · exact copyTime_good hs
      · exact hs

theorem State.store1_good {r : RegRow} {a : Nat} {v : Word} (hs : s.Good pq) : Good pq (store1 s r a v) := by
  unfold store1
  dsimp only
  exact setReg_good hs

theorem State.plainWrite_good {a : Nat} {v : Word} (hs : s.Good pq) : Good pq (plainWrite s a v) := by
  unfold plainWrite
  split
  · exact hs
  · split
    · split
      · exact setFlag_good hs
      · exact hs
    · exact store1_good hs
  · exact store1_good hs

theorem State.commitReg_good {b : Blk} {v : Word} (hs : s.Good pq) : Good pq (commitReg s b v) := by
  unfold commitReg
  split
  · split
    · exact commit_good hs
    · exact hs
  · split
    · exact commit_good hs
    · exact hs
  · dsimp only
    split
    · refine commit_good ?_
      split
      · exact commit_good hs
      · exact hs
    · split
      · exact commit_good hs
      · exact hs
  · dsimp only
    split
    · refine commit_good ?_
      split
      · exact commit_good hs
      · exact hs
    · split
      · exact commit_good hs
      · exact hs
  · dsimp only
    split
    · refine commit_good ?_
      split
      · exact commit_good hs
      · exact hs
    · split
      · exact commit_good hs
      · exact hs
  · split
    · exact commit_good hs
    · exact hs

theorem State.rasterStart_good (hs : s.Good pq) : Good pq (rasterStart s) := by
  unfold rasterStart
  split
  · exact hs
  · split
    · dsimp only
      split
      · exact setFlag_good hs
      · refine good_mk ?_
        dsimp only
        exact good_of (setReg_good (setFlag_good hs))
    · exact setFld_good (setFlag_good hs)

theorem State.scnCtrl_good {v : Word} (hs : s.Good pq) : Good pq (scnCtrl s v) := by
  unfold scnCtrl
  dsimp only
  split
  · exact rasterStart_good (setFlag_good (setFlag_good hs))
  · exact setFlag_good (setFlag_good (setFlag_good hs))

theorem State.bldCtrl_good {v : Word} (hs : s.Good pq) : Good pq (bldCtrl s v) := by
  unfold bldCtrl
  dsimp only
  split
  · refine after_good ?_ ?_
    · refine execNbrStart_good ?_
      split
      · split
        · split
          · split
            · exact after_good (execStageClr_good (setFlag_good (setBl_good (setFlag_good hs)))) (setFlag_good (setBl_good (setFlag_good hs)))
            · exact after_good (execBacklightRun_good (after_good (execStageClr_good (setFlag_good (setBl_good (setFlag_good hs)))) (setFlag_good (setBl_good (setFlag_good hs))))) (after_good (execStageClr_good (setFlag_good (setBl_good (setFlag_good hs)))) (setFlag_good (setBl_good (setFlag_good hs))))
          · split
            · exact after_good (execStageClr_good (setFlag_good hs)) (setFlag_good hs)
            · exact after_good (execBacklightRun_good (after_good (execStageClr_good (setFlag_good hs)) (setFlag_good hs))) (after_good (execStageClr_good (setFlag_good hs)) (setFlag_good hs))
        · split
          · split
            · exact setFlag_good (setBl_good (setFlag_good hs))
            · exact after_good (execBacklightRun_good (setFlag_good (setBl_good (setFlag_good hs)))) (setFlag_good (setBl_good (setFlag_good hs)))
          · split
            · exact setFlag_good hs
            · exact after_good (execBacklightRun_good (setFlag_good hs)) (setFlag_good hs)
      · refine after_good ?_ ?_
        · refine execBacklightStop_good ?_
          split
          · refine after_good ?_ ?_
            · refine execStageClr_good ?_
              split
              · exact setFlag_good (setBl_good (setFlag_good hs))
              · exact setFlag_good hs
            · split
              · exact setFlag_good (setBl_good (setFlag_good hs))
              · exact setFlag_good hs
          · split
            · exact setFlag_good (setBl_good (setFlag_good hs))
            · exact setFlag_good hs
        · split
          · refine after_good ?_ ?_
            · refine execStageClr_good ?_
              split
              · exact setFlag_good (setBl_good (setFlag_good hs))
              · exact setFlag_good hs
            · split
              · exact setFlag_good (setBl_good (setFlag_good hs))
              · exact setFlag_good hs
          · split
            · exact setFlag_good (setBl_good (setFlag_good hs))
            · exact setFlag_good hs
    · split
      · split
        · split
          · split
            · exact after_good (execStageClr_good (setFlag_good (setBl_good (setFlag_good hs)))) (setFlag_good (setBl_good (setFlag_good hs)))
            · exact after_good (execBacklightRun_good (after_good (execStageClr_good (setFlag_good (setBl_good (setFlag_good hs)))) (setFlag_good (setBl_good (setFlag_good hs))))) (after_good (execStageClr_good (setFlag_good (setBl_good (setFlag_good hs)))) (setFlag_good (setBl_good (setFlag_good hs))))
          · split
            · exact after_good (execStageClr_good (setFlag_good hs)) (setFlag_good hs)
            · exact after_good (execBacklightRun_good (after_good (execStageClr_good (setFlag_good hs)) (setFlag_good hs))) (after_good (execStageClr_good (setFlag_good hs)) (setFlag_good hs))
        · split
          · split
            · exact setFlag_good (setBl_good (setFlag_good hs))
            · exact after_good (execBacklightRun_good (setFlag_good (setBl_good (setFlag_good hs)))) (setFlag_good (setBl_good (setFlag_good hs)))
          · split
            · exact setFlag_good hs
            · exact after_good (execBacklightRun_good (setFlag_good hs)) (setFlag_good hs)
      · refine after_good ?_ ?_
        · refine execBacklightStop_good ?_
          split
          · refine after_good ?_ ?_
            · refine execStageClr_good ?_
              split
              · exact setFlag_good (setBl_good (setFlag_good hs))
              · exact setFlag_good hs
            · split
              · exact setFlag_good (setBl_good (setFlag_good hs))
              · exact setFlag_good hs
          · split
            · exact setFlag_good (setBl_good (setFlag_good hs))
            · exact setFlag_good hs
        · split
          · refine after_good ?_ ?_
            · refine execStageClr_good ?_
              split
              · exact setFlag_good (setBl_good (setFlag_good hs))
              · exact setFlag_good hs
            · split
              · exact setFlag_good (setBl_good (setFlag_good hs))
              · exact setFlag_good hs
          · split
            · exact setFlag_good (setBl_good (setFlag_good hs))
            · exact setFlag_good hs
  · split
    · split
      · split
        · split
          · exact after_good (execStageClr_good (setFlag_good (setBl_good (setFlag_good hs)))) (setFlag_good (setBl_good (setFlag_good hs)))
          · exact after_good (execBacklightRun_good (after_good (execStageClr_good (setFlag_good (setBl_good (setFlag_good hs)))) (setFlag_good (setBl_good (setFlag_good hs))))) (after_good (execStageClr_good (setFlag_good (setBl_good (setFlag_good hs)))) (setFlag_good (setBl_good (setFlag_good hs))))
        · split
          · exact after_good (execStageClr_good (setFlag_good hs)) (setFlag_good hs)
          · exact after_good (execBacklightRun_good (after_good (execStageClr_good (setFlag_good hs)) (setFlag_good hs))) (after_good (execStageClr_good (setFlag_good hs)) (setFlag_good hs))
      · split
        · split
          · exact setFlag_good (setBl_good (setFlag_good hs))
          · exact after_good (execBacklightRun_good (setFlag_good (setBl_good (setFlag_good hs)))) (setFlag_good (setBl_good (setFlag_good hs)))
        · split
          · exact setFlag_good hs
          · exact after_good (execBacklightRun_good (setFlag_good hs)) (setFlag_good hs)
    · refine after_good ?_ ?_
      · refine execBacklightStop_good ?_
        split
        · refine after_good ?_ ?_
          · refine execStageClr_good ?_
            split
            · exact setFlag_good (setBl_good (setFlag_good hs))
            · exact setFlag_good hs
          · split
            · exact setFlag_good (setBl_good (setFlag_good hs))
            · exact setFlag_good hs
        · split
          · exact setFlag_good (setBl_good (setFlag_good hs))
          · exact setFlag_good hs
      · split
        · refine after_good ?_ ?_
          · refine execStageClr_good ?_
            split
            · exact setFlag_good (setBl_good (setFlag_good hs))
            · exact setFlag_good hs
          · split
            · exact setFlag_good (setBl_good (setFlag_good hs))
            · exact setFlag_good hs
        · split
          · exact setFlag_good (setBl_good (setFlag_good hs))
          · exact setFlag_good hs

theorem State.optCtrl_good {v : Word} (hs : s.Good pq) : Good pq (optCtrl s v) := by
  unfold optCtrl
  dsimp only
  split
  · refine setFld_good ?_
    refine good_mk ?_
    dsimp only
    exact good_of (setFlag_good hs)
  · exact setFlag_good hs

theorem State.safCtrl_good {v : Word} (hs : s.Good pq) : Good pq (safCtrl s v) := by
  unfold safCtrl
  dsimp only
  split
  · refine safeLatch_good ?_
    split
    · exact safeLatch_good (setFlag_good (setFlag_good hs))
    · exact setFlag_good (setFlag_good hs)
  · split
    · exact safeLatch_good (setFlag_good (setFlag_good hs))
    · exact setFlag_good (setFlag_good hs)

theorem State.mbxCtrl_good {v : Word} (hs : s.Good pq) : Good pq (mbxCtrl s v) := by
  unfold mbxCtrl
  dsimp only
  refine foldl_good ?_ (setFld_good hs)
  intro y00 y01 y02
  split
  · exact disableActs_good y02
  · exact y02

theorem State.springWrite_good {v : Word} (hs : s.Good pq) : Good pq (springWrite s v) := by
  unfold springWrite
  dsimp only
  split
  · refine setFlag_good ?_
    split
    · exact setFlag_good hs
    · exact hs
  · refine setFld_good ?_
    split
    · exact setFlag_good hs
    · exact hs

theorem State.snapAddr_good {v : Word} (hs : s.Good pq) : Good pq (snapAddr s v) := by
  unfold snapAddr
  exact setFlag_good (setReg_good hs)

theorem State.logPostWrite_good {k : Nat} {v : Word} (hs : s.Good pq) : Good pq (logPostWrite s k v) := by
  unfold logPostWrite
  dsimp only
  split
  · refine postFirmwarePart_good ?_
    refine good_mk ?_
    dsimp only
    exact good_of hs
  · refine good_mk ?_
    dsimp only
    exact good_of hs

theorem State.askRetrain_good {v : Word} (hs : s.Good pq) : Good pq (askRetrain s v) := by
  unfold askRetrain
  exact mapCl_good hs

theorem State.calWrite_good {a : Nat} {v : Word} (hs : s.Good pq) : Good pq (calWrite s a v) := by
  unfold calWrite
  split
  · exact after_good (execCalElementWrite_good hs) hs
  · exact plainWrite_good hs

theorem State.dmaWrite_good {a : Nat} {v : Word} (hs : s.Good pq) : Good pq (dmaWrite s a v) := by
  unfold dmaWrite
  split
  · exact chanCtrl_good hs
  · exact chanDesc_good hs
  · exact chanCount_good hs
  · exact chanAdd_good hs
  · split
    · exact queueMove_good hs
    · exact queueMove_good hs
    · exact plainWrite_good hs

theorem State.mbxWrite_good {a : Nat} {v : Word} (hs : s.Good pq) : Good pq (mbxWrite s a v) := by
  unfold mbxWrite
  split
  · exact mbxCtrl_good hs
  · split
    · exact ring_good hs
    · exact consume_good hs
    · exact plainWrite_good hs

theorem State.safWrite_good {a : Nat} {v : Word} (hs : s.Good pq) : Good pq (safWrite s a v) := by
  unfold safWrite
  split
  · exact safCtrl_good hs
  · split
    · exact after_good (execSafPartnerReqWrite_good hs) hs
    · split
      · exact ttYield_good (setReg_good hs)
      · split
        · exact after_good (execSafHoldWrite_good hs) hs
        · split
          · split
            · exact after_good (execSafAliveWrite_good hs) hs
            · exact hs
          · exact plainWrite_good hs

theorem State.pwrWrite_good {a : Nat} {v : Word} (hs : s.Good pq) : Good pq (pwrWrite s a v) := by
  unfold pwrWrite
  split
  · exact springWrite_good hs
  · split
    · exact after_good (execGovBudgetWrite_good hs) hs
    · split
      · exact after_good (execGovManualWrite_good hs) hs
      · exact plainWrite_good hs

theorem State.sysWrite_good {a : Nat} {v : Word} (hs : s.Good pq) : Good pq (sysWrite s a v) := by
  unfold sysWrite
  split
  · exact snapAddr_good hs
  · split
    · exact logPostWrite_good hs
    · exact plainWrite_good hs

theorem State.portPhy_good {p : Nat} {l : Nat} {v : Word} (hs : s.Good pq) : Good pq (portPhy s p l v) := by
  unfold portPhy
  dsimp only
  split
  · exact setFld_good (plainWrite_good hs)
  · exact plainWrite_good hs

theorem State.portWrite_good {p : Fin 2} {a : Nat} {v : Word} (hs : s.Good pq) : Good pq (portWrite s p a v) := by
  unfold portWrite
  split
  · exact portCtrl_good hs
  · split
    · exact portLoop_good hs
    · split
      · exact portPat_good hs
      · split
        · exact portPhy_good hs
        · exact plainWrite_good hs

theorem State.blkWrite_good {b : Blk} {a : Nat} {v : Word} (hs : s.Good pq) : Good pq (blkWrite s b a v) := by
  unfold blkWrite
  split
  · exact commitReg_good hs
  · split
    · exact portWrite_good hs
    · exact portWrite_good hs
    · split
      · exact scnCtrl_good hs
      · exact plainWrite_good hs
    · split
      · split
        · exact colBringUp_good hs
        · split
          · exact colStop_good hs
          · exact hs
      · split
        · exact askRetrain_good hs
        · exact plainWrite_good hs
    · split
      · dsimp only
        split
        · exact biasUp_good (setFlag_good hs)
        · exact biasDown_good (setFlag_good hs)
      · exact plainWrite_good hs
    · split
      · exact bldCtrl_good hs
      · split
        · exact setBl_good (plainWrite_good hs)
        · exact plainWrite_good hs
    · split
      · exact optCtrl_good hs
      · exact plainWrite_good hs
    · exact safWrite_good hs
    · exact mbxWrite_good hs
    · exact dmaWrite_good hs
    · exact pwrWrite_good hs
    · exact calWrite_good hs
    · exact sysWrite_good hs
    · exact plainWrite_good hs
    · exact plainWrite_good hs
    · exact plainWrite_good hs
    · exact plainWrite_good hs
    · exact plainWrite_good hs
    · exact plainWrite_good hs
    · exact plainWrite_good hs
    · exact plainWrite_good hs
    · exact plainWrite_good hs

theorem State.regWrite_good {a : Nat} {v : Word} (hs : s.Good pq) : Good pq (regWrite s a v) := by
  unfold regWrite
  split
  · split
    · exact plainWrite_good hs
    · exact hs
  · split
    · exact blkWrite_good hs
    · exact stallWrite_good hs

theorem State.pondUncorr_good {s' : State} {m : Master} {a : Nat} (hs' : Good pq (s')) : Good pq (pondUncorr s' m a) := by
  unfold pondUncorr
  dsimp only
  refine eventLogged_good ?_
  refine setReg_good ?_
  refine setReg_good ?_
  refine countUp_good ?_
  split
  · exact setPw_good hs'
  · exact hs'

theorem State.pondCheck_good {m : Master} {a : Nat} {bits : Nat} (hs : s.Good pq) : Good pq (pondCheck s m a bits).2 := by
  unfold pondCheck
  dsimp only
  split
  · split
    · dsimp only
      exact pondUncorr_good hs
    · split
      · dsimp only
        refine good_mk ?_
        dsimp only
        exact good_of (countUp_good hs)
      · dsimp only
        exact hs
  · split
    · dsimp only
      exact pondUncorr_good hs
    · split
      · dsimp only
        refine good_mk ?_
        dsimp only
        exact good_of (countUp_good hs)
      · dsimp only
        exact hs

theorem State.pondRead_good {m : Master} {a : Nat} {n : Nat} {bits : Nat} (hs : s.Good pq) : Good pq (pondRead s m a n bits).2 := by
  unfold pondRead
  split
  split
  · dsimp only
    exact good_of_pair ‹_› (pondCheck_good hs)
  · dsimp only
    exact good_of_pair ‹_› (pondCheck_good hs)

theorem State.pondWrite_good {m : Master} {a : Nat} {bs : List Byte} {bits : Nat} (hs : s.Good pq) : Good pq (pondWrite s m a bs bits).2 := by
  unfold pondWrite
  dsimp only
  split
  · split
    · dsimp only
      exact setFlag_good (countUp_good hs)
    · split
      · split
        · dsimp only
          exact hs
        · dsimp only
          split
          · refine good_mk ?_
            dsimp only
            exact good_of (setBytes_good hs)
          · refine good_mk ?_
            dsimp only
            exact good_of (setBytes_good hs)
      · split
        · dsimp only
          exact pondCheck_good hs
        · dsimp only
          split
          · refine good_mk ?_
            dsimp only
            exact good_of (setBytes_good (pondCheck_good hs))
          · refine good_mk ?_
            dsimp only
            exact good_of (setBytes_good (pondCheck_good hs))
  · split
    · dsimp only
      exact setFlag_good (countUp_good hs)
    · split
      · split
        · dsimp only
          exact hs
        · dsimp only
          split
          · refine good_mk ?_
            dsimp only
            exact good_of (setBytes_good hs)
          · refine good_mk ?_
            dsimp only
            exact good_of (setBytes_good hs)
      · split
        · dsimp only
          exact pondCheck_good hs
        · dsimp only
          split
          · refine good_mk ?_
            dsimp only
            exact good_of (setBytes_good (pondCheck_good hs))
          · refine good_mk ?_
            dsimp only
            exact good_of (setBytes_good (pondCheck_good hs))

theorem State.pondConflict_good {m : Master} {a : Nat} (hs : s.Good pq) : Good pq (pondConflict s m a) := by
  unfold pondConflict
  split
  · exact countUp_good hs
  · exact countUp_good hs
  · exact countUp_good hs
  · exact countUp_good hs
  · exact countUp_good hs
  · exact countUp_good hs
  · exact countUp_good hs
  · exact countUp_good hs
  · exact countUp_good hs
  · exact countUp_good hs
  · exact hs

theorem State.windowRead_good {a : Nat} {len : Nat} (hs : s.Good pq) : Good pq (windowRead s a len).2 := by
  unfold windowRead
  dsimp only
  split
  · dsimp only
    exact good_of_pair ‹_› (readWord_good (ask_good hs))
  · dsimp only
    exact good_of_pair ‹_› (readWord_good (ask_good hs))

theorem State.offsetWrite_good {off : Nat} {bs : List Byte} (hs : s.Good pq) : Good pq (offsetWrite s off bs).2 := by
  unfold offsetWrite
  dsimp only
  split
  · split
    · dsimp only
      exact setFlag_good hs
    · dsimp only
      exact fstStore_good (ask_good hs)
  · split
    · dsimp only
      exact setFlag_good hs
    · dsimp only
      exact fstStore_good (ask_good hs)

theorem State.windowWrite_good {a : Nat} {bs : List Byte} (hs : s.Good pq) : Good pq (windowWrite s a bs).2 := by
  unfold windowWrite
  exact offsetWrite_good hs

theorem State.regReads_good {m : Master} {a : Nat} {n : Nat} (hs : s.Good pq) : Good pq (regReads s m a n).2 := by
  unfold regReads
  split
  · split
    · split
      · dsimp only
        exact good_of_pair ‹_› (regRead_good (good_of_pair ‹_› (regRead_good hs)))
      · exact regRead_good (good_of_pair ‹_› (regRead_good hs))
    · exact regRead_good hs
  · exact regRead_good hs

theorem State.busRead_good {m : Master} {a : Nat} {n : Nat} {e : Nat} (hs : s.Good pq) : Good pq (busRead s m a n e).2 := by
  unfold busRead
  split
  · split
    · dsimp only
      exact hs
    · exact pondRead_good hs
  · split
    · dsimp only
      exact hs
    · exact pondRead_good hs
  · split
    · dsimp only
      exact hs
    · exact pondRead_good hs
  · split
    · dsimp only
      exact hs
    · split
      · exact wake_good hs
      · exact windowRead_good hs
  · split
    · dsimp only
      exact hs
    · exact regReads_good hs
  · split
    · dsimp only
      exact hs
    · dsimp only
      exact hs
  · split
    · dsimp only
      exact hs
    · dsimp only
      exact hs
  · split
    · exact regRead_good hs
    · dsimp only
      exact hs
  · dsimp only
    exact hs
  · dsimp only
    exact hs

theorem State.wordsWrite_good {a : Nat} {bs : List Byte} (hs : s.Good pq) : Good pq (wordsWrite s a bs).2 := by
  unfold wordsWrite
  dsimp only
  split
  · exact regWrite_good (regWrite_good hs)
  · exact regWrite_good hs

theorem State.busWrite_good {m : Master} {a : Nat} {bs : List Byte} {e : Nat} (hs : s.Good pq) : Good pq (busWrite s m a bs e).2 := by
  unfold busWrite
  dsimp only
  split
  · split
    · dsimp only
      exact hs
    · exact pondWrite_good hs
  · split
    · dsimp only
      exact hs
    · exact pondWrite_good hs
  · split
    · dsimp only
      exact hs
    · exact pondWrite_good hs
  · split
    · dsimp only
      exact hs
    · split
      · exact wake_good hs
      · exact windowWrite_good hs
  · split
    · dsimp only
      exact hs
    · split
      · split
        · exact wordsWrite_good hs
        · exact wake_good hs
      · exact wordsWrite_good hs
  · split
    · dsimp only
      exact setBytes_good hs
    · dsimp only
      exact hs
  · dsimp only
    refine good_mk ?_
    dsimp only
    exact good_of hs
  · split
    · dsimp only
      exact regWrite_good hs
    · dsimp only
      exact hs
  · dsimp only
    exact hs
  · dsimp only
    exact hs

theorem State.answered_good {r : Access × State} {n : Nat} {x : Stall} (hr : Good pq (r).2) : Good pq (answered r n x) := by
  unfold answered
  split
  · refine good_mk ?_
    dsimp only
    exact good_of hr
  · refine good_mk ?_
    dsimp only
    exact good_of hr
  · refine good_mk ?_
    dsimp only
    exact good_of hr
  · refine good_mk ?_
    dsimp only
    exact good_of hr

theorem State.readAccess_good {m : Master} {a : Nat} {n : Nat} {e : Nat} (hs : s.Good pq) : Good pq (readAccess s m a n e) := by
  unfold readAccess
  exact answered_good (busRead_good hs)

theorem State.writeAccess_good {m : Master} {a : Nat} {bs : List Byte} {e : Nat} (hs : s.Good pq) : Good pq (writeAccess s m a bs e) := by
  unfold writeAccess
  exact answered_good (busWrite_good hs)

theorem State.replay1_good {x : Stall} (hs : s.Good pq) : Good pq (replay1 s x) := by
  unfold replay1
  split
  · exact regWrite_good hs
  · exact readAccess_good hs
  · exact writeAccess_good hs

theorem State.powerOn_good {d : Domain} (hs : s.Good pq) : Good pq (powerOn s d) := by
  unfold powerOn
  dsimp only
  exact foldl_good (fun y00 y01 y02 => replay1_good y02) (setPw_good (domainOn_good hs))

theorem State.aliasRead_good {m : Master} {a : Nat} {n : Nat} {e0 : Nat} {e1 : Nat} (hs : s.Good pq) : Good pq (aliasRead s m a n e0 e1).2 := by
  unfold aliasRead
  dsimp only
  split
  · split
    · dsimp only
      exact good_of_pair ‹_› (pondRead_good hs)
    · split
      · dsimp only
        exact good_of_pair ‹_› (pondRead_good (countUp_good (good_of_pair ‹_› (pondRead_good hs))))
      · exact pondRead_good (countUp_good (good_of_pair ‹_› (pondRead_good hs)))
  · exact pondRead_good hs

theorem State.aliasWrite_good {m : Master} {a : Nat} {bs : List Byte} {e0 : Nat} {e1 : Nat} (hs : s.Good pq) : Good pq (aliasWrite s m a bs e0 e1).2 := by
  unfold aliasWrite
  dsimp only
  split
  · split
    · dsimp only
      exact good_of_pair ‹_› (pondWrite_good hs)
    · exact pondWrite_good (countUp_good (good_of_pair ‹_› (pondWrite_good hs)))
  · exact pondWrite_good hs

theorem execPondAccess_good {m : Master} {a : BitVec 32} {n : Nat} {bs : Option (List Byte)} {e : Nat} {waited : Bool} (hs : s.Good pq) : OutGood pq (execPondAccess m a n bs e waited s) := by
  unfold execPondAccess
  split
  · exact outGood_next hs
  · dsimp only
    split
    · refine outGood_next ?_
      refine readAccess_good ?_
      split
      · exact pondConflict_good hs
      · exact hs
    · refine outGood_next ?_
      refine writeAccess_good ?_
      split
      · exact pondConflict_good hs
      · exact hs

theorem execAliasAccess_good {m : Master} {a : BitVec 32} {n : Nat} {bs : Option (List Byte)} {e0 : Nat} {e1 : Nat} {waited : Bool} (hs : s.Good pq) : OutGood pq (execAliasAccess m a n bs e0 e1 waited s) := by
  unfold execAliasAccess
  split
  · exact outGood_next hs
  · dsimp only
    split
    · split
      · refine outGood_next ?_
        refine good_mk ?_
        dsimp only
        exact good_of hs
      · refine outGood_next ?_
        refine answered_good ?_
        refine aliasRead_good ?_
        split
        · exact pondConflict_good hs
        · exact hs
    · split
      · refine outGood_next ?_
        refine good_mk ?_
        dsimp only
        exact good_of hs
      · refine outGood_next ?_
        refine answered_good ?_
        refine aliasWrite_good ?_
        split
        · exact pondConflict_good hs
        · exact hs

theorem execPondEccWriteback_good {a : BitVec 32} (hs : s.Good pq) : OutGood pq (execPondEccWriteback a s) := by
  unfold execPondEccWriteback
  split
  · refine outGood_next ?_
    refine good_mk ?_
    dsimp only
    exact good_of hs
  · exact outGood_next hs

theorem execUnassignedAccess_good {m : Master} {a : BitVec 32} {n : Nat} {bs : Option (List Byte)} (hs : s.Good pq) : OutGood pq (execUnassignedAccess m a n bs s) := by
  unfold execUnassignedAccess
  dsimp only
  split
  · split
    · exact outGood_next hs
    · refine outGood_next ?_
      split
      · exact readAccess_good hs
      · exact writeAccess_good hs
  · split
    · exact outGood_next hs
    · refine outGood_next ?_
      split
      · exact readAccess_good hs
      · exact writeAccess_good hs
  · split
    · exact outGood_next hs
    · refine outGood_next ?_
      split
      · exact readAccess_good hs
      · exact writeAccess_good hs
  · split
    · exact outGood_next hs
    · refine outGood_next ?_
      split
      · exact readAccess_good hs
      · exact writeAccess_good hs
  · split
    · exact outGood_next hs
    · refine outGood_next ?_
      split
      · exact readAccess_good hs
      · exact writeAccess_good hs
  · split
    · exact outGood_next hs
    · refine outGood_next ?_
      split
      · exact readAccess_good hs
      · exact writeAccess_good hs
  · split
    · exact outGood_next hs
    · refine outGood_next ?_
      split
      · exact readAccess_good hs
      · exact writeAccess_good hs
  · split
    · exact outGood_next hs
    · refine outGood_next ?_
      split
      · exact readAccess_good hs
      · exact writeAccess_good hs

theorem execFlashWindowWrite_good {m : Master} {a : BitVec 32} {bs : List Byte} (hs : s.Good pq) : OutGood pq (execFlashWindowWrite m a bs s) := by
  unfold execFlashWindowWrite
  split
  · exact outGood_next (writeAccess_good hs)
  · exact outGood_next hs

theorem execFrameStoreWindowAccess_good {m : Master} {a : BitVec 32} {n : Nat} {bs : Option (List Byte)} {ups : Upsets} {s' : State} (hs' : Good pq (s')) : OutGood pq (execFrameStoreWindowAccess m a n bs ups s') := by
  unfold execFrameStoreWindowAccess
  dsimp only
  split
  · exact outGood_next (upset_good hs')
  · split
    · exact outGood_next (readAccess_good (upset_good hs'))
    · exact outGood_next (writeAccess_good (upset_good hs'))

theorem execRegisterWrite_good {a : BitVec 32} {v : Word} (hs : s.Good pq) : OutGood pq (execRegisterWrite a v s) := by
  unfold execRegisterWrite
  split
  · exact outGood_next (regWrite_good hs)
  · exact outGood_next hs

theorem State.coreWrite_good {a : Nat} {v : Word} (hs : s.Good pq) : Good pq (coreWrite s a v) := by
  unfold coreWrite
  split
  · exact regWrite_good hs
  · exact hs

theorem execPortCtrlWrite_good {p : Fin 2} {v : Word} (hs : s.Good pq) : OutGood pq (execPortCtrlWrite p v s) := by
  unfold execPortCtrlWrite
  exact outGood_next (coreWrite_good hs)

theorem execRetrainWrite_good {p : Fin 2} (hs : s.Good pq) : OutGood pq (execRetrainWrite p s) := by
  unfold execRetrainWrite
  exact outGood_next (coreWrite_good hs)

theorem execLoopWrite_good {p : Fin 2} {v : Word} (hs : s.Good pq) : OutGood pq (execLoopWrite p v s) := by
  unfold execLoopWrite
  exact outGood_next (coreWrite_good hs)

theorem execPatternWrite_good {p : Fin 2} {v : Word} (hs : s.Good pq) : OutGood pq (execPatternWrite p v s) := by
  unfold execPatternWrite
  exact outGood_next (coreWrite_good hs)

theorem execSluEnableWrite_good {v : Word} (hs : s.Good pq) : OutGood pq (execSluEnableWrite v s) := by
  unfold execSluEnableWrite
  exact outGood_next (coreWrite_good hs)

theorem execRasterStart_good (hs : s.Good pq) : OutGood pq (execRasterStart s) := by
  unfold execRasterStart
  exact outGood_next (coreWrite_good hs)

theorem execRasterStop_good (hs : s.Good pq) : OutGood pq (execRasterStop s) := by
  unfold execRasterStop
  exact outGood_next (coreWrite_good hs)

theorem execNbrStartWrite_good (hs : s.Good pq) : OutGood pq (execNbrStartWrite s) := by
  unfold execNbrStartWrite
  exact outGood_next (coreWrite_good hs)

theorem execPwrSpringWrite_good {v : Word} (hs : s.Good pq) : OutGood pq (execPwrSpringWrite v s) := by
  unfold execPwrSpringWrite
  exact outGood_next (coreWrite_good hs)

theorem execDoorbell_good {n : Fin 4} {t : Fin 16} (hs : s.Good pq) : OutGood pq (execDoorbell n t s) := by
  unfold execDoorbell
  exact outGood_next (coreWrite_good hs)

theorem execCplHeadWrite_good {n : Fin 4} {v : Fin 16} (hs : s.Good pq) : OutGood pq (execCplHeadWrite n v s) := by
  unfold execCplHeadWrite
  exact outGood_next (coreWrite_good hs)

theorem execMbxEnWrite_good {v : Word} (hs : s.Good pq) : OutGood pq (execMbxEnWrite v s) := by
  unfold execMbxEnWrite
  exact outGood_next (coreWrite_good hs)

theorem execSnapAddrWrite_good {v : Word} (hs : s.Good pq) : OutGood pq (execSnapAddrWrite v s) := by
  unfold execSnapAddrWrite
  exact outGood_next (coreWrite_good hs)

theorem execSysTimeLoRead_good {m : Master} (hs : s.Good pq) : OutGood pq (execSysTimeLoRead m s) := by
  unfold execSysTimeLoRead
  split
  · exact outGood_next (readAccess_good hs)
  · exact outGood_next hs

theorem execLogPost_good {w0 : Word} {w1 : Word} {w2 : Word} {w3 : Word} (hs : s.Good pq) : OutGood pq (execLogPost w0 w1 w2 w3 s) := by
  unfold execLogPost
  exact outGood_next (coreWrite_good (coreWrite_good (coreWrite_good (coreWrite_good hs))))

theorem State.spiRange_good (hs : s.Good pq) : Good pq (spiRange s) := by
  unfold spiRange
  exact setFlag_good (countUp_good hs)

theorem State.spiWord_good {a : Nat} {v : Word} (hs : s.Good pq) : Good pq (spiWord s a v) := by
  unfold spiWord
  split
  · exact hs
  · split
    · exact spiRange_good hs
    · exact busWrite_good hs

theorem State.spiWords_good {a : Nat} {x1 : List Word} {x2 : State} (hx2 : x2.Good pq) : Good pq (spiWords a x1 x2) := by
  induction x1 generalizing a x2 with
  | nil =>
    unfold spiWords
    exact hx2
  | cons b t ih =>
    unfold spiWords
    exact ih (spiWord_good hx2)

theorem State.spiReads_good {x0 : Nat} {x1 : Nat} {x2 : State} {x3 : List Byte} (hx2 : x2.Good pq) : Good pq (spiReads x0 x1 x2 x3).2 := by
  induction x0 generalizing x1 x2 x3 with
  | zero =>
    unfold spiReads
    dsimp only
    exact hx2
  | succ n ih =>
    unfold spiReads
    split
    · exact ih (spiRange_good hx2)
    · split
      · exact ih (good_of_pair ‹_› (busRead_good hx2))
      · exact ih (good_of_pair ‹_› (busRead_good hx2))

theorem execSpiWrite_good {op : Byte} {a : BitVec 32} {ws : List Word} (hs : s.Good pq) : OutGood pq (execSpiWrite op a ws s) := by
  unfold execSpiWrite
  split
  · exact outGood_next hs
  · split
    · exact outGood_next (spiWords_good hs)
    · split
      · exact outGood_next hs
      · exact outGood_next (countUp_good hs)

theorem execSpiRead_good {a : BitVec 32} {n : Nat} (hs : s.Good pq) : OutGood pq (execSpiRead a n s) := by
  unfold execSpiRead
  split
  · exact outGood_next hs
  · split
    refine outGood_next ?_
    refine good_mk ?_
    dsimp only
    exact good_of (good_of_pair ‹_› (spiReads_good hs))

theorem State.fetchDesc_good {n : Nat} (hs : s.Good pq) : Good pq (fetchDesc s n) := by
  unfold fetchDesc
  dsimp only
  split
  · exact endJob_good (setBit_good (setFld_good (setFlag_good (setFlag_good hs))))
  · split
    · exact showPos_good (setChan_good (setChan_good hs))
    · exact endJob_good (setBit_good (countUp_good (writeBack_good (setChan_good hs))))

theorem State.missBack_good {n : Nat} (hs : s.Good pq) : Good pq (missBack s n) := by
  unfold missBack
  dsimp only
  split
  · exact setChan_good hs
  · exact hs

theorem State.haltChan_good {s' : State} {n : Nat} {addr : Nat} {dir : Nat} (hs' : Good pq (s')) : Good pq (haltChan s' n addr dir) := by
  unfold haltChan
  dsimp only
  refine freeEngine_good ?_
  refine setChan_good ?_
  refine setBit_good ?_
  refine countUp_good ?_
  split
  · exact writeBack_good (setReg_good (setReg_good (missBack_good hs')))
  · exact setReg_good (setReg_good (missBack_good hs'))

theorem State.dmaRead_good {n : Nat} {a : Nat} {ecc : List (Nat × Nat)} (hs : s.Good pq) : Good pq (dmaRead s n a ecc).2.2 := by
  unfold dmaRead
  split
  · dsimp only
    exact good_of_pair ‹_› (busRead_good hs)
  · dsimp only
    exact good_of_pair ‹_› (busRead_good hs)
  · dsimp only
    exact good_of_pair ‹_› (busRead_good hs)
  · dsimp only
    exact haltChan_good (good_of_pair ‹_› (busRead_good hs))

theorem State.dmaStore_good {n : Nat} {a : Nat} {bs : List Byte} {ecc : List (Nat × Nat)} (hs : s.Good pq) : Good pq (dmaStore s n a bs ecc).2 := by
  unfold dmaStore
  split
  · dsimp only
    exact good_of_pair ‹_› (busWrite_good hs)
  · dsimp only
    exact good_of_pair ‹_› (busWrite_good hs)
  · dsimp only
    exact good_of_pair ‹_› (busWrite_good hs)
  · dsimp only
    exact haltChan_good (good_of_pair ‹_› (busWrite_good hs))

theorem State.wordDone_good {n : Nat} {miss : Option Nat} (hs : s.Good pq) : Good pq (wordDone s n miss) := by
  unfold wordDone
  dsimp only
  exact countUp_good (setChan_good hs)

theorem State.copied_good {overlap : Bool} {bs : List Byte} (hs : s.Good pq) : Good pq (copied s overlap bs).2 := by
  unfold copied
  split
  · split
    dsimp only
    exact good_of_pair ‹_› (draw_good hs)
  · dsimp only
    exact hs

theorem State.moveWord_good {n : Nat} {d : Desc} {ecc : List (Nat × Nat)} (hs : s.Good pq) : Good pq (moveWord s n d ecc).2 := by
  unfold moveWord
  dsimp only
  split
  · split
    · split
      · dsimp only
        refine wordDone_good ?_
        refine good_of_trip (by assumption) ?_
        refine dmaRead_good ?_
        refine good_of_trip (by assumption) ?_
        split
        · dsimp only
          exact hs
        · exact dmaRead_good hs
      · dsimp only
        refine good_of_trip (by assumption) ?_
        refine dmaRead_good ?_
        refine good_of_trip (by assumption) ?_
        split
        · dsimp only
          exact hs
        · exact dmaRead_good hs
    · split
      · dsimp only
        refine wordDone_good ?_
        refine good_of_pair (by assumption) ?_
        refine dmaStore_good ?_
        refine copied_good ?_
        refine good_of_trip (by assumption) ?_
        split
        · dsimp only
          exact hs
        · exact dmaRead_good hs
      · refine dmaStore_good ?_
        refine copied_good ?_
        refine good_of_trip (by assumption) ?_
        split
        · dsimp only
          exact hs
        · exact dmaRead_good hs
  · dsimp only
    refine good_of_trip (by assumption) ?_
    split
    · dsimp only
      exact hs
    · exact dmaRead_good hs

theorem State.moveWords_good {n : Nat} {d : Desc} {ecc : List (Nat × Nat)} {x3 : Nat} {x4 : State} (hx4 : x4.Good pq) : Good pq (moveWords n d ecc x3 x4).2 := by
  induction x3 generalizing n d ecc x4 with
  | zero =>
    unfold moveWords
    dsimp only
    exact hx4
  | succ n ih =>
    unfold moveWords
    split
    · exact ih (good_of_pair ‹_› (moveWord_good hx4))
    · exact moveWord_good hx4

theorem State.paceBurst_good {n : Nat} {bytes : Nat} (hs : s.Good pq) : Good pq (paceBurst s n bytes) := by
  unfold paceBurst
  split
  · exact hs
  · dsimp only
    split
    · exact queueMove_good hs
    · exact queueMove_good hs

theorem State.pump_good {x0 : Nat} {x1 : State} (hx1 : x1.Good pq) : Good pq (pump x0 x1) := by
  induction x0 generalizing x1 with
  | zero =>
    unfold pump
    exact hx1
  | succ n ih =>
    unfold pump
    split
    · exact hx1
    · dsimp only
      split
      · exact hx1
      · split
        · exact setChan_good hx1
        · split
          · exact ih (showPos_good (paceBurst_good (good_of_pair ‹_› (moveWords_good (setChan_good hx1)))))
          · exact good_of_pair ‹_› (moveWords_good (setChan_good hx1))

theorem State.pumpAll_good (hs : s.Good pq) : Good pq (pumpAll s) := by
  unfold pumpAll
  split
  · exact pump_good hs
  · exact hs

theorem execEngineTake_good (hs : s.Good pq) : OutGood pq (execEngineTake s) := by
  unfold execEngineTake
  split
  · exact outGood_next hs
  · split
    · exact outGood_next hs
    · dsimp only
      refine outGood_next ?_
      refine pumpAll_good ?_
      split
      · refine good_mk ?_
        dsimp only
        exact good_of hs
      · refine fetchDesc_good ?_
        refine good_mk ?_
        dsimp only
        exact good_of hs

theorem State.completeDesc_good {n : Nat} {d : Desc} (hs : s.Good pq) : Good pq (completeDesc s n d) := by
  unfold completeDesc
  dsimp only
  split
  · exact endJob_good (setBit_good (setReg_good (setFld_good (countUp_good (writeBack_good hs)))))
  · exact pumpAll_good (fetchDesc_good (setReg_good (setFld_good (countUp_good (writeBack_good hs)))))

theorem execDescriptorComplete_good {ecc : MemErrs} {s' : State} (hs' : Good pq (s')) : OutGood pq (execDescriptorComplete ecc s') := by
  unfold execDescriptorComplete
  dsimp only
  split
  · exact outGood_next (upset_good hs')
  · split
    · exact outGood_next (upset_good hs')
    · split
      · exact outGood_next (completeDesc_good (upset_good hs'))
      · split
        · exact outGood_next (upset_good hs')
        · split
          · exact outGood_next (completeDesc_good (showPos_good (good_of_pair ‹_› (moveWords_good (upset_good hs')))))
          · exact outGood_next (showPos_good (good_of_pair ‹_› (moveWords_good (upset_good hs'))))
          · exact outGood_next (good_of_pair ‹_› (moveWords_good (upset_good hs')))

theorem State.ctrlWrite_good {n : Nat} {v : Word} (hs : s.Good pq) : Good pq (ctrlWrite s n v) := by
  unfold ctrlWrite
  exact coreWrite_good hs

theorem execDmaGo_good {n : Fin 16} {v : Word} (hs : s.Good pq) : OutGood pq (execDmaGo n v s) := by
  unfold execDmaGo
  exact outGood_next (ctrlWrite_good hs)

theorem execCountAdd_good {n : Fin 16} {v : Word} (hs : s.Good pq) : OutGood pq (execCountAdd n v s) := by
  unfold execCountAdd
  exact outGood_next (coreWrite_good hs)

theorem execQueueAdd_good {q : Fin 4} {v : Word} (hs : s.Good pq) : OutGood pq (execQueueAdd q v s) := by
  unfold execQueueAdd
  exact outGood_next (pumpAll_good (coreWrite_good hs))

theorem execQueueSub_good {q : Fin 4} {v : Word} (hs : s.Good pq) : OutGood pq (execQueueSub q v s) := by
  unfold execQueueSub
  exact outGood_next (pumpAll_good (coreWrite_good hs))

theorem State.dropMoved_good {n : Nat} (hs : s.Good pq) : Good pq (dropMoved s n) := by
  unfold dropMoved
  split
  · exact hs
  · split
    · exact hs
    · split
      split
      · exact good_of_pair ‹_› (moveWords_good (good_of_pair ‹_› (draw_good hs)))
      · exact good_of_pair ‹_› (draw_good hs)

theorem execLightChannelDisable_good {n : Fin 16} (hs : s.Good pq) : OutGood pq (execLightChannelDisable n s) := by
  unfold execLightChannelDisable
  refine outGood_next ?_
  split
  · exact hs
  · exact ctrlWrite_good (dropMoved_good hs)

theorem execHeavyChannelDisable_good {n : Fin 16} (hs : s.Good pq) : OutGood pq (execHeavyChannelDisable n s) := by
  unfold execHeavyChannelDisable
  refine outGood_next ?_
  split
  · exact ctrlWrite_good hs
  · exact hs

theorem execPause_good {n : Fin 16} (hs : s.Good pq) : OutGood pq (execPause n s) := by
  unfold execPause
  exact outGood_next (ctrlWrite_good hs)

theorem execResume_good {n : Fin 16} (hs : s.Good pq) : OutGood pq (execResume n s) := by
  unfold execResume
  refine outGood_next ?_
  split
  · exact ctrlWrite_good hs
  · exact hs

theorem execClrHalt_good {n : Fin 16} (hs : s.Good pq) : OutGood pq (execClrHalt n s) := by
  unfold execClrHalt
  exact outGood_next (ctrlWrite_good hs)

theorem execPauseDrainDone_good {words : Nat} {ecc : MemErrs} {s' : State} (hs' : Good pq (s')) : OutGood pq (execPauseDrainDone words ecc s') := by
  unfold execPauseDrainDone
  dsimp only
  split
  · exact outGood_next (upset_good hs')
  · split
    · exact outGood_next (upset_good hs')
    · split
      · exact outGood_next (good_of_pair ‹_› (moveWords_good (upset_good hs')))
      · exact outGood_next (good_of_pair ‹_› (moveWords_good (upset_good hs')))
      · refine outGood_next ?_
        split
        · exact endHeavy_good (paceBurst_good (showPos_good (good_of_pair ‹_› (moveWords_good (upset_good hs')))))
        · exact freeEngine_good (setChan_good (paceBurst_good (showPos_good (good_of_pair ‹_› (moveWords_good (upset_good hs'))))))

theorem State.dmaSlot_good {words : Nat} {ecc : List (Nat × Nat)} (hs : s.Good pq) : Good pq (dmaSlot s words ecc) := by
  unfold dmaSlot
  split
  · exact hs
  · dsimp only
    split
    · split
      · refine good_mk ?_
        dsimp only
        exact good_of (paceBurst_good (showPos_good (good_of_pair ‹_› (moveWords_good (setChan_good hs)))))
      · refine good_mk ?_
        dsimp only
        exact good_of (paceBurst_good (showPos_good (good_of_pair ‹_› (moveWords_good (setChan_good hs)))))
    · exact good_of_pair ‹_› (moveWords_good (setChan_good hs))

theorem State.setFly_good {f : Option ScrubFly} (hs : s.Good pq) : Good pq (setFly s f) := by
  unfold setFly
  refine good_mk ?_
  dsimp only
  exact good_of hs

theorem State.scrubWrap_good (hs : s.Good pq) : Good pq (scrubWrap s) := by
  unfold scrubWrap
  dsimp only
  refine good_mk ?_
  dsimp only
  exact good_of (setFld_good (countUp_good hs))

theorem State.scrubRead_good {cw : Nat} {bad : Bool} (hs : s.Good pq) : Good pq (scrubRead s cw bad).2 := by
  unfold scrubRead
  split
  dsimp only
  exact good_of_pair ‹_› (readWord_good hs)

theorem State.scrubIssue_good {bad : List Bool} (hs : s.Good pq) : Good pq (scrubIssue s bad) := by
  unfold scrubIssue
  split
  · exact setFld_good (scrubWrap_good hs)
  · dsimp only
    refine setFly_good ?_
    refine foldl_pair_good ?_ ?_
    · intro y00 y01 y02
      dsimp only
      exact scrubRead_good y02
    · dsimp only
      exact ask_good hs

theorem State.scrubBack_good {f : ScrubFix} (hs : s.Good pq) : Good pq (scrubBack s f) := by
  unfold scrubBack
  split
  · exact countUp_good hs
  · dsimp only
    split
    · exact eventLogged_good (fstLog_good (setFlag_good (setErrs_good (flipData_good hs))))
    · exact setErrs_good (flipData_good hs)

theorem State.scrubLand_good {fly : Bool} (hs : s.Good pq) : Good pq (scrubLand s fly) := by
  unfold scrubLand
  split
  · exact hs
  · split
    · exact hs
    · dsimp only
      split
      · exact setFld_good (countUp_good (foldl_good (fun y00 y01 y02 => scrubBack_good y02) (setFly_good hs)))
      · exact setFld_good (scrubWrap_good (countUp_good (foldl_good (fun y00 y01 y02 => scrubBack_good y02) (setFly_good hs))))

theorem State.scrubFrame_good (hs : s.Good pq) : Good pq (scrubFrame s) := by
  unfold scrubFrame
  split
  · exact hs
  · dsimp only
    split
    · refine good_mk ?_
      dsimp only
      exact good_of hs
    · refine event_good ?_
      refine setFlag_good ?_
      refine good_mk ?_
      dsimp only
      exact good_of hs

theorem State.setEddy_good {e : Eddy} (hs : s.Good pq) : Good pq (setEddy s e) := by
  unfold setEddy
  refine good_mk ?_
  dsimp only
  exact good_of hs

theorem State.eddyShow_good (hs : s.Good pq) : Good pq (eddyShow s) := by
  unfold eddyShow
  dsimp only
  exact setFld_good (setFlag_good (setFld_good (setFld_good (setFld_good hs))))

theorem State.eddyPass_good (hs : s.Good pq) : Good pq (eddyPass s) := by
  unfold eddyPass
  dsimp only
  exact setEddy_good (setFld_good (countUp_good hs))

theorem State.eddyNext_good (hs : s.Good pq) : Good pq (eddyNext s) := by
  unfold eddyNext
  dsimp only
  split
  · exact setEddy_good (setEddy_good hs)
  · split
    · exact eddyPass_good (setEddy_good hs)
    · exact setEddy_good (setEddy_good hs)

theorem State.eddyDone_good (hs : s.Good pq) : Good pq (eddyDone s) := by
  unfold eddyDone
  dsimp only
  split
  · split
    · exact eddyNext_good (event_good (setFlag_good (setEddy_good (countUp_good hs))))
    · exact eddyNext_good (setEddy_good (setEddy_good (countUp_good hs)))
  · exact eddyNext_good (countUp_good hs)

theorem State.eddyFail_good {w : Nat × Nat × Nat} (hs : s.Good pq) : Good pq (eddyFail s w) := by
  unfold eddyFail
  dsimp only
  exact eventLogged_good (countUp_good (setFlag_good (setFld_good (setFld_good (setFld_good hs)))))

theorem State.eddySlot_good {n : Nat} {march : Option (Nat × Nat × Nat)} (hs : s.Good pq) : Good pq (eddySlot s n march) := by
  unfold eddySlot
  dsimp only
  refine eddyShow_good ?_
  split
  · split
    · split
      · split
        · exact eddyDone_good (setEddy_good (eddyFail_good hs))
        · exact setEddy_good (eddyFail_good hs)
      · split
        · exact eddyDone_good (setEddy_good hs)
        · exact setEddy_good hs
    · split
      · split
        · exact eddyDone_good (setEddy_good (eddyFail_good hs))
        · exact setEddy_good (eddyFail_good hs)
      · split
        · exact eddyDone_good (setEddy_good hs)
        · exact setEddy_good hs
  · split
    · split
      · exact eddyDone_good (setEddy_good hs)
      · exact setEddy_good hs
    · split
      · exact eddyDone_good (setEddy_good hs)
      · exact setEddy_good hs

theorem State.slotAct_good {c : Nat} {i : SlotInfo} (hs : s.Good pq) : Good pq (slotAct s c i) := by
  unfold slotAct
  split
  · exact calIdle_good (calNext_good (settle_good (logWriteOne_good hs)))
  · exact calSlot_good hs
  · exact scrubIssue_good hs
  · exact eddySlot_good hs
  · exact dmaSlot_good hs

theorem State.guardRelease_good (hs : s.Good pq) : Good pq (guardRelease s) := by
  unfold guardRelease
  split
  · exact hs
  · refine countUp_good ?_
    refine good_mk ?_
    dsimp only
    exact good_of hs

theorem execGuardTickRelease_good (hs : s.Good pq) : OutGood pq (execGuardTickRelease s) := by
  unfold execGuardTickRelease
  split
  · exact outGood_next hs
  · dsimp only
    refine outGood_next ?_
    split
    · split
      · exact reachPos_good hs
      · exact hs
    · refine guardRelease_good ?_
      split
      · exact reachPos_good hs
      · exact hs

theorem State.slotCut_good {c : Nat} {i : SlotInfo} (hs : s.Good pq) : Good pq (slotCut s c i) := by
  unfold slotCut
  dsimp only
  refine good_mk ?_
  dsimp only
  refine good_of ?_
  split
  · exact calSlot_good hs
  · exact eddySlot_good hs
  · exact hs

theorem State.slotEnter_good {line : Nat} {slot : Nat} (hs : s.Good pq) : Good pq (slotEnter s line slot) := by
  unfold slotEnter
  dsimp only
  split
  · split
    · refine good_mk ?_
      dsimp only
      exact good_of hs
    · exact guardRelease_good hs
  · split
    · refine good_mk ?_
      dsimp only
      exact good_of hs
    · exact guardRelease_good hs

theorem execElasticSlotGrant_good {i : SlotInfo} (hs : s.Good pq) : OutGood pq (execElasticSlotGrant i s) := by
  unfold execElasticSlotGrant
  split
  · exact outGood_next hs
  · split
    · exact outGood_next hs
    · dsimp only
      split
      · exact outGood_next (scrubLand_good (reachPos_good (slotEnter_good (upset_good hs))))
      · refine outGood_next ?_
        refine scrubLand_good ?_
        split
        · exact slotCut_good (useSlot_good (reachPos_good (slotEnter_good (upset_good hs))))
        · exact slotAct_good (useSlot_good (reachPos_good (slotEnter_good (upset_good hs))))

theorem execSegmentStart_good {e : Fin 4} (hs : s.Good pq) : OutGood pq (execSegmentStart e s) := by
  unfold execSegmentStart
  exact outGood_next (drain_good (engineStart_good hs))

theorem execPix_good {e : Fin 4} (hs : s.Good pq) : OutGood pq (execPix e s) := by
  unfold execPix
  exact outGood_next (drain_good (engineToken_good hs))

theorem execZrun_good {e : Fin 4} (hs : s.Good pq) : OutGood pq (execZrun e s) := by
  unfold execZrun
  exact outGood_next (drain_good (engineToken_good hs))

theorem execMatch_good {e : Fin 4} (hs : s.Good pq) : OutGood pq (execMatch e s) := by
  unfold execMatch
  exact outGood_next (drain_good (engineToken_good hs))

theorem execLit_good {e : Fin 4} (hs : s.Good pq) : OutGood pq (execLit e s) := by
  unfold execLit
  exact outGood_next (drain_good (engineToken_good hs))

theorem execPred_good {e : Fin 4} (hs : s.Good pq) : OutGood pq (execPred e s) := by
  unfold execPred
  exact outGood_next (drain_good (engineToken_good hs))

theorem execEngineResume_good {e : Fin 4} {long : Bool} (hs : s.Good pq) : OutGood pq (execEngineResume e long s) := by
  unfold execEngineResume
  exact outGood_next (drain_good (engineResume_good hs))

theorem execBuildComplete_good {st : Fin 16} (hs : s.Good pq) : OutGood pq (execBuildComplete st s) := by
  unfold execBuildComplete
  refine outGood_next ?_
  split
  · exact drain_good (completeBuilds_good hs)
  · exact hs

theorem State.foreseen_good (hs : s.Good pq) : Good pq (foreseen s) := by
  unfold foreseen
  dsimp only
  refine setLive_good ?_
  refine foldl_good ?_ hs
  intro y00 y01 y02
  split
  · exact applySet_good (handOverAll_good y02)
  · exact applySet_good (handOverAll_good y02)
  · exact applySet_good (handOverAll_good y02)
  · exact applySet_good (handOverAll_good y02)
  · exact y02

theorem State.putExpectedOf_good {v : State} (hs : s.Good pq) : Good pq (putExpectedOf s v) := by
  unfold putExpectedOf
  dsimp only
  exact regWrite_good (foldl_good (fun y00 y01 y02 => regWrite_good y02) hs)

theorem State.putExpected_good (hs : s.Good pq) : Good pq (putExpected s) := by
  unfold putExpected
  exact putExpectedOf_good hs

theorem State.recompute_good (hs : s.Good pq) : Good pq (recompute s) := by
  unfold recompute
  dsimp only
  refine good_mk ?_
  dsimp only
  exact good_of (regWrite_good (putExpected_good hs))

theorem State.crcRelease_good (hs : s.Good pq) : Good pq (crcRelease s) := by
  unfold crcRelease
  split
  · refine good_mk ?_
    dsimp only
    exact good_of hs
  · exact hs

theorem State.floorGain_good (hs : s.Good pq) : Good pq (floorGain s).2 := by
  unfold floorGain
  exact draw_good hs

end Sys2Proof.Machine
end

