-- ==== Sys2Proof/Laws/GoodStart.lean ====
section
/-! SUPPORT. Good states kept by flash, start-up and modes. -/

namespace Sys2Proof.Machine

open State

variable {pq : List Instr} {s : State}

theorem State.showPixels_good {l : List (SegHead × List Px)} (hs : s.Good pq) : Good pq (showPixels s l) := by
  unfold showPixels
  dsimp only
  exact foldl_good (fun y00 y01 y02 => foldl_good (fun y10 y11 y12 => setRawPixel_good y12) y02) (setStore_good hs)

theorem State.showNothing_good (hs : s.Good pq) : Good pq (showNothing s) := by
  unfold showNothing
  dsimp only
  exact setStore_good hs

theorem State.feedSplash_good {x0 : Nat} {x1 : List Byte} {x2 : State} (hx2 : x2.Good pq) : Good pq (feedSplash x0 x1 x2).2 := by
  induction x0 generalizing x1 x2 with
  | zero =>
    unfold feedSplash
    dsimp only
    exact hx2
  | succ n ih =>
    unfold feedSplash
    split
    · dsimp only
      exact hx2
    · split
      dsimp only
      split
      · dsimp only
        exact noteEnd_good (draw_good (countUp_good hx2))
      · dsimp only
        exact ih (countEnd_good (countUp_good hx2))

theorem State.splash_good (hs : s.Good pq) : Good pq (splash s).2 := by
  unfold splash
  split
  · dsimp only
    exact hs
  · split
    · dsimp only
      exact hs
    · exact feedSplash_good hs

theorem State.showSplash_good (hs : s.Good pq) : Good pq (showSplash s).2 := by
  unfold showSplash
  split
  · dsimp only
    exact showPixels_good (good_of_pair ‹_› (splash_good hs))
  · dsimp only
    exact showNothing_good (good_of_pair ‹_› (splash_good hs))

theorem State.fstLoad_good {off : Nat} {bs : List Byte} (hs : s.Good pq) : Good pq (fstLoad s off bs) := by
  unfold fstLoad
  exact ask_good (fstStore_good hs)

theorem State.putIcon_good {off : Nat} {px : List Nat} (hs : s.Good pq) : Good pq (putIcon s off px) := by
  unfold putIcon
  exact fstLoad_good hs

theorem State.storeIcons_good {x0 : List Nat} {x1 : Nat} {x2 : List (Nat × Nat)} {x3 : State} (hx3 : x3.Good pq) : Good pq (storeIcons x0 x1 x2 x3).2 := by
  induction x0 generalizing x1 x2 x3 with
  | nil =>
    unfold storeIcons
    dsimp only
    exact hx3
  | cons b t ih =>
    unfold storeIcons
    split
    · exact ih hx3
    · split
      · exact ih hx3
      · exact ih (putIcon_good hx3)

theorem State.loadIcons_good {b : Nat} {l : List WinEntry} (hs : s.Good pq) : Good pq (loadIcons s b l).2 := by
  unfold loadIcons
  exact storeIcons_good hs

theorem State.writeWindows_good {b : Nat} {l : List WinEntry} {places : List (Nat × Nat)} (hs : s.Good pq) : Good pq (writeWindows s b l places) := by
  unfold writeWindows
  dsimp only
  refine good_mk ?_
  dsimp only
  refine good_of ?_
  refine regWrite_good ?_
  refine foldl_good ?_ hs
  intro y00 y01 y02
  split
  · exact y02
  · exact regWrite_good (regWrite_good (regWrite_good (regWrite_good y02)))

theorem State.putWords_good {x1 : List Nat} {x2 : List Byte} (hs : s.Good pq) : Good pq (putWords s x1 x2) := by
  induction x1 generalizing s x2 with
  | nil =>
    unfold putWords
    exact hs
  | cons b t ih =>
    unfold putWords
    exact ih (regWrite_good hs)

theorem State.commitNow_good {b : Blk} {priv : Bool} {lut : Bool} (hs : s.Good pq) : Good pq (commitNow s b priv lut) := by
  unfold commitNow
  dsimp only
  split
  · exact handNow_good (loadDone_good (commit_good hs))
  · exact commit_good hs

theorem State.logTrouble_good (hs : s.Good pq) : Good pq (logTrouble s) := by
  unfold logTrouble
  split
  split
  exact logFault_good (good_of_pair ‹_› (draw_good (good_of_pair ‹_› (draw_good hs))))

theorem State.watched_good {f : Fld} {act : State → State} (hs : s.Good pq) (hact : ∀ (y0 : State), y0.Good pq → Good pq (act y0)) : Good pq (watched s f act) := by
  unfold watched
  dsimp only
  split
  · exact logTrouble_good (hact _ (setFlag_good hs))
  · split
    · exact setFlag_good (hact _ (setFlag_good hs))
    · exact hact _ (setFlag_good hs)

theorem State.writeTimingPix_good {t : List Byte} (hs : s.Good pq) : Good pq (writeTimingPix s t) := by
  unfold writeTimingPix
  dsimp only
  exact regWrite_good (setBytes_good (putWords_good (putWords_good (putWords_good hs))))

theorem State.writeTimingPanel_good {t : List Byte} (hs : s.Good pq) : Good pq (writeTimingPanel s t) := by
  unfold writeTimingPanel
  dsimp only
  exact regWrite_good (setBytes_good (putWords_good (putWords_good hs)))

theorem State.writeTiming_good {t : List Byte} (hs : s.Good pq) : Good pq (writeTiming s t) := by
  unfold writeTiming
  exact writeTimingPanel_good (writeTimingPix_good hs)

theorem State.loadTiming_good (hs : s.Good pq) : Good pq (loadTiming s) := by
  unfold loadTiming
  dsimp only
  exact commitNow_good (watched_good (watched_good (watched_good (writeTimingPix_good hs) (fun y00 y01 => commitNow_good y01)) (fun y00 y01 => commitNow_good y01)) (fun y00 y01 => commitNow_good y01))

theorem State.loadPanel_good (hs : s.Good pq) : Good pq (loadPanel s) := by
  unfold loadPanel
  dsimp only
  split
  · split
    · split
      · split
        · exact watched_good (watched_good (watched_good (writeTimingPanel_good hs) (fun y00 y01 => commitNow_good y01)) (fun y00 y01 => commitNow_good y01)) (fun y00 y01 => commitNow_good y01)
        · refine watched_good ?_ (fun y00 y01 => commitNow_good y01)
          refine good_mk ?_
          dsimp only
          exact good_of (regWrite_good (putWords_good (watched_good (watched_good (watched_good (writeTimingPanel_good hs) (fun y00 y01 => commitNow_good y01)) (fun y00 y01 => commitNow_good y01)) (fun y00 y01 => commitNow_good y01))))
      · refine watched_good ?_ (fun y00 y01 => commitNow_good y01)
        refine watched_good ?_ (fun y00 y01 => commitNow_good y01)
        refine putWords_good ?_
        split
        · exact watched_good (watched_good (watched_good (writeTimingPanel_good hs) (fun y00 y01 => commitNow_good y01)) (fun y00 y01 => commitNow_good y01)) (fun y00 y01 => commitNow_good y01)
        · refine watched_good ?_ (fun y00 y01 => commitNow_good y01)
          refine good_mk ?_
          dsimp only
          exact good_of (regWrite_good (putWords_good (watched_good (watched_good (watched_good (writeTimingPanel_good hs) (fun y00 y01 => commitNow_good y01)) (fun y00 y01 => commitNow_good y01)) (fun y00 y01 => commitNow_good y01))))
    · refine commitNow_good ?_
      refine putWords_good ?_
      split
      · split
        · exact watched_good (watched_good (watched_good (writeTimingPanel_good hs) (fun y00 y01 => commitNow_good y01)) (fun y00 y01 => commitNow_good y01)) (fun y00 y01 => commitNow_good y01)
        · refine watched_good ?_ (fun y00 y01 => commitNow_good y01)
          refine good_mk ?_
          dsimp only
          exact good_of (regWrite_good (putWords_good (watched_good (watched_good (watched_good (writeTimingPanel_good hs) (fun y00 y01 => commitNow_good y01)) (fun y00 y01 => commitNow_good y01)) (fun y00 y01 => commitNow_good y01))))
      · refine watched_good ?_ (fun y00 y01 => commitNow_good y01)
        refine watched_good ?_ (fun y00 y01 => commitNow_good y01)
        refine putWords_good ?_
        split
        · exact watched_good (watched_good (watched_good (writeTimingPanel_good hs) (fun y00 y01 => commitNow_good y01)) (fun y00 y01 => commitNow_good y01)) (fun y00 y01 => commitNow_good y01)
        · refine watched_good ?_ (fun y00 y01 => commitNow_good y01)
          refine good_mk ?_
          dsimp only
          exact good_of (regWrite_good (putWords_good (watched_good (watched_good (watched_good (writeTimingPanel_good hs) (fun y00 y01 => commitNow_good y01)) (fun y00 y01 => commitNow_good y01)) (fun y00 y01 => commitNow_good y01))))
  · refine regWrite_good ?_
    refine regWrite_good ?_
    split
    · split
      · split
        · exact watched_good (watched_good (watched_good (writeTimingPanel_good hs) (fun y00 y01 => commitNow_good y01)) (fun y00 y01 => commitNow_good y01)) (fun y00 y01 => commitNow_good y01)
        · refine watched_good ?_ (fun y00 y01 => commitNow_good y01)
          refine good_mk ?_
          dsimp only
          exact good_of (regWrite_good (putWords_good (watched_good (watched_good (watched_good (writeTimingPanel_good hs) (fun y00 y01 => commitNow_good y01)) (fun y00 y01 => commitNow_good y01)) (fun y00 y01 => commitNow_good y01))))
      · refine watched_good ?_ (fun y00 y01 => commitNow_good y01)
        refine watched_good ?_ (fun y00 y01 => commitNow_good y01)
        refine putWords_good ?_
        split
        · exact watched_good (watched_good (watched_good (writeTimingPanel_good hs) (fun y00 y01 => commitNow_good y01)) (fun y00 y01 => commitNow_good y01)) (fun y00 y01 => commitNow_good y01)
        · refine watched_good ?_ (fun y00 y01 => commitNow_good y01)
          refine good_mk ?_
          dsimp only
          exact good_of (regWrite_good (putWords_good (watched_good (watched_good (watched_good (writeTimingPanel_good hs) (fun y00 y01 => commitNow_good y01)) (fun y00 y01 => commitNow_good y01)) (fun y00 y01 => commitNow_good y01))))
    · refine commitNow_good ?_
      refine putWords_good ?_
      split
      · split
        · exact watched_good (watched_good (watched_good (writeTimingPanel_good hs) (fun y00 y01 => commitNow_good y01)) (fun y00 y01 => commitNow_good y01)) (fun y00 y01 => commitNow_good y01)
        · refine watched_good ?_ (fun y00 y01 => commitNow_good y01)
          refine good_mk ?_
          dsimp only
          exact good_of (regWrite_good (putWords_good (watched_good (watched_good (watched_good (writeTimingPanel_good hs) (fun y00 y01 => commitNow_good y01)) (fun y00 y01 => commitNow_good y01)) (fun y00 y01 => commitNow_good y01))))
      · refine watched_good ?_ (fun y00 y01 => commitNow_good y01)
        refine watched_good ?_ (fun y00 y01 => commitNow_good y01)
        refine putWords_good ?_
        split
        · exact watched_good (watched_good (watched_good (writeTimingPanel_good hs) (fun y00 y01 => commitNow_good y01)) (fun y00 y01 => commitNow_good y01)) (fun y00 y01 => commitNow_good y01)
        · refine watched_good ?_ (fun y00 y01 => commitNow_good y01)
          refine good_mk ?_
          dsimp only
          exact good_of (regWrite_good (putWords_good (watched_good (watched_good (watched_good (writeTimingPanel_good hs) (fun y00 y01 => commitNow_good y01)) (fun y00 y01 => commitNow_good y01)) (fun y00 y01 => commitNow_good y01))))

theorem State.loadRegs_good (hs : s.Good pq) : Good pq (loadRegs s) := by
  unfold loadRegs
  dsimp only
  split
  · split
    · refine commitNow_good ?_
      split
      · split
        · split
          · split
            · split
              · split
                · exact hs
                · exact regWrite_good (regWrite_good (regWrite_good (watched_good hs (fun y00 y01 => regWrite_good y01))))
              · refine regWrite_good ?_
                split
                · exact hs
                · exact regWrite_good (regWrite_good (regWrite_good (watched_good hs (fun y00 y01 => regWrite_good y01))))
            · refine putWords_good ?_
              split
              · split
                · exact hs
                · exact regWrite_good (regWrite_good (regWrite_good (watched_good hs (fun y00 y01 => regWrite_good y01))))
              · refine regWrite_good ?_
                split
                · exact hs
                · exact regWrite_good (regWrite_good (regWrite_good (watched_good hs (fun y00 y01 => regWrite_good y01))))
          · refine putWords_good ?_
            refine watched_good ?_ (fun y00 y01 => putWords_good y01)
            split
            · split
              · split
                · exact hs
                · exact regWrite_good (regWrite_good (regWrite_good (watched_good hs (fun y00 y01 => regWrite_good y01))))
              · refine regWrite_good ?_
                split
                · exact hs
                · exact regWrite_good (regWrite_good (regWrite_good (watched_good hs (fun y00 y01 => regWrite_good y01))))
            · refine putWords_good ?_
              split
              · split
                · exact hs
                · exact regWrite_good (regWrite_good (regWrite_good (watched_good hs (fun y00 y01 => regWrite_good y01))))
              · refine regWrite_good ?_
                split
                · exact hs
                · exact regWrite_good (regWrite_good (regWrite_good (watched_good hs (fun y00 y01 => regWrite_good y01))))
        · refine putWords_good ?_
          split
          · split
            · split
              · split
                · exact hs
                · exact regWrite_good (regWrite_good (regWrite_good (watched_good hs (fun y00 y01 => regWrite_good y01))))
              · refine regWrite_good ?_
                split
                · exact hs
                · exact regWrite_good (regWrite_good (regWrite_good (watched_good hs (fun y00 y01 => regWrite_good y01))))
            · refine putWords_good ?_
              split
              · split
                · exact hs
                · exact regWrite_good (regWrite_good (regWrite_good (watched_good hs (fun y00 y01 => regWrite_good y01))))
              · refine regWrite_good ?_
                split
                · exact hs
                · exact regWrite_good (regWrite_good (regWrite_good (watched_good hs (fun y00 y01 => regWrite_good y01))))
          · refine putWords_good ?_
            refine watched_good ?_ (fun y00 y01 => putWords_good y01)
            split
            · split
              · split
                · exact hs
                · exact regWrite_good (regWrite_good (regWrite_good (watched_good hs (fun y00 y01 => regWrite_good y01))))
              · refine regWrite_good ?_
                split
                · exact hs
                · exact regWrite_good (regWrite_good (regWrite_good (watched_good hs (fun y00 y01 => regWrite_good y01))))
            · refine putWords_good ?_
              split
              · split
                · exact hs
                · exact regWrite_good (regWrite_good (regWrite_good (watched_good hs (fun y00 y01 => regWrite_good y01))))
              · refine regWrite_good ?_
                split
                · exact hs
                · exact regWrite_good (regWrite_good (regWrite_good (watched_good hs (fun y00 y01 => regWrite_good y01))))
      · refine putWords_good ?_
        split
        · split
          · split
            · split
              · split
                · exact hs
                · exact regWrite_good (regWrite_good (regWrite_good (watched_good hs (fun y00 y01 => regWrite_good y01))))
              · refine regWrite_good ?_
                split
                · exact hs
                · exact regWrite_good (regWrite_good (regWrite_good (watched_good hs (fun y00 y01 => regWrite_good y01))))
            · refine putWords_good ?_
              split
              · split
                · exact hs
                · exact regWrite_good (regWrite_good (regWrite_good (watched_good hs (fun y00 y01 => regWrite_good y01))))
              · refine regWrite_good ?_
                split
                · exact hs
                · exact regWrite_good (regWrite_good (regWrite_good (watched_good hs (fun y00 y01 => regWrite_good y01))))
          · refine putWords_good ?_
            refine watched_good ?_ (fun y00 y01 => putWords_good y01)
            split
            · split
              · split
                · exact hs
                · exact regWrite_good (regWrite_good (regWrite_good (watched_good hs (fun y00 y01 => regWrite_good y01))))
              · refine regWrite_good ?_
                split
                · exact hs
                · exact regWrite_good (regWrite_good (regWrite_good (watched_good hs (fun y00 y01 => regWrite_good y01))))
            · refine putWords_good ?_
              split
              · split
                · exact hs
                · exact regWrite_good (regWrite_good (regWrite_good (watched_good hs (fun y00 y01 => regWrite_good y01))))
              · refine regWrite_good ?_
                split
                · exact hs
                · exact regWrite_good (regWrite_good (regWrite_good (watched_good hs (fun y00 y01 => regWrite_good y01))))
        · refine putWords_good ?_
          split
          · split
            · split
              · split
                · exact hs
                · exact regWrite_good (regWrite_good (regWrite_good (watched_good hs (fun y00 y01 => regWrite_good y01))))
              · refine regWrite_good ?_
                split
                · exact hs
                · exact regWrite_good (regWrite_good (regWrite_good (watched_good hs (fun y00 y01 => regWrite_good y01))))
            · refine putWords_good ?_
              split
              · split
                · exact hs
                · exact regWrite_good (regWrite_good (regWrite_good (watched_good hs (fun y00 y01 => regWrite_good y01))))
              · refine regWrite_good ?_
                split
                · exact hs
                · exact regWrite_good (regWrite_good (regWrite_good (watched_good hs (fun y00 y01 => regWrite_good y01))))
          · refine putWords_good ?_
            refine watched_good ?_ (fun y00 y01 => putWords_good y01)
            split
            · split
              · split
                · exact hs
                · exact regWrite_good (regWrite_good (regWrite_good (watched_good hs (fun y00 y01 => regWrite_good y01))))
              · refine regWrite_good ?_
                split
                · exact hs
                · exact regWrite_good (regWrite_good (regWrite_good (watched_good hs (fun y00 y01 => regWrite_good y01))))
            · refine putWords_good ?_
              split
              · split
                · exact hs
                · exact regWrite_good (regWrite_good (regWrite_good (watched_good hs (fun y00 y01 => regWrite_good y01))))
              · refine regWrite_good ?_
                split
                · exact hs
                · exact regWrite_good (regWrite_good (regWrite_good (watched_good hs (fun y00 y01 => regWrite_good y01))))
    · refine watched_good ?_ (fun y00 y01 => commitNow_good y01)
      refine commitNow_good ?_
      refine putWords_good ?_
      refine commitNow_good ?_
      split
      · split
        · split
          · split
            · split
              · split
                · exact hs
                · exact regWrite_good (regWrite_good (regWrite_good (watched_good hs (fun y00 y01 => regWrite_good y01))))
              · refine regWrite_good ?_
                split
                · exact hs
                · exact regWrite_good (regWrite_good (regWrite_good (watched_good hs (fun y00 y01 => regWrite_good y01))))
            · refine putWords_good ?_
              split
              · split
                · exact hs
                · exact regWrite_good (regWrite_good (regWrite_good (watched_good hs (fun y00 y01 => regWrite_good y01))))
              · refine regWrite_good ?_
                split
                · exact hs
                · exact regWrite_good (regWrite_good (regWrite_good (watched_good hs (fun y00 y01 => regWrite_good y01))))
          · refine putWords_good ?_
            refine watched_good ?_ (fun y00 y01 => putWords_good y01)
            split
            · split
              · split
                · exact hs
                · exact regWrite_good (regWrite_good (regWrite_good (watched_good hs (fun y00 y01 => regWrite_good y01))))
              · refine regWrite_good ?_
                split
                · exact hs
                · exact regWrite_good (regWrite_good (regWrite_good (watched_good hs (fun y00 y01 => regWrite_good y01))))
            · refine putWords_good ?_
              split
              · split
                · exact hs
                · exact regWrite_good (regWrite_good (regWrite_good (watched_good hs (fun y00 y01 => regWrite_good y01))))
              · refine regWrite_good ?_
                split
                · exact hs
                · exact regWrite_good (regWrite_good (regWrite_good (watched_good hs (fun y00 y01 => regWrite_good y01))))
        · refine putWords_good ?_
          split
          · split
            · split
              · split
                · exact hs
                · exact regWrite_good (regWrite_good (regWrite_good (watched_good hs (fun y00 y01 => regWrite_good y01))))
              · refine regWrite_good ?_
                split
                · exact hs
                · exact regWrite_good (regWrite_good (regWrite_good (watched_good hs (fun y00 y01 => regWrite_good y01))))
            · refine putWords_good ?_
              split
              · split
                · exact hs
                · exact regWrite_good (regWrite_good (regWrite_good (watched_good hs (fun y00 y01 => regWrite_good y01))))
              · refine regWrite_good ?_
                split
                · exact hs
                · exact regWrite_good (regWrite_good (regWrite_good (watched_good hs (fun y00 y01 => regWrite_good y01))))
          · refine putWords_good ?_
            refine watched_good ?_ (fun y00 y01 => putWords_good y01)
            split
            · split
              · split
                · exact hs
                · exact regWrite_good (regWrite_good (regWrite_good (watched_good hs (fun y00 y01 => regWrite_good y01))))
              · refine regWrite_good ?_
                split
                · exact hs
                · exact regWrite_good (regWrite_good (regWrite_good (watched_good hs (fun y00 y01 => regWrite_good y01))))
            · refine putWords_good ?_
              split
              · split
                · exact hs
                · exact regWrite_good (regWrite_good (regWrite_good (watched_good hs (fun y00 y01 => regWrite_good y01))))
              · refine regWrite_good ?_
                split
                · exact hs
                · exact regWrite_good (regWrite_good (regWrite_good (watched_good hs (fun y00 y01 => regWrite_good y01))))
      · refine putWords_good ?_
        split
        · split
          · split
            · split
              · split
                · exact hs
                · exact regWrite_good (regWrite_good (regWrite_good (watched_good hs (fun y00 y01 => regWrite_good y01))))
              · refine regWrite_good ?_
                split
                · exact hs
                · exact regWrite_good (regWrite_good (regWrite_good (watched_good hs (fun y00 y01 => regWrite_good y01))))
            · refine putWords_good ?_
              split
              · split
                · exact hs
                · exact regWrite_good (regWrite_good (regWrite_good (watched_good hs (fun y00 y01 => regWrite_good y01))))
              · refine regWrite_good ?_
                split
                · exact hs
                · exact regWrite_good (regWrite_good (regWrite_good (watched_good hs (fun y00 y01 => regWrite_good y01))))
          · refine putWords_good ?_
            refine watched_good ?_ (fun y00 y01 => putWords_good y01)
            split
            · split
              · split
                · exact hs
                · exact regWrite_good (regWrite_good (regWrite_good (watched_good hs (fun y00 y01 => regWrite_good y01))))
              · refine regWrite_good ?_
                split
                · exact hs
                · exact regWrite_good (regWrite_good (regWrite_good (watched_good hs (fun y00 y01 => regWrite_good y01))))
            · refine putWords_good ?_
              split
              · split
                · exact hs
                · exact regWrite_good (regWrite_good (regWrite_good (watched_good hs (fun y00 y01 => regWrite_good y01))))
              · refine regWrite_good ?_
                split
                · exact hs
                · exact regWrite_good (regWrite_good (regWrite_good (watched_good hs (fun y00 y01 => regWrite_good y01))))
        · refine putWords_good ?_
          split
          · split
            · split
              · split
                · exact hs
                · exact regWrite_good (regWrite_good (regWrite_good (watched_good hs (fun y00 y01 => regWrite_good y01))))
              · refine regWrite_good ?_
                split
                · exact hs
                · exact regWrite_good (regWrite_good (regWrite_good (watched_good hs (fun y00 y01 => regWrite_good y01))))
            · refine putWords_good ?_
              split
              · split
                · exact hs
                · exact regWrite_good (regWrite_good (regWrite_good (watched_good hs (fun y00 y01 => regWrite_good y01))))
              · refine regWrite_good ?_
                split
                · exact hs
                · exact regWrite_good (regWrite_good (regWrite_good (watched_good hs (fun y00 y01 => regWrite_good y01))))
          · refine putWords_good ?_
            refine watched_good ?_ (fun y00 y01 => putWords_good y01)
            split
            · split
              · split
                · exact hs
                · exact regWrite_good (regWrite_good (regWrite_good (watched_good hs (fun y00 y01 => regWrite_good y01))))
              · refine regWrite_good ?_
                split
                · exact hs
                · exact regWrite_good (regWrite_good (regWrite_good (watched_good hs (fun y00 y01 => regWrite_good y01))))
            · refine putWords_good ?_
              split
              · split
                · exact hs
                · exact regWrite_good (regWrite_good (regWrite_good (watched_good hs (fun y00 y01 => regWrite_good y01))))
              · refine regWrite_good ?_
                split
                · exact hs
                · exact regWrite_good (regWrite_good (regWrite_good (watched_good hs (fun y00 y01 => regWrite_good y01))))
  · refine putWords_good ?_
    split
    · refine commitNow_good ?_
      split
      · split
        · split
          · split
            · split
              · split
                · exact hs
                · exact regWrite_good (regWrite_good (regWrite_good (watched_good hs (fun y00 y01 => regWrite_good y01))))
              · refine regWrite_good ?_
                split
                · exact hs
                · exact regWrite_good (regWrite_good (regWrite_good (watched_good hs (fun y00 y01 => regWrite_good y01))))
            · refine putWords_good ?_
              split
              · split
                · exact hs
                · exact regWrite_good (regWrite_good (regWrite_good (watched_good hs (fun y00 y01 => regWrite_good y01))))
              · refine regWrite_good ?_
                split
                · exact hs
                · exact regWrite_good (regWrite_good (regWrite_good (watched_good hs (fun y00 y01 => regWrite_good y01))))
          · refine putWords_good ?_
            refine watched_good ?_ (fun y00 y01 => putWords_good y01)
            split
            · split
              · split
                · exact hs
                · exact regWrite_good (regWrite_good (regWrite_good (watched_good hs (fun y00 y01 => regWrite_good y01))))
              · refine regWrite_good ?_
                split
                · exact hs
                · exact regWrite_good (regWrite_good (regWrite_good (watched_good hs (fun y00 y01 => regWrite_good y01))))
            · refine putWords_good ?_
              split
              · split
                · exact hs
                · exact regWrite_good (regWrite_good (regWrite_good (watched_good hs (fun y00 y01 => regWrite_good y01))))
              · refine regWrite_good ?_
                split
                · exact hs
                · exact regWrite_good (regWrite_good (regWrite_good (watched_good hs (fun y00 y01 => regWrite_good y01))))
        · refine putWords_good ?_
          split
          · split
            · split
              · split
                · exact hs
                · exact regWrite_good (regWrite_good (regWrite_good (watched_good hs (fun y00 y01 => regWrite_good y01))))
              · refine regWrite_good ?_
                split
                · exact hs
                · exact regWrite_good (regWrite_good (regWrite_good (watched_good hs (fun y00 y01 => regWrite_good y01))))
            · refine putWords_good ?_
              split
              · split
                · exact hs
                · exact regWrite_good (regWrite_good (regWrite_good (watched_good hs (fun y00 y01 => regWrite_good y01))))
              · refine regWrite_good ?_
                split
                · exact hs
                · exact regWrite_good (regWrite_good (regWrite_good (watched_good hs (fun y00 y01 => regWrite_good y01))))
          · refine putWords_good ?_
            refine watched_good ?_ (fun y00 y01 => putWords_good y01)
            split
            · split
              · split
                · exact hs
                · exact regWrite_good (regWrite_good (regWrite_good (watched_good hs (fun y00 y01 => regWrite_good y01))))
              · refine regWrite_good ?_
                split
                · exact hs
                · exact regWrite_good (regWrite_good (regWrite_good (watched_good hs (fun y00 y01 => regWrite_good y01))))
            · refine putWords_good ?_
              split
              · split
                · exact hs
                · exact regWrite_good (regWrite_good (regWrite_good (watched_good hs (fun y00 y01 => regWrite_good y01))))
              · refine regWrite_good ?_
                split
                · exact hs
                · exact regWrite_good (regWrite_good (regWrite_good (watched_good hs (fun y00 y01 => regWrite_good y01))))
      · refine putWords_good ?_
        split
        · split
          · split
            · split
              · split
                · exact hs
                · exact regWrite_good (regWrite_good (regWrite_good (watched_good hs (fun y00 y01 => regWrite_good y01))))
              · refine regWrite_good ?_
                split
                · exact hs
                · exact regWrite_good (regWrite_good (regWrite_good (watched_good hs (fun y00 y01 => regWrite_good y01))))
            · refine putWords_good ?_
              split
              · split
                · exact hs
                · exact regWrite_good (regWrite_good (regWrite_good (watched_good hs (fun y00 y01 => regWrite_good y01))))
              · refine regWrite_good ?_
                split
                · exact hs
                · exact regWrite_good (regWrite_good (regWrite_good (watched_good hs (fun y00 y01 => regWrite_good y01))))
          · refine putWords_good ?_
            refine watched_good ?_ (fun y00 y01 => putWords_good y01)
            split
            · split
              · split
                · exact hs
                · exact regWrite_good (regWrite_good (regWrite_good (watched_good hs (fun y00 y01 => regWrite_good y01))))
              · refine regWrite_good ?_
                split
                · exact hs
                · exact regWrite_good (regWrite_good (regWrite_good (watched_good hs (fun y00 y01 => regWrite_good y01))))
            · refine putWords_good ?_
              split
              · split
                · exact hs
                · exact regWrite_good (regWrite_good (regWrite_good (watched_good hs (fun y00 y01 => regWrite_good y01))))
              · refine regWrite_good ?_
                split
                · exact hs
                · exact regWrite_good (regWrite_good (regWrite_good (watched_good hs (fun y00 y01 => regWrite_good y01))))
        · refine putWords_good ?_
          split
          · split
            · split
              · split
                · exact hs
                · exact regWrite_good (regWrite_good (regWrite_good (watched_good hs (fun y00 y01 => regWrite_good y01))))
              · refine regWrite_good ?_
                split
                · exact hs
                · exact regWrite_good (regWrite_good (regWrite_good (watched_good hs (fun y00 y01 => regWrite_good y01))))
            · refine putWords_good ?_
              split
              · split
                · exact hs
                · exact regWrite_good (regWrite_good (regWrite_good (watched_good hs (fun y00 y01 => regWrite_good y01))))
              · refine regWrite_good ?_
                split
                · exact hs
                · exact regWrite_good (regWrite_good (regWrite_good (watched_good hs (fun y00 y01 => regWrite_good y01))))
          · refine putWords_good ?_
            refine watched_good ?_ (fun y00 y01 => putWords_good y01)
            split
            · split
              · split
                · exact hs
                · exact regWrite_good (regWrite_good (regWrite_good (watched_good hs (fun y00 y01 => regWrite_good y01))))
              · refine regWrite_good ?_
                split
                · exact hs
                · exact regWrite_good (regWrite_good (regWrite_good (watched_good hs (fun y00 y01 => regWrite_good y01))))
            · refine putWords_good ?_
              split
              · split
                · exact hs
                · exact regWrite_good (regWrite_good (regWrite_good (watched_good hs (fun y00 y01 => regWrite_good y01))))
              · refine regWrite_good ?_
                split
                · exact hs
                · exact regWrite_good (regWrite_good (regWrite_good (watched_good hs (fun y00 y01 => regWrite_good y01))))
    · refine watched_good ?_ (fun y00 y01 => commitNow_good y01)
      refine commitNow_good ?_
      refine putWords_good ?_
      refine commitNow_good ?_
      split
      · split
        · split
          · split
            · split
              · split
                · exact hs
                · exact regWrite_good (regWrite_good (regWrite_good (watched_good hs (fun y00 y01 => regWrite_good y01))))
              · refine regWrite_good ?_
                split
                · exact hs
                · exact regWrite_good (regWrite_good (regWrite_good (watched_good hs (fun y00 y01 => regWrite_good y01))))
            · refine putWords_good ?_
              split
              · split
                · exact hs
                · exact regWrite_good (regWrite_good (regWrite_good (watched_good hs (fun y00 y01 => regWrite_good y01))))
              · refine regWrite_good ?_
                split
                · exact hs
                · exact regWrite_good (regWrite_good (regWrite_good (watched_good hs (fun y00 y01 => regWrite_good y01))))
          · refine putWords_good ?_
            refine watched_good ?_ (fun y00 y01 => putWords_good y01)
            split
            · split
              · split
                · exact hs
                · exact regWrite_good (regWrite_good (regWrite_good (watched_good hs (fun y00 y01 => regWrite_good y01))))
              · refine regWrite_good ?_
                split
                · exact hs
                · exact regWrite_good (regWrite_good (regWrite_good (watched_good hs (fun y00 y01 => regWrite_good y01))))
            · refine putWords_good ?_
              split
              · split
                · exact hs
                · exact regWrite_good (regWrite_good (regWrite_good (watched_good hs (fun y00 y01 => regWrite_good y01))))
              · refine regWrite_good ?_
                split
                · exact hs
                · exact regWrite_good (regWrite_good (regWrite_good (watched_good hs (fun y00 y01 => regWrite_good y01))))
        · refine putWords_good ?_
          split
          · split
            · split
              · split
                · exact hs
                · exact regWrite_good (regWrite_good (regWrite_good (watched_good hs (fun y00 y01 => regWrite_good y01))))
              · refine regWrite_good ?_
                split
                · exact hs
                · exact regWrite_good (regWrite_good (regWrite_good (watched_good hs (fun y00 y01 => regWrite_good y01))))
            · refine putWords_good ?_
              split
              · split
                · exact hs
                · exact regWrite_good (regWrite_good (regWrite_good (watched_good hs (fun y00 y01 => regWrite_good y01))))
              · refine regWrite_good ?_
                split
                · exact hs
                · exact regWrite_good (regWrite_good (regWrite_good (watched_good hs (fun y00 y01 => regWrite_good y01))))
          · refine putWords_good ?_
            refine watched_good ?_ (fun y00 y01 => putWords_good y01)
            split
            · split
              · split
                · exact hs
                · exact regWrite_good (regWrite_good (regWrite_good (watched_good hs (fun y00 y01 => regWrite_good y01))))
              · refine regWrite_good ?_
                split
                · exact hs
                · exact regWrite_good (regWrite_good (regWrite_good (watched_good hs (fun y00 y01 => regWrite_good y01))))
            · refine putWords_good ?_
              split
              · split
                · exact hs
                · exact regWrite_good (regWrite_good (regWrite_good (watched_good hs (fun y00 y01 => regWrite_good y01))))
              · refine regWrite_good ?_
                split
                · exact hs
                · exact regWrite_good (regWrite_good (regWrite_good (watched_good hs (fun y00 y01 => regWrite_good y01))))
      · refine putWords_good ?_
        split
        · split
          · split
            · split
              · split
                · exact hs
                · exact regWrite_good (regWrite_good (regWrite_good (watched_good hs (fun y00 y01 => regWrite_good y01))))
              · refine regWrite_good ?_
                split
                · exact hs
                · exact regWrite_good (regWrite_good (regWrite_good (watched_good hs (fun y00 y01 => regWrite_good y01))))
            · refine putWords_good ?_
              split
              · split
                · exact hs
                · exact regWrite_good (regWrite_good (regWrite_good (watched_good hs (fun y00 y01 => regWrite_good y01))))
              · refine regWrite_good ?_
                split
                · exact hs
                · exact regWrite_good (regWrite_good (regWrite_good (watched_good hs (fun y00 y01 => regWrite_good y01))))
          · refine putWords_good ?_
            refine watched_good ?_ (fun y00 y01 => putWords_good y01)
            split
            · split
              · split
                · exact hs
                · exact regWrite_good (regWrite_good (regWrite_good (watched_good hs (fun y00 y01 => regWrite_good y01))))
              · refine regWrite_good ?_
                split
                · exact hs
                · exact regWrite_good (regWrite_good (regWrite_good (watched_good hs (fun y00 y01 => regWrite_good y01))))
            · refine putWords_good ?_
              split
              · split
                · exact hs
                · exact regWrite_good (regWrite_good (regWrite_good (watched_good hs (fun y00 y01 => regWrite_good y01))))
              · refine regWrite_good ?_
                split
                · exact hs
                · exact regWrite_good (regWrite_good (regWrite_good (watched_good hs (fun y00 y01 => regWrite_good y01))))
        · refine putWords_good ?_
          split
          · split
            · split
              · split
                · exact hs
                · exact regWrite_good (regWrite_good (regWrite_good (watched_good hs (fun y00 y01 => regWrite_good y01))))
              · refine regWrite_good ?_
                split
                · exact hs
                · exact regWrite_good (regWrite_good (regWrite_good (watched_good hs (fun y00 y01 => regWrite_good y01))))
            · refine putWords_good ?_
              split
              · split
                · exact hs
                · exact regWrite_good (regWrite_good (regWrite_good (watched_good hs (fun y00 y01 => regWrite_good y01))))
              · refine regWrite_good ?_
                split
                · exact hs
                · exact regWrite_good (regWrite_good (regWrite_good (watched_good hs (fun y00 y01 => regWrite_good y01))))
          · refine putWords_good ?_
            refine watched_good ?_ (fun y00 y01 => putWords_good y01)
            split
            · split
              · split
                · exact hs
                · exact regWrite_good (regWrite_good (regWrite_good (watched_good hs (fun y00 y01 => regWrite_good y01))))
              · refine regWrite_good ?_
                split
                · exact hs
                · exact regWrite_good (regWrite_good (regWrite_good (watched_good hs (fun y00 y01 => regWrite_good y01))))
            · refine putWords_good ?_
              split
              · split
                · exact hs
                · exact regWrite_good (regWrite_good (regWrite_good (watched_good hs (fun y00 y01 => regWrite_good y01))))
              · refine regWrite_good ?_
                split
                · exact hs
                · exact regWrite_good (regWrite_good (regWrite_good (watched_good hs (fun y00 y01 => regWrite_good y01))))

theorem State.panelDataFail_good (hs : s.Good pq) : Good pq (panelDataFail s) := by
  unfold panelDataFail
  exact logTrouble_good (setFlag_good hs)

theorem State.assetFail_good (hs : s.Good pq) : Good pq (assetFail s) := by
  unfold assetFail
  exact logTrouble_good (setFlag_good hs)

theorem State.loadGamma_good (hs : s.Good pq) : Good pq (loadGamma s) := by
  unfold loadGamma
  split
  dsimp only
  refine commitNow_good ?_
  refine regWrite_good ?_
  refine setBytes_good ?_
  refine good_of_pair (by assumption) ?_
  split
  · dsimp only
    exact hs
  · dsimp only
    exact panelDataFail_good hs

theorem State.loadOverdrive_good (hs : s.Good pq) : Good pq (loadOverdrive s) := by
  unfold loadOverdrive
  split
  · exact panelDataFail_good hs
  · exact commitNow_good (regWrite_good (fstLoad_good hs))

theorem State.loadDemura_good (hs : s.Good pq) : Good pq (loadDemura s) := by
  unfold loadDemura
  dsimp only
  refine good_mk ?_
  dsimp only
  refine good_of ?_
  refine commitNow_good ?_
  refine regWrite_good ?_
  split
  · refine panelDataFail_good ?_
    split
    · exact panelDataFail_good hs
    · refine good_mk ?_
      dsimp only
      exact good_of (fstLoad_good hs)
  · refine good_mk ?_
    dsimp only
    refine good_of ?_
    refine fstLoad_good ?_
    split
    · exact panelDataFail_good hs
    · refine good_mk ?_
      dsimp only
      exact good_of (fstLoad_good hs)

theorem State.chooseBin_good (hs : s.Good pq) : Good pq (chooseBin s) := by
  unfold chooseBin
  exact setFld_good hs

theorem State.loadSplash_good (hs : s.Good pq) : Good pq (loadSplash s) := by
  unfold loadSplash
  split
  split
  · exact good_of_pair ‹_› (showSplash_good hs)
  · exact assetFail_good (good_of_pair ‹_› (showSplash_good hs))

theorem State.withPanel_good (hs : s.Good pq) : Good pq (withPanel s) := by
  unfold withPanel
  exact loadPanel_good (domainOn_good hs)

theorem State.loadWindows_good (hs : s.Good pq) : Good pq (loadWindows s) := by
  unfold loadWindows
  split
  · exact assetFail_good hs
  · split
    · exact assetFail_good hs
    · split
      exact commitNow_good (writeWindows_good (good_of_pair ‹_› (loadIcons_good hs)))

theorem State.wakeBitmap_good (hs : s.Good pq) : Good pq (wakeBitmap s) := by
  unfold wakeBitmap
  split
  · exact hs
  · exact regWrite_good hs

theorem State.loadPicture_good (hs : s.Good pq) : Good pq (loadPicture s) := by
  unfold loadPicture
  dsimp only
  exact wakeBitmap_good (putExpectedOf_good (loadWindows_good (loadSplash_good (chooseBin_good (loadDemura_good (loadOverdrive_good (loadGamma_good hs)))))))

theorem State.raisePanel_good (hs : s.Good pq) : Good pq (raisePanel s) := by
  unfold raisePanel
  dsimp only
  exact regWrite_good (loadPanel_good (powerOn_good (powerOn_good hs)))

theorem State.loadAreas_good (hs : s.Good pq) : Good pq (loadAreas s) := by
  unfold loadAreas
  dsimp only
  split
  · exact regWrite_good (regWrite_good (regWrite_good (regWrite_good (regWrite_good hs))))
  · exact regWrite_good (regWrite_good (regWrite_good (regWrite_good hs)))

theorem State.stepTo_good {n : Nat} (hs : s.Good pq) : Good pq (stepTo s n) := by
  unfold stepTo
  exact setFld_good hs

theorem State.romRecovery_good {noConfig : Bool} (hs : s.Good pq) : Good pq (romRecovery s noConfig) := by
  unfold romRecovery
  dsimp only
  exact servePending_good (setPw_good (ringsStart_good (setFlag_good (setFlag_good hs))))

theorem State.firmwareStart_good {image : Nat} {boot : Bool} (hs : s.Good pq) : Good pq (firmwareStart s image boot) := by
  unfold firmwareStart
  dsimp only
  refine stepTo_good ?_
  refine ledgerStart_good ?_
  refine logStart_good ?_
  split
  · refine ringsStart_good ?_
    refine good_mk ?_
    dsimp only
    exact good_of (setPw_good (setFld_good hs))
  · refine enableAll_good ?_
    refine good_mk ?_
    dsimp only
    exact good_of (setPw_good (setFld_good hs))

theorem State.fullStart_good (hs : s.Good pq) : Good pq (fullStart s) := by
  unfold fullStart
  split
  · exact romRecovery_good hs
  · dsimp only
    split
    · split
      · refine firmwareStart_good ?_
        refine good_mk ?_
        dsimp only
        exact good_of hs
      · split
        · split
          · refine firmwareStart_good ?_
            refine setFlag_good ?_
            refine good_mk ?_
            dsimp only
            exact good_of hs
          · refine romRecovery_good ?_
            refine setFlag_good ?_
            refine setFlag_good ?_
            refine good_mk ?_
            dsimp only
            exact good_of hs
        · split
          · refine firmwareStart_good ?_
            refine setFlag_good ?_
            refine good_mk ?_
            dsimp only
            exact good_of hs
          · refine romRecovery_good ?_
            refine setFlag_good ?_
            refine setFlag_good ?_
            refine good_mk ?_
            dsimp only
            exact good_of hs
    · split
      · refine firmwareStart_good ?_
        refine good_mk ?_
        dsimp only
        exact good_of hs
      · split
        · split
          · refine firmwareStart_good ?_
            refine setFlag_good ?_
            refine good_mk ?_
            dsimp only
            exact good_of hs
          · refine romRecovery_good ?_
            refine setFlag_good ?_
            refine setFlag_good ?_
            refine good_mk ?_
            dsimp only
            exact good_of hs
        · split
          · refine firmwareStart_good ?_
            refine setFlag_good ?_
            refine good_mk ?_
            dsimp only
            exact good_of hs
          · refine romRecovery_good ?_
            refine setFlag_good ?_
            refine setFlag_good ?_
            refine good_mk ?_
            dsimp only
            exact good_of hs

theorem State.step2_good (hs : s.Good pq) : Good pq (step2 s) := by
  unfold step2
  dsimp only
  refine stepTo_good ?_
  split
  · exact regWrite_good (regWrite_good (powerOn_good (powerOn_good hs)))
  · exact powerOn_good (powerOn_good hs)

theorem State.step3_good (hs : s.Good pq) : Good pq (step3 s) := by
  unfold step3
  split
  · exact fullStart_good hs
  · split
    · split
      · exact romRecovery_good hs
      · dsimp only
        refine firmwareStart_good ?_
        refine setFlag_good ?_
        refine good_mk ?_
        dsimp only
        exact good_of hs
    · exact fullStart_good (setPw_good (setFlag_good hs))

theorem State.step4_good {therm : Nat} {die : List Nat} (hs : s.Good pq) : Good pq (step4 s therm die) := by
  unfold step4
  dsimp only
  split
  · refine servePending_good ?_
    refine setTrans_good ?_
    refine stepTo_good ?_
    refine loadPicture_good ?_
    refine loadAreas_good ?_
    refine loadTiming_good ?_
    refine loadRegs_good ?_
    refine good_mk ?_
    dsimp only
    exact good_of hs
  · split
    · refine setPw_good ?_
      refine stepTo_good ?_
      refine loadPicture_good ?_
      refine loadAreas_good ?_
      refine loadTiming_good ?_
      refine loadRegs_good ?_
      refine good_mk ?_
      dsimp only
      exact good_of hs
    · refine raisePanel_good ?_
      refine enterMode_good ?_
      refine setPw_good ?_
      refine stepTo_good ?_
      refine loadPicture_good ?_
      refine loadAreas_good ?_
      refine loadTiming_good ?_
      refine loadRegs_good ?_
      refine good_mk ?_
      dsimp only
      exact good_of hs

theorem execStartUpStepComplete_good {therm : BitVec 16} {die : List (BitVec 16)} (hs : s.Good pq) : OutGood pq (execStartUpStepComplete therm die s) := by
  unfold execStartUpStepComplete
  split
  · exact outGood_next (step2_good hs)
  · refine outGood_next ?_
    split
    · exact hs
    · exact step3_good hs
  · exact outGood_next (step4_good hs)
  · refine outGood_next ?_
    split
    · exact regWrite_good (stepTo_good hs)
    · exact hs
  · split
    · exact outGood_next hs
    · dsimp only
      refine outGood_next ?_
      split
      · exact calStart_good (blRun_good (stepTo_good hs))
      · exact blRun_good (stepTo_good hs)
  · exact outGood_next hs

theorem execDomainWakeDone_good {d : Domain} (hs : s.Good pq) : OutGood pq (execDomainWakeDone d s) := by
  unfold execDomainWakeDone
  split
  · exact outGood_next hs
  · dsimp only
    refine outGood_next ?_
    refine powerOn_good ?_
    split
    · exact setFld_good (setFlag_good hs)
    · exact setFlag_good hs

theorem State.splashAgain_good (hs : s.Good pq) : Good pq (splashAgain s) := by
  unfold splashAgain
  dsimp only
  split
  · exact hs
  · exact showSplash_good hs

theorem State.endUpdate_good (hs : s.Good pq) : Good pq (endUpdate s) := by
  unfold endUpdate
  refine good_mk ?_
  dsimp only
  exact good_of hs

theorem State.endTests_good (hs : s.Good pq) : Good pq (endTests s) := by
  unfold endTests
  exact setCmds_good hs

theorem State.leaveFor_good {row : Nat} {m : Mode} (hs : s.Good pq) : Good pq (leaveFor s row m) := by
  unfold leaveFor
  dsimp only
  refine good_mk ?_
  dsimp only
  refine good_of ?_
  split
  · split
    · split
      · split
        · split
          · exact calDrop_good (endTests_good (endUpdate_good (rampDown_good (setPw_good hs))))
          · exact endTests_good (endUpdate_good (rampDown_good (setPw_good hs)))
        · split
          · exact calDrop_good (endTests_good (endUpdate_good (setPw_good hs)))
          · exact endTests_good (endUpdate_good (setPw_good hs))
      · split
        · split
          · exact calDrop_good (endTests_good (endUpdate_good (rampDown_good hs)))
          · exact endTests_good (endUpdate_good (rampDown_good hs))
        · split
          · exact calDrop_good (endTests_good (endUpdate_good hs))
          · exact endTests_good (endUpdate_good hs)
    · split
      · split
        · split
          · exact calDrop_good (endTests_good (rampDown_good (setPw_good hs)))
          · exact endTests_good (rampDown_good (setPw_good hs))
        · split
          · exact calDrop_good (endTests_good (setPw_good hs))
          · exact endTests_good (setPw_good hs)
      · split
        · split
          · exact calDrop_good (endTests_good (rampDown_good hs))
          · exact endTests_good (rampDown_good hs)
        · split
          · exact calDrop_good (endTests_good hs)
          · exact endTests_good hs
  · split
    · split
      · split
        · split
          · exact calDrop_good (endUpdate_good (rampDown_good (setPw_good hs)))
          · exact endUpdate_good (rampDown_good (setPw_good hs))
        · split
          · exact calDrop_good (endUpdate_good (setPw_good hs))
          · exact endUpdate_good (setPw_good hs)
      · split
        · split
          · exact calDrop_good (endUpdate_good (rampDown_good hs))
          · exact endUpdate_good (rampDown_good hs)
        · split
          · exact calDrop_good (endUpdate_good hs)
          · exact endUpdate_good hs
    · split
      · split
        · split
          · exact calDrop_good (rampDown_good (setPw_good hs))
          · exact rampDown_good (setPw_good hs)
        · split
          · exact calDrop_good (setPw_good hs)
          · exact setPw_good hs
      · split
        · split
          · exact calDrop_good (rampDown_good hs)
          · exact rampDown_good hs
        · split
          · exact calDrop_good hs
          · exact hs

theorem State.portsOn_good (hs : s.Good pq) : Good pq (portsOn s) := by
  unfold portsOn
  dsimp only
  split
  · exact hs
  · exact regWrite_good (regWrite_good hs)

theorem State.linkFor_good (hs : s.Good pq) : Good pq (linkFor s) := by
  unfold linkFor
  split
  · exact portsOn_good (powerOn_good hs)
  · exact hs

theorem State.relit_good (hs : s.Good pq) : Good pq (relit s) := by
  unfold relit
  split
  · exact setTrans_good hs
  · refine setTrans_good ?_
    split
    · exact hs
    · exact biasUp_good hs
  · refine blRun_good ?_
    split
    · exact hs
    · exact biasUp_good hs
  · refine blRun_good ?_
    split
    · exact hs
    · exact biasUp_good hs

theorem State.arrive_good {was : Mode} (hs : s.Good pq) : Good pq (arrive s was) := by
  unfold arrive
  dsimp only
  split
  · refine relit_good ?_
    split
    · exact splashAgain_good (linkFor_good hs)
    · exact linkFor_good hs
  · split
    · exact splashAgain_good (linkFor_good hs)
    · exact linkFor_good hs

theorem State.rowDone_good {row : Nat} {tag : Nat} (hs : s.Good pq) : Good pq (rowDone s row tag) := by
  unfold rowDone
  split
  · exact hs
  · split
    · exact waitIn_good hs
    · split
      · split
        · exact endCmd_good hs
        · exact finishCmd_good hs
      · exact finishCmd_good hs

theorem State.takeRow_good {row : Nat} (hs : s.Good pq) : Good pq (takeRow s row) := by
  unfold takeRow
  dsimp only
  split
  · split
    · split
      · refine endCmd_good ?_
        split
        · exact rowDone_good (arrive_good (enterMode_good (setPw_good (leaveFor_good hs))))
        · exact arrive_good (enterMode_good (setPw_good (leaveFor_good hs)))
      · split
        · exact rowDone_good (arrive_good (enterMode_good (setPw_good (leaveFor_good hs))))
        · exact arrive_good (enterMode_good (setPw_good (leaveFor_good hs)))
    · split
      · exact rowDone_good (arrive_good (enterMode_good (setPw_good (leaveFor_good hs))))
      · exact arrive_good (enterMode_good (setPw_good (leaveFor_good hs)))
  · split
    · exact rowDone_good (arrive_good (enterMode_good (setPw_good (leaveFor_good hs))))
    · exact arrive_good (enterMode_good (setPw_good (leaveFor_good hs)))

theorem State.dropTrig_good {t : ModeTrig} (hs : s.Good pq) : Good pq (dropTrig s t) := by
  unfold dropTrig
  dsimp only
  split
  · exact setPw_good hs
  · exact endCmd_good (setPw_good hs)

theorem State.modeChange_good (hs : s.Good pq) : Good pq (modeChange s) := by
  unfold modeChange
  split
  · exact hs
  · dsimp only
    refine foldl_good (fun y00 y01 y02 => dropTrig_good y02) ?_
    split
    · exact takeRow_good hs
    · exact hs

theorem execLowRateEntry_good (hs : s.Good pq) : OutGood pq (execLowRateEntry s) := by
  unfold execLowRateEntry
  split
  · exact outGood_next (latch_good hs)
  · exact outGood_next hs

theorem execNoHostTimeout_good (hs : s.Good pq) : OutGood pq (execNoHostTimeout s) := by
  unfold execNoHostTimeout
  refine outGood_next ?_
  split
  · exact latch_good hs
  · exact hs

theorem State.withPlane_good {i : Nat} {p : Plane} (hs : s.Good pq) : Good pq (withPlane s i p) := by
  unfold withPlane
  refine good_mk ?_
  dsimp only
  exact good_of hs

theorem State.keepFrame_good {p : Nat} {from' : Nat} (hs : s.Good pq) : Good pq (keepFrame s p from') := by
  unfold keepFrame
  dsimp only
  refine good_mk ?_
  dsimp only
  exact good_of hs

theorem State.putRows_good {g : Geo} {k : Nat} {rows : List (List Px)} (hs : s.Good pq) : Good pq (putRows s g k rows) := by
  unfold putRows
  exact foldl_good (fun y00 y01 y02 => foldl_good (fun y10 y11 y12 => setRawPixel_good y12) y02) (freshTile_good hs)

theorem State.moveStore_good {a : Nat} {b : Nat} {g : Geo} (hs : s.Good pq) : Good pq (moveStore s a b g) := by
  unfold moveStore
  dsimp only
  refine setStore_good ?_
  split
  · split
    · refine putRows_good ?_
      split
      · exact putRows_good (putRows_good hs)
      · exact putRows_good hs
    · split
      · exact putRows_good (putRows_good hs)
      · exact putRows_good hs
  · refine putRows_good ?_
    split
    · refine putRows_good ?_
      split
      · exact putRows_good (putRows_good hs)
      · exact putRows_good hs
    · split
      · exact putRows_good (putRows_good hs)
      · exact putRows_good hs

theorem State.subscribe_good {i : Nat} {p : Plane} (hs : s.Good pq) : Good pq (subscribe s i p) := by
  unfold subscribe
  dsimp only
  split
  · split
    · exact withPlane_good hs
    · exact setStore_good (withPlane_good hs)
  · split
    · split
      · exact withPlane_good hs
      · exact moveStore_good (withPlane_good hs)
    · split
      · split
        · split
          · split
            · split
              · refine setStore_good ?_
                refine good_mk ?_
                dsimp only
                exact good_of (withPlane_good hs)
              · refine good_mk ?_
                dsimp only
                exact good_of (withPlane_good hs)
            · split
              · refine setStore_good ?_
                refine good_mk ?_
                dsimp only
                exact good_of (withPlane_good hs)
              · refine good_mk ?_
                dsimp only
                exact good_of (withPlane_good hs)
          · split
            · refine setStore_good ?_
              refine good_mk ?_
              dsimp only
              exact good_of (withPlane_good hs)
            · refine good_mk ?_
              dsimp only
              exact good_of (withPlane_good hs)
        · split
          · split
            · split
              · refine setStore_good ?_
                refine good_mk ?_
                dsimp only
                exact good_of (moveStore_good (withPlane_good hs))
              · refine good_mk ?_
                dsimp only
                exact good_of (moveStore_good (withPlane_good hs))
            · split
              · refine setStore_good ?_
                refine good_mk ?_
                dsimp only
                exact good_of (moveStore_good (withPlane_good hs))
              · refine good_mk ?_
                dsimp only
                exact good_of (moveStore_good (withPlane_good hs))
          · split
            · refine setStore_good ?_
              refine good_mk ?_
              dsimp only
              exact good_of (moveStore_good (withPlane_good hs))
            · refine good_mk ?_
              dsimp only
              exact good_of (moveStore_good (withPlane_good hs))
      · split
        · split
          · split
            · split
              · refine setStore_good ?_
                refine good_mk ?_
                dsimp only
                exact good_of (setStore_good (withPlane_good hs))
              · refine good_mk ?_
                dsimp only
                exact good_of (setStore_good (withPlane_good hs))
            · split
              · refine setStore_good ?_
                refine good_mk ?_
                dsimp only
                exact good_of (setStore_good (withPlane_good hs))
              · refine good_mk ?_
                dsimp only
                exact good_of (setStore_good (withPlane_good hs))
          · split
            · refine setStore_good ?_
              refine good_mk ?_
              dsimp only
              exact good_of (setStore_good (withPlane_good hs))
            · refine good_mk ?_
              dsimp only
              exact good_of (setStore_good (withPlane_good hs))
        · split
          · split
            · split
              · refine setStore_good ?_
                refine good_mk ?_
                dsimp only
                exact good_of (setStore_good (moveStore_good (withPlane_good hs)))
              · refine good_mk ?_
                dsimp only
                exact good_of (setStore_good (moveStore_good (withPlane_good hs)))
            · split
              · refine setStore_good ?_
                refine good_mk ?_
                dsimp only
                exact good_of (setStore_good (moveStore_good (withPlane_good hs)))
              · refine good_mk ?_
                dsimp only
                exact good_of (setStore_good (moveStore_good (withPlane_good hs)))
          · split
            · refine setStore_good ?_
              refine good_mk ?_
              dsimp only
              exact good_of (setStore_good (moveStore_good (withPlane_good hs)))
            · refine good_mk ?_
              dsimp only
              exact good_of (setStore_good (moveStore_good (withPlane_good hs)))

theorem State.subscribeCmd_good {c : RunCmd} (hs : s.Good pq) : Good pq (subscribeCmd s c) := by
  unfold subscribeCmd
  exact finishCmd_good (subscribe_good hs)

theorem State.waitFrame_good {c : RunCmd} {late : Bool} (hs : s.Good pq) : Good pq (waitFrame s c late) := by
  unfold waitFrame
  dsimp only
  split
  · exact setCmd_good hs
  · split
    · exact subscribeCmd_good hs
    · exact finishCmd_good hs

theorem State.framesDue_good (hs : s.Good pq) : Good pq (framesDue s) := by
  unfold framesDue
  refine foldl_good ?_ hs
  intro y00 y01 y02
  split
  · exact y02
  · split
    · exact subscribeCmd_good y02
    · exact finishCmd_good y02

end Sys2Proof.Machine
end

