-- ==== Sys2Proof/Laws/GoodFrame.lean ====
section
/-! SUPPORT. Good states kept by the frame boundary and the clock. -/

namespace Sys2Proof.Machine

open State

variable {pq : List Instr} {s : State}

theorem State.snapshot_good {len : Nat} {vin : Nat} {led : Nat} (hs : s.Good pq) : Good pq (snapshot s len vin led) := by
  unfold snapshot
  dsimp only
  refine setReg_good ?_
  refine setReg_good ?_
  refine setFlag_good ?_
  refine setFld_good ?_
  refine setReg_good ?_
  refine setReg_good ?_
  refine setReg_good ?_
  refine foldl_good ?_ (latchUsed_good hs)
  intro y00 y01 y02
  split
  · split
    · exact setReg_good (setSnap_good y02)
    · exact setSnap_good y02
  · split
    · exact setReg_good (setSnap_good y02)
    · exact setSnap_good y02

theorem State.latchWitnesses_good (hs : s.Good pq) : Good pq (latchWitnesses s) := by
  unfold latchWitnesses
  dsimp only
  split
  · exact hs
  · refine proofClose_good ?_
    split
    · exact witnessLatch_good (gLatch_good hs)
    · exact gLatch_good hs

theorem State.handOverDue_good {priv : Bool} (hs : s.Good pq) : Good pq (handOverDue s priv).2 := by
  unfold handOverDue
  dsimp only
  refine foldl_pair_good ?_ ?_
  · intro y00 y01 y02
    split
    · split
      · dsimp only
        exact handOverCommit_good (loadDone_good y02)
      · dsimp only
        exact loadDone_good y02
    · dsimp only
      exact handOverCommit_good y02
  · dsimp only
    exact hs

theorem State.flipRecord_good {st : Nat} {bypass : Bool} {host : Word} (hs : s.Good pq) : Good pq (flipRecord s st bypass host) := by
  unfold flipRecord
  dsimp only
  exact countUp_good (setReg_good (setReg_good (setReg_good (setReg_good (setFld_good (setFld_good hs))))))

theorem State.releaseKept_good {i : Nat} (hs : s.Good pq) : Good pq (releaseKept s i) := by
  unfold releaseKept
  refine foldl_good ?_ hs
  intro y00 y01 y02
  split
  · split
    · refine good_mk ?_
      dsimp only
      exact good_of y02
    · exact y02
  · exact y02

theorem State.flipStream_good {st : Nat} (hs : s.Good pq) : Good pq (flipStream s st) := by
  unfold flipStream
  dsimp only
  split
  · exact flipRecord_good (setStream_good (setStore_good hs))
  · split
    · exact hs
    · exact flipRecord_good (foldl_good (fun y00 y01 y02 => releaseKept_good (setStore_good y02)) hs)

theorem State.flips_good (hs : s.Good pq) : Good pq (flips s) := by
  unfold flips
  dsimp only
  refine good_mk ?_
  dsimp only
  refine good_of ?_
  split
  · exact hs
  · exact foldl_good (fun y00 y01 y02 => flipStream_good y02) hs

theorem State.lowRateFrame_good {restart : Bool} (hs : s.Good pq) : Good pq (lowRateFrame s restart) := by
  unfold lowRateFrame
  split
  · refine good_mk ?_
    dsimp only
    exact good_of hs
  · dsimp only
    refine good_mk ?_
    dsimp only
    exact good_of hs

theorem State.fixLength_good (hs : s.Good pq) : Good pq (fixLength s) := by
  unfold fixLength
  dsimp only
  refine good_mk ?_
  dsimp only
  exact good_of hs

theorem State.odvFrame_good {good : Bool} {scan : Bool} (hs : s.Good pq) : Good pq (odvFrame s good scan) := by
  unfold odvFrame
  dsimp only
  refine good_mk ?_
  dsimp only
  refine good_of ?_
  refine setFld_good ?_
  refine setFlag_good ?_
  refine setFld_good ?_
  refine setFlag_good ?_
  refine setFld_good ?_
  split
  · exact hs
  · exact countUp_good (setFld_good hs)

theorem State.dmrFrame_good (hs : s.Good pq) : Good pq (dmrFrame s) := by
  unfold dmrFrame
  split
  · exact setFld_good (setFlag_good hs)
  · exact hs

theorem State.ditherFrame_good {scan : Bool} (hs : s.Good pq) : Good pq (ditherFrame s scan) := by
  unfold ditherFrame
  split
  · exact setFld_good hs
  · split
    · exact wrapUp_good hs
    · exact hs

theorem State.pipeFrame_good (hs : s.Good pq) : Good pq (pipeFrame s) := by
  unfold pipeFrame
  refine good_mk ?_
  dsimp only
  exact good_of hs

theorem State.reload_good (hs : s.Good pq) : Good pq (reload s) := by
  unfold reload
  split
  · exact hs
  · dsimp only
    refine foldl_good ?_ ?_
    · intro y00 y01 y02
      split
      · exact y02
      · split
        · exact putIcon_good (encodeAfresh_good y02)
        · exact y02
    · refine foldl_good ?_ hs
      intro y00 y01 y02
      split
      · exact y02
      · split
        · exact y02
        · split
          · exact ask_good (encodeAfresh_good y02)
          · exact y02

theorem State.litFrame_good (hs : s.Good pq) : Good pq (litFrame s) := by
  unfold litFrame
  split
  · exact hs
  · dsimp only
    split
    · split
      · exact hs
      · refine good_mk ?_
        dsimp only
        refine good_of ?_
        split
        · exact stepTo_good (setFld_good (quot_good hs))
        · exact setFld_good (quot_good hs)
    · split
      · split
        · exact setPw_good hs
        · exact hs
      · split
        · split
          · refine setPw_good ?_
            refine good_mk ?_
            dsimp only
            exact good_of (stepTo_good (setFld_good (quot_good hs)))
          · refine good_mk ?_
            dsimp only
            exact good_of (stepTo_good (setFld_good (quot_good hs)))
        · split
          · refine setPw_good ?_
            refine good_mk ?_
            dsimp only
            exact good_of (setFld_good (quot_good hs))
          · refine good_mk ?_
            dsimp only
            exact good_of (setFld_good (quot_good hs))

theorem State.relight_good {scan : Bool} (hs : s.Good pq) : Good pq (relight s scan) := by
  unfold relight
  split
  · split
    · exact hs
    · split
      · split
        · exact setPw_good hs
        · exact hs
      · split
        · exact blRun_good hs
        · exact hs
  · exact hs

theorem State.demuraAuto_good (hs : s.Good pq) : Good pq (demuraAuto s) := by
  unfold demuraAuto
  split
  · exact hs
  · dsimp only
    split
    · split
      · refine recompute_good ?_
        refine regWrite_good ?_
        refine regWrite_good ?_
        refine good_mk ?_
        dsimp only
        exact good_of hs
      · refine good_mk ?_
        dsimp only
        exact good_of hs
    · split
      · refine recompute_good ?_
        refine regWrite_good ?_
        refine regWrite_good ?_
        refine good_mk ?_
        dsimp only
        exact good_of hs
      · refine good_mk ?_
        dsimp only
        exact good_of hs

theorem State.persistFrame_good (hs : s.Good pq) : Good pq (persistFrame s) := by
  unfold persistFrame
  dsimp only
  split
  · split
    · exact writePersist_good hs
    · exact hs
  · split
    · exact writePersist_good hs
    · exact hs

theorem State.countQuiet_good {was : Word} (hs : s.Good pq) : Good pq (countQuiet s was) := by
  unfold countQuiet
  dsimp only
  exact setPw_good hs

theorem State.boundary12_good {vin : Nat} {led : Nat} (hs : s.Good pq) : Good pq (boundary12 s vin led) := by
  unfold boundary12
  dsimp only
  split
  · refine govDebt_good ?_
    refine snapshot_good ?_
    refine latchWitnesses_good ?_
    split
    · exact hs
    · exact setReg_good hs
  · refine snapshot_good ?_
    refine latchWitnesses_good ?_
    split
    · exact hs
    · exact setReg_good hs

theorem State.boundary3_good (hs : s.Good pq) : Good pq (boundary3 s) := by
  unfold boundary3
  split
  dsimp only
  refine present_good ?_
  refine setCmds_good ?_
  refine good_mk ?_
  dsimp only
  exact good_of (good_of_pair ‹_› (handOverDue_good hs))

theorem State.boundary456_good (hs : s.Good pq) : Good pq (boundary456 s) := by
  unfold boundary456
  exact commitsDone_good (framesDue_good (handOverDue_good (flips_good (modeChange_good hs))))

theorem State.boundary7_good {len : Nat} {dur : ℚ} {good : Bool} {restart : Bool} {was : Word} (hs : s.Good pq) : Good pq (boundary7 s len dur good restart was) := by
  unfold boundary7
  dsimp only
  split
  · split
    · refine event_good ?_
      refine good_mk ?_
      dsimp only
      refine good_of ?_
      refine persistFrame_good ?_
      refine demuraAuto_good ?_
      refine crcRelease_good ?_
      refine countQuiet_good ?_
      refine good_mk ?_
      dsimp only
      exact good_of (relight_good (scrubFrame_good (calFrame_good (ditherFrame_good (dmrFrame_good (odvFrame_good (pipeFrame_good (reload_good (opticsFrame_good (ldaFrame_good (absentFrame_good (proofOpen_good (holdFrame_good (litFrame_good (carouselFrame_good (winLanes_good (gStart_good (colLine0_good (colFits_good (fixLength_good (lowRateFrame_good (govFrame_good hs))))))))))))))))))))))
    · refine good_mk ?_
      dsimp only
      refine good_of ?_
      refine persistFrame_good ?_
      refine demuraAuto_good ?_
      refine crcRelease_good ?_
      refine countQuiet_good ?_
      refine good_mk ?_
      dsimp only
      exact good_of (relight_good (scrubFrame_good (calFrame_good (ditherFrame_good (dmrFrame_good (odvFrame_good (pipeFrame_good (reload_good (opticsFrame_good (ldaFrame_good (absentFrame_good (proofOpen_good (holdFrame_good (litFrame_good (carouselFrame_good (winLanes_good (gStart_good (colLine0_good (colFits_good (fixLength_good (lowRateFrame_good (govFrame_good hs))))))))))))))))))))))
  · split
    · refine event_good ?_
      refine good_mk ?_
      dsimp only
      refine good_of ?_
      refine persistFrame_good ?_
      refine demuraAuto_good ?_
      refine crcRelease_good ?_
      refine countQuiet_good ?_
      refine good_mk ?_
      dsimp only
      exact good_of (relight_good (scrubFrame_good (calFrame_good (ditherFrame_good (dmrFrame_good (odvFrame_good (pipeFrame_good (reload_good (opticsFrame_good (ldaFrame_good (absentFrame_good (proofOpen_good (holdFrame_good (litFrame_good (carouselFrame_good (winLanes_good (gStart_good (colLine0_good (fixLength_good (lowRateFrame_good (govFrame_good hs)))))))))))))))))))))
    · refine good_mk ?_
      dsimp only
      refine good_of ?_
      refine persistFrame_good ?_
      refine demuraAuto_good ?_
      refine crcRelease_good ?_
      refine countQuiet_good ?_
      refine good_mk ?_
      dsimp only
      exact good_of (relight_good (scrubFrame_good (calFrame_good (ditherFrame_good (dmrFrame_good (odvFrame_good (pipeFrame_good (reload_good (opticsFrame_good (ldaFrame_good (absentFrame_good (proofOpen_good (holdFrame_good (litFrame_good (carouselFrame_good (winLanes_good (gStart_good (colLine0_good (fixLength_good (lowRateFrame_good (govFrame_good hs)))))))))))))))))))))

theorem execFrameStart_good {vin : Nat} {led : Nat} (hs : s.Good pq) : OutGood pq (execFrameStart vin led s) := by
  unfold execFrameStart
  split
  · exact outGood_next hs
  · split
    · refine outGood_next ?_
      refine handNow_good ?_
      refine good_mk ?_
      dsimp only
      exact good_of hs
    · dsimp only
      refine outGood_next ?_
      refine boundary7_good ?_
      refine boundary456_good ?_
      refine boundary3_good ?_
      refine good_mk ?_
      dsimp only
      exact good_of (boundary12_good hs)

theorem execFrameEndDecision_good {l : Nat} (hs : s.Good pq) : OutGood pq (execFrameEndDecision l s) := by
  unfold execFrameEndDecision
  split
  · exact outGood_next hs
  · dsimp only
    split
    · exact outGood_next (reachPos_good hs)
    · refine outGood_next ?_
      refine good_mk ?_
      dsimp only
      refine good_of ?_
      split
      · exact setFlag_good (countUp_good (countUp_good (setReg_good (reachPos_good hs))))
      · exact countUp_good (setReg_good (reachPos_good hs))

theorem execGovernorEvaluate_good {i : GovIn} (hs : s.Good pq) : OutGood pq (execGovernorEvaluate i s) := by
  unfold execGovernorEvaluate
  split
  · exact outGood_next hs
  · dsimp only
    split
    · refine outGood_next ?_
      refine good_mk ?_
      dsimp only
      exact good_of (reachPos_good hs)
    · refine outGood_next ?_
      refine evaluate_good ?_
      split
      · refine boostPlan_good ?_
        refine ldaPartial_good ?_
        refine calCheck_good ?_
        refine good_mk ?_
        dsimp only
        exact good_of (reachPos_good hs)
      · refine ldaPartial_good ?_
        refine calCheck_good ?_
        refine good_mk ?_
        dsimp only
        exact good_of (reachPos_good hs)

theorem execGovernorLatch_good (hs : s.Good pq) : OutGood pq (execGovernorLatch s) := by
  unfold execGovernorLatch
  split
  · exact outGood_next hs
  · dsimp only
    split
    · exact outGood_next (levelStart_good (ldaDecide_good (govLatch_good (reachPos_good hs))))
    · exact outGood_next (ldaDecide_good (reachPos_good hs))

theorem State.step8_good (hs : s.Good pq) : Good pq (step8 s) := by
  unfold step8
  dsimp only
  refine event_good ?_
  split
  · exact stepTo_good hs
  · split
    · exact latch_good (stepTo_good hs)
    · exact latch_good (portsOn_good (setFlag_good (powerOn_good (stepTo_good hs))))

theorem execProofRecordBuild_good (hs : s.Good pq) : OutGood pq (execProofRecordBuild s) := by
  unfold execProofRecordBuild
  split
  · exact outGood_next hs
  · split
    · exact outGood_next hs
    · dsimp only
      refine outGood_next ?_
      split
      · exact step8_good (proofRecord_good (reachPos_good hs))
      · exact proofRecord_good (reachPos_good hs)

theorem State.fatalReset_good (hs : s.Good pq) : Good pq (fatalReset s) := by
  unfold fatalReset
  dsimp only
  exact fullReset_good (draw_good (draw_good (settle_good (logWriteAll_good hs))))

theorem State.rasterTick_good (hs : s.Good pq) : Good pq (rasterTick s) := by
  unfold rasterTick
  split
  · exact hs
  · dsimp only
    split
    · refine good_mk ?_
      dsimp only
      exact good_of hs
    · split
      · refine good_mk ?_
        dsimp only
        exact good_of hs
      · split
        · exact hs
        · refine good_mk ?_
          dsimp only
          exact good_of hs

theorem State.arbTick_good (hs : s.Good pq) : Good pq (arbTick s) := by
  unfold arbTick
  split
  · split
    refine good_mk ?_
    dsimp only
    exact good_of (good_of_pair ‹_› (draw_good hs))
  · exact hs

theorem State.clockTick_good (hs : s.Good pq) : Good pq (clockTick s) := by
  unfold clockTick
  split
  · exact hs
  · dsimp only
    split
    · refine fullReset_good ?_
      refine writePersist_good ?_
      refine good_mk ?_
      dsimp only
      exact good_of hs
    · split
      · refine fatalReset_good ?_
        refine good_mk ?_
        dsimp only
        exact good_of hs
      · refine pumpAll_good ?_
        refine rasterTick_good ?_
        refine arbTick_good ?_
        refine portTick_good ?_
        refine portTick_good ?_
        refine good_mk ?_
        dsimp only
        exact good_of hs

end Sys2Proof.Machine
end

