-- ==== Sys2Proof/Laws/GoodCmd.lean ====
section
/-! SUPPORT. Good states kept by the commands of the catalogue. -/

namespace Sys2Proof.Machine

open State

variable {pq : List Instr} {s : State}

theorem State.calHold_good {op : Nat} (hs : s.Good pq) : Good pq (calHold s op) := by
  unfold calHold
  split
  · exact setCal_good hs
  · exact hs

theorem State.takeFrom_good {n : Nat} (hs : s.Good pq) : Good pq (takeFrom s n) := by
  unfold takeFrom
  dsimp only
  split
  · refine syncPauses_good ?_
    refine cmdEntry_good ?_
    refine calHold_good ?_
    refine setCmds_good ?_
    split
    · exact countUp_good (setFld_good (setMb_good hs))
    · refine good_mk ?_
      dsimp only
      exact good_of (countUp_good (setFld_good (setMb_good hs)))
  · refine postCpl_good ?_
    split
    · exact countUp_good (setFld_good (setMb_good hs))
    · refine good_mk ?_
      dsimp only
      exact good_of (countUp_good (setFld_good (setMb_good hs)))
  · refine postCpl_good ?_
    split
    · exact countUp_good (setFld_good (setMb_good hs))
    · refine good_mk ?_
      dsimp only
      exact good_of (countUp_good (setFld_good (setMb_good hs)))

theorem execCommandTake_good (hs : s.Good pq) : OutGood pq (execCommandTake s) := by
  unfold execCommandTake
  split
  · exact outGood_next hs
  · split
    · exact outGood_next hs
    · exact outGood_next (takeFrom_good hs)

theorem State.endedEarly_good {c : RunCmd} (hs : s.Good pq) : Good pq (endedEarly s c) := by
  unfold endedEarly
  split
  · exact regWrite_good hs
  · exact calRelease_good hs
  · exact calRelease_good hs
  · exact hs

theorem State.boundary_good {c : RunCmd} (hs : s.Good pq) : Good pq (boundary s c) := by
  unfold boundary
  split
  · split
    · split
      · exact latch_good (endCmd_good (calDrop_good hs))
      · exact latch_good (calDrop_good (setCmd_good hs))
    · exact endCmd_good (endedEarly_good hs)
  · dsimp only
    split
    · exact calIdle_good (calNext_good (settle_good (cmdEntry_good (setCmd_good hs))))
    · exact settle_good (cmdEntry_good (setCmd_good hs))

theorem execCommandStepBoundary_good {tag : Fin 64} (hs : s.Good pq) : OutGood pq (execCommandStepBoundary tag s) := by
  unfold execCommandStepBoundary
  split
  · exact outGood_next hs
  · split
    · exact outGood_next (boundary_good hs)
    · exact outGood_next hs

theorem execCommandTimeout_good {tag : Fin 64} (hs : s.Good pq) : OutGood pq (execCommandTimeout tag s) := by
  unfold execCommandTimeout
  split
  · exact outGood_next hs
  · split
    · exact outGood_next hs
    · exact outGood_next (setCmd_good hs)

theorem State.runs_good {tag : Fin 64} {op : Nat} {f : RunCmd → State → State} (hs : s.Good pq) (hf : ∀ (y0 : RunCmd) (y1 : State), y1.Good pq → Good pq (f y0 y1)) : OutGood pq (runs s tag op f) := by
  unfold runs
  split
  · exact outGood_next hs
  · exact outGood_next (hf _ _ hs)

theorem RunCmd.ok_good {c : RunCmd} {result : List Byte} (hs : s.Good pq) : Good pq (RunCmd.ok c result s) := by
  unfold RunCmd.ok
  exact finishCmd_good hs

theorem RunCmd.fails_good {c : RunCmd} {status : Nat} (hs : s.Good pq) : Good pq (RunCmd.fails c status s) := by
  unfold RunCmd.fails
  exact finishCmd_good hs

theorem State.tryCommit_good {v : State} {luts : List Blk} {p : Blk × Bool} (hv : v.Good pq) : Good pq (tryCommit v luts p).2 := by
  unfold tryCommit
  dsimp only
  split
  · split
    · dsimp only
      exact hv
    · dsimp only
      split
      · refine good_mk ?_
        dsimp only
        exact good_of (handOverSet_good hv)
      · exact handOverSet_good hv
  · split
    · dsimp only
      exact hv
    · dsimp only
      split
      · refine good_mk ?_
        dsimp only
        exact good_of (handOverSet_good hv)
      · exact handOverSet_good hv

theorem State.makeCommit_good {luts : List Blk} {p : Blk × Bool} (hs : s.Good pq) : Good pq (makeCommit luts s p) := by
  unfold makeCommit
  split
  · exact recompute_good hs
  · dsimp only
    exact regWrite_good hs

theorem State.commitFor_good {c : RunCmd} {l : CommitList} {luts : List Blk} {write : State → State} (hs : s.Good pq) (hwrite : ∀ (y0 : State), y0.Good pq → Good pq (write y0)) : Good pq (commitFor s c l luts write) := by
  unfold commitFor
  split
  · exact RunCmd.fails_good hs
  · split
    · exact hs
    · dsimp only
      split
      · exact commitsDone_good (foldl_good (fun y00 y01 y02 => makeCommit_good y02) (hwrite _ (waitIn_good hs)))
      · split
        · exact commitsDone_good (foldl_good (fun y00 y01 y02 => makeCommit_good y02) (hwrite _ (waitIn_good hs)))
        · split
          · exact commitsDone_good (foldl_good (fun y00 y01 y02 => makeCommit_good y02) (hwrite _ (waitIn_good hs)))
          · exact RunCmd.fails_good hs

theorem execSysInfo_good {tag : Fin 64} (hs : s.Good pq) : OutGood pq (execSysInfo tag s) := by
  unfold execSysInfo
  exact runs_good hs (fun y00 y01 y02 => RunCmd.ok_good y02)

theorem execSysStatus_good {tag : Fin 64} (hs : s.Good pq) : OutGood pq (execSysStatus tag s) := by
  unfold execSysStatus
  exact runs_good hs (fun y00 y01 y02 => RunCmd.ok_good y02)

theorem execSysTime_good {tag : Fin 64} (hs : s.Good pq) : OutGood pq (execSysTime tag s) := by
  unfold execSysTime
  exact runs_good hs (fun y00 y01 y02 => RunCmd.ok_good y02)

theorem execSysReset_good {tag : Fin 64} (hs : s.Good pq) : OutGood pq (execSysReset tag s) := by
  unfold execSysReset
  exact runs_good hs (fun y00 y01 y02 => RunCmd.ok_good (setPw_good y02))

theorem State.waitRow_good {c : RunCmd} {row : Nat} (hs : s.Good pq) : Good pq (waitRow s c row) := by
  unfold waitRow
  exact latch_good (waitIn_good hs)

theorem State.enterDark_good {c : RunCmd} {row : Nat} (hs : s.Good pq) : Good pq (enterDark s c row) := by
  unfold enterDark
  split
  · exact RunCmd.fails_good hs
  · split
    · exact RunCmd.fails_good hs
    · exact waitRow_good hs

theorem State.modeSet_good {c : RunCmd} (hs : s.Good pq) : Good pq (modeSet c s) := by
  unfold modeSet
  dsimp only
  split
  · exact RunCmd.ok_good (setPw_good hs)
  · split
    · exact requestSleep_good (waitIn_good (setPw_good hs))
    · exact requestSleep_good (waitIn_good (setPw_good hs))
    · exact enterDark_good (setPw_good hs)
    · exact enterDark_good (setPw_good hs)
    · split
      · exact waitRow_good (setPw_good hs)
      · exact RunCmd.fails_good (setPw_good hs)
    · split
      · exact waitRow_good (setPw_good hs)
      · exact RunCmd.fails_good (setPw_good hs)
    · exact RunCmd.fails_good (setPw_good hs)

theorem execModeSet_good {tag : Fin 64} (hs : s.Good pq) : OutGood pq (execModeSet tag s) := by
  unfold execModeSet
  exact runs_good hs (fun y00 y01 y02 => modeSet_good y02)

theorem execSvcEnter_good {tag : Fin 64} (hs : s.Good pq) : OutGood pq (execSvcEnter tag s) := by
  unfold execSvcEnter
  exact runs_good hs (fun y00 y01 y02 => enterDark_good y02)

theorem execSvcExit_good {tag : Fin 64} (hs : s.Good pq) : OutGood pq (execSvcExit tag s) := by
  unfold execSvcExit
  refine runs_good hs ?_
  intro y00 y01 y02
  split
  · exact waitRow_good y02
  · exact RunCmd.fails_good y02

theorem execPerfFloor_good {tag : Fin 64} (hs : s.Good pq) : OutGood pq (execPerfFloor tag s) := by
  unfold execPerfFloor
  exact runs_good hs (fun y00 y01 y02 => waitFrame_good (regWrite_good y02))

theorem execPowerBudget_good {tag : Fin 64} (hs : s.Good pq) : OutGood pq (execPowerBudget tag s) := by
  unfold execPowerBudget
  exact runs_good hs (fun y00 y01 y02 => waitFrame_good (regWrite_good y02))

theorem execWakeCfg_good {tag : Fin 64} (hs : s.Good pq) : OutGood pq (execWakeCfg tag s) := by
  unfold execWakeCfg
  refine runs_good hs ?_
  intro y00 y01 y02
  dsimp only
  exact RunCmd.ok_good (regWrite_good (regWrite_good (regWrite_good y02)))

theorem execPowerStatus_good {tag : Fin 64} (hs : s.Good pq) : OutGood pq (execPowerStatus tag s) := by
  unfold execPowerStatus
  exact runs_good hs (fun y00 y01 y02 => RunCmd.ok_good y02)

theorem State.needs_good {c : RunCmd} {d : Domain} {f : State → State} (hs : s.Good pq) (hf : ∀ (y0 : State), y0.Good pq → Good pq (f y0)) : Good pq (needs s c d f) := by
  unfold needs
  split
  · exact hf _ hs
  · split
    split
    · exact good_of_pair ‹_› (demand_good hs)
    · exact RunCmd.fails_good (good_of_pair ‹_› (demand_good hs))

theorem execLinkStatus_good {tag : Fin 64} (hs : s.Good pq) : OutGood pq (execLinkStatus tag s) := by
  unfold execLinkStatus
  exact runs_good hs (fun y00 y01 y02 => needs_good y02 (fun y10 y11 => RunCmd.ok_good y11))

theorem execLinkRetrain_good {tag : Fin 64} (hs : s.Good pq) : OutGood pq (execLinkRetrain tag s) := by
  unfold execLinkRetrain
  refine runs_good hs ?_
  intro y00 y01 y02
  refine needs_good y02 ?_
  intro y10 y11
  dsimp only
  split
  · exact RunCmd.fails_good y11
  · exact regWrite_good (waitIn_good y11)

theorem execLinkRates_good {tag : Fin 64} (hs : s.Good pq) : OutGood pq (execLinkRates tag s) := by
  unfold execLinkRates
  refine runs_good hs ?_
  intro y00 y01 y02
  refine needs_good y02 ?_
  intro y10 y11
  dsimp only
  refine RunCmd.ok_good ?_
  split
  · exact regWrite_good (regWrite_good (regWrite_good y11))
  · exact regWrite_good y11

theorem execLinkEq_good {tag : Fin 64} (hs : s.Good pq) : OutGood pq (execLinkEq tag s) := by
  unfold execLinkEq
  refine runs_good hs ?_
  intro y00 y01 y02
  refine needs_good y02 ?_
  intro y10 y11
  dsimp only
  exact RunCmd.ok_good (regWrite_good y11)

theorem State.loopStart_good {c : RunCmd} (hs : s.Good pq) : Good pq (loopStart s c) := by
  unfold loopStart
  dsimp only
  split
  · split
    · exact stepDone_good (waitIn_good (regWrite_good hs))
    · exact waitIn_good (regWrite_good hs)
  · split
    · exact stepDone_good hs
    · exact hs

theorem State.loopPattern_good {c : RunCmd} {errors : Nat} {lock : Bool} (hs : s.Good pq) : Good pq (loopPattern s c errors lock) := by
  unfold loopPattern
  dsimp only
  split
  · exact waitIn_good (regWrite_good hs)
  · split
    · exact hs
    · exact stepDone_good (setReg_good (setFlag_good (setFld_good hs)))

theorem execLinkLoop_good {tag : Fin 64} {errors : Nat} {lock : Bool} (hs : s.Good pq) : OutGood pq (execLinkLoop tag errors lock s) := by
  unfold execLinkLoop
  refine runs_good hs ?_
  intro y00 y01 y02
  split
  · exact needs_good y02 (fun y10 y11 => loopStart_good y11)
  · exact loopPattern_good y02
  · exact RunCmd.ok_good (regWrite_good y02)

theorem execPlaneSub_good {tag : Fin 64} (hs : s.Good pq) : OutGood pq (execPlaneSub tag s) := by
  unfold execPlaneSub
  exact runs_good hs (fun y00 y01 y02 => waitFrame_good y02)

theorem State.writeBlend_good {p : List Byte} (hs : s.Good pq) : Good pq (writeBlend s p) := by
  unfold writeBlend
  dsimp only
  exact regWrite_good (regWrite_good (regWrite_good hs))

theorem execPlaneBlend_good {tag : Fin 64} (hs : s.Good pq) : OutGood pq (execPlaneBlend tag s) := by
  unfold execPlaneBlend
  exact runs_good hs (fun y00 y01 y02 => commitFor_good y02 (fun y10 y11 => writeBlend_good y11))

theorem execTimingSet_good {tag : Fin 64} (hs : s.Good pq) : OutGood pq (execTimingSet tag s) := by
  unfold execTimingSet
  refine runs_good hs ?_
  intro y00 y01 y02
  dsimp only
  split
  · exact RunCmd.fails_good y02
  · exact commitFor_good y02 (fun y10 y11 => writeTiming_good y11)

theorem execLowrateCfg_good {tag : Fin 64} (hs : s.Good pq) : OutGood pq (execLowrateCfg tag s) := by
  unfold execLowrateCfg
  exact runs_good hs (fun y00 y01 y02 => commitFor_good y02 (fun y10 y11 => regWrite_good y11))

theorem execScanCfg_good {tag : Fin 64} (hs : s.Good pq) : OutGood pq (execScanCfg tag s) := by
  unfold execScanCfg
  exact runs_good hs (fun y00 y01 y02 => RunCmd.ok_good (regWrite_good y02))

theorem execStreamStatus_good {tag : Fin 64} (hs : s.Good pq) : OutGood pq (execStreamStatus tag s) := by
  unfold execStreamStatus
  refine runs_good hs ?_
  intro y00 y01 y02
  dsimp only
  exact RunCmd.ok_good y02

theorem State.writeBias_good {p : List Byte} (hs : s.Good pq) : Good pq (writeBias s p) := by
  unfold writeBias
  dsimp only
  exact setFlag_good (regWrite_good (regWrite_good (regWrite_good (regWrite_good hs))))

theorem execBiasSet_good {tag : Fin 64} (hs : s.Good pq) : OutGood pq (execBiasSet tag s) := by
  unfold execBiasSet
  exact runs_good hs (fun y00 y01 y02 => commitFor_good y02 (fun y10 y11 => writeBias_good y11))

theorem State.writeTaps_good {l : List Nat} (hs : s.Good pq) : Good pq (writeTaps s l) := by
  unfold writeTaps
  exact foldl_good (fun y00 y01 y02 => regWrite_good y02) hs

theorem State.setStage_good {l : Option (List Nat)} (hs : s.Good pq) : Good pq (setStage s l) := by
  unfold setStage
  refine good_mk ?_
  dsimp only
  exact good_of hs

theorem execGammaTaps_good {tag : Fin 64} (hs : s.Good pq) : OutGood pq (execGammaTaps tag s) := by
  unfold execGammaTaps
  refine runs_good hs ?_
  intro y00 y01 y02
  split
  · exact RunCmd.ok_good (setStage_good y02)
  · split
    · exact RunCmd.fails_good y02
    · dsimp only
      split
      · exact RunCmd.fails_good (setStage_good y02)
      · exact commitFor_good y02 (fun y10 y11 => writeTaps_good (setStage_good y11))

theorem execGammaStageDiscard_good (hs : s.Good pq) : OutGood pq (execGammaStageDiscard s) := by
  unfold execGammaStageDiscard
  exact outGood_next (setStage_good hs)

theorem execPanelPower_good {tag : Fin 64} (hs : s.Good pq) : OutGood pq (execPanelPower tag s) := by
  unfold execPanelPower
  refine runs_good hs ?_
  intro y00 y01 y02
  refine needs_good y02 ?_
  intro y10 y11
  dsimp only
  split
  · split
    · exact biasUp_good (waitIn_good y11)
    · exact tellPanel_good (biasUp_good (waitIn_good y11))
  · split
    · exact biasDown_good (waitIn_good y11)
    · exact tellPanel_good (biasDown_good (waitIn_good y11))

theorem State.writeGate_good {img : List Byte} {p : List Byte} (hs : s.Good pq) : Good pq (writeGate s img p) := by
  unfold writeGate
  dsimp only
  exact regWrite_good (regWrite_good (setBytes_good hs))

theorem execGateProgram_good {tag : Fin 64} (hs : s.Good pq) : OutGood pq (execGateProgram tag s) := by
  unfold execGateProgram
  refine runs_good hs ?_
  intro y00 y01 y02
  dsimp only
  split
  · exact RunCmd.fails_good y02
  · split
    · exact RunCmd.fails_good y02
    · exact commitFor_good y02 (fun y10 y11 => writeGate_good y11)

theorem State.writeColumn_good {dth : Word} {p : List Byte} (hs : s.Good pq) : Good pq (writeColumn s dth p) := by
  unfold writeColumn
  dsimp only
  exact regWrite_good (regWrite_good (regWrite_good (regWrite_good (regWrite_good (regWrite_good hs)))))

theorem execColumnCfg_good {tag : Fin 64} (hs : s.Good pq) : OutGood pq (execColumnCfg tag s) := by
  unfold execColumnCfg
  refine runs_good hs ?_
  intro y00 y01 y02
  dsimp only
  exact commitFor_good y02 (fun y10 y11 => writeColumn_good y11)

theorem execColumnStatus_good {tag : Fin 64} (hs : s.Good pq) : OutGood pq (execColumnStatus tag s) := by
  unfold execColumnStatus
  exact runs_good hs (fun y00 y01 y02 => needs_good y02 (fun y10 y11 => RunCmd.ok_good y11))

theorem execColumnRetrain_good {tag : Fin 64} (hs : s.Good pq) : OutGood pq (execColumnRetrain tag s) := by
  unfold execColumnRetrain
  exact runs_good hs (fun y00 y01 y02 => needs_good y02 (fun y10 y11 => RunCmd.ok_good (regWrite_good y11)))

theorem State.demuraCommit_good {c : RunCmd} {k : Nat} (hs : s.Good pq) : Good pq (demuraCommit s c k) := by
  unfold demuraCommit
  exact commitFor_good hs (fun y00 y01 => regWrite_good y01)

theorem State.dmrLoad_good {c : RunCmd} (hs : s.Good pq) : Good pq (dmrLoad c s) := by
  unfold dmrLoad
  dsimp only
  split
  · split
    · exact stepDone_good hs
    · exact RunCmd.fails_good hs
  · split
    · exact stepDone_good hs
    · exact RunCmd.fails_good hs
  · exact stepDone_good hs
  · split
    · exact demuraCommit_good hs
    · exact stepDone_good hs
  · refine stepDone_good ?_
    refine good_mk ?_
    dsimp only
    exact good_of (fstLoad_good hs)
  · split
    · exact hs
    · exact demuraCommit_good hs

theorem execDmrLoad_good {tag : Fin 64} (hs : s.Good pq) : OutGood pq (execDmrLoad tag s) := by
  unfold execDmrLoad
  exact runs_good hs (fun y00 y01 y02 => dmrLoad_good y02)

theorem execDmrSelect_good {tag : Fin 64} (hs : s.Good pq) : OutGood pq (execDmrSelect tag s) := by
  unfold execDmrSelect
  refine runs_good hs ?_
  intro y00 y01 y02
  dsimp only
  refine commitFor_good y02 ?_
  intro y10 y11
  refine regWrite_good ?_
  refine good_mk ?_
  dsimp only
  exact good_of y11

theorem execOdvLoad_good {tag : Fin 64} (hs : s.Good pq) : OutGood pq (execOdvLoad tag s) := by
  unfold execOdvLoad
  refine runs_good hs ?_
  intro y00 y01 y02
  dsimp only
  split
  · split
    · exact RunCmd.fails_good y02
    · split
      · exact stepDone_good y02
      · exact RunCmd.fails_good y02
  · exact commitFor_good y02 (fun y10 y11 => regWrite_good (fstLoad_good y11))

theorem State.writeOdv_good {p : List Byte} (hs : s.Good pq) : Good pq (writeOdv s p) := by
  unfold writeOdv
  dsimp only
  exact regWrite_good (regWrite_good (regWrite_good (regWrite_good (regWrite_good hs))))

theorem execOdvCfg_good {tag : Fin 64} (hs : s.Good pq) : OutGood pq (execOdvCfg tag s) := by
  unfold execOdvCfg
  exact runs_good hs (fun y00 y01 y02 => commitFor_good y02 (fun y10 y11 => writeOdv_good y11))

theorem execLutLoad_good {tag : Fin 64} (hs : s.Good pq) : OutGood pq (execLutLoad tag s) := by
  unfold execLutLoad
  refine runs_good hs ?_
  intro y00 y01 y02
  dsimp only
  split
  · split
    · exact RunCmd.fails_good y02
    · split
      · exact stepDone_good y02
      · exact RunCmd.fails_good y02
  · exact stepDone_good y02
  · exact commitFor_good y02 (fun y10 y11 => regWrite_good (setBytes_good y11))

theorem State.writeDth_good {v : Word} {p : List Byte} (hs : s.Good pq) : Good pq (writeDth s v p) := by
  unfold writeDth
  dsimp only
  exact regWrite_good (regWrite_good (regWrite_good (regWrite_good (regWrite_good hs))))

theorem execDthCfg_good {tag : Fin 64} (hs : s.Good pq) : OutGood pq (execDthCfg tag s) := by
  unfold execDthCfg
  refine runs_good hs ?_
  intro y00 y01 y02
  dsimp only
  exact commitFor_good y02 (fun y10 y11 => writeDth_good y11)

theorem State.writeScan_good {p : List Byte} (hs : s.Good pq) : Good pq (writeScan s p) := by
  unfold writeScan
  dsimp only
  exact regWrite_good (setBytes_good (regWrite_good hs))

theorem execBlScan_good {tag : Fin 64} (hs : s.Good pq) : OutGood pq (execBlScan tag s) := by
  unfold execBlScan
  exact runs_good hs (fun y00 y01 y02 => commitFor_good y02 (fun y10 y11 => writeScan_good y11))

theorem State.writeLimits_good {p : List Byte} (hs : s.Good pq) : Good pq (writeLimits s p) := by
  unfold writeLimits
  dsimp only
  exact regWrite_good (regWrite_good (regWrite_good hs))

theorem execBlLimits_good {tag : Fin 64} (hs : s.Good pq) : OutGood pq (execBlLimits tag s) := by
  unfold execBlLimits
  exact runs_good hs (fun y00 y01 y02 => commitFor_good y02 (fun y10 y11 => writeLimits_good y11))

theorem State.writeFloor_good {g : Nat} {p : List Byte} (hs : s.Good pq) : Good pq (writeFloor s g p) := by
  unfold writeFloor
  dsimp only
  exact regWrite_good (regWrite_good hs)

theorem execBlFloor_good {tag : Fin 64} (hs : s.Good pq) : OutGood pq (execBlFloor tag s) := by
  unfold execBlFloor
  refine runs_good hs ?_
  intro y00 y01 y02
  split
  exact commitFor_good (good_of_pair ‹_› (floorGain_good y02)) (fun y10 y11 => writeFloor_good y11)

theorem execZoneClear_good {tag : Fin 64} (hs : s.Good pq) : OutGood pq (execZoneClear tag s) := by
  unfold execZoneClear
  refine runs_good hs ?_
  intro y00 y01 y02
  refine needs_good y02 ?_
  intro y10 y11
  refine RunCmd.ok_good ?_
  refine foldl_good ?_ y11
  intro y20 y21 y22
  split
  · exact y22
  · exact clearZone_good y22

theorem execZoneStatus_good {tag : Fin 64} (hs : s.Good pq) : OutGood pq (execZoneStatus tag s) := by
  unfold execZoneStatus
  refine runs_good hs ?_
  intro y00 y01 y02
  refine needs_good y02 ?_
  intro y10 y11
  dsimp only
  exact RunCmd.ok_good y11

theorem execNbrTest_good {tag : Fin 64} (hs : s.Good pq) : OutGood pq (execNbrTest tag s) := by
  unfold execNbrTest
  refine runs_good hs ?_
  intro y00 y01 y02
  refine needs_good y02 ?_
  intro y10 y11
  dsimp only
  split
  · exact waitIn_good (after_good (execNbrStart_good y11) y11)
  · exact RunCmd.fails_good (after_good (execNbrStart_good y11) y11)

theorem execXchainSet_good {tag : Fin 64} (hs : s.Good pq) : OutGood pq (execXchainSet tag s) := by
  unfold execXchainSet
  refine runs_good hs ?_
  intro y00 y01 y02
  refine needs_good y02 ?_
  intro y10 y11
  dsimp only
  refine RunCmd.ok_good ?_
  split
  · exact regWrite_good (regWrite_good y11)
  · exact regWrite_good y11
  · exact regWrite_good y11

theorem State.writeDimming_good {p : List Byte} (hs : s.Good pq) : Good pq (writeDimming s p) := by
  unfold writeDimming
  dsimp only
  exact regWrite_good (regWrite_good (regWrite_good (regWrite_good (regWrite_good (regWrite_good hs)))))

theorem execLdCfg_good {tag : Fin 64} (hs : s.Good pq) : OutGood pq (execLdCfg tag s) := by
  unfold execLdCfg
  exact runs_good hs (fun y00 y01 y02 => commitFor_good y02 (fun y10 y11 => writeDimming_good y11))

theorem State.writeLoop_good {p : List Byte} (hs : s.Good pq) : Good pq (writeLoop s p) := by
  unfold writeLoop
  dsimp only
  exact regWrite_good (regWrite_good (regWrite_good (regWrite_good hs)))

theorem execColourLoop_good {tag : Fin 64} (hs : s.Good pq) : OutGood pq (execColourLoop tag s) := by
  unfold execColourLoop
  exact runs_good hs (fun y00 y01 y02 => commitFor_good y02 (fun y10 y11 => writeLoop_good y11))

theorem execTtHostReq_good {tag : Fin 64} (hs : s.Good pq) : OutGood pq (execTtHostReq tag s) := by
  unfold execTtHostReq
  refine runs_good hs ?_
  intro y00 y01 y02
  dsimp only
  refine waitFrame_good ?_
  split
  · exact partnerReq_good y02
  · exact regWrite_good y02

theorem execTtSafeState_good {tag : Fin 64} (hs : s.Good pq) : OutGood pq (execTtSafeState tag s) := by
  unfold execTtSafeState
  refine runs_good hs ?_
  intro y00 y01 y02
  dsimp only
  split
  · split
    · exact waitRow_good (safeLatch_good y02)
    · exact RunCmd.ok_good (safeLatch_good y02)
  · split
    · split
      · exact RunCmd.fails_good y02
      · exact waitRow_good (safeLatch_good y02)
    · exact RunCmd.ok_good (safeLatch_good y02)

theorem execTtConfig_good {tag : Fin 64} (hs : s.Good pq) : OutGood pq (execTtConfig tag s) := by
  unfold execTtConfig
  refine runs_good hs ?_
  intro y00 y01 y02
  dsimp only
  split
  · exact RunCmd.fails_good y02
  · split
    · split
      · exact stepDone_good (loadIcons_good y02)
      · exact RunCmd.fails_good y02
    · exact stepDone_good y02
    · exact commitFor_good (loadIcons_good y02) (fun y10 y11 => writeWindows_good y11)

theorem execTtEnable_good {tag : Fin 64} (hs : s.Good pq) : OutGood pq (execTtEnable tag s) := by
  unfold execTtEnable
  exact runs_good hs (fun y00 y01 y02 => commitFor_good y02 (fun y10 y11 => regWrite_good y11))

theorem execTtStatus_good {tag : Fin 64} (hs : s.Good pq) : OutGood pq (execTtStatus tag s) := by
  unfold execTtStatus
  exact runs_good hs (fun y00 y01 y02 => RunCmd.ok_good y02)

theorem execTtRecord_good {tag : Fin 64} (hs : s.Good pq) : OutGood pq (execTtRecord tag s) := by
  unfold execTtRecord
  refine runs_good hs ?_
  intro y00 y01 y02
  dsimp only
  exact RunCmd.ok_good y02

theorem execTtAction_good {tag : Fin 64} (hs : s.Good pq) : OutGood pq (execTtAction tag s) := by
  unfold execTtAction
  exact runs_good hs (fun y00 y01 y02 => RunCmd.ok_good (regWrite_good y02))

theorem execCalFullRun_good {tag : Fin 64} (hs : s.Good pq) : OutGood pq (execCalFullRun tag s) := by
  unfold execCalFullRun
  exact runs_good hs (fun y00 y01 y02 => enterDark_good y02)

theorem execCalAbort_good {tag : Fin 64} (hs : s.Good pq) : OutGood pq (execCalAbort tag s) := by
  unfold execCalAbort
  refine runs_good hs ?_
  intro y00 y01 y02
  dsimp only
  refine RunCmd.ok_good ?_
  refine latch_good ?_
  refine calDrop_good ?_
  split
  · exact setCmd_good y02
  · exact y02

theorem execCalStatus_good {tag : Fin 64} (hs : s.Good pq) : OutGood pq (execCalStatus tag s) := by
  unfold execCalStatus
  exact runs_good hs (fun y00 y01 y02 => RunCmd.ok_good y02)

theorem execCalQuality_good {tag : Fin 64} (hs : s.Good pq) : OutGood pq (execCalQuality tag s) := by
  unfold execCalQuality
  refine runs_good hs ?_
  intro y00 y01 y02
  dsimp only
  exact RunCmd.ok_good y02

theorem State.calNeeds_good {c : RunCmd} {f : State → State} (hs : s.Good pq) (hf : ∀ (y0 : State), y0.Good pq → Good pq (f y0)) : Good pq (calNeeds s c f) := by
  unfold calNeeds
  split
  · exact calRelease_good (needs_good hs (fun y00 y01 => hf _ y01))
  · exact needs_good hs (fun y00 y01 => hf _ y01)

theorem execCalSave_good {tag : Fin 64} (hs : s.Good pq) : OutGood pq (execCalSave tag s) := by
  unfold execCalSave
  refine runs_good hs ?_
  intro y00 y01 y02
  refine calNeeds_good y02 ?_
  intro y10 y11
  dsimp only
  exact RunCmd.ok_good (calRelease_good (fstWrite_good y11))

theorem State.calRestored_good {e : CalElem} (hs : s.Good pq) : Good pq (calRestored s e) := by
  unfold calRestored
  exact setCal_good hs

theorem State.restoreLane_good {r : List Byte} {l : Nat} (hs : s.Good pq) : Good pq (restoreLane s r l).2 := by
  unfold restoreLane
  dsimp only
  split
  · dsimp only
    exact hs
  · split
    · dsimp only
      exact calRestored_good (regWrite_good (calAbandon_good (laneValues_good hs)))
    · dsimp only
      exact calAbandon_good (laneValues_good hs)

theorem State.restorePd_good {r : List Byte} {k : Nat} (hs : s.Good pq) : Good pq (restorePd s r k).2 := by
  unfold restorePd
  dsimp only
  split
  · dsimp only
    exact hs
  · dsimp only
    exact calRestored_good (calAbandon_good (regWrite_good hs))

theorem State.restoreSink_good {r : List Byte} {c : Nat} (hs : s.Good pq) : Good pq (restoreSink s r c).2 := by
  unfold restoreSink
  dsimp only
  split
  · dsimp only
    exact hs
  · dsimp only
    exact calRestored_good (calAbandon_good (sinkValue_good hs))

theorem restoreGroup_good {f : State → Nat → Bool × State} {l : List Nat} (hf : ∀ (y0 : State) (y1 : Nat), y0.Good pq → Good pq (f y0 y1).2) (hs : s.Good pq) : Good pq (restoreGroup f l s).2 := by
  unfold restoreGroup
  refine foldl_pair_good ?_ ?_
  · intro y00 y01 y02
    dsimp only
    exact hf _ _ y02
  · dsimp only
    exact hs

theorem State.restoreTref_good {r : List Byte} (hs : s.Good pq) : Good pq (restoreTref s r) := by
  unfold restoreTref
  exact foldl_good (fun y00 y01 y02 => setReg_good y02) hs

theorem State.calRestore_good {c : RunCmd} (hs : s.Good pq) : Good pq (calRestore c s) := by
  unfold calRestore
  dsimp only
  split
  · split
    · exact RunCmd.fails_good (calRelease_good hs)
    · split
      · exact RunCmd.fails_good (calRelease_good hs)
      · exact stepDone_good (restoreGroup_good (fun y00 y01 y02 => restoreLane_good y02) hs)
  · refine stepDone_good ?_
    split
    · exact calRestored_good (restoreGroup_good (fun y00 y01 y02 => restoreLane_good y02) hs)
    · exact restoreGroup_good (fun y00 y01 y02 => restoreLane_good y02) hs
  · exact calNeeds_good hs (fun y00 y01 => stepDone_good (restoreGroup_good (fun y10 y11 y12 => restorePd_good y12) y01))
  · exact RunCmd.ok_good (calRelease_good (restoreTref_good (restoreGroup_good (fun y00 y01 y02 => restoreSink_good y02) hs)))

theorem execCalRestore_good {tag : Fin 64} (hs : s.Good pq) : OutGood pq (execCalRestore tag s) := by
  unfold execCalRestore
  exact runs_good hs (fun y00 y01 y02 => calRestore_good y02)

theorem RunCmd.after_good {c : RunCmd} {r : Access × State} {f : List Byte → State → State} (hr : Good pq (r).2) (hf : ∀ (y0 : List Byte) (y1 : State), y1.Good pq → Good pq (f y0 y1)) : Good pq (RunCmd.after c r f) := by
  unfold RunCmd.after
  split
  · exact hr
  · exact RunCmd.fails_good hr
  · exact RunCmd.fails_good hr
  · exact hf _ _ hr

theorem execMemRead_good {tag : Fin 64} {e : Nat} (hs : s.Good pq) : OutGood pq (execMemRead tag e s) := by
  unfold execMemRead
  exact runs_good hs (fun y00 y01 y02 => RunCmd.after_good (busRead_good y02) (fun y10 y11 y12 => RunCmd.ok_good y12))

theorem execMemWrite_good {tag : Fin 64} {e : Nat} (hs : s.Good pq) : OutGood pq (execMemWrite tag e s) := by
  unfold execMemWrite
  refine runs_good hs ?_
  intro y00 y01 y02
  dsimp only
  refine RunCmd.after_good (busWrite_good y02) ?_
  intro y10 y11 y12
  split
  · exact RunCmd.ok_good y12
  · exact RunCmd.after_good (busWrite_good y12) (fun y20 y21 y22 => RunCmd.ok_good y22)

theorem State.jobWord_good {j : DmaJob} {ecc : List (Nat × Nat)} {i : Nat} {n : Nat × Nat} (hs : s.Good pq) : Good pq (jobWord s j ecc i n).2 := by
  unfold jobWord
  dsimp only
  split
  · split
    · split
      · dsimp only
        refine countUp_good ?_
        refine good_of_pair (by assumption) ?_
        refine busRead_good ?_
        refine good_of_pair (by assumption) ?_
        split
        · dsimp only
          exact hs
        · exact busRead_good hs
      · dsimp only
        refine good_of_pair (by assumption) ?_
        refine busRead_good ?_
        refine good_of_pair (by assumption) ?_
        split
        · dsimp only
          exact hs
        · exact busRead_good hs
    · split
      · dsimp only
        refine countUp_good ?_
        refine good_of_pair (by assumption) ?_
        refine busWrite_good ?_
        refine copied_good ?_
        refine good_of_pair (by assumption) ?_
        split
        · dsimp only
          exact hs
        · exact busRead_good hs
      · dsimp only
        refine good_of_pair (by assumption) ?_
        refine busWrite_good ?_
        refine copied_good ?_
        refine good_of_pair (by assumption) ?_
        split
        · dsimp only
          exact hs
        · exact busRead_good hs
  · dsimp only
    refine good_of_pair (by assumption) ?_
    split
    · dsimp only
      exact hs
    · exact busRead_good hs

theorem State.jobWords_good {j : DmaJob} {ecc : List (Nat × Nat)} {x2 : Nat} {x3 : Nat} {x4 : Nat × Nat} {x5 : State} (hx5 : x5.Good pq) : Good pq (jobWords j ecc x2 x3 x4 x5).2 := by
  induction x2 generalizing j ecc x3 x4 x5 with
  | zero =>
    unfold jobWords
    dsimp only
    exact hx5
  | succ n ih =>
    unfold jobWords
    split
    · exact ih (good_of_pair ‹_› (jobWord_good hx5))
    · exact jobWord_good hx5

theorem execDmaRun_good {tag : Fin 64} {ecc : MemErrs} {s' : State} (hs' : Good pq (s')) : OutGood pq (execDmaRun tag ecc s') := by
  unfold execDmaRun
  dsimp only
  refine runs_good (upset_good hs') ?_
  intro y00 y01 y02
  refine needs_good y02 ?_
  intro y10 y11
  split
  · exact endCmd_good y11
  · split
    · exact RunCmd.fails_good (good_of_pair ‹_› (jobWords_good y11))
    · split
      · exact RunCmd.ok_good (good_of_pair ‹_› (jobWords_good y11))
      · exact stepDone_good (good_of_pair ‹_› (jobWords_good y11))

theorem execCapture_good {tag : Fin 64} (hs : s.Good pq) : OutGood pq (execCapture tag s) := by
  unfold execCapture
  refine runs_good hs ?_
  intro y00 y01 y02
  dsimp only
  exact RunCmd.ok_good (fstWrite_good y02)

theorem State.ledgerAcked_good (hs : s.Good pq) : Good pq (ledgerAcked s) := by
  unfold ledgerAcked
  dsimp only
  split
  · refine good_mk ?_
    dsimp only
    exact good_of hs
  · refine ledgerMark_good ?_
    refine good_mk ?_
    dsimp only
    exact good_of hs

theorem execLedgerRead_good {tag : Fin 64} (hs : s.Good pq) : OutGood pq (execLedgerRead tag s) := by
  unfold execLedgerRead
  refine runs_good hs ?_
  intro y00 y01 y02
  dsimp only
  split
  · exact RunCmd.ok_good (ledgerAcked_good y02)
  · exact RunCmd.ok_good y02

theorem execLogRead_good {tag : Fin 64} (hs : s.Good pq) : OutGood pq (execLogRead tag s) := by
  unfold execLogRead
  refine runs_good hs ?_
  intro y00 y01 y02
  dsimp only
  split
  · exact RunCmd.fails_good y02
  · refine RunCmd.ok_good ?_
    split
    · exact logMarkRead_good y02
    · exact y02

theorem execSnapRead_good {tag : Fin 64} (hs : s.Good pq) : OutGood pq (execSnapRead tag s) := by
  unfold execSnapRead
  exact runs_good hs (fun y00 y01 y02 => RunCmd.ok_good y02)

theorem execEventCfg_good {tag : Fin 64} (hs : s.Good pq) : OutGood pq (execEventCfg tag s) := by
  unfold execEventCfg
  exact runs_good hs (fun y00 y01 y02 => RunCmd.ok_good (regWrite_good y02))

theorem execUpdateBegin_good {tag : Fin 64} (hs : s.Good pq) : OutGood pq (execUpdateBegin tag s) := by
  unfold execUpdateBegin
  refine runs_good hs ?_
  intro y00 y01 y02
  refine waitRow_good ?_
  refine good_mk ?_
  dsimp only
  exact good_of y02

theorem execUpdateAbort_good {tag : Fin 64} (hs : s.Good pq) : OutGood pq (execUpdateAbort tag s) := by
  unfold execUpdateAbort
  refine runs_good hs ?_
  intro y00 y01 y02
  dsimp only
  split
  · exact setCmds_good y02
  · exact waitRow_good (setCmds_good y02)

theorem State.flashOver_good (hs : s.Good pq) : Good pq (flashOver s) := by
  unfold flashOver
  exact setPw_good hs

theorem execUpdateWrite_good {tag : Fin 64} (hs : s.Good pq) : OutGood pq (execUpdateWrite tag s) := by
  unfold execUpdateWrite
  refine runs_good hs ?_
  intro y00 y01 y02
  dsimp only
  split
  · exact RunCmd.fails_good y02
  · split
    · exact endCmd_good y02
    · split
      · exact y02
      · split
        · exact RunCmd.ok_good (flashOver_good (setBytes_good y02))
        · exact stepDone_good (flashOver_good (setBytes_good y02))

theorem execUpdateVerify_good {tag : Fin 64} (hs : s.Good pq) : OutGood pq (execUpdateVerify tag s) := by
  unfold execUpdateVerify
  refine runs_good hs ?_
  intro y00 y01 y02
  dsimp only
  split
  · exact endCmd_good y02
  · split
    · exact stepDone_good y02
    · exact finishCmd_good y02

theorem State.newCopy_good {k : Nat} (hs : s.Good pq) : Good pq (newCopy s k) := by
  unfold newCopy
  dsimp only
  exact setBytes_good hs

theorem State.romCopy_good (hs : s.Good pq) : OptGood pq (romCopy s) := by
  unfold romCopy
  split
  · split
    · exact optGood_some hs
    · exact optGood_none
  · exact optGood_some (newCopy_good hs)

theorem execUpdateActivate_good {tag : Fin 64} (hs : s.Good pq) : OutGood pq (execUpdateActivate tag s) := by
  unfold execUpdateActivate
  refine runs_good hs ?_
  intro y00 y01 y02
  dsimp only
  split
  · split
    · exact stepDone_good y02
    · exact RunCmd.fails_good y02
  · split
    · exact y02
    · split
      · split
        · exact RunCmd.ok_good (setPw_good (flashOver_good (good_of_opt ‹_› (romCopy_good y02))))
        · exact RunCmd.fails_good (flashOver_good y02)
      · exact RunCmd.ok_good (setPw_good (flashOver_good (newCopy_good y02)))

theorem execSvcChallenge_good {tag : Fin 64} (hs : s.Good pq) : OutGood pq (execSvcChallenge tag s) := by
  unfold execSvcChallenge
  refine runs_good hs ?_
  intro y00 y01 y02
  split
  · exact RunCmd.fails_good y02
  · split
    refine RunCmd.ok_good ?_
    refine good_mk ?_
    dsimp only
    exact good_of (good_of_pair ‹_› (random_good y02))

theorem State.respFails_good (hs : s.Good pq) : Good pq (respFails s) := by
  unfold respFails
  dsimp only
  refine good_mk ?_
  dsimp only
  exact good_of hs

theorem execSvcResponse_good {tag : Fin 64} (hs : s.Good pq) : OutGood pq (execSvcResponse tag s) := by
  unfold execSvcResponse
  refine runs_good hs ?_
  intro y00 y01 y02
  split
  · exact RunCmd.fails_good (respFails_good y02)
  · split
    · refine RunCmd.ok_good ?_
      refine good_mk ?_
      dsimp only
      exact good_of y02
    · exact RunCmd.fails_good (respFails_good y02)

theorem State.svcLock_good (hs : s.Good pq) : Good pq (svcLock s) := by
  unfold svcLock
  dsimp only
  split
  · exact latch_good (lockMb3_good hs)
  · exact lockMb3_good hs

theorem execSvcLock_good {tag : Fin 64} (hs : s.Good pq) : OutGood pq (execSvcLock tag s) := by
  unfold execSvcLock
  exact runs_good hs (fun y00 y01 y02 => svcLock_good (RunCmd.ok_good y02))

theorem execMb3IdleLock_good (hs : s.Good pq) : OutGood pq (execMb3IdleLock s) := by
  unfold execMb3IdleLock
  refine outGood_next ?_
  split
  · exact svcLock_good hs
  · exact hs

theorem execSvcLockoutEnd_good (hs : s.Good pq) : OutGood pq (execSvcLockoutEnd s) := by
  unfold execSvcLockoutEnd
  refine outGood_next ?_
  refine good_mk ?_
  dsimp only
  exact good_of hs

theorem State.needsReg_good {c : RunCmd} {a : Nat} {f : State → State} (hs : s.Good pq) (hf : ∀ (y0 : State), y0.Good pq → Good pq (f y0)) : Good pq (needsReg s c a f) := by
  unfold needsReg
  split
  · exact needs_good hs (fun y00 y01 => hf _ y01)
  · exact hf _ hs

theorem execRegRead_good {tag : Fin 64} (hs : s.Good pq) : OutGood pq (execRegRead tag s) := by
  unfold execRegRead
  refine runs_good hs ?_
  intro y00 y01 y02
  dsimp only
  exact needsReg_good y02 (fun y10 y11 => RunCmd.after_good (regRead_good y11) (fun y20 y21 y22 => RunCmd.ok_good y22))

theorem execRegWrite_good {tag : Fin 64} (hs : s.Good pq) : OutGood pq (execRegWrite tag s) := by
  unfold execRegWrite
  refine runs_good hs ?_
  intro y00 y01 y02
  dsimp only
  refine needsReg_good y02 ?_
  intro y10 y11
  split
  · exact RunCmd.after_good (regRead_good (regWrite_good y11)) (fun y20 y21 y22 => RunCmd.ok_good y22)
  · exact RunCmd.after_good (regRead_good y11) (fun y20 y21 y22 => RunCmd.after_good (regRead_good (regWrite_good y22)) (fun y30 y31 y32 => RunCmd.ok_good y32))

theorem execEventPacketSend_good (hs : s.Good pq) : OutGood pq (execEventPacketSend s) := by
  unfold execEventPacketSend
  dsimp only
  split
  · split
    · exact outGood_next hs
    · split
      · exact outGood_next hs
      · refine outGood_next ?_
        refine good_mk ?_
        dsimp only
        exact good_of (sendUp_good (setFld_good hs))
  · split
    · exact outGood_next hs
    · split
      · exact outGood_next hs
      · refine outGood_next ?_
        refine good_mk ?_
        dsimp only
        exact good_of (sendUp_good (setFld_good hs))

end Sys2Proof.Machine
end

