-- ==== Sys2Proof/Laws/PerInstr.lean ====
section
/-! SUPPORT. No row of the command table has bits, so no word spells a command: one lemma per command. -/

namespace Sys2Proof.Laws.NoWord

open Sys2Proof.Machine

/-- No word of any width spells the command. -/
def Statement (i : Instr) : Prop := ∀ nbits w, decodeTableWord nbits w ≠ some i

theorem any (i : Instr) : Statement i := fun _ _ h => nomatch h

theorem vinPowerOn (wakeAbove : Bool) : Statement (.vinPowerOn wakeAbove) := any _
theorem wakeRise : Statement .wakeRise := any _
theorem wakeFall : Statement .wakeFall := any _
theorem domainStopped (d : Domain) (stuck : Bool) : Statement (.domainStopped d stuck) := any _
theorem sleepRestartDone : Statement .sleepRestartDone := any _
theorem sleepRevote : Statement .sleepRevote := any _
theorem sleepStateReached : Statement .sleepStateReached := any _
theorem vinBrownOut : Statement .vinBrownOut := any _
theorem aonBrownOut : Statement .aonBrownOut := any _
theorem watchdog : Statement .watchdog := any _
theorem lockstepReset : Statement .lockstepReset := any _
theorem spiCsWake : Statement .spiCsWake := any _
theorem nowakeTimeout : Statement .nowakeTimeout := any _
theorem domainWakeDone (d : Domain) : Statement (.domainWakeDone d) := any _
theorem idleOffTimeout (d : Domain) : Statement (.idleOffTimeout d) := any _
theorem thermStandbyRead (temp : BitVec 16) : Statement (.thermStandbyRead temp) := any _
theorem startUpStepComplete (therm : BitVec 16) (die : List (BitVec 16)) : Statement (.startUpStepComplete therm die) := any _
theorem frameStart (vin led : Nat) : Statement (.frameStart vin led) := any _
theorem ttHoldExpiry : Statement .ttHoldExpiry := any _
theorem lowRateEntry : Statement .lowRateEntry := any _
theorem noHostTimeout : Statement .noHostTimeout := any _
theorem frameEndDecision (l : Nat) : Statement (.frameEndDecision l) := any _
theorem governorEvaluate (info : GovIn) : Statement (.governorEvaluate info) := any _
theorem governorLatch : Statement .governorLatch := any _
theorem levelChangeDone : Statement .levelChangeDone := any _
theorem zoneValuesDelivered : Statement .zoneValuesDelivered := any _
theorem fieldRowBuild : Statement .fieldRowBuild := any _
theorem proofRecordBuild : Statement .proofRecordBuild := any _
theorem backChannelSync : Statement .backChannelSync := any _
theorem columnReply (lane : Fin 24) (bs : Option (List Byte)) : Statement (.columnReply lane bs) := any _
theorem laneRetrainMark : Statement .laneRetrainMark := any _
theorem rollCall (locked : Word) : Statement (.rollCall locked) := any _
theorem columnLineSend (y : Nat) (phase : Fin 2) (ups : Upsets) : Statement (.columnLineSend y phase ups) := any _
theorem weirLineFetch (plane : Fin 3) (y : Nat) (ups : Upsets) : Statement (.weirLineFetch plane y ups) := any _
theorem demuraBandFetch (band : Nat) (ups : Upsets) : Statement (.demuraBandFetch band ups) := any _
theorem historyLineFetch (y : Nat) (ups : Upsets) : Statement (.historyLineFetch y ups) := any _
theorem historyLineWrite (y : Nat) (c1 c3 c5 : List Byte) : Statement (.historyLineWrite y c1 c3 c5) := any _
theorem rowBoundary (units : List (Nat × Nat)) : Statement (.rowBoundary units) := any _
theorem headroomSample (col : Fin 192) (mv percent : Nat) : Statement (.headroomSample col mv percent) := any _
theorem pdSample (r g b : Nat) : Statement (.pdSample r g b) := any _
theorem elasticSlotGrant (info : SlotInfo) : Statement (.elasticSlotGrant info) := any _
theorem guardTickRelease : Statement .guardTickRelease := any _
theorem gateEnd : Statement .gateEnd := any _
theorem gateWaitLine : Statement .gateWaitLine := any _
theorem gateWaitTick : Statement .gateWaitTick := any _
theorem gateOut : Statement .gateOut := any _
theorem gateClk : Statement .gateClk := any _
theorem gateLoop : Statement .gateLoop := any _
theorem gateNext : Statement .gateNext := any _
theorem gateSense : Statement .gateSense := any _
theorem gatePhSet : Statement .gatePhSet := any _
theorem scanEndCrossing (ns : Nat) : Statement (.scanEndCrossing ns) := any _
theorem portEnableWrite (p : Fin 2) (v : Word) : Statement (.portEnableWrite p v) := any _
theorem lossOfSignal (p : Fin 2) (l : Fin 9) : Statement (.lossOfSignal p l) := any _
theorem signalDetect (p : Fin 2) (l : Fin 9) : Statement (.signalDetect p l) := any _
theorem lossOfLock (p : Fin 2) (l : Fin 9) : Statement (.lossOfLock p l) := any _
theorem cdrLock (p : Fin 2) (l : Fin 9) : Statement (.cdrLock p l) := any _
theorem codeViolation (p : Fin 2) (l : LaneSym) : Statement (.codeViolation p l) := any _
theorem trainingSetReceived (p : Fin 2) (l : Fin 9) (ctl : Sym × Sym) (bs : List Byte) :
    Statement (.trainingSetReceived p l ctl bs) := any _
theorem attemptTimeout (p : Fin 2) : Statement (.attemptTimeout p) := any _
theorem retryTimerExpiry (p : Fin 2) : Statement (.retryTimerExpiry p) := any _
theorem pllLocked (p : Fin 2) : Statement (.pllLocked p) := any _
theorem losMaskEnd (p : Fin 2) : Statement (.losMaskEnd p) := any _
theorem equaliserDwellDone (p : Fin 2) (l : Fin 9) : Statement (.equaliserDwellDone p l) := any _
theorem eqAdaptInterval (p : Fin 2) (l : Fin 9) (dir : Fin 3) : Statement (.eqAdaptInterval p l dir) := any _
theorem laneMarkerReceived (p : Fin 2) (l : Fin 9) (m : Option (Byte × Byte)) (arrival : Nat) : Statement (.laneMarkerReceived p l m arrival) := any _
theorem retrainTimeout (p : Fin 2) : Statement (.retrainTimeout p) := any _
theorem retrain (p : Fin 2) : Statement (.retrain p) := any _
theorem idleSetReceived (p : Fin 2) (l : Fin 9) (flags check : Byte) : Statement (.idleSetReceived p l flags check) := any _
theorem idleBurstRequest (p : Fin 2) : Statement (.idleBurstRequest p) := any _
theorem burstEnd (p : Fin 2) : Statement (.burstEnd p) := any _
theorem loopModeWrite (p : Fin 2) (v : Word) : Statement (.loopModeWrite p v) := any _
theorem patternCheckerWrite (p : Fin 2) (v : Word) : Statement (.patternCheckerWrite p v) := any _
theorem refclkLoss : Statement .refclkLoss := any _
theorem refclkReturn : Statement .refclkReturn := any _
theorem videoSeg (p : Fin 2) (k : Packet) : Statement (.videoSeg p k) := any _
theorem frameReady (p : Fin 2) (k : Packet) : Statement (.frameReady p k) := any _
theorem streamCfg (p : Fin 2) (k : Packet) : Statement (.streamCfg p k) := any _
theorem ctrlReq (p : Fin 2) (k : Packet) : Statement (.ctrlReq p k) := any _
theorem ctrlRsp (p : Fin 2) (k : Packet) : Statement (.ctrlRsp p k) := any _
theorem enumAssign (p : Fin 2) (k : Packet) : Statement (.enumAssign p k) := any _
theorem enumReply (p : Fin 2) (k : Packet) : Statement (.enumReply p k) := any _
theorem enumEnd (p : Fin 2) (k : Packet) : Statement (.enumEnd p k) := any _
theorem event (p : Fin 2) (k : Packet) : Statement (.event p k) := any _
theorem ack (p : Fin 2) (k : Packet) : Statement (.ack p k) := any _
theorem nak (p : Fin 2) (k : Packet) : Statement (.nak p k) := any _
theorem credit (p : Fin 2) (k : Packet) : Statement (.credit p k) := any _
theorem ackTimer (p : Fin 2) : Statement (.ackTimer p) := any _
theorem replayTimer (p : Fin 2) : Statement (.replayTimer p) := any _
theorem creditPeriodic (p : Fin 2) : Statement (.creditPeriodic p) := any _
theorem packetTransmit (p : Fin 2) : Statement (.packetTransmit p) := any _
theorem enumBusyTimeout : Statement .enumBusyTimeout := any _
theorem segmentStart (e : Fin 4) : Statement (.segmentStart e) := any _
theorem tokenPix (e : Fin 4) : Statement (.tokenPix e) := any _
theorem tokenZrun (e : Fin 4) : Statement (.tokenZrun e) := any _
theorem tokenMatch (e : Fin 4) : Statement (.tokenMatch e) := any _
theorem tokenLit (e : Fin 4) : Statement (.tokenLit e) := any _
theorem tokenPred (e : Fin 4) : Statement (.tokenPred e) := any _
theorem engineResume (e : Fin 4) (long : Bool) : Statement (.engineResume e long) := any _
theorem buildComplete (st : Fin 16) : Statement (.buildComplete st) := any _
theorem sluEnableWrite (v : Word) : Statement (.sluEnableWrite v) := any _
theorem frameStoreWindowAccess (m : Master) (a : BitVec 32) (n : Nat) (bs : Option (List Byte)) (ups : Upsets) : Statement (.frameStoreWindowAccess m a n bs ups) := any _
theorem pondAccess (m : Master) (a : BitVec 32) (n : Nat) (bs : Option (List Byte)) (e : Nat) (waited : Bool) : Statement (.pondAccess m a n bs e waited) := any _
theorem aliasAccess (m : Master) (a : BitVec 32) (n : Nat) (bs : Option (List Byte)) (e0 e1 : Nat) (waited : Bool) : Statement (.aliasAccess m a n bs e0 e1 waited) := any _
theorem pondEccWriteback (a : BitVec 32) : Statement (.pondEccWriteback a) := any _
theorem unassignedAccess (m : Master) (a : BitVec 32) (n : Nat) (bs : Option (List Byte)) : Statement (.unassignedAccess m a n bs) := any _
theorem flashWindowWrite (m : Master) (a : BitVec 32) (bs : List Byte) : Statement (.flashWindowWrite m a bs) := any _
theorem registerWrite (a : BitVec 32) (v : Word) : Statement (.registerWrite a v) := any _
theorem rasterStart : Statement .rasterStart := any _
theorem rasterStop : Statement .rasterStop := any _
theorem shadowCommit (b : Blk) : Statement (.shadowCommit b) := any _
theorem privilegedCommit (b : Blk) : Statement (.privilegedCommit b) := any _
theorem timingCommit : Statement .timingCommit := any _
theorem rngTableCommit : Statement .rngTableCommit := any _
theorem lutLoadCommit (b : Blk) : Statement (.lutLoadCommit b) := any _
theorem demuraSetCommit : Statement .demuraSetCommit := any _
theorem gateProgramCommit : Statement .gateProgramCommit := any _
theorem commitLoadDone (b : Blk) (bad : Bool) : Statement (.commitLoadDone b bad) := any _
theorem biasPowerUp : Statement .biasPowerUp := any _
theorem biasPowerDown : Statement .biasPowerDown := any _
theorem biasStepDone (m0 m1 m2 : Word) : Statement (.biasStepDone m0 m1 m2) := any _
theorem railFault (rail : Fin 8) : Statement (.railFault rail) := any _
theorem vddPlOverload (conn : Fin 2) : Statement (.vddPlOverload conn) := any _
theorem backlightRun : Statement .backlightRun := any _
theorem boostReady : Statement .boostReady := any _
theorem backlightStop : Statement .backlightStop := any _
theorem backlightRampDownDone : Statement .backlightRampDownDone := any _
theorem stageFault (code : Fin 8) : Statement (.stageFault code) := any _
theorem stageClr (fw : Bool) : Statement (.stageClr fw) := any _
theorem nbrStart : Statement .nbrStart := any _
theorem nbrTestDone (pairs : List (Nat × Nat)) : Statement (.nbrTestDone pairs) := any _
theorem xchainCount (bits : Nat) : Statement (.xchainCount bits) := any _
theorem xchainTransfer (ret : List (BitVec 64)) : Statement (.xchainTransfer ret) := any _
theorem ttRequest (f : CanFrame) : Statement (.ttRequest f) := any _
theorem ttKey (f : CanFrame) : Statement (.ttKey f) := any _
theorem mb2Cmd (f : CanFrame) : Statement (.mb2Cmd f) := any _
theorem ttProof : Statement .ttProof := any _
theorem mb2Rsp : Statement .mb2Rsp := any _
theorem busOff : Statement .busOff := any _
theorem busOffRecovery : Statement .busOffRecovery := any _
theorem safHoldWrite (v : Word) : Statement (.safHoldWrite v) := any _
theorem safAlive : Statement .safAlive := any _
theorem safeSet : Statement .safeSet := any _
theorem safeClr : Statement .safeClr := any _
theorem safPartnerReqWrite (v : Word) : Statement (.safPartnerReqWrite v) := any _
theorem pwrSpringWrite (v : Word) : Statement (.pwrSpringWrite v) := any _
theorem govBudgetWrite (v : Word) : Statement (.govBudgetWrite v) := any _
theorem govManualWrite (v : Word) : Statement (.govManualWrite v) := any _
theorem doorbell (n : Fin 4) (t : Fin 16) : Statement (.doorbell n t) := any _
theorem cplHeadWrite (n : Fin 4) (v : Fin 16) : Statement (.cplHeadWrite n v) := any _
theorem mbxEnWrite (v : Word) : Statement (.mbxEnWrite v) := any _
theorem mb3IdleLock : Statement .mb3IdleLock := any _
theorem svcLockoutEnd : Statement .svcLockoutEnd := any _
theorem spiWrite (op : Byte) (a : BitVec 32) (ws : List Word) : Statement (.spiWrite op a ws) := any _
theorem spiRead (a : BitVec 32) (n : Nat) : Statement (.spiRead a n) := any _
theorem commandTake : Statement .commandTake := any _
theorem commandStepBoundary (tag : Fin 64) : Statement (.commandStepBoundary tag) := any _
theorem commandTimeout (tag : Fin 64) : Statement (.commandTimeout tag) := any _
theorem sysInfo (tag : Fin 64) : Statement (.sysInfo tag) := any _
theorem sysStatus (tag : Fin 64) : Statement (.sysStatus tag) := any _
theorem sysTime (tag : Fin 64) : Statement (.sysTime tag) := any _
theorem sysReset (tag : Fin 64) : Statement (.sysReset tag) := any _
theorem modeSet (tag : Fin 64) : Statement (.modeSet tag) := any _
theorem perfFloor (tag : Fin 64) : Statement (.perfFloor tag) := any _
theorem powerBudget (tag : Fin 64) : Statement (.powerBudget tag) := any _
theorem wakeCfg (tag : Fin 64) : Statement (.wakeCfg tag) := any _
theorem svcEnter (tag : Fin 64) : Statement (.svcEnter tag) := any _
theorem svcExit (tag : Fin 64) : Statement (.svcExit tag) := any _
theorem powerStatus (tag : Fin 64) : Statement (.powerStatus tag) := any _
theorem linkStatus (tag : Fin 64) : Statement (.linkStatus tag) := any _
theorem linkRetrain (tag : Fin 64) : Statement (.linkRetrain tag) := any _
theorem linkRates (tag : Fin 64) : Statement (.linkRates tag) := any _
theorem linkEq (tag : Fin 64) : Statement (.linkEq tag) := any _
theorem linkLoop (tag : Fin 64) (errors : Nat) (lock : Bool) : Statement (.linkLoop tag errors lock) := any _
theorem planeSub (tag : Fin 64) : Statement (.planeSub tag) := any _
theorem planeBlend (tag : Fin 64) : Statement (.planeBlend tag) := any _
theorem timingSet (tag : Fin 64) : Statement (.timingSet tag) := any _
theorem lowrateCfg (tag : Fin 64) : Statement (.lowrateCfg tag) := any _
theorem scanCfg (tag : Fin 64) : Statement (.scanCfg tag) := any _
theorem streamStatus (tag : Fin 64) : Statement (.streamStatus tag) := any _
theorem biasSet (tag : Fin 64) : Statement (.biasSet tag) := any _
theorem gammaTaps (tag : Fin 64) : Statement (.gammaTaps tag) := any _
theorem panelPower (tag : Fin 64) : Statement (.panelPower tag) := any _
theorem gateProgram (tag : Fin 64) : Statement (.gateProgram tag) := any _
theorem columnCfg (tag : Fin 64) : Statement (.columnCfg tag) := any _
theorem columnStatus (tag : Fin 64) : Statement (.columnStatus tag) := any _
theorem columnRetrain (tag : Fin 64) : Statement (.columnRetrain tag) := any _
theorem dmrLoad (tag : Fin 64) : Statement (.dmrLoad tag) := any _
theorem dmrSelect (tag : Fin 64) : Statement (.dmrSelect tag) := any _
theorem odvLoad (tag : Fin 64) : Statement (.odvLoad tag) := any _
theorem odvCfg (tag : Fin 64) : Statement (.odvCfg tag) := any _
theorem lutLoad (tag : Fin 64) : Statement (.lutLoad tag) := any _
theorem dthCfg (tag : Fin 64) : Statement (.dthCfg tag) := any _
theorem blScan (tag : Fin 64) : Statement (.blScan tag) := any _
theorem blLimits (tag : Fin 64) : Statement (.blLimits tag) := any _
theorem blFloor (tag : Fin 64) : Statement (.blFloor tag) := any _
theorem zoneClear (tag : Fin 64) : Statement (.zoneClear tag) := any _
theorem zoneStatus (tag : Fin 64) : Statement (.zoneStatus tag) := any _
theorem nbrTest (tag : Fin 64) : Statement (.nbrTest tag) := any _
theorem xchainSet (tag : Fin 64) : Statement (.xchainSet tag) := any _
theorem ldCfg (tag : Fin 64) : Statement (.ldCfg tag) := any _
theorem colourLoop (tag : Fin 64) : Statement (.colourLoop tag) := any _
theorem ttHostReq (tag : Fin 64) : Statement (.ttHostReq tag) := any _
theorem ttSafeState (tag : Fin 64) : Statement (.ttSafeState tag) := any _
theorem ttConfig (tag : Fin 64) : Statement (.ttConfig tag) := any _
theorem ttEnable (tag : Fin 64) : Statement (.ttEnable tag) := any _
theorem ttStatus (tag : Fin 64) : Statement (.ttStatus tag) := any _
theorem ttRecord (tag : Fin 64) : Statement (.ttRecord tag) := any _
theorem ttAction (tag : Fin 64) : Statement (.ttAction tag) := any _
theorem calFullRun (tag : Fin 64) : Statement (.calFullRun tag) := any _
theorem calAbort (tag : Fin 64) : Statement (.calAbort tag) := any _
theorem calStatus (tag : Fin 64) : Statement (.calStatus tag) := any _
theorem calQuality (tag : Fin 64) : Statement (.calQuality tag) := any _
theorem calSave (tag : Fin 64) : Statement (.calSave tag) := any _
theorem calRestore (tag : Fin 64) : Statement (.calRestore tag) := any _
theorem memRead (tag : Fin 64) (e : Nat) : Statement (.memRead tag e) := any _
theorem memWrite (tag : Fin 64) (e : Nat) : Statement (.memWrite tag e) := any _
theorem dmaRun (tag : Fin 64) (ecc : MemErrs) : Statement (.dmaRun tag ecc) := any _
theorem capture (tag : Fin 64) : Statement (.capture tag) := any _
theorem ledgerRead (tag : Fin 64) : Statement (.ledgerRead tag) := any _
theorem logRead (tag : Fin 64) : Statement (.logRead tag) := any _
theorem snapRead (tag : Fin 64) : Statement (.snapRead tag) := any _
theorem eventCfg (tag : Fin 64) : Statement (.eventCfg tag) := any _
theorem updateBegin (tag : Fin 64) : Statement (.updateBegin tag) := any _
theorem updateWrite (tag : Fin 64) : Statement (.updateWrite tag) := any _
theorem updateVerify (tag : Fin 64) : Statement (.updateVerify tag) := any _
theorem updateActivate (tag : Fin 64) : Statement (.updateActivate tag) := any _
theorem updateAbort (tag : Fin 64) : Statement (.updateAbort tag) := any _
theorem svcChallenge (tag : Fin 64) : Statement (.svcChallenge tag) := any _
theorem svcResponse (tag : Fin 64) : Statement (.svcResponse tag) := any _
theorem svcLock (tag : Fin 64) : Statement (.svcLock tag) := any _
theorem regRead (tag : Fin 64) : Statement (.regRead tag) := any _
theorem regWrite (tag : Fin 64) : Statement (.regWrite tag) := any _
theorem dmaGo (n : Fin 16) (v : Word) : Statement (.dmaGo n v) := any _
theorem engineTake : Statement .engineTake := any _
theorem descriptorComplete (ecc : MemErrs) : Statement (.descriptorComplete ecc) := any _
theorem countAdd (n : Fin 16) (v : Word) : Statement (.countAdd n v) := any _
theorem queueAdd (q : Fin 4) (v : Word) : Statement (.queueAdd q v) := any _
theorem queueSub (q : Fin 4) (v : Word) : Statement (.queueSub q v) := any _
theorem lightChannelDisable (n : Fin 16) : Statement (.lightChannelDisable n) := any _
theorem heavyChannelDisable (n : Fin 16) : Statement (.heavyChannelDisable n) := any _
theorem pause (n : Fin 16) : Statement (.pause n) := any _
theorem resume (n : Fin 16) : Statement (.resume n) := any _
theorem pauseDrainDone (words : Nat) (ecc : MemErrs) : Statement (.pauseDrainDone words ecc) := any _
theorem clrHalt (n : Fin 16) : Statement (.clrHalt n) := any _
theorem calStepDone (e : CalElem) (m : CalMeas) : Statement (.calStepDone e m) := any _
theorem calBurst : Statement .calBurst := any _
theorem calStepTimeout : Statement .calStepTimeout := any _
theorem calElementWrite (a : BitVec 32) (v : Word) : Statement (.calElementWrite a v) := any _
theorem sysTimeLoRead (m : Master) : Statement (.sysTimeLoRead m) := any _
theorem snapAddrWrite (v : Word) : Statement (.snapAddrWrite v) := any _
theorem eventPacketSend : Statement .eventPacketSend := any _
theorem logPost (w0 w1 w2 w3 : Word) : Statement (.logPost w0 w1 w2 w3) := any _
theorem gammaStageDiscard : Statement .gammaStageDiscard := any _

end Sys2Proof.Laws.NoWord
end

