-- ==== Sys2Proof/WellFormed.lean ====
section
/-! DEFINITION. Which commands are well formed: the operands that a bit vector or a Fin does not bound by itself lie in the
ranges that the spec gives what they stand for. -/

namespace Sys2Proof

open Machine

/-- An access of 1, 2, 4 or 8 bytes; a write carries as many (R603, R609). -/
def accessOk (n : Nat) (bs : Option (List Byte)) : Bool :=
  (n = 1 || n = 2 || n = 4 || n = 8) && (match bs with
    | some l => decide (l.length = n)
    | none => true)

/-- A packet's payload is no longer than LEN can state (R215). -/
def packetOk (k : Packet) : Bool := decide (k.payload.length ≤ k.len.toNat)

/-- A CAN FD frame: an 11-bit identifier and at most 64 bytes (R503). -/
def frameOk (f : CanFrame) : Bool := decide (f.id < 2048 ∧ f.data.length ≤ 64)

/-- A calibration element that exists (R616). -/
def elemOk : CalElem → Bool
  | .lane l => decide (l < 9)
  | .backChannel => true
  | .photodiode k => decide (k < 3)
  | .sink c => decide (c < 192)

/-- An eye of six slicers and 64 phase positions (R617, R618). -/
def eyeOk (e : CalEye) : Bool := decide (e.trims.length = 6 ∧ e.resid.length = 6 ∧ e.agree.length = 64)

/-- Errors that can strike the frame store: of one of its 2^23 codewords, in symbols 0 to 71, each in some bit of 8 (R294, R307). -/
def upsetsOk (l : Upsets) : Bool :=
  l.all fun p => decide (p.1 < 2 ^ 23) && p.2.all fun x => decide (x.1 < 72 ∧ 0 < x.2 ∧ x.2 < 256)

/-- What the end of a calibration step brings. -/
def measOk : CalMeas → Bool
  | .eyes a b => eyeOk a && eyeOk b
  | .cells l => decide (l.length = 16)
  | .dark => true

/-- Is a command well formed? -/
def Instr.wellFormed : Instr → Bool
  | .startUpStepComplete _ die => decide (die.length = 5)
  | .frameEndDecision l => decide (l < 65536)
  | .governorEvaluate i => decide (i.die.length = 5)
  | .columnLineSend y _ ups => decide (y < 65536) && upsetsOk ups
  | .weirLineFetch _ y ups => decide (y < 65536) && upsetsOk ups
  | .demuraBandFetch band ups => decide (band < 65536) && upsetsOk ups
  | .historyLineFetch y ups => decide (y < 65536) && upsetsOk ups
  | .historyLineWrite y _ _ _ => decide (y < 65536)
  | .rowBoundary units => units.all fun p => decide (p.1 < 192)
  | .headroomSample _ _ percent => decide (percent ≤ 100)
  | .pdSample r g b => decide (r < 65536 ∧ g < 65536 ∧ b < 65536)
  | .elasticSlotGrant i => decide (i.slot < 64) && upsetsOk i.ups
  | .trainingSetReceived _ _ _ bs => decide (bs.length = 14)
  | .videoSeg _ k => packetOk k
  | .frameReady _ k => packetOk k
  | .streamCfg _ k => packetOk k
  | .ctrlReq _ k => packetOk k
  | .ctrlRsp _ k => packetOk k
  | .enumAssign _ k => packetOk k
  | .enumReply _ k => packetOk k
  | .enumEnd _ k => packetOk k
  | .event _ k => packetOk k
  | .ack _ k => packetOk k
  | .nak _ k => packetOk k
  | .credit _ k => packetOk k
  | .frameStoreWindowAccess _ _ n bs ups => accessOk n bs && upsetsOk ups
  | .dmaRun _ ecc => upsetsOk ecc.fst
  | .descriptorComplete ecc => upsetsOk ecc.fst
  | .pauseDrainDone _ ecc => upsetsOk ecc.fst
  | .pondAccess _ _ n bs e _ => accessOk n bs && decide (e ≤ 72)
  | .aliasAccess _ _ n bs e0 e1 _ => accessOk n bs && decide (e0 ≤ 72 ∧ e1 ≤ 72)
  | .unassignedAccess _ _ n bs => accessOk n bs
  | .flashWindowWrite _ _ bs => accessOk bs.length (some bs)
  | .nbrTestDone pairs => pairs.all fun p => decide (p.1 < 24 ∧ p.2 < 191)
  | .xchainTransfer ret => decide (ret.length ≤ 32)
  | .ttRequest f => frameOk f
  | .ttKey f => frameOk f
  | .mb2Cmd f => frameOk f
  | .spiWrite _ _ ws => !ws.isEmpty
  | .spiRead _ n => decide (0 < n)
  | .memRead _ e => decide (e ≤ 72)
  | .memWrite _ e => decide (e ≤ 72)
  | .calStepDone e m => elemOk e && measOk m
  | .vinPowerOn .. | .wakeRise | .wakeFall | .domainStopped .. | .sleepRestartDone | .sleepRevote | .sleepStateReached
  | .vinBrownOut | .aonBrownOut | .watchdog | .lockstepReset | .spiCsWake | .nowakeTimeout | .domainWakeDone ..
  | .idleOffTimeout .. | .thermStandbyRead .. | .frameStart .. | .ttHoldExpiry | .lowRateEntry | .noHostTimeout
  | .governorLatch | .levelChangeDone | .zoneValuesDelivered | .fieldRowBuild | .proofRecordBuild | .backChannelSync
  | .columnReply .. | .laneRetrainMark | .rollCall .. | .guardTickRelease | .gateEnd | .gateWaitLine | .gateWaitTick
  | .gateOut | .gateClk | .gateLoop | .gateNext | .gateSense | .gatePhSet | .scanEndCrossing .. | .portEnableWrite ..
  | .lossOfSignal .. | .signalDetect .. | .lossOfLock .. | .cdrLock .. | .codeViolation .. | .attemptTimeout ..
  | .retryTimerExpiry .. | .pllLocked .. | .losMaskEnd .. | .equaliserDwellDone .. | .eqAdaptInterval ..
  | .laneMarkerReceived .. | .retrainTimeout .. | .retrain .. | .idleSetReceived .. | .idleBurstRequest .. | .burstEnd ..
  | .loopModeWrite .. | .patternCheckerWrite .. | .refclkLoss | .refclkReturn | .ackTimer .. | .replayTimer ..
  | .creditPeriodic .. | .packetTransmit .. | .enumBusyTimeout | .segmentStart .. | .tokenPix .. | .tokenZrun ..
  | .tokenMatch .. | .tokenLit .. | .tokenPred .. | .engineResume .. | .buildComplete .. | .sluEnableWrite ..
  | .pondEccWriteback .. | .registerWrite .. | .rasterStart | .rasterStop | .shadowCommit .. | .privilegedCommit ..
  | .timingCommit | .rngTableCommit | .lutLoadCommit .. | .demuraSetCommit | .gateProgramCommit | .commitLoadDone ..
  | .biasPowerUp | .biasPowerDown | .biasStepDone .. | .railFault .. | .vddPlOverload .. | .backlightRun | .boostReady
  | .backlightStop | .backlightRampDownDone | .stageFault .. | .stageClr .. | .nbrStart | .xchainCount .. | .ttProof
  | .mb2Rsp | .busOff | .busOffRecovery | .safHoldWrite .. | .safAlive | .safeSet | .safeClr | .safPartnerReqWrite ..
  | .pwrSpringWrite .. | .govBudgetWrite .. | .govManualWrite .. | .doorbell .. | .cplHeadWrite .. | .mbxEnWrite ..
  | .mb3IdleLock | .svcLockoutEnd | .commandTake | .commandStepBoundary .. | .commandTimeout .. | .sysInfo ..
  | .sysStatus .. | .sysTime .. | .sysReset .. | .modeSet .. | .perfFloor .. | .powerBudget .. | .wakeCfg .. | .svcEnter ..
  | .svcExit .. | .powerStatus .. | .linkStatus .. | .linkRetrain .. | .linkRates .. | .linkEq .. | .linkLoop ..
  | .planeSub .. | .planeBlend .. | .timingSet .. | .lowrateCfg .. | .scanCfg .. | .streamStatus .. | .biasSet ..
  | .gammaTaps .. | .panelPower .. | .gateProgram .. | .columnCfg .. | .columnStatus .. | .columnRetrain .. | .dmrLoad ..
  | .dmrSelect .. | .odvLoad .. | .odvCfg .. | .lutLoad .. | .dthCfg .. | .blScan .. | .blLimits .. | .blFloor ..
  | .zoneClear .. | .zoneStatus .. | .nbrTest .. | .xchainSet .. | .ldCfg .. | .colourLoop .. | .ttHostReq ..
  | .ttSafeState .. | .ttConfig .. | .ttEnable .. | .ttStatus .. | .ttRecord .. | .ttAction .. | .calFullRun ..
  | .calAbort .. | .calStatus .. | .calQuality .. | .calSave .. | .calRestore .. | .capture ..
  | .ledgerRead .. | .logRead .. | .snapRead .. | .eventCfg .. | .updateBegin .. | .updateWrite .. | .updateVerify ..
  | .updateActivate .. | .updateAbort .. | .svcChallenge .. | .svcResponse .. | .svcLock .. | .regRead .. | .regWrite ..
  | .dmaGo .. | .engineTake | .countAdd .. | .queueAdd .. | .queueSub .. | .lightChannelDisable ..
  | .heavyChannelDisable .. | .pause .. | .resume .. | .clrHalt .. | .calBurst | .calStepTimeout
  | .calElementWrite .. | .sysTimeLoRead .. | .snapAddrWrite .. | .eventPacketSend | .logPost .. | .gammaStageDiscard => true

end Sys2Proof
end

