-- ==== Sys2Proof/Tests/Slice0.lean ====
section
/-! SUPPORT. For every statement, states and operands that meet the hypotheses of each of its clauses; ill-formed commands;
published vectors; single steps. -/

namespace Sys2Proof.Tests

open Sys2Proof.Machine

set_option Elab.async false

/-- The state with fields of registers set. -/
def fs (s : State) (l : List (Fld × Nat)) : State := l.foldl (fun s p => s.setFld p.1 p.2) s

/-- The state with fields in force set. -/
def lv (s : State) (l : List (Fld × Nat)) : State := l.foldl (fun s p => s.setLiveFld p.1 p.2) s

/-- A module that runs: every domain on, mode LIVE, the raster at line 0. -/
def up : State :=
  { State.reset with
    regs := [(R.PWR_DOMAIN_STATUS, 0x3F#32)]
    pw := { Power.reset with supplied := true, mode := .live, firstLit := true, firmware := true, faultHeld := false }
    rs := { Raster.reset with running := true, timed := true } }

/-- The running module in another mode. -/
def inMode (m : Mode) : State := { up with pw := { up.pw with mode := m } }

/-- The running module with a power transition in progress. -/
def during (t : Transition) : State := { up with pw := { up.pw with trans := t } }

/-- A command of mailbox 1, slot 0 (tag 16), at work in a step. -/
def cmdOf (op : Nat) (p : List Byte) (step : Nat) : RunCmd :=
  ⟨1, 0, op, 0, 1000, p, step, .work, none, [], false, false, false, false, []⟩

/-- The state with one command in flight. -/
def doing (c : RunCmd) (s : State) : State := { s with mail := { s.mail with cmds := [c] } }

/-- A valid training set of lane 0 (R185). -/
def okSet : List Byte :=
  let bs := [0xA0#8, 1#8, 0#8, 1#8, 1#8, 0#8, 0#8, 1#8, 0x4A#8, 0x4A#8, 0x4A#8, 0x4A#8]
  bs ++ [BitVec.ofNat 8 (crc8 bs), 0xB5#8]

/-- What Tightrope latched of a frame without requests. -/
def frame0 : ProofFrame := ⟨0, 0, 0, 0, false, false, false, false, [], []⟩

/-- A frame at vmin that waits for a build or for its host. -/
def waits : State := { fs up [(F.SCN_CTRL_FOLLOW, 1)] with
    rs := { up.rs with vmax := 100 }, vid := { up.vid with planes := [{ Plane.reset with stream := some 0 }] } }

/-- The running module with no area protected. -/
def unprotected : State := fs up [(⟨R.FST_WPROT, 0, 32⟩, 0)]

theorem wprot_clear (i : Nat) : bitOf (unprotected.reg R.FST_WPROT) i = false := by
  rw [show unprotected.reg R.FST_WPROT = 0#32 by decide +kernel]; simp [bitOf]

/-- The running module with a picture of 32 lines, in a hold frame. -/
def sized : State := { lv up [(F.SCN_VTIME_V_ACTIVE, 32)] with rs := { up.rs with hold := true } }

/-- The running module while the column link comes up. -/
def bringing : State := { fs up [(F.COL_CTRL_RUN, 1)] with col := { up.col with bringing := true } }

/-- Sensor readings of line E. -/
def govIn : GovIn := ⟨[0, 0, 0, 0, 0], 0, 0, 0, 0⟩

/-- The running module at line E with its readings taken. -/
def govU : State :=
  { sized.reachPos sized.lineE 0 with cal := { (sized.reachPos sized.lineE 0).cal with die := padTo 0 5 govIn.die, panel := govIn.panel } }

/-- A finished evaluation. -/
def govRes : GovResult := ⟨up.gov.cur, 0, false, false, false, false, 0, 0, 0, 0, 0, 0, 0, 0⟩

/-- A row clock before its first boundary. -/
def clock0 : RowClock := ⟨100, 24, 0, 0, 0, []⟩

/-- A row window with zone 0 open. -/
def win0 : RowWin := ⟨0, 0, [⟨0, 10, 4096, false, false, 0, [(0, 4096)]⟩], []⟩

/-- A slot table of one map whose slots all belong to OPT. -/
def slotTable : List Byte := [0, 0, 1] ++ List.replicate 13 0 ++ List.replicate 64 (BitVec.ofNat 8 (0x80 + ownOpt))

/-- The running module in a line that samples the photodiode. -/
def sampling : State := { up with rng := { up.rng with table := some slotTable } }

/-- The running module while the panel is scanned. -/
def scans : State :=
  { lv up [(F.SCN_VTIME_V_ACTIVE, 32), (F.SCN_HTIME_H_ACTIVE, 16)] with gate := { up.gate with scan := true } }

/-- The scanned panel's column link, one line pair per step. -/
def panelUp : State := fs scans [(F.COL_CTRL_RUN, 1)]

/-- The scanned panel in dual mode, line 0 half sent. -/
def panelDual : State :=
  { lv panelUp [(F.COL_CFG_DUAL, 1)] with col := { up.col with load := some (0, 0), codes := some (0, []) } }

/-- A demura set of two bands without pixels. -/
def dmr0 : DmrSet := ⟨0, 0, 0, 32, 0, 0, 0, 0, 2, 0, 0, [0, 0, 0]⟩

/-- The last slot of line 0. -/
def slot63 : SlotInfo := ⟨0, 63, [], 0, none, 0, [], [], false, false⟩

/-- A packet with its checks right. -/
def sealed (typ seq : Nat) (spec : Byte) (p : List Byte) : Packet :=
  let k : Packet := ⟨BitVec.ofNat 8 typ, 0, BitVec.ofNat 16 seq, BitVec.ofNat 16 p.length, spec, 0, p, 0, false, false⟩
  let k1 := { k with hchk := BitVec.ofNat 8 (crc8 k.head) }
  { k1 with crc := BitVec.ofNat 32 (crc32 (k1.head ++ [k1.hchk] ++ p)) }

/-- Both ports in UP. -/
def linked : State := fs up [(F.PORT_STATUS_STATE 0, pUp), (F.PORT_STATUS_STATE 1, pUp)]

/-- A sent packet with SEQ 0. -/
def sent0 : SentPkt := ⟨outPkt tEvent 0 0 [] true none, 0, 0⟩

/-- The linked module whose Inlet waits for an ACK of SEQ 0. -/
def unacked : State := { linked with inl := { up.inl with tx := { up.inl.tx with unacked := [sent0] } } }

/-- A coded segment of two pixels of stream 0 that has started, its place and its bytes. -/
def seg (order : Nat) (bs : List Byte) : Seg :=
  { Seg.start { histHead 2 8 1 with order := order } bs false with started := true }

/-- The running module with one segment at the head of engine 0 and another in engine 1. -/
def decodes (g o : Seg) : State := { up with vid := { up.vid with engines := [[g], [o], [], []] } }

/-- A segment before its start. -/
def idleSeg (order : Nat) : Seg := { seg order [] with started := false }

/-- One pixel token. -/
def onePixel (order : Nat) : Seg := seg order [0, 0, 0, 0, 0, 0, 0, 0]

/-- The same with the base plane's store showing stream 0, behind an earlier segment of it. -/
def tileBusy : State :=
  { decodes (onePixel 1) (idleSeg 0) with vid := { (decodes (onePixel 1) (idleSeg 0)).vid with
    stores := [{ Store.reset with geo := { Geo.reset with stream := some 0, rect := ⟨0, 0, 16, 16⟩ } }, Store.reset, Store.reset] } }

/-- A CAN frame of the safety partner. -/
def can (k : Nat) (d : List Byte) : CanFrame := ⟨16 * up.fld F.SAF_CAN_ID_BASE + k, d, false⟩

/-- A TT_KEY frame with the all-zero key; its check value is the first bytes of the AES-128 of a zero block under it. -/
def keyFrame : CanFrame := can 1 (List.replicate 16 0 ++ [0x66, 0xE9, 0x4B, 0xD4])

/-- Little-endian words as parameter bytes. -/
def le4 (ws : List Nat) : List Byte := (ws.map (leBytes 4)).flatten

/-- The staging area with `n` zero bytes followed by their digest. -/
def staged (n : Nat) : State := up.setBytes (fstBase + stagingOff + n) (sha256 (List.replicate n 0))

/-- The log store with one fault log entry. -/
def oneEntry : State := up.setBytes (flogHead + 10) [1]

/-- The module in LOW_RATE with its Inlet in UP. -/
def lowRateUp : State := { linked with pw := { up.pw with mode := .lowRate } }

/-- The running module with DTH_CTRL 0, written and in force. -/
def noDither : State := lv (fs up [(⟨R.DTH_CTRL, 0, 32⟩, 0)]) [(⟨R.DTH_CTRL, 0, 32⟩, 0)]

/-- A pair is its first part with what stands beside it. -/
theorem fstEq {α β : Type} (x : α × β) {a : α} (h : x.1 = a) : x = (a, x.2) := by rw [← h]

/-- A descriptor without words. -/
def desc0 : Desc := ⟨0, 0, [], [], 0, 0, 0, 0⟩

/-- The engine at work for channel 0, all words moved. -/
def busy0 : State :=
  { fs up [(F.DMA_CH_COUNT_VAL 0, 1)] with
    dma := { up.dma with engine := some 0, chans := listSet up.dma.chans 0 { Channel.reset with job := true, desc := some desc0 } } }

/-- The engine at work for channel 12, which PAUSE asks to stop. -/
def paused12 : State :=
  { fs up [(F.DMA_CH_CTRL_PAUSE 12, 1)] with
    dma := { up.dma with engine := some 12, chans := listSet up.dma.chans 12 { Channel.reset with job := true, desc := some desc0 } } }

/-- The Inlet's return lane with credits. -/
def evs : State := { up with inl := { up.inl with tx := { up.inl.tx with gotCredit := true } } }

/-- A sleep entry after `k` votes. -/
def ent (k : Nat) (c : Option Nat) : SleepEntry := ⟨.standby, .wakeFall, k, [], true, false, false, none, c⟩

/-- The module in such an entry. -/
def entering (k : Nat) (c : Option Nat) : State := during (.entering (ent k c))

/-- The running module whose port 1 has a signal. -/
def heard (st : Nat) : State :=
  { fs up [(F.PORT_STATUS_STATE 1, st), (F.PORT_STATUS_REF_OK 1, 1), (F.PORT_LANE_STAT_LOS 1 8, 0)] with
    chn := { up.chn with retryArmed := true, losMask := true, lanes := listSet up.chn.lanes 8 { RxLane.reset with cdr := true } } }

/-- A start-up that has reached a step. -/
def atStep (k : Nat) (tr : Transition) : State :=
  { fs up [(F.BOOT_STATUS_STEP, k)] with pw := { up.pw with trans := tr, mode := .boot } }

/-- The column link at work. -/
def colUp : State := fs up [(F.COL_CTRL_RUN, 1)]

/-- The gate sequencer at a word of its program. -/
def gsq (w : Nat) : State :=
  { fs up [(F.GSQ_PC_RUNNING, 1), (F.GSQ_PC_PC, 0)] with
    rs := { up.rs with vmin := 40, vmax := 40 }
    gate := { up.gate with banks := [[BitVec.ofNat 32 w, 0], [BitVec.ofNat 32 w, 0]] } }

/-- The running module with every slot of the table free for every class, and grants for each. -/
def evac : State :=
  { up with gov := { up.gov with cur := { up.gov.cur with grants := [9, 9, 9, 9, 9] } }
            rng := { up.rng with used := [0, 0, 0, 0, 0]
                                 table := some ([0#8, 0, 1] ++ List.replicate 13 0 ++ List.replicate 64 0x1F) } }

/-- A slot that calibration may use. -/
def calSlot : State := { evac with cal := { up.cal with run := some ⟨calTrig, [.lane 8], 5, 0, 0, none, false⟩ } }

/-- A slot that the log may use. -/
def logSlot : State := { evac with log := { up.log with logQ := [.part [] true] } }

/-- A sealed packet with an address. -/
def addressed (a : Byte) (typ seq : Nat) (spec : Byte) (p : List Byte) : Packet :=
  let k : Packet := { sealed typ seq spec p with addr := a }
  let k1 := { k with hchk := BitVec.ofNat 8 (crc8 k.head) }
  { k1 with crc := BitVec.ofNat 32 (crc32 (k1.head ++ [k1.hchk] ++ p)) }

/-- Juggler with channel 0 in a state, EN and COUNT 1. -/
def dmaUp (c : Channel) (desc : Nat) : State :=
  { fs up [(F.DMA_CTRL_ENGINE_EN, 1), (F.DMA_CH_CTRL_EN 0, 1), (F.DMA_CH_COUNT_VAL 0, 1), (⟨R.DMA_CH_DESC 0, 0, 32⟩, desc)] with
    dma := { up.dma with chans := listSet up.dma.chans 0 c } }

/-- Channel 0 with a fill of 8 bytes at its descriptor, and with a descriptor that its checks refuse. -/
def goodDesc : State :=
  ((dmaUp { Channel.reset with job := true } (pondBLo + 0x1000)).setBytes (pondBLo + 0x1000)
    ([1, 0, 1, 0x80] ++ leBytes 4 0 ++ leBytes 4 (pondBLo + 0x2000) ++ leBytes 4 0)).setBytes (pondBLo + 0x2000)
    (leBytes 4 (pondBLo + 0x3000) ++ leBytes 4 8)

def badDesc : State := goodDesc.setByte (pondBLo + 0x1000) 3

/-- An eye of 40 agreeing positions, and one without any. -/
def eye0 : CalEye := ⟨[], [0, 0, 0, 0, 0, 0], List.replicate 40 true ++ List.replicate 24 false⟩
def eyeBad : CalEye := { eye0 with agree := [] }

/-- One predictor token. -/
def onePred : Seg := seg 0 [0xF0, 0]

/-- A store that shows stream 3 with one tile built. -/
def dirty : List Store :=
  [{ Store.reset with geo := { Geo.reset with stream := some 3, rect := ⟨0, 0, 16, 16⟩, sw := 16, sh := 16 }, built := [0] }, Store.reset, Store.reset]

/-- A gate program image of one END that passes its checks. -/
def gsqImage : List Byte :=
  [1, 0, 1, 0, 0, 0, 0, 0] ++ leBytes 4 (crc32 (leBytes 4 0)) ++ leBytes 4 0 ++ leBytes 4 0

/-- The module in LIVE with LOW_RATE open to it. -/
def lowRateReady : State := lv (fs linked [(F.SCN_LOWRATE_LR_EN, 1)]) [(F.SCN_LOWRATE_LR_EN, 1), (F.SCN_VRR_VRR_EN, 1)]

/-- A configuration of one timing set, slot table and gate program. -/
def config0 : List Byte :=
  [1, 0, 4, 0, 0, 0, 0, 0, 7, 0, 4, 0, 0, 0, 0, 0, 0x10, 0, 96, 0] ++ List.replicate 96 0 ++
    [0x11, 0, 84, 0, 0, 0, 0, 0, 0, 0, 1] ++ List.replicate 77 0 ++ [0x12, 0, 20, 0] ++ List.replicate 20 0

/-- A state on the resume path whose code is as its digest says. -/
def resumes (b : State) : State :=
  { b with pw := { b.pw with resume := true, codeDigest := some (sha256 (b.bytes pondALo Config.codeLen)) } }

theorem resumes_bytes (b : State) (n : Nat) : ∀ a, (resumes b).bytes a n = b.bytes a n := by
  induction n with
  | zero => intro a; rfl
  | succ n ih => intro a; simp only [State.bytes, ih]; rfl

theorem resumes_digest (b : State) :
    (resumes b).pw.codeDigest = some (sha256 ((resumes b).bytes pondALo Config.codeLen)) := by
  rw [resumes_bytes]; rfl

/-- A resume with that configuration. -/
def resuming : State :=
  resumes ((atStep 2 .startUp).setBytes (copyAddr 0)
    ([1, 0, 0, 0, 0, 0, 0, 0] ++ leBytes 4 config0.length ++ leBytes 4 (crc32 config0) ++ List.replicate 16 0 ++ config0))

/-- The state that a command leaves. -/
def nextOf (o : Out) : State := match o with
  | .next t => t
  | _ => State.reset

theorem witness_StepRunsFront :
  (∃ (c : Instr) (cs : List Instr) (s : State), s.pending = c :: cs) :=
  ⟨.wakeRise, [.wakeFall], up.withPending [.wakeRise, .wakeFall], by decide +kernel⟩

theorem witness_EmptyQueueTicks :
  (∃ (s : State), s.pending = []) :=
  ⟨up, by decide +kernel⟩

theorem witness_EveryCommandCompletes :
  (∃ (c : Instr) (cs : List Instr) (s : State) (t : State), s.canon ∧ s.pending = c :: cs ∧ step s = Host.Outcome.next t) :=
  ⟨.sysTimeLoRead .core, [.wakeFall], up.withPending [.sysTimeLoRead .core, .wakeFall], _, by decide +kernel, rfl, rfl⟩

theorem witness_StepKeepsCanonical :
  (∃ (s : State) (t : State), s.canon ∧ step s = Host.Outcome.next t) :=
  ⟨up.withPending [.registerWrite 0 0], _, by decide +kernel, rfl⟩

theorem witness_DataReadsBack :
  (∃ (s : State) (t : State), s.canon ∧ t.canon ∧ (∀ (a : Nat), s.byte a = t.byte a) ∧ (∀ (a : Nat), s.reg a = t.reg a)) ∧
  (∃ (a : Nat) (bs : List Byte) (b : Nat), (b < a ∨ a + bs.length ≤ b)) :=
  ⟨⟨up, up, by decide +kernel, by decide +kernel, fun _ => rfl, fun _ => rfl⟩,
  ⟨8, [1#8, 2#8], 10, by decide +kernel⟩⟩

theorem witness_RegisterWriteStores :
  (∃ (a : BitVec 32) (s : State) (b : Blk) (r : RegRow), s.reaches a b ∧ b.plain = true ∧ b.commitAt a.toNat = false ∧ regRow?
    a.toNat = some r ∧ (r.shadowed = true → s.locked b a.toNat = false)) :=
  ⟨0x10080014#32, up, .odv, (regRow? 0x10080014).get (by decide +kernel), by decide +kernel⟩

theorem witness_WritesIgnored :
  (∃ (a : BitVec 32) (s : State) (b : Blk) (r : RegRow) (c : CommitBits), s.reaches a b ∧ b.plain = true ∧ b.commitAt a.toNat =
    false ∧ regRow? a.toNat = some r ∧ r.shadowed = true ∧ commitBits b (privileged a.toNat) = some c ∧ s.flag c.locked =
    true) ∧
  (∃ (a : BitVec 32) (s : State) (b : Blk), s.reaches a b ∧ b.plain = true ∧ b.commitAt a.toNat = false ∧ regRow? a.toNat =
    none) :=
  ⟨⟨0x10080014#32, fs up [(F.ODV_COMMIT_LOCKED, 1)], .odv, (regRow? 0x10080014).get (by decide +kernel), _, by decide +kernel,
    by decide +kernel, by decide +kernel, by decide +kernel, by decide +kernel, rfl, by decide +kernel⟩,
  ⟨0x1008FFFC#32, up, .odv, by decide +kernel⟩⟩

theorem witness_OffDomainWrite :
  (∃ (a : BitVec 32) (s : State) (b : Blk), s.on Domain.ctrl = true ∧ a.toNat % 4 = 0 ∧ regionOf a.toNat = MemRegion.regs ∧
    blkOf a.toNat = some b ∧ s.acts b.domain = false ∧ s.wakeRefused b.domain = false ∧ b.domain ∉ s.pw.waking) ∧
  (∃ (a : BitVec 32) (s : State) (b : Blk), s.on Domain.ctrl = true ∧ a.toNat % 4 = 0 ∧ regionOf a.toNat = MemRegion.regs ∧
    blkOf a.toNat = some b ∧ s.acts b.domain = false ∧ s.wakeRefused b.domain = false ∧ b.domain ∈ s.pw.waking) ∧
  (∃ (a : BitVec 32) (s : State) (b : Blk), s.on Domain.ctrl = true ∧ a.toNat % 4 = 0 ∧ regionOf a.toNat = MemRegion.regs ∧
    blkOf a.toNat = some b ∧ s.acts b.domain = false ∧ s.wakeRefused b.domain = true) :=
  ⟨⟨0x10090000#32, fs up [(Domain.pix.onFld, 0)], .dmr, by decide +kernel⟩,
  ⟨0x10090000#32, { fs up [(Domain.pix.onFld, 0)] with pw := { up.pw with waking := [.pix] } }, .dmr, by decide +kernel⟩,
  ⟨0x100F0000#32, { fs up [(Domain.light.onFld, 0)] with bl := { up.bl with latch := some 1 } }, .opt, by decide +kernel⟩⟩

theorem witness_PondAccess :
  (∃ (m : Master) (a : BitVec 32) (n : Nat) (s : State), s.on Domain.ctrl = true ∧ inPond a.toNat = true ∧ m ≠ Master.seq ∧
    aligned a.toNat n = true ∧ s.pondWeak.contains (a.toNat / 8 * 8) = false) ∧
  (∃ (m : Master) (a : BitVec 32) (s : State) (bs : List Byte), s.on Domain.ctrl = true ∧ inPond a.toNat = true ∧ m ≠ Master.seq
    ∧ aligned a.toNat bs.length = true ∧ s.pondWeak.contains (a.toNat / 8 * 8) = false ∧ ringSlot a.toNat = none ∧ s.borrowed
    a.toNat = false) ∧
  (∃ (m : Master) (a : BitVec 32) (n : Nat) (s : State), s.on Domain.ctrl = true ∧ inPond a.toNat = true ∧ m ≠ Master.seq ∧
    aligned a.toNat n = true ∧ s.pondWeak.contains (a.toNat / 8 * 8) = false ∧ s.flag F.SYS_POND_CTRL_ECC_WB = true) :=
  ⟨⟨.core, 0xFFF8#32, 8, up, by decide +kernel⟩,
  ⟨.port, 0x7#32, up, [5#8], by decide +kernel⟩,
  ⟨.dma, 0x8#32, 8, fs up [(F.SYS_POND_CTRL_ECC_WB, 1)], by decide +kernel⟩⟩

theorem witness_PondAlignment :
  (∃ (m : Master) (a : BitVec 32) (s : State) (n : Nat), s.on Domain.ctrl = true ∧ inPond a.toNat = true ∧ (m = Master.seq →
    regionOf a.toNat = MemRegion.pondC) ∧ ((n = 1 ∨ n = 2 ∨ n = 4 ∨ n = 8) ∧ a.toNat % n = 0) ∧ s.pondWeak = [] ∧ m ≠
    Master.seq) ∧
  (∃ (m : Master) (a : BitVec 32) (s : State) (n : Nat), s.on Domain.ctrl = true ∧ inPond a.toNat = true ∧ (m = Master.seq →
    regionOf a.toNat = MemRegion.pondC) ∧ (¬((n = 1 ∨ n = 2 ∨ n = 4 ∨ n = 8) ∧ a.toNat % n = 0))) ∧
  (∃ (m : Master) (a : BitVec 32) (s : State) (bs : List Byte), s.on Domain.ctrl = true ∧ inPond a.toNat = true ∧ (m =
    Master.seq → regionOf a.toNat = MemRegion.pondC) ∧ (¬((bs.length = 1 ∨ bs.length = 2 ∨ bs.length = 4 ∨ bs.length = 8) ∧
    a.toNat % bs.length = 0))) :=
  ⟨⟨.core, 6#32, up, 2, by decide +kernel⟩,
  ⟨.core, 6#32, up, 4, by decide +kernel⟩,
  ⟨.core, 1#32, up, [1#8, 2#8], by decide +kernel⟩⟩

theorem witness_AliasAndBusErrors :
  (∃ (m : Master) (a : BitVec 32) (n : Nat) (s : State), s.on Domain.ctrl = true ∧ regionOf a.toNat = MemRegion.unaligned ∧
    aliasOk m a.toNat n = true ∧ s.pondWeak = [] ∧ (a.toNat - aliasBase) % 8 + n ≤ 8) ∧
  (∃ (m : Master) (a : BitVec 32) (n : Nat) (s : State), s.on Domain.ctrl = true ∧ regionOf a.toNat = MemRegion.unaligned ∧
    aliasOk m a.toNat n = true ∧ s.pondWeak = [] ∧ 8 < (a.toNat - aliasBase) % 8 + n) ∧
  (∃ (m : Master) (a : BitVec 32) (s : State) (bs : List Byte), s.on Domain.ctrl = true ∧ regionOf a.toNat = MemRegion.unaligned
    ∧ aliasOk m a.toNat bs.length = false) ∧
  (∃ (a : BitVec 32) (s : State), s.on Domain.ctrl = true ∧ regionOf a.toNat = MemRegion.unassigned) ∧
  (∃ (m : Master) (a : BitVec 32) (s : State), s.on Domain.ctrl = true ∧ m ≠ Master.seq ∧ regionOf a.toNat = MemRegion.flash) :=
  ⟨⟨.core, 0x00100006#32, 2, up, by decide +kernel⟩,
  ⟨.port, 0x00100007#32, 2, up, by decide +kernel⟩,
  ⟨.core, 0x00100001#32, up, [1#8], by decide +kernel⟩,
  ⟨0xE0000000#32, up, by decide +kernel⟩,
  ⟨.dma, 0x78000000#32, up, by decide +kernel⟩⟩

theorem witness_FrameStoreWindow :
  (∃ (m : Master) (a : BitVec 32) (n : Nat) (s : State), s.on Domain.ctrl = true ∧ s.acts Domain.pix = true ∧ m ≠ Master.seq ∧
    regionOf a.toNat = MemRegion.frameStore ∧ aligned a.toNat n = true ∧ s.errsOf ((a.toNat - fstBase) / 64) = []) ∧
  (∃ (m : Master) (a : BitVec 32) (n : Nat) (s : State), s.on Domain.ctrl = true ∧ s.acts Domain.pix = true ∧ m ≠ Master.seq ∧
    regionOf a.toNat = MemRegion.frameStore ∧ aligned a.toNat n = true ∧ 1 ≤ List.length (s.errsOf ((a.toNat - fstBase) / 64))
    ∧ List.length (s.errsOf ((a.toNat - fstBase) / 64)) ≤ 4) ∧
  (∃ (m : Master) (a : BitVec 32) (n : Nat) (s : State), s.on Domain.ctrl = true ∧ s.acts Domain.pix = true ∧ m ≠ Master.seq ∧
    regionOf a.toNat = MemRegion.frameStore ∧ aligned a.toNat n = true ∧ rsRead false (s.errsOf ((a.toNat - fstBase) / 64)) =
    RsRead.bad) ∧
  (∃ (m : Master) (a : BitVec 32) (s : State) (bs : List Byte), s.on Domain.ctrl = true ∧ s.acts Domain.pix = true ∧ m ≠
    Master.seq ∧ regionOf a.toNat = MemRegion.frameStore ∧ aligned a.toNat bs.length = true ∧ (∀ (i : Nat), s.areaBit (a.toNat
    - fstBase) = some i → bitOf (s.reg R.FST_WPROT) i = false) ∧ (∀ x ∈ s.vid.flips, ¬(a.toNat - fstBase < 64 * x.1 + 64 ∧ 64
    * x.1 < a.toNat - fstBase + bs.length))) ∧
  (∃ (m : Master) (a : BitVec 32) (s : State) (bs : List Byte) (i : Nat), s.on Domain.ctrl = true ∧ s.acts Domain.pix = true ∧ m
    ≠ Master.seq ∧ regionOf a.toNat = MemRegion.frameStore ∧ aligned a.toNat bs.length = true ∧ s.areaBit (a.toNat - fstBase)
    = some i ∧ bitOf (s.reg R.FST_WPROT) i = true) :=
  ⟨⟨.core, 0x40000000#32, 8, up, by decide +kernel⟩,
  ⟨.core, 0x40000008#32, 8, { up with vid := { up.vid with flips := [(0, [(3, 7)])] } }, by decide +kernel⟩,
  ⟨.core, 0x40000000#32, 8, { up with vid := { up.vid with flips := [(0, [(0, 1), (1, 1), (2, 1), (3, 1), (4, 1)])] } },
    by decide +kernel⟩,
  ⟨.core, 0x40000000#32, unprotected, [1#8], by decide +kernel, by decide +kernel, by decide +kernel, by decide +kernel,
    by decide +kernel, fun i _ => wprot_clear i, by decide +kernel⟩,
  ⟨.core, 0x40000000#32, fs up [(⟨R.FST_WPROT, 0, 1⟩, 1)], [1#8], 0, by decide +kernel⟩⟩

theorem witness_FrameStoreCode :
  (∃ (data : List Nat) (i : Nat), data.length = 64 ∧ (∀ d ∈ data, d < 256) ∧ i < 8) ∧
  (∃ (e : SymErrs), 1 ≤ List.length e ∧ List.length e ≤ 4) ∧
  (∃ (e : SymErrs), 1 ≤ List.length e ∧ List.length e ≤ 8) ∧
  (∃ (x : Nat), x < 72) ∧
  (∃ (a : Arbiter), a.waits rankUrgent = true) ∧
  (∃ (a : Arbiter), a.waits rankUrgent = false ∧ a.overWrite ≤ 7 ∧ a.overWindow ≤ 31) ∧
  (∃ (a : Arbiter), a.waits rankUrgent = false ∧ a.overWrite ≤ 7 ∧ a.overWindow ≤ 31 ∧ a.waits rankWindow = true ∧ a.overWindow
    = 31) ∧
  (∃ (a : Arbiter), a.waits rankUrgent = false ∧ a.overWrite ≤ 7 ∧ a.overWindow ≤ 31 ∧ a.waits rankWrite = true ∧ a.overWrite =
    7 ∧ a.overWindow < 31) :=
  ⟨⟨List.range 64, 7, by decide +kernel⟩,
  ⟨[(3, 7), (70, 1)], by decide +kernel⟩,
  ⟨[(3, 7), (70, 1)], by decide +kernel⟩,
  ⟨71, by decide +kernel⟩,
  ⟨⟨[1, 0, 0, 0, 0], 0, 0⟩, by decide +kernel⟩,
  ⟨⟨[0, 1, 0, 1, 1], 7, 31⟩, by decide +kernel⟩,
  ⟨⟨[0, 0, 0, 1, 1], 0, 31⟩, by decide +kernel⟩,
  ⟨⟨[0, 1, 0, 1, 0], 7, 3⟩, by decide +kernel⟩⟩

theorem witness_PowerOnAndWake :
  (∃ (s : State), s.pw.supplied = false) ∧
  (∃ (s : State), s.pw.supplied = true ∧ s.pw.trans = Transition.none ∧ s.mode = Mode.dormant) ∧
  (∃ (s : State), s.pw.supplied = true ∧ s.pw.trans = Transition.none ∧ s.mode = Mode.standby) ∧
  (∃ (s : State), s.pw.supplied = true ∧ s.pw.trans = Transition.none ∧ s.mode ≠ Mode.dormant ∧ s.mode ≠ Mode.standby ∧
    s.pw.noWakeArmed = false ∧ s.pw.revote = none ∧ s.pw.noFlash = false ∧ s.pw.flashBusy = false) :=
  ⟨⟨State.reset, by decide +kernel⟩,
  ⟨inMode .dormant, by decide +kernel⟩,
  ⟨inMode .standby, by decide +kernel⟩,
  ⟨up, by decide +kernel⟩⟩

theorem witness_SleepRequests :
  (∃ (s : State), s.pw.supplied = true ∧ s.flag F.PWR_SPRING_LEVEL = true ∧ s.pw.trans = Transition.none ∧ s.mode ≠ Mode.dormant
    ∧ s.mode ≠ Mode.standby) ∧
  (∃ (s : State), s.pw.supplied = true ∧ s.flag F.PWR_SPRING_LEVEL = true ∧ s.pw.trans = Transition.none ∧ s.mode ≠ Mode.dormant
    ∧ s.mode ≠ Mode.standby ∧ s.on Domain.light = true) ∧
  (∃ (s : State), s.pw.supplied = true ∧ s.flag F.PWR_SPRING_LEVEL = true ∧ s.pw.trans ≠ Transition.none ∧ s.pw.pendReq = none) ∧
  (∃ (s : State), s.mode = Mode.standby ∧ s.flag F.PWR_WAKE_EN_SPI_CS = true ∧ s.pw.trans = Transition.none) ∧
  (∃ (s : State), s.pw.noWakeArmed = true ∧ s.flag F.PWR_SPRING_LEVEL = false ∧ s.fld F.PWR_NOWAKE_TIMEOUT_VAL ≠ 0) ∧
  (∃ (s : State), s.pw.noWakeArmed = true ∧ s.flag F.PWR_SPRING_LEVEL = false ∧ s.fld F.PWR_NOWAKE_TIMEOUT_VAL ≠ 0 ∧ s.pw.trans
    = Transition.none ∧ s.mode ≠ Mode.dormant ∧ s.mode ≠ Mode.standby ∧ s.on Domain.light = true) ∧
  (∃ (s : State), s.pw.noWakeArmed = true ∧ s.flag F.PWR_SPRING_LEVEL = false ∧ s.fld F.PWR_NOWAKE_TIMEOUT_VAL ≠ 0 ∧ s.pw.trans
    ≠ Transition.none ∧ s.pw.pendReq = none) ∧
  (∃ (d : Domain) (s : State), s.flag d.demandFld = true ∧ s.on d = true ∧ s.fld F.PWR_IDLE_OFF_VAL ≠ 0) ∧
  (∃ (d : Domain) (s : State), s.flag d.demandFld = true ∧ s.on d = true ∧ s.fld F.PWR_IDLE_OFF_VAL ≠ 0 ∧ d = Domain.pix ∧
    s.cal.run = none) ∧
  (∃ (d : Domain) (s : State), s.flag d.demandFld = true ∧ s.on d = true ∧ s.fld F.PWR_IDLE_OFF_VAL ≠ 0 ∧ d = Domain.panel ∧
    s.bias.vddPl = true ∧ s.biasBusy = false) ∧
  (∃ (s : State), s.mode = Mode.standby) ∧
  (∃ (s : State), Domain.pix ∈ s.pw.waking ∧ s.on Domain.pix = false ∧ s.pw.stalled = []) ∧
  (∃ (s : State) (a : Nat) (v : Word) (b : Blk), Domain.pix ∈ s.pw.waking ∧ s.on Domain.pix = false ∧ s.pw.stalled = [Stall.put
    a v] ∧ blkOf a = some b ∧ b.domain = Domain.pix) :=
  ⟨⟨fs up [(F.PWR_SPRING_LEVEL, 1)], by decide +kernel⟩,
  ⟨fs up [(F.PWR_SPRING_LEVEL, 1)], by decide +kernel⟩,
  ⟨fs (during .startUp) [(F.PWR_SPRING_LEVEL, 1)], by decide +kernel⟩,
  ⟨fs (inMode .standby) [(F.PWR_WAKE_EN_SPI_CS, 1)], by decide +kernel⟩,
  ⟨fs { up with pw := { up.pw with noWakeArmed := true } } [(F.PWR_SPRING_LEVEL, 0), (F.PWR_NOWAKE_TIMEOUT_VAL, 1)],
    by decide +kernel⟩,
  ⟨{ fs up [(F.PWR_SPRING_LEVEL, 0), (F.PWR_NOWAKE_TIMEOUT_VAL, 1)] with pw := { up.pw with noWakeArmed := true } },
    by decide +kernel⟩,
  ⟨{ fs up [(F.PWR_SPRING_LEVEL, 0), (F.PWR_NOWAKE_TIMEOUT_VAL, 1)] with pw := { up.pw with noWakeArmed := true, trans := .startUp } },
    by decide +kernel⟩,
  ⟨.light, fs up [(Domain.light.demandFld, 1), (F.PWR_IDLE_OFF_VAL, 1)], by decide +kernel⟩,
  ⟨.pix, fs up [(Domain.pix.demandFld, 1), (F.PWR_IDLE_OFF_VAL, 1)], by decide +kernel⟩,
  ⟨.panel, { fs up [(Domain.panel.demandFld, 1), (F.PWR_IDLE_OFF_VAL, 1)] with bias := { up.bias with vddPl := true } },
    by decide +kernel⟩,
  ⟨inMode .standby, by decide +kernel⟩,
  ⟨{ fs up [(Domain.pix.onFld, 0)] with pw := { up.pw with waking := [.pix] } }, by decide +kernel⟩,
  ⟨{ fs up [(Domain.pix.onFld, 0)] with pw := { up.pw with waking := [.pix], stalled := [.put 0x10090000 5] } }, 0x10090000, 5,
    .dmr, by decide +kernel⟩⟩

theorem witness_Resets :
  (∃ (s : State), s.pw.supplied = true ∧ s.mode ≠ Mode.dormant) ∧
  (∃ (s : State), s.pw.supplied = true) ∧
  (∃ (s : State), s.on Domain.ctrl = true) ∧
  (∃ (s : State), s.saf.absent = true ∧ 64 ≤ s.fld F.SAF_ABSENT_COUNT) ∧
  (∃ (s : State), s.on Domain.ctrl = true ∧ s.pw.firmware = true) :=
  ⟨⟨up, by decide +kernel⟩,
  ⟨up, by decide +kernel⟩,
  ⟨up, by decide +kernel⟩,
  ⟨{ fs up [(F.SAF_ABSENT_COUNT, 64)] with saf := { up.saf with absent := true } }, by decide +kernel⟩,
  ⟨up, by decide +kernel⟩⟩

theorem witness_FullResetLeaves :
  (∃ (s : State) (f : Fld) (source : Nat), s.canon ∧ f ∈ [F.RESET_CAUSE_VIN_BOR, F.RESET_CAUSE_AON_BOR, F.RESET_CAUSE_WATCHDOG]
    ∧ source < 16) ∧
  (∃ (s : State) (f : Fld) (source : Nat) (a : Nat), s.canon ∧ f ∈ [F.RESET_CAUSE_VIN_BOR, F.RESET_CAUSE_AON_BOR,
    F.RESET_CAUSE_WATCHDOG] ∧ source < 16 ∧ logBase ≤ a) ∧
  (∃ (s : State) (f : Fld) (source : Nat) (a : Nat), s.canon ∧ f ∈ [F.RESET_CAUSE_VIN_BOR, F.RESET_CAUSE_AON_BOR,
    F.RESET_CAUSE_WATCHDOG] ∧ source < 16 ∧ a < logBase) ∧
  (∃ (s : State) (c : Instr) (f : Fld) (source : Nat), s.canon ∧ s.pw.supplied = true ∧ s.mode ≠ Mode.dormant ∧ s.on Domain.ctrl
    = true ∧ (c, f, source) ∈ [(Instr.vinBrownOut, F.RESET_CAUSE_VIN_BOR, 2), (Instr.aonBrownOut, F.RESET_CAUSE_AON_BOR, 2),
    (Instr.watchdog, F.RESET_CAUSE_WATCHDOG, 3)]) ∧
  (∃ (s : State), s.canon ∧ s.saf.absent = true ∧ 64 ≤ s.fld F.SAF_ABSENT_COUNT) :=
  ⟨⟨up, F.RESET_CAUSE_WATCHDOG, 15, by decide +kernel⟩,
  ⟨up, F.RESET_CAUSE_VIN_BOR, 0, logBase, by decide +kernel⟩,
  ⟨up, F.RESET_CAUSE_AON_BOR, 15, logBase - 1, by decide +kernel⟩,
  ⟨up, .watchdog, F.RESET_CAUSE_WATCHDOG, 3, by decide +kernel⟩,
  ⟨{ fs up [(F.SAF_ABSENT_COUNT, 64)] with saf := { up.saf with absent := true } }, by decide +kernel⟩⟩

theorem witness_SleepVote :
  (∃ (d : Domain) (s : State) (e : SleepEntry), s.pw.trans = Transition.entering e ∧ voteOrder[e.voted]? = some d) ∧
  (∃ (s : State) (e : SleepEntry), s.pw.trans = Transition.entering e ∧ e.stopped = [] ∧ e.voted = 0) ∧
  (∃ (s : State) (e : SleepEntry), s.pw.trans = Transition.entering e ∧ e.stopped = [] ∧ e.voted = 2 ∧ s.on Domain.link = true ∧
    s.enumBusy = true) ∧
  (∃ (s : State) (e : SleepEntry), s.pw.trans = Transition.entering e ∧ e.voted = 0 ∧ s.on Domain.panel = true) ∧
  (∃ (s : State) (e : SleepEntry), s.pw.trans = Transition.entering e ∧ e.voted = 1 ∧ s.biasBusy = false ∧ s.on Domain.pix =
    true) ∧
  (∃ (s : State) (e : SleepEntry), s.pw.trans = Transition.entering e ∧ e.voted = 2 ∧ s.on Domain.link = true ∧ s.enumBusy =
    false ∧ (e.source = SleepSource.wakeFall ∨ e.source = SleepSource.timeout)) ∧
  (∃ (s : State) (e : SleepEntry), s.pw.trans = Transition.entering e ∧ e.voted = 3 ∧ s.on Domain.ctrl = true ∧ e.ctrl = none ∧
    s.ctrlReason ≠ 0) ∧
  (∃ (s : State) (e : SleepEntry), s.pw.trans = Transition.entering e ∧ e.voted = 3 ∧ s.on Domain.ctrl = true ∧ e.ctrl = none ∧
    s.ctrlReason = 0) ∧
  (∃ (s : State) (e : SleepEntry) (r : Nat), s.pw.trans = Transition.entering e ∧ e.voted = 4 ∧ e.ctrl = some (r + 1)) ∧
  (∃ (s : State) (e : SleepEntry) (r : Nat), s.pw.trans = Transition.entering e ∧ e.voted = 3 ∧ s.on Domain.ctrl = true ∧ e.ctrl
    = some (r + 1)) ∧
  (∃ (s : State) (e : SleepEntry), s.pw.trans = Transition.entering e ∧ e.voted = 3 ∧ s.on Domain.ctrl = true ∧ e.ctrl = some 0) ∧
  (∃ (s : State) (e : SleepEntry), s.pw.trans = Transition.entering e ∧ e.voted = 4 ∧ e.ctrl = some 0 ∧ s.dmaEnds = false) ∧
  (∃ (s : State) (e : SleepEntry), s.pw.trans = Transition.entering e ∧ 5 ≤ e.voted ∧ s.on Domain.light = false ∧ s.on
    Domain.panel = false ∧ s.on Domain.link = false ∧ s.cal.run = none ∧ s.pw.pendReq = none ∧ s.mail.unlocked = false) ∧
  (∃ (s : State) (e : SleepEntry), s.pw.trans = Transition.entering e ∧ 5 ≤ e.voted) ∧
  (∃ (s : State) (e : SleepEntry), s.pw.trans = Transition.restarting e ∧ (e.panelUp = true → s.flag F.BIAS_STATUS_UP_DONE =
    true) ∧ (e.lit = true → s.bl.ramp = Ramp.target ∨ s.bl.latch.isSome = true) ∧ s.pw.pendReq = none ∧ (e.source =
    SleepSource.wakeFall ∨ e.source = SleepSource.timeout)) ∧
  (∃ (s : State) (e : SleepEntry) (tag : Nat), s.pw.trans = Transition.restarting e ∧ (e.panelUp = true → s.flag
    F.BIAS_STATUS_UP_DONE = true) ∧ (e.lit = true → s.bl.ramp = Ramp.target ∨ s.bl.latch.isSome = true) ∧ s.pw.pendReq = none
    ∧ e.source = SleepSource.modeSet tag ∧ s.cmd tag = none) ∧
  (∃ (s : State) (tg : SleepTarget) (src : SleepSource), s.pw.revote = some (tg, src) ∧ s.pw.trans = Transition.none ∧ s.flag
    F.PWR_SPRING_LEVEL = false) ∧
  (∃ (s : State) (tg : SleepTarget) (src : SleepSource), s.pw.revote = some (tg, src) ∧ s.pw.trans = Transition.none ∧ s.flag
    F.PWR_SPRING_LEVEL = false ∧ s.on Domain.light = true ∧ (src = SleepSource.wakeFall ∨ src = SleepSource.timeout)) ∧
  (∃ (s : State) (tg : SleepTarget) (src : SleepSource), s.pw.revote = some (tg, src) ∧ s.pw.trans = Transition.none ∧ s.flag
    F.PWR_SPRING_LEVEL = true) :=
  ⟨⟨.light, entering 0 none, ent 0 none, by decide +kernel⟩,
  ⟨entering 0 none, ent 0 none, by decide +kernel⟩,
  ⟨fs (entering 2 none) [(F.PORT_ADDR_ENUM_BUSY 0, 1)], ent 2 none, by decide +kernel⟩,
  ⟨entering 0 none, ent 0 none, by decide +kernel⟩,
  ⟨entering 1 none, ent 1 none, by decide +kernel⟩,
  ⟨entering 2 none, ent 2 none, by decide +kernel⟩,
  ⟨{ (entering 3 none) with pw := { (entering 3 none).pw with noFlash := true, flashBusy := true } }, ent 3 none,
    by decide +kernel⟩,
  ⟨entering 3 none, ent 3 none, by decide +kernel⟩,
  ⟨entering 4 (some 3), ent 4 (some 3), 2, by decide +kernel⟩,
  ⟨entering 3 (some 3), ent 3 (some 3), 2, by decide +kernel⟩,
  ⟨entering 3 (some 0), ent 3 (some 0), by decide +kernel⟩,
  ⟨entering 4 (some 0), ent 4 (some 0), by decide +kernel⟩,
  ⟨fs (entering 5 (some 0)) [(Domain.light.onFld, 0), (Domain.panel.onFld, 0), (Domain.link.onFld, 0)], ent 5 (some 0),
    by decide +kernel⟩,
  ⟨entering 5 (some 0), ent 5 (some 0), by decide +kernel⟩,
  ⟨during (.restarting (ent 2 none)), ent 2 none, by decide +kernel⟩,
  ⟨during (.restarting { ent 2 none with source := .modeSet 16 }), { ent 2 none with source := .modeSet 16 }, 16,
    by decide +kernel⟩,
  ⟨{ fs up [(F.PWR_SPRING_LEVEL, 0)] with pw := { up.pw with revote := some (.standby, .wakeFall) } }, .standby, .wakeFall,
    by decide +kernel⟩,
  ⟨{ fs up [(F.PWR_SPRING_LEVEL, 0)] with pw := { up.pw with revote := some (.standby, .wakeFall) } }, .standby, .wakeFall,
    by decide +kernel⟩,
  ⟨{ fs up [(F.PWR_SPRING_LEVEL, 1)] with pw := { up.pw with revote := some (.standby, .wakeFall) } }, .standby, .wakeFall,
    by decide +kernel⟩⟩

theorem witness_PowerLimits :
  (∃ (v : Word) (s : State), s.on Domain.ctrl = true ∧ s.on Domain.aon = true ∧ bitOf v F.PWR_SPRING_BAD_WR.lo = false ∧ v.toNat
    % 128 ≤ 70) ∧
  (∃ (v : Word) (s : State), s.on Domain.ctrl = true ∧ s.on Domain.aon = true ∧ bitOf v F.PWR_SPRING_BAD_WR.lo = false ∧ 70 <
    v.toNat % 128) ∧
  (∃ (v : Word), (50 ≤ v.toNat % 65536 ∧ v.toNat % 65536 ≤ 1200)) ∧
  (∃ (v : Word), (¬(50 ≤ v.toNat % 65536 ∧ v.toNat % 65536 ≤ 1200))) :=
  ⟨⟨70, up, by decide +kernel⟩,
  ⟨71, up, by decide +kernel⟩,
  ⟨50, by decide +kernel⟩,
  ⟨49, by decide +kernel⟩⟩

theorem witness_PortTraining :
  (∃ (p : Fin 2) (s : State), s.acts Domain.link = true ∧ s.pState p.val = pRateChange ∧ (s.port p.val).sel < 4) ∧
  (∃ (p : Fin 2) (s : State), s.acts Domain.link = true ∧ s.inAttempt p.val = true ∧ s.farLoop p.val = false) ∧
  (∃ (p : Fin 2) (s : State), s.acts Domain.link = true ∧ s.inAttempt p.val = true ∧ s.farLoop p.val = false ∧ (s.port
    p.val).rateChanged = false ∧ s.mail.cmds = []) ∧
  (∃ (p : Fin 2) (s : State), s.acts Domain.link = true ∧ (s.port p.val).retryArmed = true) ∧
  (∃ (p : Fin 2) (s : State), s.acts Domain.link = true ∧ (s.port p.val).retryArmed = true ∧ s.pState p.val = pNoPartner ∧
    s.flag (F.PORT_STATUS_REF_OK p.val) = true ∧ s.nearLoop p.val = false ∧ s.allSignal p.val = true) ∧
  (∃ (p : Fin 2) (s : State), s.acts Domain.link = true ∧ (s.port p.val).losMask = true ∧ s.allSignal p.val = true) ∧
  (∃ (p : Fin 2) (s : State), s.acts Domain.link = true ∧ (s.port p.val).losMask = true ∧ s.allSignal p.val = false) ∧
  (∃ (p : Fin 2) (s : State), s.acts Domain.link = true ∧ (s.port p.val).losMask = true ∧ s.allSignal p.val = false ∧
    s.inAttempt p.val = true ∧ (s.port p.val).rateChanged = false ∧ s.mail.cmds = []) ∧
  (∃ (p : Fin 2) (s : State), s.acts Domain.link = true ∧ s.pState p.val = pRetrain ∧ s.farLoop p.val = false) ∧
  (∃ (p : Fin 2) (s : State), s.acts Domain.link = true ∧ s.pState p.val = pRetrain ∧ s.farLoop p.val = false ∧ s.flag
    (F.PORT_STATUS_REF_OK p.val) = false ∧ s.mail.cmds = [] ∧ p = 1) ∧
  (∃ (p : Fin 2) (s : State), s.pState p.val = pNoPartner ∧ s.flag (F.PORT_STATUS_REF_OK p.val) = true ∧ s.nearLoop p.val =
    false) ∧
  (∃ (s : State), s.acts Domain.link = false) ∧
  (∃ (s : State), s.acts Domain.link = true ∧ s.pState 0 = pOff ∧ s.pState 1 = pOff) :=
  ⟨⟨0, fs up [(F.PORT_STATUS_STATE 0, pRateChange)], by decide +kernel⟩,
  ⟨1, fs up [(F.PORT_STATUS_STATE 1, pTrain)], by decide +kernel⟩,
  ⟨1, fs up [(F.PORT_STATUS_STATE 1, pTrain)], by decide +kernel⟩,
  ⟨0, { up with inl := { up.inl with retryArmed := true } }, by decide +kernel⟩,
  ⟨1, heard pNoPartner, by decide +kernel⟩,
  ⟨1, heard pTrain, by decide +kernel⟩,
  ⟨1, { up with chn := { up.chn with losMask := true } }, by decide +kernel⟩,
  ⟨1, { fs up [(F.PORT_STATUS_STATE 1, pTrain)] with chn := { up.chn with losMask := true } }, by decide +kernel⟩,
  ⟨1, fs up [(F.PORT_STATUS_STATE 1, pRetrain)], by decide +kernel⟩,
  ⟨1, fs up [(F.PORT_STATUS_STATE 1, pRetrain), (F.PORT_STATUS_REF_OK 1, 0)], by decide +kernel⟩,
  ⟨0, fs up [(F.PORT_STATUS_STATE 0, pNoPartner), (F.PORT_STATUS_REF_OK 0, 1)], by decide +kernel⟩,
  ⟨fs up [(Domain.link.onFld, 0)], by decide +kernel⟩,
  ⟨up, by decide +kernel⟩⟩

theorem witness_LaneEvents :
  (∃ (p : Fin 2) (l : Fin 9) (s : State), s.acts Domain.link = true ∧ (rxLanes p.val).contains l.val = true) ∧
  (∃ (p : Fin 2) (l : Fin 9) (s : State), s.acts Domain.link = true ∧ (rxLanes p.val).contains l.val = true ∧ s.pState p.val =
    pNoPartner) ∧
  (∃ (p : Fin 2) (l : Fin 9) (s : State), s.acts Domain.link = true ∧ (rxLanes p.val).contains l.val = true ∧ s.pState p.val =
    pNoPartner ∧ s.flag (F.PORT_STATUS_REF_OK p.val) = true ∧ s.nearLoop p.val = false ∧ (∀ k ∈ rxLanes p.val, k ≠ l.val →
    s.flag (F.PORT_LANE_STAT_LOS (p.val) k) = false)) ∧
  (∃ (p : Fin 2) (l : Fin 9) (s : State), s.acts Domain.link = true ∧ (rxLanes p.val).contains l.val = true ∧ s.pState p.val =
    pUp ∧ s.mail.cmds = []) ∧
  (∃ (p : Fin 2) (l : Fin 9) (s : State) (y : BadSym), s.acts Domain.link = true ∧ (rxLanes p.val).contains l.val = true ∧
    y.violates = true ∧ (s.lane p.val l.val).blockViol < 15) ∧
  (∃ (p : Fin 2) (l : Fin 9) (s : State) (y : BadSym), s.acts Domain.link = true ∧ (rxLanes p.val).contains l.val = true ∧
    y.violates = false) ∧
  (∃ (p : Fin 2) (l : Fin 9) (s : State), s.acts Domain.link = true ∧ (rxLanes p.val).contains l.val = true ∧ s.pState p.val =
    pTrain ∧ (s.lane p.val l.val).cdr = true) ∧
  (∃ (p : Fin 2) (l : Fin 9) (s : State), s.acts Domain.link = true ∧ (rxLanes p.val).contains l.val = true ∧ s.pState p.val =
    pTrain ∧ (s.lane p.val l.val).cdr = true ∧ (s.port p.val).lanes.length = 9 ∧ (∃ k ∈ rxLanes p.val, k ≠ l.val ∧ (s.lane
    (p.val) k).cdr = false)) ∧
  (∃ (p : Fin 2) (l : Fin 9) (s : State), s.acts Domain.link = true ∧ (rxLanes p.val).contains l.val = true ∧ s.pState p.val =
    pNoPartner ∧ s.cal.laneDue.contains l.val = false) ∧
  (∃ (p : Fin 2) (l : Fin 9) (s : State) (cb : Byte) (arrival : Nat), s.acts Domain.link = true ∧ (rxLanes p.val).contains l.val
    = true ∧ s.pState p.val = pUp ∧ s.cal.laneDue.contains l.val = false ∧ cb.toNat = (s.fld (F.PORT_LANE_STAT_MARKER_COUNT
    p.val l.val) + 1) % 256 ∧ (p ≠ 0 ∨ arrival ≤ (s.lane p.val l.val).deskewPos + 8 ∧ (s.lane p.val l.val).deskewPos ≤ arrival
    + 8)) ∧
  (∃ (p : Fin 2) (l : Fin 9) (s : State), s.acts Domain.link = true ∧ (rxLanes p.val).contains l.val = true ∧ s.pState p.val =
    pUp ∧ s.cal.laneDue.contains l.val = false ∧ (s.lane p.val l.val).markerRun < 2 ∧ (s.port p.val).lanes.length = 9) ∧
  (∃ (p : Fin 2) (l : Fin 9) (s : State), s.acts Domain.link = true ∧ (rxLanes p.val).contains l.val = true ∧ s.flag
    (F.PORT_LANE_PHY_ADAPT p.val l.val) = true ∧ s.flag (F.PORT_LANE_STAT_LOS p.val l.val) = false) :=
  ⟨⟨1, 8, up, by decide +kernel⟩,
  ⟨1, 8, heard pNoPartner, by decide +kernel⟩,
  ⟨1, 8, heard pNoPartner, by decide +kernel⟩,
  ⟨1, 8, fs up [(F.PORT_STATUS_STATE 1, pUp)], by decide +kernel⟩,
  ⟨0, 7, up, .invalid, by decide +kernel⟩,
  ⟨0, 7, up, .control .start symCOM, by decide +kernel⟩,
  ⟨1, 8, heard pTrain, by decide +kernel⟩,
  ⟨0, 7,
    { fs up [(F.PORT_STATUS_STATE 0, pTrain)] with inl := { up.inl with lanes := listSet up.inl.lanes 7 { RxLane.reset with cdr := true } } },
    by decide +kernel⟩,
  ⟨1, 8, fs up [(F.PORT_STATUS_STATE 1, pNoPartner)], by decide +kernel⟩,
  ⟨0, 7, fs up [(F.PORT_STATUS_STATE 0, pUp)], 1, 8, by decide +kernel⟩,
  ⟨0, 7, fs up [(F.PORT_STATUS_STATE 0, pUp)], by decide +kernel⟩,
  ⟨0, 7, fs up [(F.PORT_LANE_PHY_ADAPT 0 7, 1), (F.PORT_LANE_STAT_LOS 0 7, 0)], by decide +kernel⟩⟩

theorem witness_ReceivedSets :
  (∃ (p : Fin 2) (l : Fin 9) (c0 : Machine.Sym) (c1 : Machine.Sym) (bs : List Byte) (s : State), s.acts Domain.link = true ∧
    (rxLanes p.val).contains l.val = true ∧ s.pState p.val ≠ pOff ∧ (s.port p.val).lanes.length = 9 ∧ tsValid c0 c1 bs =
    false) ∧
  (∃ (p : Fin 2) (l : Fin 9) (c0 : Machine.Sym) (c1 : Machine.Sym) (bs : List Byte) (s : State), s.acts Domain.link = true ∧
    (rxLanes p.val).contains l.val = true ∧ s.pState p.val ≠ pOff ∧ (s.port p.val).lanes.length = 9 ∧ tsValid c0 c1 bs = true
    ∧ s.pState p.val = pRateChange) ∧
  (∃ (p : Fin 2) (l : Fin 9) (s : State), s.acts Domain.link = true ∧ (rxLanes p.val).contains l.val = true ∧ s.pState p.val ≠
    pOff ∧ (s.port p.val).lanes.length = 9) ∧
  (∃ (p : Fin 2) (l : Fin 9) (flags : Byte) (s : State), s.acts Domain.link = true ∧ (rxLanes p.val).contains l.val = true ∧
    s.pIsUp p.val = true ∧ (flags.toNat).testBit 0 = true ∧ (s.port p.val).burst = none) ∧
  (∃ (p : Fin 2) (l : Fin 9) (flags : Byte) (s : State), s.acts Domain.link = true ∧ (rxLanes p.val).contains l.val = true ∧
    (flags.toNat).testBit 0 = false) ∧
  (∃ (p : Fin 2) (l : Fin 9) (flags : Byte) (s : State) (check : Byte), s.acts Domain.link = true ∧ (rxLanes p.val).contains
    l.val = true ∧ check ≠ flags ^^^ 255 ∧ (s.lane p.val l.val).blockViol < 15) ∧
  (∃ (p : Fin 2) (l : Fin 9) (s : State), s.acts Domain.link = true ∧ (rxLanes p.val).contains l.val = true ∧ s.pIsUp p.val =
    true ∧ s.flag (F.PORT_CTRL_IDLE_BURST_EN p.val) = true) ∧
  (∃ (p : Fin 2) (l : Fin 9) (s : State), s.acts Domain.link = true ∧ (rxLanes p.val).contains l.val = true) :=
  ⟨⟨0, 0, .ctl symCOM, .ctl symTSI, [], fs up [(F.PORT_STATUS_STATE 0, pLock)], by decide +kernel⟩,
  ⟨0, 0, .ctl symCOM, .ctl symTSI, okSet, fs up [(F.PORT_STATUS_STATE 0, pRateChange)], by decide +kernel⟩,
  ⟨1, 8, fs up [(F.PORT_STATUS_STATE 1, pLock)], by decide +kernel⟩,
  ⟨0, 0, 1, fs up [(F.PORT_STATUS_STATE 0, pUp)], by decide +kernel⟩,
  ⟨0, 0, 0, up, by decide +kernel⟩,
  ⟨0, 0, 1, up, 0xFF, by decide +kernel⟩,
  ⟨0, 0, fs up [(F.PORT_STATUS_STATE 0, pUp), (F.PORT_CTRL_IDLE_BURST_EN 0, 1)], by decide +kernel⟩,
  ⟨1, 8, up, by decide +kernel⟩⟩

theorem witness_PortWrites :
  (∃ (s : State), s.on Domain.ctrl = true ∧ s.acts Domain.link = false ∧ s.wakeRefused Domain.link = false ∧ Domain.link ∉
    s.pw.waking) ∧
  (∃ (p : Fin 2) (v : Word) (s : State), s.on Domain.ctrl = true ∧ s.acts Domain.link = true ∧ v = 17 ∧ s.flag
    (F.PORT_CTRL_ENABLE p.val) = true ∧ s.pState p.val = pUp) ∧
  (∃ (p : Fin 2) (v : Word) (s : State), s.on Domain.ctrl = true ∧ s.acts Domain.link = true ∧ v = 49 ∧ s.flag
    (F.PORT_CTRL_ENABLE p.val) = false ∧ s.pState p.val = pOff ∧ s.mail.cmds = []) ∧
  (∃ (p : Fin 2) (s : State), s.on Domain.ctrl = true ∧ s.acts Domain.link = true ∧ s.pState p.val = pUp ∧ s.flag
    (F.PORT_CTRL_ENABLE p.val) = true) ∧
  (∃ (p : Fin 2) (s : State), s.on Domain.ctrl = true ∧ s.acts Domain.link = true ∧ s.pState p.val = pUp ∧ s.flag
    (F.PORT_CTRL_ENABLE p.val) = true ∧ s.mail.cmds = []) ∧
  (∃ (v : Word) (s : State), s.on Domain.ctrl = true ∧ s.acts Domain.link = true ∧ v.toNat % 4 ≠ 0 ∧ s.mode ≠ Mode.service) ∧
  (∃ (p : Fin 2) (v : Word) (s : State), s.on Domain.ctrl = true ∧ s.acts Domain.link = true ∧ (v.toNat % 4 = 1 ∨ v.toNat % 4 =
    2) ∧ s.mode = Mode.service ∧ s.pState p.val = pNoPartner) ∧
  (∃ (p : Fin 2) (v : Word) (s : State), s.on Domain.ctrl = true ∧ s.acts Domain.link = true ∧ v.toNat % 4 = 0 ∧ s.fld
    (F.PORT_LOOP_MODE p.val) = 0) ∧
  (∃ (p : Fin 2) (v : Word) (s : State), s.on Domain.ctrl = true ∧ s.acts Domain.link = true ∧ (v.toNat).testBit 3 = true ∧
    (v.toNat).testBit 2 = false ∧ s.flag (F.PORT_PAT_CHK p.val) = false) :=
  ⟨⟨fs up [(Domain.link.onFld, 0)], by decide +kernel⟩,
  ⟨1, 17, fs up [(F.PORT_STATUS_STATE 1, pUp), (F.PORT_CTRL_ENABLE 1, 1)], by decide +kernel⟩,
  ⟨1, 49, fs up [(F.PORT_STATUS_STATE 1, pOff), (F.PORT_CTRL_ENABLE 1, 0)], by decide +kernel⟩,
  ⟨1, fs up [(F.PORT_STATUS_STATE 1, pUp), (F.PORT_CTRL_ENABLE 1, 1)], by decide +kernel⟩,
  ⟨1, fs up [(F.PORT_STATUS_STATE 1, pUp), (F.PORT_CTRL_ENABLE 1, 1)], by decide +kernel⟩,
  ⟨1, up, by decide +kernel⟩,
  ⟨0, 2, fs (inMode .service) [(F.PORT_STATUS_STATE 0, pNoPartner)], by decide +kernel⟩,
  ⟨0, 0, up, by decide +kernel⟩,
  ⟨0, 8, up, by decide +kernel⟩⟩

set_option maxRecDepth 20000 in
theorem witness_StartUpSteps :
  (∃ (s : State), s.bootStep = 1 ∧ s.pw.trans = Transition.startUp ∧ s.pw.stalled = []) ∧
  (∃ (s : State), s.bootStep = 2 ∧ s.pw.trans = Transition.startUp ∧ s.pw.rom = false ∧ s.pw.resume = false ∧ s.cfgChoice = none
    ∧ s.pw.pendReq = none) ∧
  (∃ (s : State), s.bootStep = 2 ∧ s.pw.trans = Transition.startUp ∧ s.pw.rom = false ∧ s.pw.resume = true ∧ s.pw.codeDigest =
    some (sha256 (s.bytes pondALo Config.codeLen)) ∧ s.cfgChoice ≠ none) ∧
  (∃ (s : State), s.bootStep = 2 ∧ s.pw.trans = Transition.startUp ∧ s.pw.rom = false) ∧
  (∃ (s : State), s.bootStep = 3 ∧ s.pw.trans = Transition.startUp) ∧
  (∃ (s : State), s.bootStep = 4 ∧ s.pw.trans = Transition.none ∧ s.flag F.BIAS_STATUS_UP_DONE = false) ∧
  (∃ (s : State), s.bootStep = 4 ∧ s.pw.trans = Transition.none ∧ s.flag F.BIAS_STATUS_UP_DONE = true ∧ s.acts Domain.pix = true
    ∧ s.rs.timed = true ∧ s.rs.running = false ∧ s.flag F.SCN_CTRL_RUN = false) ∧
  (∃ (s : State), s.bootStep = 5 ∧ s.pw.trans = Transition.none ∧ s.rs.frames = 0) ∧
  (∃ (s : State), s.bootStep = 5 ∧ s.pw.trans = Transition.none ∧ s.rs.frames ≠ 0 ∧ s.pw.resume = true ∧ s.on Domain.light =
    true ∧ s.flag F.BLD_CTRL_RUN = false ∧ s.bl.latch = none ∧ s.opt.started = true) ∧
  (∃ (s : State), s.bootStep = 5 ∧ s.pw.trans = Transition.none ∧ s.rs.frames ≠ 0 ∧ s.pw.resume = false ∧ s.flag
    F.CAL_CTRL_BOOT_EN = true ∧ s.cal.run = none ∧ (s.stepTo 6).blRun.flag F.CAL_CTRL_BOOT_EN = true ∧ (s.stepTo
    6).blRun.cal.run = none) ∧
  (∃ (s : State) (p : ProofFrame), s.saf.last = some p ∧ s.on Domain.ctrl = true ∧ s.rs.running = true) ∧
  (∃ (s : State) (p : ProofFrame), s.saf.last = some p ∧ s.on Domain.ctrl = true ∧ s.rs.running = true ∧ (s.bootStep ≠ 7 ∨
    s.cal.litFrame ≠ some p.frame)) ∧
  (∃ (s : State) (p : ProofFrame), s.saf.last = some p ∧ s.on Domain.ctrl = true ∧ s.rs.running = true ∧ s.bootStep = 7 ∧
    s.cal.litFrame = some p.frame ∧ s.pw.stalled = []) :=
  ⟨⟨atStep 1 .startUp, by decide +kernel⟩,
  ⟨atStep 2 .startUp, by decide +kernel⟩,
  ⟨resuming, by decide +kernel, by decide +kernel, by decide +kernel, by decide +kernel, resumes_digest _, by decide +kernel⟩,
  ⟨{ fs up [(F.BOOT_STATUS_STEP, 2)] with pw := { up.pw with trans := .startUp } }, by decide +kernel⟩,
  ⟨atStep 3 .startUp, by decide +kernel⟩,
  ⟨fs (atStep 4 .none) [(F.BIAS_STATUS_UP_DONE, 0)], by decide +kernel⟩,
  ⟨{ fs (atStep 4 .none) [(F.BIAS_STATUS_UP_DONE, 1), (F.SCN_CTRL_RUN, 0)] with rs := { Raster.reset with timed := true } },
    by decide +kernel⟩,
  ⟨atStep 5 .none, by decide +kernel⟩,
  ⟨{ fs (atStep 5 .none) [(F.BLD_CTRL_RUN, 0)] with rs := { up.rs with frames := 1 }, opt := { up.opt with started := true }, pw := { (atStep 5 .none).pw with resume := true } },
    by decide +kernel⟩,
  ⟨{ fs up [(F.BOOT_STATUS_STEP, 5), (F.CAL_CTRL_BOOT_EN, 1)] with rs := { up.rs with frames := 1 } }, by decide +kernel⟩,
  ⟨{ up with saf := { up.saf with last := some frame0 } }, frame0, by decide +kernel⟩,
  ⟨{ up with saf := { up.saf with last := some frame0 } }, frame0, by decide +kernel⟩,
  ⟨{ atStep 7 .none with saf := { up.saf with last := some frame0 }, cal := { up.cal with litFrame := some 0 } }, frame0,
    by decide +kernel⟩⟩

theorem witness_FrameEnds :
  (∃ (s : State), s.on Domain.pix = true ∧ s.rs.running = true ∧ s.rs.ended = true ∧ s.flag F.SCN_CTRL_RUN = false ∧ s.commits =
    [] ∧ s.mail.cmds = []) ∧
  (∃ (vin : Nat) (led : Nat) (s : State) (u : State), s.on Domain.pix = true ∧ s.rs.running = true ∧ s.rs.ended = true ∧ s.flag
    F.SCN_CTRL_RUN = true ∧ u = s.boundary12 vin led) ∧
  (∃ (l : Nat) (s : State), s.on Domain.pix = true ∧ s.rs.running = true ∧ s.rs.ended = false ∧ s.rs.vmin ≤ l + 1 ∧ s.rs.line ≤
    l ∧ (s.reachPos l 192).endBranch l = none) ∧
  (∃ (l : Nat) (s : State) (code : Nat), s.on Domain.pix = true ∧ s.rs.running = true ∧ s.rs.ended = false ∧ s.rs.vmin ≤ l + 1 ∧
    s.rs.line ≤ l ∧ (s.reachPos l 192).endBranch l = some code ∧ l < 65535) :=
  ⟨⟨{ fs up [(F.SCN_CTRL_RUN, 0)] with rs := { up.rs with ended := true } }, by decide +kernel⟩,
  ⟨0, 0, { fs up [(F.SCN_CTRL_RUN, 1)] with rs := { up.rs with ended := true } }, State.boundary12
    { fs up [(F.SCN_CTRL_RUN, 1)] with rs := { up.rs with ended := true } } 0 0, by decide +kernel, by decide +kernel,
    by decide +kernel, by decide +kernel, rfl⟩,
  ⟨0, waits, by decide +kernel⟩,
  ⟨0, up, 0, by decide +kernel⟩⟩

theorem witness_RasterRun :
  (∃ (s : State), s.on Domain.ctrl = true ∧ s.on Domain.pix = true) ∧
  (∃ (s : State), s.on Domain.ctrl = true ∧ s.on Domain.pix = true ∧ s.rs.timed = true ∧ s.rs.running = true) ∧
  (∃ (s : State), s.on Domain.ctrl = true ∧ s.on Domain.pix = true ∧ s.rs.timed = true ∧ s.rs.running = false ∧ s.flag
    F.SCN_CTRL_RUN = false) ∧
  (∃ (s : State), s.on Domain.ctrl = true ∧ s.on Domain.pix = true ∧ s.rs.timed = false ∧ s.flag F.SCN_CTRL_RUN = false) :=
  ⟨⟨up, by decide +kernel⟩,
  ⟨up, by decide +kernel⟩,
  ⟨{ fs up [(F.SCN_CTRL_RUN, 0)] with rs := { up.rs with running := false } }, by decide +kernel⟩,
  ⟨{ fs up [(F.SCN_CTRL_RUN, 0)] with rs := { up.rs with timed := false } }, by decide +kernel⟩⟩

theorem witness_GovernorLines :
  (∃ (s : State), s.on Domain.pix = true ∧ s.rs.running = true ∧ s.gov.result = none ∧ s.rs.line < s.lineD ∧ s.pw.firstLit =
    false) ∧
  (∃ (s : State), s.on Domain.pix = true ∧ s.rs.running = true ∧ s.gov.result = none ∧ s.rs.line < s.lineD ∧ s.pw.firstLit =
    true) ∧
  (∃ (r : GovResult) (s : State), s.on Domain.pix = true ∧ s.rs.running = true ∧ s.gov.result = some r) ∧
  (∃ (s : State), s.on Domain.pix = true ∧ s.rs.running = true ∧ s.gov.result = none ∧ s.rs.line < s.lineD) ∧
  (∃ (s : State), s.flag F.PWR_PERF_CHANGING = true) ∧
  (∃ (v : Word), bitOf v 0 = false) ∧
  (∃ (v : Word) (s : State), bitOf v 0 = true ∧ s.mode.isDark = true) ∧
  (∃ (v : Word) (s : State), bitOf v 0 = true ∧ s.mode.isDark = false) ∧
  (∃ (s : State), (s.mode = Mode.live ∨ s.mode = Mode.selfRefresh) ∧ s.lowRateOn = true ∧ s.liveFld F.SCN_LOWRATE_LR_ENTRY ≤
    s.pw.quietFrames) ∧
  (∃ (s : State), s.rowOpen 12 = true) :=
  ⟨⟨{ sized with pw := { up.pw with firstLit := false } }, by decide +kernel⟩,
  ⟨sized, by decide +kernel⟩,
  ⟨govRes, { up with gov := { up.gov with result := some govRes } }, by decide +kernel⟩,
  ⟨sized, by decide +kernel⟩,
  ⟨fs up [(F.PWR_PERF_CHANGING, 1)], by decide +kernel⟩,
  ⟨2, by decide +kernel⟩,
  ⟨1, inMode .calibrate, by decide +kernel⟩,
  ⟨1, up, by decide +kernel⟩,
  ⟨lv up [(F.SCN_LOWRATE_LR_EN, 1), (F.SCN_VRR_VRR_EN, 1), (F.SCN_LOWRATE_LR_ENTRY, 0)], by decide +kernel⟩,
  ⟨inMode .selfRefresh, by decide +kernel⟩⟩

theorem witness_ZoneValues :
  (∃ (s : State), s.lda.due = true ∧ s.on Domain.light = true) ∧
  (∃ (m : List Nat) (s : State), s.lda.model = some m ∧ s.ldaRuns = true ∧ s.rs.running = true ∧ s.lda.grid.length < s.gridRows) ∧
  (∃ (line : Nat) (c : RowClock) (s : State), s.on Domain.light = true ∧ s.rs.running = true ∧ s.bl.next = some (line, c)) :=
  ⟨⟨{ up with lda := { up.lda with due := true } }, by decide +kernel⟩,
  ⟨[], { up with lda := { up.lda with model := some [] } }, by decide +kernel⟩,
  ⟨0, clock0, { up with bl := { up.bl with clockNext := some clock0 } }, by decide +kernel⟩⟩

theorem witness_LightSamples :
  (∃ (sink : Fin 192) (w : RowWin) (z : WinZone) (s : State), s.bl.win = some w ∧ List.find? (fun z => decide (z.sink =
    sink.val)) w.zones = some z ∧ (∃ p ∈ z.pulses, s.pwDiag ≤ p.2)) ∧
  (∃ (r : Nat) (g : Nat) (b : Nat) (s : State) (t : State), s.on Domain.light = true ∧ s.rs.running = true ∧ s.rs.tick ≤ 47 ∧
    exec (Instr.pdSample r g b) s = Host.Outcome.next t ∧ (s.fixedTo ownOpt s.rs.line 10 = true ∧ s.fixedTo ownOpt s.rs.line
    11 = true)) ∧
  (∃ (r : Nat) (g : Nat) (b : Nat) (s : State) (t : State), s.on Domain.light = true ∧ s.rs.running = true ∧ s.rs.tick ≤ 47 ∧
    exec (Instr.pdSample r g b) s = Host.Outcome.next t ∧ s.fixedTo ownOpt s.rs.line 10 = false ∧ s.on Domain.pix = true) ∧
  (∃ (r : Nat) (g : Nat) (b : Nat) (s : State), s.on Domain.light = true ∧ s.rs.running = true ∧ s.rs.tick ≤ 47 ∧ s.boundaryLine
    s.rs.line = true ∧ r ≤ 65535 ∧ g ≤ 65535 ∧ b ≤ 65535) ∧
  (∃ (r : Nat) (g : Nat) (b : Nat) (s : State), s.on Domain.light = true ∧ s.rs.running = true ∧ s.rs.tick ≤ 47 ∧ s.boundaryLine
    s.rs.line = false ∧ (65000 < r ∨ 65000 < g ∨ 65000 < b)) ∧
  (∃ (r : Nat) (g : Nat) (b : Nat) (s : State), s.on Domain.light = true ∧ s.rs.running = true ∧ s.rs.tick ≤ 47 ∧ s.boundaryLine
    s.rs.line = false ∧ r ≤ 65000 ∧ g ≤ 65000 ∧ b ≤ 65000 ∧ s.liveFld F.OPT_SIG_MIN_SIGNAL ≤ r - s.fld (F.OPT_PD_OFS_VAL 0) ∧
    s.liveFld F.OPT_SIG_MIN_SIGNAL ≤ g - s.fld (F.OPT_PD_OFS_VAL 1) ∧ s.liveFld F.OPT_SIG_MIN_SIGNAL ≤ b - s.fld
    (F.OPT_PD_OFS_VAL 2)) ∧
  (∃ (r : Nat) (g : Nat) (b : Nat) (s : State), s.on Domain.light = true ∧ s.rs.running = true ∧ s.rs.tick ≤ 47 ∧ s.boundaryLine
    s.rs.line = false ∧ r ≤ 65000 ∧ g ≤ 65000 ∧ b ≤ 65000 ∧ (r - s.fld (F.OPT_PD_OFS_VAL 0) < s.liveFld F.OPT_SIG_MIN_SIGNAL ∨
    g - s.fld (F.OPT_PD_OFS_VAL 1) < s.liveFld F.OPT_SIG_MIN_SIGNAL ∨ b - s.fld (F.OPT_PD_OFS_VAL 2) < s.liveFld
    F.OPT_SIG_MIN_SIGNAL)) :=
  ⟨⟨0, win0, ⟨0, 10, 4096, false, false, 0, [(0, 4096)]⟩, { up with bl := { up.bl with win := some win0 } }, by decide +kernel⟩,
  ⟨1, 2, 3, sampling, nextOf (exec (.pdSample 1 2 3) sampling), by decide +kernel, by decide +kernel, by decide +kernel, rfl,
    by decide +kernel⟩,
  ⟨1, 2, 3, up, nextOf (exec (.pdSample 1 2 3) up), by decide +kernel, by decide +kernel, by decide +kernel, rfl,
    by decide +kernel, by decide +kernel⟩,
  ⟨65535, 65535, 65535, { sampling with bl := { up.bl with clockNext := some clock0 } }, by decide +kernel⟩,
  ⟨65001, 0, 0, sampling, by decide +kernel⟩,
  ⟨65000, 65000, 65000, sampling, by decide +kernel⟩,
  ⟨65000, 0, 0, sampling, by decide +kernel⟩⟩

theorem witness_BacklightRuns :
  (∃ (s : State), s.acts Domain.light = true ∧ s.flag F.BLD_CTRL_RUN = false ∧ s.bl.latch = none ∧ s.opt.started = true) ∧
  (∃ (s : State), s.acts Domain.light = true ∧ s.flag F.BLD_CTRL_RUN = false ∧ s.bl.latch = none ∧ s.opt.started = false) ∧
  (∃ (s : State), s.acts Domain.light = true ∧ s.bl.ramp = Ramp.rising) ∧
  (∃ (s : State), s.acts Domain.light = true ∧ s.flag F.BLD_CTRL_RUN = true ∧ s.bl.ramp = Ramp.target) ∧
  (∃ (s : State) (at0 : Time), s.acts Domain.light = true ∧ s.bl.ramp = Ramp.down at0) ∧
  (∃ (s : State) (code : Fin 8), s.on Domain.light = true ∧ 1 ≤ code.val ∧ code.val ≤ 5 ∧ s.bl.latch = none) ∧
  (∃ (s : State), s.on Domain.light = true ∧ s.bl.latch ≠ none) ∧
  (∃ (s : State), s.on Domain.light = true ∧ s.bl.latch.isSome = true ∧ s.flag F.BLD_CTRL_RUN = false) ∧
  (∃ (s : State), s.on Domain.light = true ∧ s.bl.latch.isSome = true ∧ s.flag F.BLD_CTRL_RUN = true) ∧
  (∃ (s : State), s.on Domain.light = true ∧ s.on Domain.ctrl = true ∧ s.acts Domain.light = true ∧ s.bl.latch = none ∧
    s.allDark = true ∧ s.bl.nbr = false ∧ s.flag F.BLD_CTRL_RUN = false ∧ s.bl.ramp = Ramp.off ∧ s.reg R.BLD_CTRL = 0) ∧
  (∃ (s : State), s.on Domain.light = true ∧ s.bl.nbr = true ∧ s.mail.cmds = []) ∧
  (∃ (s : State), s.on Domain.light = true ∧ s.bl.nbr = true) :=
  ⟨⟨{ fs up [(F.BLD_CTRL_RUN, 0)] with opt := { up.opt with started := true } }, by decide +kernel⟩,
  ⟨{ fs up [(F.BLD_CTRL_RUN, 0)] with opt := { up.opt with started := false } }, by decide +kernel⟩,
  ⟨{ up with bl := { up.bl with ramp := .rising } }, by decide +kernel⟩,
  ⟨{ fs up [(F.BLD_CTRL_RUN, 1)] with bl := { up.bl with ramp := .target } }, by decide +kernel⟩,
  ⟨{ up with bl := { up.bl with ramp := .down 0 } }, 0, by decide +kernel⟩,
  ⟨up, 5, by decide +kernel⟩,
  ⟨{ up with bl := { up.bl with latch := some 1 } }, by decide +kernel⟩,
  ⟨{ up with bl := { up.bl with latch := some 1 } }, by decide +kernel⟩,
  ⟨{ fs up [(F.BLD_CTRL_RUN, 1)] with bl := { up.bl with latch := some 1 } }, by decide +kernel⟩,
  ⟨up, by decide +kernel⟩,
  ⟨{ up with bl := { up.bl with nbr := true } }, by decide +kernel⟩,
  ⟨{ up with bl := { up.bl with nbr := true } }, by decide +kernel⟩⟩

theorem witness_ExpansionChain :
  (∃ (s : State) (bits : Nat), s.on Domain.light = true ∧ s.flag F.BLD_CTRL_X_EN = true ∧ s.bl.xcount = true ∧ bits < 64 * 33) ∧
  (∃ (s : State) (bits : Nat), s.on Domain.light = true ∧ s.flag F.BLD_CTRL_X_EN = true ∧ s.bl.xcount = true ∧ 64 * 33 ≤ bits) ∧
  (∃ (s : State) (k : XKind) (rest : List XKind) (ret : List (BitVec 64)), s.on Domain.light = true ∧ s.flag F.BLD_CTRL_X_EN =
    true ∧ s.bl.xqueue = k :: rest ∧ s.flag F.BLD_XSTAT_CHAIN_OK = true ∧ k ≠ XKind.sync ∧ (if s.bl.xstatus = true then
    ret.length = s.fld F.BLD_XSTAT_CHIPS ∧ ∀ w ∈ ret, xStatusOk w.toNat = true else List.map (fun x => x.toNat) ret =
    s.bl.xlast)) ∧
  (∃ (s : State) (k : XKind) (rest : List XKind) (ret : List (BitVec 64)), s.on Domain.light = true ∧ s.flag F.BLD_CTRL_X_EN =
    true ∧ s.bl.xqueue = k :: rest ∧ s.flag F.BLD_XSTAT_CHAIN_OK = true ∧ (¬if s.bl.xstatus = true then ret.length = s.fld
    F.BLD_XSTAT_CHIPS ∧ ∀ w ∈ ret, xStatusOk w.toNat = true else List.map (fun x => x.toNat) ret = s.bl.xlast)) :=
  ⟨⟨{ fs up [(F.BLD_CTRL_X_EN, 1)] with bl := { up.bl with xcount := true } }, 64 * 33 - 1, by decide +kernel⟩,
  ⟨{ fs up [(F.BLD_CTRL_X_EN, 1)] with bl := { up.bl with xcount := true } }, 64 * 33, by decide +kernel⟩,
  ⟨{ fs up [(F.BLD_CTRL_X_EN, 1), (F.BLD_XSTAT_CHAIN_OK, 1)] with bl := { up.bl with xqueue := [.nop], xlast := [7] } }, .nop,
    [], [7#64], by decide +kernel⟩,
  ⟨{ fs up [(F.BLD_CTRL_X_EN, 1), (F.BLD_XSTAT_CHAIN_OK, 1)] with bl := { up.bl with xqueue := [.nop], xlast := [7] } }, .nop,
    [], [8#64], by decide +kernel⟩⟩

theorem witness_BackChannel :
  (∃ (s : State), s.on Domain.panel = true ∧ s.flag F.COL_CTRL_RUN = true ∧ s.rs.running = true) ∧
  (∃ (s : State) (lane : Fin 24) (b : List Byte), s.on Domain.panel = true ∧ s.col.synced = true ∧ s.col.lanes.length = 24 ∧
    (s.cl lane.val).replied = false ∧ bitOf (s.live R.COL_LANES) lane.val = true ∧ replyOk (lane.val) (s.cl
    lane.val).regionsPrev.length b = true ∧ (s.cl lane.val).regionsPrev.length < 16) ∧
  (∃ (s : State) (lane : Fin 24), s.on Domain.panel = true ∧ s.col.synced = true ∧ s.col.lanes.length = 24 ∧ (s.cl
    lane.val).replied = false ∧ bitOf (s.live R.COL_LANES) lane.val = true ∧ (s.cl lane.val).expected = true) ∧
  (∃ (s : State), s.on Domain.panel = true ∧ s.flag F.COL_CTRL_RUN = true ∧ s.rs.running = true ∧ s.col.lanes.length = 24) ∧
  (∃ (s : State) (locked : Word), s.on Domain.panel = true ∧ s.flag F.COL_CTRL_RUN = true ∧ s.col.bringing = true ∧ (∀ (l :
    Nat), bitOf (s.live R.COL_LANES) l = true → bitOf locked l = true)) ∧
  (∃ (s : State) (locked : Word) (l : Nat), s.on Domain.panel = true ∧ s.flag F.COL_CTRL_RUN = true ∧ s.col.bringing = true ∧ l
    < 24 ∧ bitOf (s.live R.COL_LANES) l = true ∧ bitOf locked l = false ∧ bitOf (s.reg R.COL_INSERVICE) l = false ∧
    s.col.rolls + 1 < 10) ∧
  (∃ (s : State), s.on Domain.panel = true ∧ s.flag F.COL_CTRL_RUN = true ∧ s.col.bringing = false ∧ s.col.rateRoll = true) :=
  ⟨⟨fs up [(F.COL_CTRL_RUN, 1)], by decide +kernel⟩,
  ⟨{ lv up [(⟨R.COL_LANES, 0, 24⟩, 1)] with col := { up.col with synced := true } }, 0, [0#8, 0#8, 0#8, BitVec.ofNat 8 (crc8
    [0#8, 0#8, 0#8])], by decide +kernel⟩,
  ⟨{ lv (fs up [(⟨R.COL_LANES, 0, 24⟩, 1)]) [(⟨R.COL_LANES, 0, 24⟩, 1)] with col := { up.col with synced := true, lanes := { ColLane.reset with carried := true, carriedPrev := true } :: List.replicate 23 ColLane.reset } },
    0, by decide +kernel⟩,
  ⟨colUp, by decide +kernel⟩,
  ⟨bringing, bringing.live R.COL_LANES, by decide +kernel, by decide +kernel, by decide +kernel, fun _ h => h⟩,
  ⟨{ lv colUp [(⟨R.COL_LANES, 0, 24⟩, 1)] with col := { up.col with bringing := true } }, 0, 0, by decide +kernel⟩,
  ⟨{ colUp with col := { up.col with rateRoll := true } }, by decide +kernel⟩⟩

theorem witness_PanelLines :
  (∃ (plane : Fin 3) (y : Nat) (s : State) (px : List Px), s.scanning = true ∧ y < s.vActive ∧ s.planeLine plane.val y = true ∧
    s.vid.flips = [] ∧ (∀ l : Nat × List Px, (s.pipe.lines.getD plane.val []).getLast? = some l → l.1 < y) ∧
    s.vid.weirFill.getD plane.val 0 + s.planeWidth plane.val ≤ s.weirCap plane.val ∧ s.rs.line ≤ s.vStart + y ∧
    s.pipe.lines.length = 3 ∧ s.pipe.last.length = 3 ∧ s.vid.weirFill.length = 3 ∧ (s.bypassed plane.val = false ∧ s.keptOf
    plane.val = none ∧ px = (List.range (s.planeWidth plane.val)).map fun x => ((s.fetchAt plane.val x y).map fun f =>
    s.rawPixel f.1 f.2.1).getD Px.black)) ∧
  (∃ (plane : Fin 3) (y : Nat) (s : State), s.scanning = true ∧ y < s.vActive ∧ s.planeLine plane.val y = true ∧ s.vid.flips =
    [] ∧ (∀ l : Nat × List Px, (s.pipe.lines.getD plane.val []).getLast? = some l → l.1 < y) ∧ s.vid.weirFill.getD plane.val 0
    + s.planeWidth plane.val ≤ s.weirCap plane.val ∧ s.rs.line ≤ s.vStart + y ∧ s.pipe.lines.length = 3 ∧ s.pipe.last.length =
    3 ∧ s.vid.weirFill.length = 3 ∧ s.bypassed plane.val = true ∧ s.bypassLine y = none) ∧
  (∃ (y : Nat) (s : State), s.on Domain.panel = true ∧ s.flag F.COL_CTRL_RUN = true ∧ s.flag F.BIAS_STATUS_UP_DONE = true ∧
    s.scanning = true ∧ s.col.fits = true ∧ s.col.lanes.length = 24 ∧ y < s.vActive ∧ s.colDual = false ∧ (s.col.load = if y =
    0 then none else some (y - 1, 0))) ∧
  (∃ (y : Nat) (s : State) (px : List Px), s.on Domain.panel = true ∧ s.flag F.COL_CTRL_RUN = true ∧ s.flag
    F.BIAS_STATUS_UP_DONE = true ∧ s.scanning = true ∧ s.col.fits = true ∧ s.col.lanes.length = 24 ∧ y < s.vActive ∧ s.colDual
    = true ∧ s.col.load = some (y, 0) ∧ s.col.codes = some (y, px)) ∧
  (∃ (y : Nat) (s : State), s.on Domain.panel = true ∧ s.flag F.COL_CTRL_RUN = true ∧ s.flag F.BIAS_STATUS_UP_DONE = true ∧
    s.scanning = true ∧ s.col.fits = true ∧ s.col.lanes.length = 24 ∧ y = s.vActive ∧ 0 < y ∧ s.colDual = false ∧ s.col.load =
    some (y - 1, 0)) :=
  ⟨⟨0, 0, panelUp, List.replicate 16 Px.black, by decide +kernel, by decide +kernel, by decide +kernel, by decide +kernel, by
    intro l h; exact (nomatch (show (none : Option (Nat × List Px)) = some l from h)), by decide +kernel, by decide +kernel,
    by decide +kernel, by decide +kernel, by decide +kernel, by decide +kernel⟩,
  ⟨0, 0,
    { panelUp with vid := { up.vid with planes := listSet up.vid.planes 0 { Plane.reset with stream := some 0, bypass := true } } },
    by decide +kernel, by decide +kernel, by decide +kernel, by decide +kernel, by intro l h; exact (nomatch (show (none :
    Option (Nat × List Px)) = some l from h)), by decide +kernel, by decide +kernel, by decide +kernel, by decide +kernel,
    by decide +kernel, by decide +kernel, by decide +kernel⟩,
  ⟨0, { fs panelUp [(F.BIAS_STATUS_UP_DONE, 1)] with col := { up.col with fits := true } }, by decide +kernel⟩,
  ⟨0, { fs panelDual [(F.BIAS_STATUS_UP_DONE, 1)] with col := { panelDual.col with fits := true } }, [], by decide +kernel⟩,
  ⟨32, { fs panelUp [(F.BIAS_STATUS_UP_DONE, 1)] with col := { up.col with fits := true, load := some (31, 0) } },
    by decide +kernel⟩⟩

theorem witness_CorrectionLines :
  (∃ (band : Nat) (d : DmrSet) (segs : List (List Px)) (s : State), s.pipe.dmr = some d ∧ s.scanning = true ∧ s.dmrMisfit =
    false ∧ band < d.bands ∧ band ≠ 0 ∧ (s.pipe.bands.any fun b => decide (b.band = band)) = false ∧ s.vid.flips = [] ∧
    dmrSegments d band (3 * d.strips) 0 (s.fstRead (d.base + d.dir.getD band 0) (d.dir.getD (band + 1) 0 - d.dir.getD band 0))
    [] = Sum.inr segs) ∧
  (∃ (y : Nat) (s : State), s.scanning = true ∧ y < s.vActive ∧ s.fld F.ODV_STATE_BYPASS = 0 ∧ s.vid.flips = [] ∧
    (s.pipe.hist.any fun h => decide (h.y = y)) = false ∧ (∀ h ∈ s.vid.histHeld, h.1 ≠ y)) ∧
  (∃ (y : Nat) (line : List Px) (s : State), List.find? (fun t => decide (t.1 = y)) s.pipe.targets = some (y, line) ∧ s.scanning
    = true ∧ s.flag F.SLU_STATUS_HIST_ON = true ∧ (s.vid.histHeld.any fun h => decide (h.1 = y)) = false ∧ s.fld
    F.ODV_STATE_BYPASS = 0 ∧ s.vid.histFetched.contains y = false) ∧
  (∃ (y : Nat) (c1 : List Byte) (line : List Px) (s : State), List.find? (fun t => decide (t.1 = y)) s.pipe.targets = some (y,
    line) ∧ s.scanning = true ∧ s.flag F.SLU_STATUS_HIST_ON = true ∧ (s.vid.histHeld.any fun h => decide (h.1 = y)) = false ∧
    s.vid.histFetched.contains y = true ∧ s.vid.flips = [] ∧ histFits (List.map (fun p => Px.map narrowHist p) line) 1 c1 =
    true) :=
  ⟨⟨1, dmr0, [], { lv scans [(F.SCN_HTIME_H_ACTIVE, 0)] with pipe := { up.pipe with dmr := some dmr0 } }, by decide +kernel⟩,
  ⟨0, fs scans [(F.ODV_STATE_BYPASS, 0)], by decide +kernel⟩,
  ⟨0, [], { fs scans [(F.SLU_STATUS_HIST_ON, 1), (F.ODV_STATE_BYPASS, 0)] with pipe := { up.pipe with targets := [(0, [])] } },
    by decide +kernel⟩,
  ⟨0, [], [],
    { fs scans [(F.SLU_STATUS_HIST_ON, 1), (F.ODV_STATE_BYPASS, 0)] with pipe := { up.pipe with targets := [(0, [])] }, vid := { up.vid with histFetched := [0] } },
    by decide +kernel⟩⟩

theorem witness_ElasticSlots :
  (∃ (i : SlotInfo) (s : State) (u : State), s.ringRuns = true ∧ s.on Domain.ctrl = true ∧ i.slot ≤ 63 ∧ s.rng.holder = none ∧
    i.ups = [] ∧ s.rng.slot ≠ some (i.line, i.slot) ∧ s.vid.scrubFly = none ∧ u = s.reachPos i.line (4 * i.slot) ∧ u.slotClass
    u.slotWork i.line i.slot = none) ∧
  (∃ (i : SlotInfo) (s : State) (u : State) (r : CalRun), s.ringRuns = true ∧ s.on Domain.ctrl = true ∧ i.slot ≤ 63 ∧
    s.rng.holder = none ∧ i.ups = [] ∧ s.rng.slot ≠ some (i.line, i.slot) ∧ s.vid.scrubFly = none ∧ u = s.reachPos i.line (4 *
    i.slot) ∧ u.slotClass u.slotWork i.line i.slot = some 1 ∧ s.cal.run = some r ∧ i.cut = false) ∧
  (∃ (i : SlotInfo) (s : State) (u : State) (c : Nat), s.ringRuns = true ∧ s.on Domain.ctrl = true ∧ i.slot ≤ 63 ∧ s.rng.holder
    = none ∧ i.ups = [] ∧ s.rng.slot ≠ some (i.line, i.slot) ∧ s.vid.scrubFly = none ∧ u = s.reachPos i.line (4 * i.slot) ∧
    u.slotClass u.slotWork i.line i.slot = some c ∧ i.cut = false) ∧
  (∃ (i : SlotInfo) (s : State) (u : State) (c : Nat), s.ringRuns = true ∧ s.on Domain.ctrl = true ∧ i.slot ≤ 63 ∧ s.rng.holder
    = none ∧ i.ups = [] ∧ s.rng.slot ≠ some (i.line, i.slot) ∧ s.vid.scrubFly = none ∧ u = s.reachPos i.line (4 * i.slot) ∧
    u.slotClass u.slotWork i.line i.slot = some c ∧ (c = 0 ∨ c = 2) ∧ i.cut = true) ∧
  (∃ (s : State), s.rng.holder.isSome = true ∧ s.keepsSlot = false) ∧
  (∃ (s : State), s.rng.holder.isSome = true ∧ s.keepsSlot = true) :=
  ⟨⟨slot63, up, up.reachPos 0 252, by decide +kernel, by decide +kernel, by decide +kernel, by decide +kernel, by decide +kernel,
    by decide +kernel, by decide +kernel, rfl, by decide +kernel⟩,
  ⟨slot63, calSlot, calSlot.reachPos 0 252, ⟨calTrig, [.lane 8], 5, 0, 0, none, false⟩, by decide +kernel, by decide +kernel,
    by decide +kernel, by decide +kernel, by decide +kernel, by decide +kernel, by decide +kernel, rfl, by decide +kernel,
    by decide +kernel, by decide +kernel⟩,
  ⟨slot63, calSlot, calSlot.reachPos 0 252, 1, by decide +kernel, by decide +kernel, by decide +kernel, by decide +kernel,
    by decide +kernel, by decide +kernel, by decide +kernel, rfl, by decide +kernel, by decide +kernel⟩,
  ⟨{ slot63 with cut := true }, logSlot, logSlot.reachPos 0 252, 0, by decide +kernel, by decide +kernel, by decide +kernel,
    by decide +kernel, by decide +kernel, by decide +kernel, by decide +kernel, rfl, by decide +kernel, by decide +kernel,
    by decide +kernel⟩,
  ⟨{ up with rng := { up.rng with holder := some 0 } }, by decide +kernel⟩,
  ⟨{ logSlot with rng := { logSlot.rng with holder := some 0, slot := some (0, 62) } }, by decide +kernel⟩⟩

theorem witness_GateProgram :
  (∃ (s : State) (w : Word) (pc : Nat), pc = s.fld F.GSQ_PC_PC ∧ s.gate.inTick < 8 ∧ pc + 1 < s.gProgram.length ∧ s.gFetch 0 =
    some w) ∧
  (∃ (s : State) (w : Word) (pc : Nat), pc = s.fld F.GSQ_PC_PC ∧ s.gate.inTick < 8 ∧ pc + 1 < s.gProgram.length ∧ s.gFetch 1 =
    some w ∧ s.gInFrame (max s.gate.line (bitsOf w 0 16)) = false) ∧
  (∃ (s : State) (w : Word) (pc : Nat), pc = s.fld F.GSQ_PC_PC ∧ s.gate.inTick < 8 ∧ pc + 1 < s.gProgram.length ∧ s.gFetch 1 =
    some w ∧ s.gInFrame (bitsOf w 0 16) = true ∧ s.gate.line < bitsOf w 0 16) ∧
  (∃ (s : State) (w : Word) (pc : Nat), pc = s.fld F.GSQ_PC_PC ∧ s.gate.inTick < 8 ∧ pc + 1 < s.gProgram.length ∧ s.gFetch 1 =
    some w ∧ s.gInFrame s.gate.line = true ∧ (bitsOf w 0 16 < s.gate.line ∨ bitsOf w 0 16 = s.gate.line ∧ s.gate.tick ≠ 0)) ∧
  (∃ (s : State) (w : Word) (pc : Nat) (p : Nat × Nat), pc = s.fld F.GSQ_PC_PC ∧ s.gate.inTick < 8 ∧ pc + 1 < s.gProgram.length
    ∧ s.gFetch 2 = some w ∧ p = nextTick s.gate.line s.gate.tick (bitsOf w 0 8) ∧ s.gInFrame p.1 = true) ∧
  (∃ (s : State) (w : Word) (pc : Nat) (p : Nat × Nat), pc = s.fld F.GSQ_PC_PC ∧ s.gate.inTick < 8 ∧ pc + 1 < s.gProgram.length
    ∧ s.gFetch 2 = some w ∧ p = nextTick s.gate.line s.gate.tick (bitsOf w 0 8) ∧ s.gInFrame p.1 = false) ∧
  (∃ (s : State) (w : Word) (pc : Nat) (p : Nat × Nat) (n : Nat), pc = s.fld F.GSQ_PC_PC ∧ s.gate.inTick < 8 ∧ pc + 1 <
    s.gProgram.length ∧ s.gInFrame p.1 = true ∧ (if bitsOf w 17 1 = 1 then p = (s.gate.line, s.gate.tick) ∧ n = s.gate.inTick
    + 1 else p = nextTick s.gate.line s.gate.tick (bitsOf w 18 8) ∧ n = 1) ∧ s.gFetch 3 = some w) ∧
  (∃ (s : State) (w : Word) (pc : Nat) (p : Nat × Nat) (n : Nat) (ph : Nat) (np : Nat), pc = s.fld F.GSQ_PC_PC ∧ s.gate.inTick <
    8 ∧ pc + 1 < s.gProgram.length ∧ s.gInFrame p.1 = true ∧ (if bitsOf w 17 1 = 1 then p = (s.gate.line, s.gate.tick) ∧ n =
    s.gate.inTick + 1 else p = nextTick s.gate.line s.gate.tick (bitsOf w 18 8) ∧ n = 1) ∧ s.gFetch 4 = some w ∧ ph = s.fld
    F.GSQ_PC_PH ∧ np = nPhase (s.liveFld F.GSQ_CTRL_NPHASE)) ∧
  (∃ (s : State) (w : Word) (pc : Nat), pc = s.fld F.GSQ_PC_PC ∧ s.gate.inTick < 8 ∧ pc + 1 < s.gProgram.length ∧ s.gFetch 5 =
    some w) ∧
  (∃ (s : State) (w : Word) (pc : Nat) (body : Nat) (n : Nat) (rest : List (Nat × Nat)), pc = s.fld F.GSQ_PC_PC ∧ s.gate.inTick
    < 8 ∧ pc + 1 < s.gProgram.length ∧ s.gFetch 6 = some w ∧ s.gate.loops = (body, n) :: rest ∧ body < s.gProgram.length) ∧
  (∃ (s : State) (w : Word) (pc : Nat), pc = s.fld F.GSQ_PC_PC ∧ s.gate.inTick < 8 ∧ pc + 1 < s.gProgram.length ∧ s.gFetch 7 =
    some w) ∧
  (∃ (s : State) (w : Word) (pc : Nat), pc = s.fld F.GSQ_PC_PC ∧ s.gate.inTick < 8 ∧ pc + 1 < s.gProgram.length ∧ s.gFetch 8 =
    some w) ∧
  (∃ (s : State) (w : Word), s.gFetch 8 = some w ∧ 8 ≤ s.gate.inTick ∧ s.fld F.GSQ_PC_PC + 1 < s.gProgram.length) ∧
  (∃ (ns : Nat) (s : State), s.on Domain.panel = true ∧ s.flag F.GSQ_PC_SENSE_OPEN = true ∧ 200 ≤ ns) ∧
  (∃ (ns : Nat) (s : State), s.on Domain.panel = true ∧ s.flag F.GSQ_PC_SENSE_OPEN = true ∧ ns < 200) :=
  ⟨⟨gsq 0x0, BitVec.ofNat 32 0x0, 0, by decide +kernel⟩,
  ⟨gsq 0x1000FFFF, BitVec.ofNat 32 0x1000FFFF, 0, by decide +kernel⟩,
  ⟨gsq 0x10000005, BitVec.ofNat 32 0x10000005, 0, by decide +kernel⟩,
  ⟨{ gsq 0x10000005 with gate := { (gsq 0x10000005).gate with line := 6 } }, BitVec.ofNat 32 0x10000005, 0, by decide +kernel⟩,
  ⟨gsq 0x20000000, BitVec.ofNat 32 0x20000000, 0, nextTick 0 0 0, by decide +kernel⟩,
  ⟨{ gsq 0x20000000 with gate := { (gsq 0x20000000).gate with line := 50 } }, BitVec.ofNat 32 0x20000000, 0, nextTick 50 0 0,
    by decide +kernel⟩,
  ⟨gsq 0x30000001, BitVec.ofNat 32 0x30000001, 0, nextTick 0 0 0, 1, by decide +kernel⟩,
  ⟨gsq 0x40000003, BitVec.ofNat 32 0x40000003, 0, nextTick 0 0 0, 1, 0, nPhase (up.liveFld F.GSQ_CTRL_NPHASE),
    by decide +kernel⟩,
  ⟨gsq 0x50000000, BitVec.ofNat 32 0x50000000, 0, by decide +kernel⟩,
  ⟨{ gsq 0x60000000 with gate := { (gsq 0x60000000).gate with loops := [(0, 2)] } }, BitVec.ofNat 32 0x60000000, 0, 0, 2, [],
    by decide +kernel⟩,
  ⟨gsq 0x70000000, BitVec.ofNat 32 0x70000000, 0, by decide +kernel⟩,
  ⟨gsq 0x80000003, BitVec.ofNat 32 0x80000003, 0, by decide +kernel⟩,
  ⟨{ gsq 0x80000003 with gate := { (gsq 0x80000003).gate with inTick := 8 } }, BitVec.ofNat 32 0x80000003, by decide +kernel⟩,
  ⟨200, fs up [(F.GSQ_PC_SENSE_OPEN, 1)], by decide +kernel⟩,
  ⟨199, fs up [(F.GSQ_PC_SENSE_OPEN, 1)], by decide +kernel⟩⟩

theorem witness_BiasSequences :
  (∃ (s : State), s.acts Domain.panel = true ∧ s.fld F.BIAS_STATUS_SEQ_STEP = 0 ∧ s.flag F.BIAS_STATUS_UP_DONE = false) ∧
  (∃ (s : State), s.acts Domain.panel = true ∧ s.fld F.BIAS_STATUS_SEQ_STEP = 0) ∧
  (∃ (s : State) (n : Nat), s.acts Domain.panel = true ∧ n = s.fld F.BIAS_STATUS_SEQ_STEP ∧ n ≠ 0 ∧ s.bias.next = none ∧
    s.mail.cmds = []) ∧
  (∃ (s : State) (rail : Fin 8), s.acts Domain.panel = true ∧ rail ≠ 0 ∧ s.flag F.BIAS_STATUS_UP_DONE = true ∧ s.fld
    F.BIAS_STATUS_SEQ_STEP = 0) ∧
  (∃ (s : State) (rail : Fin 8), s.acts Domain.panel = true ∧ rail ≠ 0 ∧ s.fld F.BIAS_STATUS_SEQ_STEP ≠ 0 ∧ s.flag
    F.BIAS_STATUS_DIR = false) ∧
  (∃ (s : State) (conn : Fin 2), s.acts Domain.panel = true ∧ ((if conn = 0 then s.bias.vddPl else s.bias.vddPlB) = true) ∧
    s.fld F.BIAS_STATUS_SEQ_STEP = 0) :=
  ⟨⟨up, by decide +kernel⟩,
  ⟨up, by decide +kernel⟩,
  ⟨fs up [(F.BIAS_STATUS_SEQ_STEP, 2)], 2, by decide +kernel⟩,
  ⟨fs up [(F.BIAS_STATUS_UP_DONE, 1)], 1, by decide +kernel⟩,
  ⟨fs up [(F.BIAS_STATUS_SEQ_STEP, 2)], 7, by decide +kernel⟩,
  ⟨{ up with bias := { up.bias with vddPl := true } }, 0, by decide +kernel⟩⟩

theorem witness_PacketReception :
  (∃ (p : Fin 2) (k : Packet) (s : State) (c : Nat × Instr), s.acts Domain.link = true ∧ s.pIsUp p.val = true ∧ c ∈ [(tVideoSeg,
    Instr.videoSeg p k), (tFrameReady, Instr.frameReady p k), (tStreamCfg, Instr.streamCfg p k), (tCtrlReq, Instr.ctrlReq p
    k), (tCtrlRsp, Instr.ctrlRsp p k), (tEvent, Instr.event p k)] ∧ k.typ.toNat = c.1 ∧ k.eab = true ∧ k.headOk = false) ∧
  (∃ (p : Fin 2) (k : Packet) (s : State) (c : Nat × Instr), s.acts Domain.link = true ∧ s.pIsUp p.val = true ∧ c ∈ [(tVideoSeg,
    Instr.videoSeg p k), (tFrameReady, Instr.frameReady p k), (tStreamCfg, Instr.streamCfg p k), (tCtrlReq, Instr.ctrlReq p
    k), (tCtrlRsp, Instr.ctrlRsp p k), (tEvent, Instr.event p k)] ∧ k.typ.toNat = c.1 ∧ k.eab = true ∧ k.headOk = true) ∧
  (∃ (p : Fin 2) (k : Packet) (s : State) (c : Nat × Instr), s.acts Domain.link = true ∧ s.pIsUp p.val = true ∧ c ∈ [(tVideoSeg,
    Instr.videoSeg p k), (tFrameReady, Instr.frameReady p k), (tStreamCfg, Instr.streamCfg p k), (tCtrlReq, Instr.ctrlReq p
    k), (tCtrlRsp, Instr.ctrlRsp p k), (tEvent, Instr.event p k)] ∧ k.typ.toNat = c.1 ∧ k.eab = false ∧ k.headOk = false) ∧
  (∃ (p : Fin 2) (k : Packet) (s : State) (c : Nat × Instr), s.acts Domain.link = true ∧ s.pIsUp p.val = true ∧ c ∈ [(tVideoSeg,
    Instr.videoSeg p k), (tFrameReady, Instr.frameReady p k), (tStreamCfg, Instr.streamCfg p k), (tCtrlReq, Instr.ctrlReq p
    k), (tCtrlRsp, Instr.ctrlRsp p k), (tEvent, Instr.event p k)] ∧ k.typ.toNat = c.1 ∧ k.eab = false ∧ k.headOk = true ∧
    k.bodyOk = false) ∧
  (∃ (p : Fin 2) (k : Packet) (s : State) (c : Nat × Instr), s.acts Domain.link = true ∧ s.pIsUp p.val = true ∧ c ∈ [(tVideoSeg,
    Instr.videoSeg p k), (tFrameReady, Instr.frameReady p k), (tStreamCfg, Instr.streamCfg p k), (tCtrlReq, Instr.ctrlReq p
    k), (tCtrlRsp, Instr.ctrlRsp p k), (tEvent, Instr.event p k)] ∧ k.typ.toNat = c.1 ∧ k.eab = false ∧ k.headOk = true ∧
    k.bodyOk = true ∧ k.seq.toNat % 4096 ≠ s.fld (F.PORT_SEQ_EXP p.val) ∧ isDuplicate (s.fld (F.PORT_SEQ_EXP p.val))
    (k.seq.toNat % 4096) = true) ∧
  (∃ (p : Fin 2) (k : Packet) (s : State) (c : Nat × Instr), s.acts Domain.link = true ∧ s.pIsUp p.val = true ∧ c ∈ [(tVideoSeg,
    Instr.videoSeg p k), (tFrameReady, Instr.frameReady p k), (tStreamCfg, Instr.streamCfg p k), (tCtrlReq, Instr.ctrlReq p
    k), (tCtrlRsp, Instr.ctrlRsp p k), (tEvent, Instr.event p k)] ∧ k.typ.toNat = c.1 ∧ k.eab = false ∧ k.headOk = true ∧
    k.bodyOk = true ∧ k.seq.toNat % 4096 = s.fld (F.PORT_SEQ_EXP p.val) ∧ k.formOk p.val = true ∧ s.mail.cmds = [] ∧ p = 1) ∧
  (∃ (p : Fin 2) (k : Packet) (s : State) (c : Nat × Instr), s.acts Domain.link = true ∧ s.pIsUp p.val = true ∧ c ∈ [(tVideoSeg,
    Instr.videoSeg p k), (tFrameReady, Instr.frameReady p k), (tStreamCfg, Instr.streamCfg p k), (tCtrlReq, Instr.ctrlReq p
    k), (tCtrlRsp, Instr.ctrlRsp p k), (tEvent, Instr.event p k)] ∧ k.typ.toNat = c.1 ∧ k.eab = false ∧ k.headOk = true ∧
    k.bodyOk = true ∧ k.seq.toNat % 4096 = s.fld (F.PORT_SEQ_EXP p.val) ∧ k.formOk p.val = true ∧ s.mail.cmds = [] ∧ p = 0 ∧
    k.addr.toNat % 128 ≠ 127 ∧ (k.addr.toNat % 128 ≠ s.address ∨ s.enumerated = false)) ∧
  (∃ (p : Fin 2) (k : Packet) (s : State) (c : Nat × Instr) (st : Nat) (x : Machine.Stream), s.acts Domain.link = true ∧ s.pIsUp
    p.val = true ∧ c ∈ [(tVideoSeg, Instr.videoSeg p k), (tFrameReady, Instr.frameReady p k), (tStreamCfg, Instr.streamCfg p
    k), (tCtrlReq, Instr.ctrlReq p k), (tCtrlRsp, Instr.ctrlRsp p k), (tEvent, Instr.event p k)] ∧ k.typ.toNat = c.1 ∧ k.eab =
    false ∧ k.headOk = true ∧ k.bodyOk = true ∧ k.seq.toNat % 4096 = s.fld (F.PORT_SEQ_EXP p.val) ∧ k.formOk p.val = true ∧
    s.mail.cmds = [] ∧ p = 0 ∧ k.addr.toNat % 128 = s.address ∧ s.enumerated = true ∧ s.address ≠ 127 ∧ k.fieldsOk = true ∧
    s.vid.waiting = [] ∧ s.vid.streams.length = 16 ∧ st = k.spec.toNat % 16 ∧ x = s.stream st ∧ s.thirdFrame st = false) ∧
  (∃ (p : Fin 2) (k : Packet) (s : State) (next : Nat) (id : List Byte), s.acts Domain.link = true ∧ s.pIsUp p.val = true ∧
    k.typ.toNat = tEnum ∧ k.eab = false ∧ k.headOk = true ∧ k.bodyOk = true ∧ k.seq.toNat % 4096 = s.fld (F.PORT_SEQ_EXP
    p.val) ∧ k.formOk p.val = true ∧ s.mail.cmds = [] ∧ p = 0 ∧ k.spec.toNat = opAssign ∧ k.fieldsOk = true ∧ (k.addr.toNat %
    128 = 127 ∨ k.addr.toNat % 128 = s.address ∧ s.enumerated = true) ∧ next = byteAt k.payload 0 ∧ id = List.take 4
    (List.drop 4 k.payload)) ∧
  (∃ (p : Fin 2) (k : Packet) (s : State) (c : Nat × Instr), s.acts Domain.link = true ∧ s.pIsUp p.val = true ∧ k.typ.toNat =
    tEnum ∧ k.eab = false ∧ k.headOk = true ∧ k.bodyOk = true ∧ k.seq.toNat % 4096 = s.fld (F.PORT_SEQ_EXP p.val) ∧ k.formOk
    p.val = true ∧ s.mail.cmds = [] ∧ c ∈ [(opReply, Instr.enumReply p k), (opEnd, Instr.enumEnd p k)] ∧ p = 1 ∧ k.spec.toNat
    = c.1 ∧ s.pLinked 0 = true) ∧
  (∃ (p : Fin 2) (k : Packet) (s : State), s.acts Domain.link = true ∧ s.pIsUp p.val = true ∧ k.typ.toNat = tEnum ∧ k.eab =
    false ∧ k.headOk = true ∧ k.bodyOk = true ∧ k.seq.toNat % 4096 = s.fld (F.PORT_SEQ_EXP p.val) ∧ k.formOk p.val = true ∧
    s.mail.cmds = []) :=
  ⟨⟨0, { sealed tFrameReady 0 0 (List.replicate 8 0) with hchk := 0, eab := true }, linked, (tFrameReady, .frameReady 0
    ({ sealed tFrameReady 0 0 (List.replicate 8 0) with hchk := 0, eab := true })), by decide +kernel⟩,
  ⟨0, { sealed tFrameReady 0 0 (List.replicate 8 0) with eab := true }, linked, (tFrameReady, .frameReady 0
    ({ sealed tFrameReady 0 0 (List.replicate 8 0) with eab := true })), by decide +kernel⟩,
  ⟨0, { sealed tFrameReady 0 0 (List.replicate 8 0) with hchk := 0 }, linked, (tFrameReady, .frameReady 0
    ({ sealed tFrameReady 0 0 (List.replicate 8 0) with hchk := 0 })), by decide +kernel⟩,
  ⟨0, { sealed tFrameReady 0 0 (List.replicate 8 0) with crc := 0 }, linked, (tFrameReady, .frameReady 0
    ({ sealed tFrameReady 0 0 (List.replicate 8 0) with crc := 0 })), by decide +kernel⟩,
  ⟨0, sealed tFrameReady 4095 0 (List.replicate 8 0), linked, (tFrameReady, .frameReady 0 (sealed tFrameReady 4095 0
    (List.replicate 8 0))), by decide +kernel⟩,
  ⟨1, sealed tEvent 0 0 (List.replicate 16 0), linked, (tEvent, .event 1 (sealed tEvent 0 0 (List.replicate 16 0))),
    by decide +kernel⟩,
  ⟨0, addressed 5 tFrameReady 0 0 (List.replicate 8 0), linked, (tFrameReady, .frameReady 0 (addressed 5 tFrameReady 0 0
    (List.replicate 8 0))), by decide +kernel⟩,
  ⟨0, addressed 5 tFrameReady 0 0 (List.replicate 8 0), fs linked [(F.PORT_ADDR_ADDR 0, 5)], (tFrameReady, .frameReady 0
    (addressed 5 tFrameReady 0 0 (List.replicate 8 0))), 0, State.stream (fs linked [(F.PORT_ADDR_ADDR 0, 5)]) 0,
    by decide +kernel⟩,
  ⟨0, addressed 127 tEnum 0 (BitVec.ofNat 8 opAssign) [3, 0, 0, 0, 1, 2, 3, 4], linked, 3, [1, 2, 3, 4], by decide +kernel⟩,
  ⟨1, sealed tEnum 0 (BitVec.ofNat 8 opReply) (List.replicate 24 0), linked, (opReply, .enumReply 1 (sealed tEnum 0
    (BitVec.ofNat 8 opReply) (List.replicate 24 0))), by decide +kernel⟩,
  ⟨1, sealed tEnum 0 (BitVec.ofNat 8 opReply) (List.replicate 24 0), linked, by decide +kernel⟩⟩

theorem witness_LinkControl :
  (∃ (p : Fin 2) (k : Packet) (s : State) (front : List SentPkt) (j : SentPkt) (rest : List SentPkt), s.acts Domain.link = true
    ∧ s.pIsUp p.val = true ∧ k.eab = false ∧ k.headOk = true ∧ k.bodyOk = true ∧ k.formOk p.val = true ∧ s.mail.cmds = [] ∧
    k.typ.toNat = tAck ∧ (s.port p.val).tx.unacked = front ++ j :: rest ∧ j.seq = leAt k.payload 0 2 % 4096 ∧ (∀ i ∈ front,
    i.seq ≠ j.seq)) ∧
  (∃ (p : Fin 2) (k : Packet) (s : State), s.acts Domain.link = true ∧ s.pIsUp p.val = true ∧ k.eab = false ∧ k.headOk = true ∧
    k.bodyOk = true ∧ k.formOk p.val = true ∧ s.mail.cmds = [] ∧ k.typ.toNat = tNak) ∧
  (∃ (p : Fin 2) (k : Packet) (s : State), s.acts Domain.link = true ∧ s.pIsUp p.val = true ∧ k.eab = false ∧ k.headOk = true ∧
    k.bodyOk = true ∧ k.formOk p.val = true ∧ s.mail.cmds = [] ∧ k.typ.toNat = tCredit) :=
  ⟨⟨0, sealed tAck 0 0 (List.replicate 4 0), unacked, [], sent0, [], by decide +kernel⟩,
  ⟨1, sealed tNak 0 0 (List.replicate 4 0), linked, by decide +kernel⟩,
  ⟨0, sealed tCredit 0 0 (List.replicate 8 0), linked, by decide +kernel⟩⟩

theorem witness_PacketTimers :
  (∃ (p : Fin 2) (s : State), s.acts Domain.link = true ∧ s.pIsUp p.val = true ∧ (s.port p.val).rx.sinceAck ≠ 0 ∧ (s.port
    p.val).tx.links = []) ∧
  (∃ (p : Fin 2) (s : State), s.acts Domain.link = true ∧ s.pIsUp p.val = true ∧ (s.port p.val).tx.links = []) ∧
  (∃ (p : Fin 2) (s : State) (k : SentPkt) (rest : List SentPkt), s.acts Domain.link = true ∧ s.pIsUp p.val = true ∧ (s.port
    p.val).tx.unacked = k :: rest ∧ (∀ i ∈ k :: rest, i.replays < 8) ∧ s.mail.cmds = []) ∧
  (∃ (p : Fin 2) (s : State), s.acts Domain.link = true ∧ s.pIsUp p.val = true ∧ (s.port p.val).tx.queue = [] ∧ (s.port
    p.val).reqDue = false ∧ (s.port p.val).burstDue = true) ∧
  (∃ (p : Fin 2) (s : State) (m : LinkMsg) (rest : List LinkMsg), s.acts Domain.link = true ∧ s.pIsUp p.val = true ∧ (s.port
    p.val).tx.queue = [] ∧ (s.port p.val).reqDue = false ∧ (s.port p.val).burstDue = false ∧ (s.port p.val).tx.links = m ::
    rest) ∧
  (∃ (p : Fin 2) (s : State) (q : Nat) (rest : List Nat) (k : SentPkt), s.acts Domain.link = true ∧ s.pIsUp p.val = true ∧
    (s.port p.val).tx.queue = [] ∧ (s.port p.val).reqDue = false ∧ (s.port p.val).burstDue = false ∧ (s.port p.val).tx.links =
    [] ∧ (s.port p.val).tx.resend = q :: rest ∧ List.find? (fun k => decide (k.seq = q)) (s.port p.val).tx.unacked = some k ∧
    (s.port p.val).tx.afresh = false) ∧
  (∃ (p : Fin 2) (s : State), s.acts Domain.link = true ∧ s.pIsUp p.val = true ∧ (s.port p.val).tx.queue = [] ∧ (s.port
    p.val).reqDue = false ∧ (s.port p.val).burstDue = false ∧ (s.port p.val).tx.links = [] ∧ (s.port p.val).tx.resend = []) :=
  ⟨⟨0, { linked with inl := { up.inl with rx := { up.inl.rx with sinceAck := 1 } } }, by decide +kernel⟩,
  ⟨0, linked, by decide +kernel⟩,
  ⟨0, unacked, sent0, [], by decide +kernel⟩,
  ⟨1, { linked with chn := { up.chn with burstDue := true } }, by decide +kernel⟩,
  ⟨1, { linked with chn := { up.chn with tx := { up.chn.tx with links := [.ack] } } }, .ack, [], by decide +kernel⟩,
  ⟨0, { unacked with inl := { unacked.inl with tx := { unacked.inl.tx with resend := [0] } } }, 0, [], sent0, by decide +kernel⟩,
  ⟨0, linked, by decide +kernel⟩⟩

theorem witness_SegmentEngines :
  (∃ (e : Fin 4) (g : Seg) (rest : List Seg) (s : State), s.acts Domain.pix = true ∧ s.vid.waiting = [] ∧ s.engine e.val = g ::
    rest ∧ s.vid.engines.length = 4 ∧ g.started = false ∧ s.overlaps g = true) ∧
  (∃ (e : Fin 4) (g : Seg) (rest : List Seg) (s : State), s.acts Domain.pix = true ∧ s.vid.waiting = [] ∧ s.engine e.val = g ::
    rest ∧ s.vid.engines.length = 4 ∧ g.started = false ∧ s.overlaps g = false ∧ g.head.raw = false ∧ g.tok = none) ∧
  (∃ (e : Fin 4) (g : Seg) (rest : List Seg) (s : State) (c : Token × Instr) (x : Token), s.acts Domain.pix = true ∧
    s.vid.waiting = [] ∧ s.engine e.val = g :: rest ∧ s.vid.engines.length = 4 ∧ c ∈ [(Token.pix, Instr.tokenPix e),
    (Token.zrun, Instr.tokenZrun e), (Token.match, Instr.tokenMatch e), (Token.lit, Instr.tokenLit e), (Token.pred,
    Instr.tokenPred e)] ∧ g.started = true ∧ g.head.raw = false ∧ g.done ≠ g.head.total ∧ g.token = some x ∧ x ≠ c.1) ∧
  (∃ (e : Fin 4) (g : Seg) (rest : List Seg) (s : State) (c : Token × Instr) (g1 : Seg), s.acts Domain.pix = true ∧
    s.vid.waiting = [] ∧ s.engine e.val = g :: rest ∧ s.vid.engines.length = 4 ∧ c ∈ [(Token.pix, Instr.tokenPix e),
    (Token.zrun, Instr.tokenZrun e), (Token.match, Instr.tokenMatch e), (Token.lit, Instr.tokenLit e), (Token.pred,
    Instr.tokenPred e)] ∧ g.started = true ∧ g.head.raw = false ∧ g.done ≠ g.head.total ∧ g.token = some c.1 ∧ g.read = (g1,
    BitRes.over)) ∧
  (∃ (e : Fin 4) (g : Seg) (rest : List Seg) (s : State) (c : Token × Instr) (g1 : Seg), s.acts Domain.pix = true ∧
    s.vid.waiting = [] ∧ s.engine e.val = g :: rest ∧ s.vid.engines.length = 4 ∧ c ∈ [(Token.pix, Instr.tokenPix e),
    (Token.zrun, Instr.tokenZrun e), (Token.match, Instr.tokenMatch e), (Token.lit, Instr.tokenLit e), (Token.pred,
    Instr.tokenPred e)] ∧ g.started = true ∧ g.head.raw = false ∧ g.done ≠ g.head.total ∧ g.token = some c.1 ∧ g.read = (g1,
    BitRes.on) ∧ g1.ended = false) ∧
  (∃ (e : Fin 4) (g : Seg) (rest : List Seg) (s : State) (c : Token × Instr) (g1 : Seg) (u : State), s.acts Domain.pix = true ∧
    s.vid.waiting = [] ∧ s.engine e.val = g :: rest ∧ s.vid.engines.length = 4 ∧ c ∈ [(Token.pix, Instr.tokenPix e),
    (Token.zrun, Instr.tokenZrun e), (Token.match, Instr.tokenMatch e), (Token.lit, Instr.tokenLit e), (Token.pred,
    Instr.tokenPred e)] ∧ g.started = true ∧ g.head.raw = false ∧ g.done ≠ g.head.total ∧ g.token = some c.1 ∧ g.read = (g1,
    BitRes.due) ∧ 0 < g1.left ∧ u = s.setFront (e.val) g1 ∧ (u.pixelWaits g1.head g1.done = true ∨ u.weirFull g1.head g1.done
    = true)) ∧
  (∃ (e : Fin 4) (g : Seg) (rest : List Seg) (s : State) (c : Token × Instr) (g1 : Seg) (u : State), s.acts Domain.pix = true ∧
    s.vid.waiting = [] ∧ s.engine e.val = g :: rest ∧ s.vid.engines.length = 4 ∧ c ∈ [(Token.pix, Instr.tokenPix e),
    (Token.zrun, Instr.tokenZrun e), (Token.match, Instr.tokenMatch e), (Token.lit, Instr.tokenLit e), (Token.pred,
    Instr.tokenPred e)] ∧ g.started = true ∧ g.head.raw = false ∧ g.done ≠ g.head.total ∧ g.token = some c.1 ∧ g.read = (g1,
    BitRes.due) ∧ 0 < g1.left ∧ u = s.setFront (e.val) g1 ∧ u.pixelWaits g1.head g1.done = false ∧ u.weirFull g1.head g1.done
    = false ∧ g1.left = 1 ∧ g1.done + 1 ≠ g1.head.total) ∧
  (∃ (e : Fin 4) (g : Seg) (rest : List Seg) (s : State), s.acts Domain.pix = true ∧ s.vid.waiting = [] ∧ s.engine e.val = g ::
    rest ∧ s.vid.engines.length = 4 ∧ (s.flag (stallIn e.val) = true ∨ s.flag (stallOut e.val) = true) ∧ (g.started = false ∨
    g.done = g.head.total ∨ g.head.raw = false ∧ g.pos = g.tokPos ∧ g.field = Field.pre 0)) ∧
  (∃ (st : Fin 16) (host : Word) (s : State), s.on Domain.pix = true ∧ s.vid.waiting = [] ∧ s.vid.streams.length = 16 ∧
    s.vid.stores.length = 3 ∧ (s.stream st.val).frameReady = some host ∧ (s.stream st.val).nextReady = none ∧ s.segmentsBefore
    (st.val) (s.stream st.val).readyOrder = true) ∧
  (∃ (st : Fin 16) (host : Word) (s : State), s.on Domain.pix = true ∧ s.vid.waiting = [] ∧ s.vid.streams.length = 16 ∧
    s.vid.stores.length = 3 ∧ (s.stream st.val).frameReady = some host ∧ (s.stream st.val).nextReady = none ∧ s.segmentsBefore
    (st.val) (s.stream st.val).readyOrder = false ∧ (s.damage st.val).empty = true) ∧
  (∃ (st : Fin 16) (host : Word) (s : State), s.on Domain.pix = true ∧ s.vid.waiting = [] ∧ s.vid.streams.length = 16 ∧
    s.vid.stores.length = 3 ∧ (s.stream st.val).frameReady = some host ∧ (s.stream st.val).nextReady = none ∧ s.segmentsBefore
    (st.val) (s.stream st.val).readyOrder = false ∧ (s.damage st.val).empty = false) ∧
  (∃ (s : State), s.on Domain.ctrl = true ∧ s.acts Domain.pix = true) :=
  ⟨⟨0, idleSeg 1, [], decodes (idleSeg 1) (seg 0 []), by decide +kernel⟩,
  ⟨0, idleSeg 0, [], decodes (idleSeg 0) (idleSeg 1), by decide +kernel⟩,
  ⟨0, onePixel 0, [], decodes (onePixel 0) (idleSeg 1), (.zrun, .tokenZrun 0), .pix, by decide +kernel⟩,
  ⟨0, onePred, [], decodes onePred (idleSeg 1), (.pred, .tokenPred 0), onePred.read.1, by decide +kernel⟩,
  ⟨0, seg 0 [0], [], decodes (seg 0 [0]) (idleSeg 1), (.pix, .tokenPix 0), (seg 0 [0]).read.1, by decide +kernel⟩,
  ⟨0, onePixel 1, [], tileBusy, (.pix, .tokenPix 0), (onePixel 1).read.1, tileBusy.setFront 0 (onePixel 1).read.1,
    by decide +kernel⟩,
  ⟨0, onePixel 0, [], decodes (onePixel 0) (idleSeg 1), (.pix, .tokenPix 0), (onePixel 0).read.1, State.setFront (decodes
    (onePixel 0) (idleSeg 1)) 0 (onePixel 0).read.1, by decide +kernel⟩,
  ⟨0, seg 0 [], [], { fs up [(stallIn 0, 1)] with vid := (decodes (seg 0 []) (idleSeg 1)).vid }, by decide +kernel⟩,
  ⟨3, 7,
    { up with vid := { up.vid with streams := listSet up.vid.streams 3 { Stream.reset with frameReady := some 7, readyOrder := 4 }, engines := [[{ seg 0 [] with head := { (seg 0 []).head with stream := 3 } }], [], [], []] } },
    by decide +kernel⟩,
  ⟨3, 7,
    { up with vid := { up.vid with streams := listSet up.vid.streams 3 { Stream.reset with frameReady := some 7, readyOrder := 4 } } },
    by decide +kernel⟩,
  ⟨3, 7,
    { fs up [(F.SLU_DMG_WH_W 3, 4), (F.SLU_DMG_WH_H 3, 4)] with vid := { up.vid with streams := listSet up.vid.streams 3 { Stream.reset with frameReady := some 7, readyOrder := 4 }, stores := dirty } },
    by decide +kernel⟩,
  ⟨up, by decide +kernel⟩⟩

theorem witness_Commits :
  (∃ (b : Blk) (priv : Bool) (lut : Bool) (i : Instr) (f : CommitBits) (s : State), (b, priv, lut, i) ∈ List.map (fun b => (b,
    false, false, Instr.shadowCommit b)) [Blk.scn, Blk.cps, Blk.dth, Blk.odv, Blk.col, Blk.bias, Blk.bld, Blk.lda, Blk.opt,
    Blk.saf] ++ [(Blk.cps, true, false, Instr.privilegedCommit Blk.cps), (Blk.bld, true, false, Instr.privilegedCommit
    Blk.bld), (Blk.scn, true, false, Instr.timingCommit), (Blk.rng, false, false, Instr.rngTableCommit), (Blk.dth, false,
    true, Instr.lutLoadCommit Blk.dth), (Blk.odv, false, true, Instr.lutLoadCommit Blk.odv), (Blk.dmr, false, false,
    Instr.demuraSetCommit), (Blk.gsq, false, false, Instr.gateProgramCommit)] ∧ commitBits b priv = some f ∧ s.flag f.commit =
    false ∧ s.rs.running = true ∧ s.acts b.domain = true) ∧
  (∃ (b : Blk) (bad : Bool) (c : Commit) (f : CommitBits) (s : State), List.find? (fun c => decide (c.blk = b) && c.loading)
    s.commits = some c ∧ commitBits b c.priv = some f ∧ s.rs.running = true ∧ s.mail.cmds = [] ∧ s.imageErr b c.image bad = 0) ∧
  (∃ (b : Blk) (bad : Bool) (c : Commit) (f : CommitBits) (s : State), List.find? (fun c => decide (c.blk = b) && c.loading)
    s.commits = some c ∧ commitBits b c.priv = some f ∧ s.rs.running = true ∧ s.mail.cmds = [] ∧ s.imageErr b c.image bad ≠ 0) :=
  ⟨⟨.lda, false, false, .shadowCommit .lda, (commitBits .lda false).get (by decide +kernel), up, by decide +kernel, rfl,
    by decide +kernel, by decide +kernel, by decide +kernel⟩,
  ⟨.gsq, false, ⟨.gsq, false, 0, false, true, false, gsqImage, 0⟩, (commitBits .gsq false).get (by decide +kernel),
    { up with commits := [⟨.gsq, false, 0, false, true, false, gsqImage, 0⟩] }, by decide +kernel, rfl, by decide +kernel,
    by decide +kernel, by decide +kernel⟩,
  ⟨.gsq, false, ⟨.gsq, false, 0, false, true, false, [], 0⟩, (commitBits .gsq false).get (by decide +kernel),
    { up with commits := [⟨.gsq, false, 0, false, true, false, [], 0⟩] }, by decide +kernel, rfl, by decide +kernel,
    by decide +kernel, by decide +kernel⟩⟩

theorem witness_SafetyBus :
  (∃ (f : CanFrame) (s : State), s.canUp = true ∧ f.id / 16 = s.fld F.SAF_CAN_ID_BASE ∧ s.flag F.SAF_STATUS_BUS_OFF = false ∧
    f.id % 16 = 0 ∧ f.classical = false ∧ f.data.length = 8 ∧ byteAt f.data 4 < 2 ∧ byteAt f.data 6 = 0 ∧ byteAt f.data 7 = 0
    ∧ s.mode ≠ Mode.standby) ∧
  (∃ (f : CanFrame) (s : State) (u : State), s.canUp = true ∧ f.id / 16 = s.fld F.SAF_CAN_ID_BASE ∧ s.flag F.SAF_STATUS_BUS_OFF
    = false ∧ f.id % 16 = 0 ∧ f.classical = false ∧ f.data.length = 8 ∧ byteAt f.data 4 < 2 ∧ byteAt f.data 6 = 0 ∧ byteAt
    f.data 7 = 0 ∧ s.mode = Mode.standby ∧ u = s.takeRequest f.data) ∧
  (∃ (f : CanFrame) (s : State) (x : Instr × Nat × Nat), s.canUp = true ∧ f.id / 16 = s.fld F.SAF_CAN_ID_BASE ∧ s.flag
    F.SAF_STATUS_BUS_OFF = false ∧ x ∈ [(Instr.ttRequest f, 0, 8), (Instr.ttKey f, 1, 20), (Instr.mb2Cmd f, 2, 32)] ∧ f.id %
    16 = x.2.1 ∧ (f.classical = true ∨ f.data.length ≠ x.2.2 ∨ x.2.1 = 0 ∧ (2 ≤ byteAt f.data 4 ∨ byteAt f.data 6 ≠ 0 ∨ byteAt
    f.data 7 ≠ 0))) ∧
  (∃ (f : CanFrame) (s : State), s.canUp = true ∧ f.id / 16 = s.fld F.SAF_CAN_ID_BASE ∧ s.flag F.SAF_STATUS_BUS_OFF = false ∧
    f.id % 16 = 1 ∧ f.classical = false ∧ f.data.length = 20 ∧ s.saf.key = none ∧ List.take 4 (aes128 (List.take 16 f.data)
    (List.replicate 16 0#8)) = List.drop 16 f.data) ∧
  (∃ (f : CanFrame) (s : State), s.canUp = true ∧ f.id / 16 = s.fld F.SAF_CAN_ID_BASE ∧ s.flag F.SAF_STATUS_BUS_OFF = false ∧
    f.id % 16 = 1 ∧ f.classical = false ∧ f.data.length = 20 ∧ s.saf.key.isSome = true) ∧
  (∃ (f : CanFrame) (s : State), s.canUp = true ∧ f.id / 16 = s.fld F.SAF_CAN_ID_BASE ∧ s.flag F.SAF_STATUS_BUS_OFF = false ∧
    f.id % 16 = 2 ∧ f.classical = false ∧ f.data.length = 32 ∧ s.on Domain.ctrl = false) ∧
  (∃ (f : CanFrame) (s : State), s.canUp = true ∧ f.id / 16 = s.fld F.SAF_CAN_ID_BASE ∧ s.flag F.SAF_STATUS_BUS_OFF = false ∧
    f.id % 16 = 2 ∧ f.classical = false ∧ f.data.length = 32 ∧ s.on Domain.ctrl = true ∧ s.mbDisabled 2 = true) ∧
  (∃ (f : CanFrame) (s : State), s.canUp = true ∧ f.id / 16 = s.fld F.SAF_CAN_ID_BASE ∧ s.flag F.SAF_STATUS_BUS_OFF = false ∧
    f.id % 16 = 2 ∧ f.classical = false ∧ f.data.length = 32 ∧ s.on Domain.ctrl = true ∧ s.mbDisabled 2 = false ∧ 16 ≤ (s.mb
    2).accepted + (s.mb 2).waiting) ∧
  (∃ (f : CanFrame) (s : State), s.canUp = true ∧ f.id / 16 = s.fld F.SAF_CAN_ID_BASE ∧ s.flag F.SAF_STATUS_BUS_OFF = false ∧
    f.id % 16 = 2 ∧ f.classical = false ∧ f.data.length = 32 ∧ s.on Domain.ctrl = true ∧ s.mbDisabled 2 = false ∧ (s.mb
    2).accepted < 16 ∧ (s.mb 2).waiting = 0 ∧ s.outstanding 2 < 16 ∧ s.mail.boxes.length = 4) ∧
  (∃ (s : State), s.canUp = true ∧ s.flag F.SAF_STATUS_BUS_OFF = false ∧ s.on Domain.ctrl = true) ∧
  (∃ (s : State) (b : List Byte) (ring : Bool) (rest : List (List Byte × Bool)), s.canUp = true ∧ s.flag F.SAF_STATUS_BUS_OFF =
    false ∧ s.mail.rsp = (b, ring) :: rest ∧ ring = false) ∧
  (∃ (s : State) (b : List Byte) (ring : Bool) (rest : List (List Byte × Bool)), s.canUp = true ∧ s.flag F.SAF_STATUS_BUS_OFF =
    false ∧ s.mail.rsp = (b, ring) :: rest ∧ ring = true ∧ 0 < (s.mb 2).unread ∧ (s.mb 2).waiting = 0 ∧ s.mail.boxes.length =
    4) ∧
  (∃ (s : State), s.canUp = true ∧ s.flag F.SAF_STATUS_BUS_OFF = false) ∧
  (∃ (s : State), s.canUp = true) :=
  ⟨⟨can 0 (List.replicate 8 0#8), up, by decide +kernel⟩,
  ⟨can 0 (List.replicate 8 0#8), inMode .standby, State.takeRequest (inMode .standby) (List.replicate 8 0#8), by decide +kernel,
    by decide +kernel, by decide +kernel, by decide +kernel, by decide +kernel, by decide +kernel, by decide +kernel,
    by decide +kernel, by decide +kernel, by decide +kernel, rfl⟩,
  ⟨{ can 1 (List.replicate 20 0) with classical := true }, up, (.ttKey { can 1 (List.replicate 20 0) with classical := true },
    1, 20), by decide +kernel⟩,
  ⟨keyFrame, up, by decide +kernel⟩,
  ⟨keyFrame, { up with saf := { up.saf with key := some [] } }, by decide +kernel⟩,
  ⟨can 2 (List.replicate 32 0#8), fs (inMode .standby) [(Domain.ctrl.onFld, 0)], by decide +kernel⟩,
  ⟨can 2 (List.replicate 32 0#8), fs up [(F.MBX_CTRL_EN, 0)], by decide +kernel⟩,
  ⟨can 2 (List.replicate 32 0#8),
    { fs up [(F.MBX_CTRL_EN, 15)] with mail := { up.mail with boxes := List.replicate 4 ⟨16, 0, false, 0, []⟩ } },
    by decide +kernel⟩,
  ⟨can 2 (List.replicate 32 0#8), fs up [(F.MBX_CTRL_EN, 15)], by decide +kernel⟩,
  ⟨up, by decide +kernel⟩,
  ⟨{ up with mail := { up.mail with rsp := [([], false)] } }, [], false, [], by decide +kernel⟩,
  ⟨{ up with mail := { up.mail with rsp := [([1#8], true)], boxes := List.replicate 4 ⟨0, 2, false, 0, []⟩ } }, [1#8], true, [],
    by decide +kernel⟩,
  ⟨up, by decide +kernel⟩,
  ⟨up, by decide +kernel⟩⟩

theorem witness_SafetyRegisters :
  (∃ (s : State), s.on Domain.ctrl = true ∧ s.fld F.SAF_HOLD_LEFT = 0 ∧ s.flag F.SAF_STATUS_HOLD = false) ∧
  (∃ (s : State), s.on Domain.ctrl = true ∧ s.flag F.SAF_STATUS_HOLD = true) ∧
  (∃ (s : State), s.on Domain.ctrl = true ∧ s.saf.absent = true ∧ s.pw.firmware = true) ∧
  (∃ (s : State), s.on Domain.ctrl = true ∧ s.saf.absent = true ∧ s.pw.firmware = false ∧ s.mail.cmds = []) ∧
  (∃ (s : State) (b : Bool) (i : Instr), s.on Domain.ctrl = true ∧ (b, i) ∈ [(true, Instr.safeSet), (false, Instr.safeClr)] ∧
    s.flag F.SAF_STATUS_SAFE_LATCH = b) ∧
  (∃ (s : State) (b : Bool) (i : Instr), s.on Domain.ctrl = true ∧ (b, i) ∈ [(true, Instr.safeSet), (false, Instr.safeClr)] ∧
    s.flag F.SAF_STATUS_SAFE_LATCH ≠ b) ∧
  (∃ (s : State), s.on Domain.ctrl = true ∧ s.flag F.SAF_STATUS_PARTNER_SEEN = true) ∧
  (∃ (s : State), s.on Domain.ctrl = true ∧ s.flag F.SAF_STATUS_PARTNER_SEEN = false ∧ s.mode ≠ Mode.calibrate ∧ s.mode ≠
    Mode.service) :=
  ⟨⟨up, by decide +kernel⟩,
  ⟨fs up [(F.SAF_STATUS_HOLD, 1)], by decide +kernel⟩,
  ⟨{ up with saf := { up.saf with absent := true } }, by decide +kernel⟩,
  ⟨{ up with saf := { up.saf with absent := true }, pw := { up.pw with firmware := false } }, by decide +kernel⟩,
  ⟨fs up [(F.SAF_STATUS_SAFE_LATCH, 1)], true, .safeSet, by decide +kernel⟩,
  ⟨fs up [(F.SAF_STATUS_SAFE_LATCH, 1)], false, .safeClr, by decide +kernel⟩,
  ⟨fs up [(F.SAF_STATUS_PARTNER_SEEN, 1)], by decide +kernel⟩,
  ⟨up, by decide +kernel⟩⟩

theorem witness_MailboxPorts :
  (∃ (s : State), s.on Domain.ctrl = true) ∧
  (∃ (n : Fin 4) (s : State) (k : Fin 16), s.on Domain.ctrl = true ∧ k ≠ 0 ∧ s.mbDisabled n.val = false ∧ s.outstanding n.val +
    k.val ≤ 16 ∧ s.fld (F.MBX_DB_TAIL n.val) < 16 ∧ s.mail.boxes.length = 4) ∧
  (∃ (n : Fin 4) (s : State) (k : Fin 16), s.on Domain.ctrl = true ∧ n = 1 ∧ k.val ≤ (s.mb 1).unread ∧ s.mail.boxes.length = 4) ∧
  (∃ (s : State) (v : Word), s.on Domain.ctrl = true ∧ v.toNat % 16 = 15) ∧
  (∃ (s : State) (a : BitVec 32), s.on Domain.ctrl = true ∧ s.spiDeaf = false ∧ (a.toNat / 4 * 4 = R.SYS_MODE ∨ a.toNat / 4 * 4
    = R.BOOT_STATUS)) ∧
  (∃ (s : State) (a : BitVec 32), s.on Domain.ctrl = true ∧ s.spiDeaf = false ∧ spiReach (a.toNat / 4 * 4) = false) ∧
  (∃ (s : State) (a : BitVec 32), s.on Domain.ctrl = true ∧ s.spiDeaf = false ∧ inPond (a.toNat / 4 * 4) = true ∧ spiReach
    (a.toNat / 4 * 4) = true ∧ (∀ (n k : Nat), ringSlot (a.toNat / 4 * 4) = some (n, k) → s.slotOwned n k = false) ∧
    s.pondWeak = [] ∧ s.borrowed (a.toNat / 4 * 4) = false) ∧
  (∃ (s : State), s.on Domain.ctrl = true ∧ s.spiDeaf = false) ∧
  (∃ (s : State) (op : Byte), s.on Domain.ctrl = true ∧ s.spiDeaf = false ∧ op ≠ 2#8 ∧ op ≠ 3#8) ∧
  (∃ (s : State), s.on Domain.ctrl = true ∧ s.spiDeaf = false) ∧
  (∃ (s : State) (a : BitVec 32), s.on Domain.ctrl = true ∧ s.spiDeaf = false ∧ spiReach (a.toNat / 4 * 4) = false) ∧
  (∃ (s : State), s.on Domain.ctrl = true ∧ s.spiDeaf = false ∧ s.mail.unlocked = true) ∧
  (∃ (s : State), s.on Domain.ctrl = true ∧ s.spiDeaf = false ∧ s.mail.unlocked = false) ∧
  (∃ (s : State), s.on Domain.ctrl = true ∧ s.spiDeaf = false) :=
  ⟨⟨up, by decide +kernel⟩,
  ⟨3, fs up [(F.MBX_CTRL_EN, 15)], 15, by decide +kernel⟩,
  ⟨1, { fs up [(F.MBX_CTRL_EN, 15)] with mail := { up.mail with boxes := List.replicate 4 ⟨0, 15, false, 0, []⟩ } }, 15,
    by decide +kernel⟩,
  ⟨up, 15, by decide +kernel⟩,
  ⟨up, BitVec.ofNat 32 R.SYS_MODE, by decide +kernel⟩,
  ⟨up, 0#32, by decide +kernel⟩,
  ⟨{ up with mail := { up.mail with boxes := List.replicate 4 ⟨0, 0, false, 0, []⟩ } }, BitVec.ofNat 32 (pondBLo + 0x600),
    by decide +kernel, by decide +kernel, by decide +kernel, by decide +kernel, fun n k h => by simp [ringSlot, pondBLo] at h,
    by decide +kernel, by decide +kernel⟩,
  ⟨up, by decide +kernel⟩,
  ⟨up, 4#8, by decide +kernel⟩,
  ⟨up, by decide +kernel⟩,
  ⟨up, 0#32, by decide +kernel⟩,
  ⟨{ up with mail := { up.mail with unlocked := true } }, by decide +kernel⟩,
  ⟨up, by decide +kernel⟩,
  ⟨up, by decide +kernel⟩⟩

theorem witness_CommandLife :
  (∃ (n : Nat) (h : Nat) (op : Nat) (plen : Nat) (slot : List Byte) (s : State), s.on Domain.ctrl = true ∧ s.pw.firmware = true
    ∧ s.nextBox = some n ∧ (n = 1 ∨ n = 3) ∧ h = s.fld (F.MBX_CMD_HEAD_CMD_HEAD n) ∧ slot = s.bytes (slotAddr n h) 32 ∧ op =
    leAt slot 0 2 ∧ (plen = if byteAt slot 7 = 0 then byteAt slot 6 else 25) ∧ s.mail.boxes.length = 4) ∧
  (∃ (tag : Fin 64) (c : RunCmd) (s : State), s.cmd tag.val = some c ∧ c.phase = CmdPhase.boundary ∧ c.status = none) ∧
  (∃ (tag : Fin 64) (c : RunCmd) (s : State), s.cmd tag.val = some c ∧ c.phase = CmdPhase.boundary ∧ c.status = none ∧ s.pw.rom
    = false ∧ s.ringRuns = true ∧ c.fullRun = false ∧ c.opcode ∉ [772, 2308, 2309] ∧ c.expired = true) ∧
  (∃ (tag : Fin 64) (c : RunCmd) (s : State), s.cmd tag.val = some c ∧ c.phase = CmdPhase.boundary ∧ c.status = none ∧ s.pw.rom
    = false ∧ s.ringRuns = true ∧ c.fullRun = false ∧ c.opcode ∉ [772, 2308, 2309] ∧ c.expired = false ∧ c.killed = true) ∧
  (∃ (tag : Fin 64) (c : RunCmd) (s : State), s.cmd tag.val = some c ∧ c.phase = CmdPhase.boundary ∧ c.status = none ∧ s.pw.rom
    = false ∧ s.ringRuns = true ∧ c.fullRun = false ∧ c.opcode ∉ [772, 2308, 2309] ∧ c.expired = false ∧ c.killed = false ∧
    s.mbDisabled c.mb = false) ∧
  (∃ (tag : Fin 64) (c : RunCmd) (s : State), s.cmd tag.val = some c ∧ c.paused = false ∧ c.status = none) ∧
  (∃ (tag : Nat) (c : RunCmd) (s : State), s.cmd tag = some c ∧ s.pw.rom = false ∧ s.ringRuns = true ∧ c.expired = false ∧
    c.killed = false ∧ s.mbDisabled c.mb = false) ∧
  (∃ (n : Fin 4) (status : Nat) (result : List Byte) (s : State), (n = 1 ∨ n = 3) ∧ s.mail.boxes.length = 4 ∧ status ≠ stTimeout
    ∧ status ≠ stRecovered ∧ result.length ≤ 8 ∧ s.fld (F.MBX_CPL_TAIL_CPL_TAIL n.val) < 16) :=
  ⟨⟨3, 0, 0, 0, (List.replicate 32 0#8),
    { up with mail := { up.mail with boxes := [Mailbox.reset, Mailbox.reset, Mailbox.reset, ⟨1, 0, false, 0, []⟩] } },
    by decide +kernel⟩,
  ⟨16, { cmdOf 1 [] 0 with phase := .boundary }, doing { cmdOf 1 [] 0 with phase := .boundary } up, by decide +kernel⟩,
  ⟨16, { cmdOf 1 [] 0 with phase := .boundary, expired := true }, doing
    { cmdOf 1 [] 0 with phase := .boundary, expired := true } (up), by decide +kernel⟩,
  ⟨16, { cmdOf 1 [] 0 with phase := .boundary, killed := true }, doing { cmdOf 1 [] 0 with phase := .boundary, killed := true }
    (up), by decide +kernel⟩,
  ⟨16, { cmdOf 1 [] 0 with phase := .boundary }, doing { cmdOf 1 [] 0 with phase := .boundary } (fs up [(F.MBX_CTRL_EN, 15)]),
    by decide +kernel⟩,
  ⟨16, cmdOf 1 [] 0, doing (cmdOf 1 [] 0) up, by decide +kernel⟩,
  ⟨16, cmdOf 1 [] 0, doing (cmdOf 1 [] 0) (fs up [(F.MBX_CTRL_EN, 15)]), by decide +kernel⟩,
  ⟨1, 0, [], up, by decide +kernel⟩⟩

theorem witness_ReportingCommands :
  (∃ (tag : Fin 64) (c : RunCmd) (s : State), s.atStep (tag.val) 256 = some c) ∧
  (∃ (tag : Fin 64) (c : RunCmd) (s : State), s.atStep (tag.val) 257 = some c) ∧
  (∃ (tag : Fin 64) (c : RunCmd) (s : State), s.atStep (tag.val) 258 = some c) ∧
  (∃ (tag : Fin 64) (c : RunCmd) (s : State), s.atStep (tag.val) 518 = some c) ∧
  (∃ (tag : Fin 64) (c : RunCmd) (s : State), s.atStep (tag.val) 768 = some c ∧ s.on Domain.link = true) ∧
  (∃ (tag : Fin 64) (c : RunCmd) (s : State), s.atStep (tag.val) 1029 = some c) ∧
  (∃ (tag : Fin 64) (c : RunCmd) (s : State), s.atStep (tag.val) 1285 = some c ∧ s.on Domain.panel = true) ∧
  (∃ (tag : Fin 64) (c : RunCmd) (s : State), s.atStep (tag.val) 1796 = some c ∧ s.on Domain.light = true) ∧
  (∃ (tag : Fin 64) (c : RunCmd) (s : State), s.atStep (tag.val) 2052 = some c) ∧
  (∃ (tag : Fin 64) (c : RunCmd) (s : State), s.atStep (tag.val) 2053 = some c) ∧
  (∃ (tag : Fin 64) (c : RunCmd) (s : State), s.atStep (tag.val) 2306 = some c) ∧
  (∃ (tag : Fin 64) (c : RunCmd) (s : State), s.atStep (tag.val) 2307 = some c) ∧
  (∃ (tag : Fin 64) (c : RunCmd) (s : State), s.atStep (tag.val) 2818 = some c) :=
  ⟨⟨16, cmdOf 256 [] 0, doing (cmdOf 256 [] 0) up, by decide +kernel⟩,
  ⟨16, cmdOf 257 [] 0, doing (cmdOf 257 [] 0) up, by decide +kernel⟩,
  ⟨16, cmdOf 258 [] 0, doing (cmdOf 258 [] 0) up, by decide +kernel⟩,
  ⟨16, cmdOf 518 [] 0, doing (cmdOf 518 [] 0) up, by decide +kernel⟩,
  ⟨16, cmdOf 768 [] 0, doing (cmdOf 768 [] 0) up, by decide +kernel⟩,
  ⟨16, cmdOf 1029 [] 0, doing (cmdOf 1029 [] 0) up, by decide +kernel⟩,
  ⟨16, cmdOf 1285 [] 0, doing (cmdOf 1285 [] 0) up, by decide +kernel⟩,
  ⟨16, cmdOf 1796 [] 0, doing (cmdOf 1796 [] 0) up, by decide +kernel⟩,
  ⟨16, cmdOf 2052 [] 0, doing (cmdOf 2052 [] 0) up, by decide +kernel⟩,
  ⟨16, cmdOf 2053 [] 0, doing (cmdOf 2053 [] 0) up, by decide +kernel⟩,
  ⟨16, cmdOf 2306 [] 0, doing (cmdOf 2306 [] 0) up, by decide +kernel⟩,
  ⟨16, cmdOf 2307 [] 0, doing (cmdOf 2307 [] 0) up, by decide +kernel⟩,
  ⟨16, cmdOf 2818 [] 0, doing (cmdOf 2818 [] 0) up, by decide +kernel⟩⟩

theorem witness_ActingCommands :
  (∃ (tag : Fin 64) (c : RunCmd) (s : State), s.atStep (tag.val) 259 = some c) ∧
  (∃ (tag : Fin 64) (c : RunCmd) (s : State) (u : State), s.atStep tag.val 512 = some c ∧ u = s.setPw
    { s.pw with noWakeArmed := false } ∧ byteAt c.params 0 = s.mode.code) ∧
  (∃ (tag : Fin 64) (c : RunCmd) (s : State) (u : State) (m : Mode), s.atStep tag.val 512 = some c ∧ u = s.setPw
    { s.pw with noWakeArmed := false } ∧ byteAt c.params 0 ≠ s.mode.code ∧ m ∈ [Mode.boot, Mode.splash, Mode.linkUp,
    Mode.selfRefresh, Mode.telltaleOnly, Mode.update] ∧ Mode.ofCode (byteAt c.params 0) = some m) ∧
  (∃ (tag : Fin 64) (c : RunCmd) (s : State) (u : State), s.atStep tag.val 512 = some c ∧ u = s.setPw
    { s.pw with noWakeArmed := false } ∧ byteAt c.params 0 ≠ s.mode.code ∧ Mode.ofCode (byteAt c.params 0) = some Mode.live ∧
    s.rowOpen 11 = true) ∧
  (∃ (tag : Fin 64) (c : RunCmd) (s : State) (u : State), s.atStep tag.val 512 = some c ∧ u = s.setPw
    { s.pw with noWakeArmed := false } ∧ byteAt c.params 0 ≠ s.mode.code ∧ Mode.ofCode (byteAt c.params 0) = some Mode.lowRate
    ∧ s.rowOpen 10 = true) ∧
  (∃ (tag : Fin 64) (c : RunCmd) (s : State) (u : State) (g : Mode × SleepTarget), s.atStep tag.val 512 = some c ∧ u = s.setPw
    { s.pw with noWakeArmed := false } ∧ byteAt c.params 0 ≠ s.mode.code ∧ g ∈ [(Mode.standby, SleepTarget.standby),
    (Mode.dormant, SleepTarget.dormant)] ∧ Mode.ofCode (byteAt c.params 0) = some g.1) ∧
  (∃ (tag : Fin 64) (c : RunCmd) (s : State), s.atStep (tag.val) 513 = some c) ∧
  (∃ (tag : Fin 64) (c : RunCmd) (s : State), s.atStep (tag.val) 514 = some c) ∧
  (∃ (tag : Fin 64) (c : RunCmd) (s : State), s.atStep (tag.val) 515 = some c) ∧
  (∃ (tag : Fin 64) (c : RunCmd) (s : State), s.atStep (tag.val) 516 = some c ∧ s.mode.isV = true ∧ s.ttAsked = false) ∧
  (∃ (tag : Fin 64) (c : RunCmd) (s : State), s.atStep (tag.val) 516 = some c ∧ s.mode.isV = true ∧ s.ttAsked = true) ∧
  (∃ (tag : Fin 64) (c : RunCmd) (s : State), s.atStep (tag.val) 516 = some c ∧ s.mode.isV = false) ∧
  (∃ (tag : Fin 64) (c : RunCmd) (s : State), s.atStep (tag.val) 517 = some c ∧ s.mode = Mode.service) ∧
  (∃ (tag : Fin 64) (c : RunCmd) (s : State), s.atStep (tag.val) 769 = some c ∧ s.on Domain.link = true ∧ s.pState c.portOf ≠
    pOff ∧ s.pState c.portOf ≠ pNoPartner) ∧
  (∃ (tag : Fin 64) (c : RunCmd) (s : State), s.atStep (tag.val) 770 = some c ∧ s.on Domain.link = true ∧ (byteAt c.params
    1).testBit 4 = false) ∧
  (∃ (tag : Fin 64) (c : RunCmd) (s : State), s.atStep (tag.val) 771 = some c ∧ s.on Domain.link = true) ∧
  (∃ (tag : Fin 64) (c : RunCmd) (s : State), s.atStep (tag.val) 772 = some c ∧ c.step = 2) ∧
  (∃ (tag : Fin 64) (c : RunCmd) (s : State), s.atStep (tag.val) 1024 = some c ∧ s.rs.running = true) ∧
  (∃ (tag : Fin 64) (c : RunCmd) (s : State), s.atStep (tag.val) 1024 = some c ∧ s.rs.running = false) ∧
  (∃ (tag : Fin 64) (c : RunCmd) (s : State), s.atStep (tag.val) 1028 = some c) :=
  ⟨⟨16, cmdOf 259 [] 0, doing (cmdOf 259 [] 0) up, by decide +kernel⟩,
  ⟨16, cmdOf 512 [5] 0, doing (cmdOf 512 [5] 0) (up), State.setPw (doing (cmdOf 512 [5] 0) (up))
    { (doing (cmdOf 512 [5] 0) (up)).pw with noWakeArmed := false }, by decide +kernel, rfl, by decide +kernel⟩,
  ⟨16, cmdOf 512 [11] 0, doing (cmdOf 512 [11] 0) (up), State.setPw (doing (cmdOf 512 [11] 0) (up))
    { (doing (cmdOf 512 [11] 0) (up)).pw with noWakeArmed := false }, .update, by decide +kernel, rfl, by decide +kernel,
    by decide +kernel, by decide +kernel⟩,
  ⟨16, cmdOf 512 [5] 0, doing (cmdOf 512 [5] 0) (lowRateUp), State.setPw (doing (cmdOf 512 [5] 0) (lowRateUp))
    { (doing (cmdOf 512 [5] 0) (lowRateUp)).pw with noWakeArmed := false }, by decide +kernel, rfl, by decide +kernel,
    by decide +kernel, by decide +kernel⟩,
  ⟨16, cmdOf 512 [7] 0, doing (cmdOf 512 [7] 0) (lowRateReady), State.setPw (doing (cmdOf 512 [7] 0) (lowRateReady))
    { (doing (cmdOf 512 [7] 0) (lowRateReady)).pw with noWakeArmed := false }, by decide +kernel, rfl, by decide +kernel,
    by decide +kernel, by decide +kernel⟩,
  ⟨16, cmdOf 512 [1] 0, doing (cmdOf 512 [1] 0) (up), State.setPw (doing (cmdOf 512 [1] 0) (up))
    { (doing (cmdOf 512 [1] 0) (up)).pw with noWakeArmed := false }, (Mode.standby, SleepTarget.standby), by decide +kernel,
    rfl, by decide +kernel, by decide +kernel, by decide +kernel⟩,
  ⟨16, cmdOf 513 [] 0, doing (cmdOf 513 [] 0) up, by decide +kernel⟩,
  ⟨16, cmdOf 514 [] 0, doing (cmdOf 514 [] 0) up, by decide +kernel⟩,
  ⟨16, cmdOf 515 [] 0, doing (cmdOf 515 [] 0) up, by decide +kernel⟩,
  ⟨16, cmdOf 516 [] 0, doing (cmdOf 516 [] 0) up, by decide +kernel⟩,
  ⟨16, cmdOf 516 [] 0, doing (cmdOf 516 [] 0) (fs up [(F.SAF_STATUS_EXCL, 1)]), by decide +kernel⟩,
  ⟨16, cmdOf 516 [] 0, doing (cmdOf 516 [] 0) (inMode .service), by decide +kernel⟩,
  ⟨16, cmdOf 517 [] 0, doing (cmdOf 517 [] 0) (inMode .service), by decide +kernel⟩,
  ⟨16, cmdOf 769 [1] 0, doing (cmdOf 769 [1] 0) linked, by decide +kernel⟩,
  ⟨16, cmdOf 770 [0, 0x0F] 0, doing (cmdOf 770 [0, 0x0F] 0) up, by decide +kernel⟩,
  ⟨16, cmdOf 771 [] 0, doing (cmdOf 771 [] 0) up, by decide +kernel⟩,
  ⟨16, cmdOf 772 [] 2, doing (cmdOf 772 [] 2) up, by decide +kernel⟩,
  ⟨16, cmdOf 1024 [] 0, doing (cmdOf 1024 [] 0) up, by decide +kernel⟩,
  ⟨16, cmdOf 1024 [] 0, doing (cmdOf 1024 [] 0) { up with rs := Raster.reset }, by decide +kernel⟩,
  ⟨16, cmdOf 1028 [] 0, doing (cmdOf 1028 [] 0) up, by decide +kernel⟩⟩

theorem witness_CommittingCommands :
  (∃ (tag : Fin 64) (c : RunCmd) (s : State), s.atStep (tag.val) 1025 = some c) ∧
  (∃ (tag : Fin 64) (c : RunCmd) (s : State), s.atStep (tag.val) 1026 = some c ∧ s.mode = Mode.calibrate ∧ s.dthChanges
    (BitVec.ofNat 32 (leAt ((cfgAt s.cfg 16 (byteAt c.params 0)).getD []) 72 4)) = false) ∧
  (∃ (tag : Fin 64) (c : RunCmd) (s : State), s.atStep (tag.val) 1027 = some c) ∧
  (∃ (tag : Fin 64) (c : RunCmd) (s : State), s.atStep (tag.val) 1280 = some c) ∧
  (∃ (tag : Fin 64) (c : RunCmd) (s : State), s.atStep (tag.val) 1281 = some c ∧ byteAt c.params 0 = 0) ∧
  (∃ (tag : Fin 64) (c : RunCmd) (s : State) (len : Nat), s.atStep (tag.val) 1283 = some c ∧ len = 16 + 4 * leAt (s.stagedAt
    (leAt c.params 0 4) 16) 2 2 ∧ stagedFits (leAt c.params 0 4) len = true ∧ s.stagedOk (leAt c.params 0 4) len = true) ∧
  (∃ (tag : Fin 64) (c : RunCmd) (s : State) (dth : Word), s.atStep (tag.val) 1284 = some c ∧ dth = s.depthCtrl ((byteAt
    c.params 0).testBit 2) ∧ s.dthChanges dth = false) ∧
  (∃ (tag : Fin 64) (c : RunCmd) (s : State), s.atStep (tag.val) 1537 = some c ∧ byteAt c.params 0 < 4 ∧ s.live R.DMR_CTRL =
    BitVec.ofNat 32 (byteAt c.params 0)) ∧
  (∃ (tag : Fin 64) (c : RunCmd) (s : State), s.atStep (tag.val) 1538 = some c ∧ c.step = 1) ∧
  (∃ (tag : Fin 64) (c : RunCmd) (s : State), s.atStep (tag.val) 1539 = some c) ∧
  (∃ (tag : Fin 64) (c : RunCmd) (s : State), s.atStep (tag.val) 1540 = some c ∧ c.step = 2) ∧
  (∃ (tag : Fin 64) (c : RunCmd) (s : State) (v : Word), s.atStep (tag.val) 1541 = some c ∧ v = withBits (s.reg R.DTH_CTRL) 0 6
    (byteAt c.params 0) ∧ s.dthChanges v = false) ∧
  (∃ (tag : Fin 64) (c : RunCmd) (s : State), s.atStep (tag.val) 1792 = some c) ∧
  (∃ (tag : Fin 64) (c : RunCmd) (s : State), s.atStep (tag.val) 1793 = some c) ∧
  (∃ (tag : Fin 64) (c : RunCmd) (s : State), s.atStep (tag.val) 1794 = some c) ∧
  (∃ (tag : Fin 64) (c : RunCmd) (s : State), s.atStep (tag.val) 1799 = some c) ∧
  (∃ (tag : Fin 64) (c : RunCmd) (s : State), s.atStep (tag.val) 1800 = some c) ∧
  (∃ (tag : Fin 64) (c : RunCmd) (s : State), s.atStep (tag.val) 2050 = some c ∧ c.step = 2) ∧
  (∃ (tag : Fin 64) (c : RunCmd) (s : State), s.atStep (tag.val) 2051 = some c) ∧
  (∃ (c : RunCmd) (l : CommitList) (luts : List Blk) (write : State → State) (s : State) (u : State) (p : Blk × Bool) (f :
    CommitBits), s.cmd c.tag = some c ∧ s.rs.running = true ∧ s.shadowsFree l = true ∧ (∀ p ∈ l, s.on p.1.domain = true) ∧
    (write s).firstRefused luts l = none ∧ (∀ p ∈ l, p.1 ≠ Blk.saf) ∧ u = write (s.waitIn c.tag CmdPhase.waitCommit (0 ::
    commitCodes l)) ∧ u.rs.running = true ∧ u.cmd c.tag = some { c with phase := .waitCommit, note := 0 :: commitCodes l } ∧ l
    ≠ [] ∧ (∀ p ∈ l, u.acts p.1.domain = true ∧ ∃ f, commitBits p.1 p.2 = some f ∧ u.flag f.commit = false) ∧ p ∈ l ∧
    commitBits p.1 p.2 = some f) ∧
  (∃ (c : RunCmd) (l : CommitList) (luts : List Blk) (write : State → State) (s : State) (u : State), s.cmd c.tag = some c ∧
    s.rs.running = true ∧ s.shadowsFree l = true ∧ (∀ p ∈ l, s.on p.1.domain = true) ∧ (write s).firstRefused luts l = none ∧
    (∀ p ∈ l, p.1 ≠ Blk.saf) ∧ u = write (s.waitIn c.tag CmdPhase.waitCommit (0 :: commitCodes l)) ∧ u.rs.running = true ∧
    u.cmd c.tag = some { c with phase := .waitCommit, note := 0 :: commitCodes l } ∧ l ≠ [] ∧ (∀ p ∈ l, u.acts p.1.domain =
    true ∧ ∃ f, commitBits p.1 p.2 = some f ∧ u.flag f.commit = false)) ∧
  (∃ (u : State), u.acts Domain.pix = true ∧ u.flag F.ODV_COMMIT_LOCKED = false) ∧
  (∃ (u : State), u.acts Domain.panel = true ∧ u.flag F.BIAS_COMMIT_LOCKED = false) ∧
  (∃ (u : State), u.acts Domain.pix = true ∧ u.flag F.LDA_COMMIT_LOCKED = false) :=
  ⟨⟨16, cmdOf 1025 [] 0, doing (cmdOf 1025 [] 0) up, by decide +kernel⟩,
  ⟨16, cmdOf 1026 [] 0, doing (cmdOf 1026 [] 0) ({ noDither with pw := (inMode .calibrate).pw }), by decide +kernel⟩,
  ⟨16, cmdOf 1027 [] 0, doing (cmdOf 1027 [] 0) up, by decide +kernel⟩,
  ⟨16, cmdOf 1280 [] 0, doing (cmdOf 1280 [] 0) up, by decide +kernel⟩,
  ⟨16, cmdOf 1281 [] 0, doing (cmdOf 1281 [] 0) up, by decide +kernel⟩,
  ⟨16, cmdOf 1283 [] 0, doing (cmdOf 1283 [] 0) (staged 16), 16, by decide +kernel⟩,
  ⟨16, cmdOf 1284 [] 0, doing (cmdOf 1284 [] 0) up, _, by decide +kernel, rfl, by decide +kernel⟩,
  ⟨16, cmdOf 1537 [0] 0, doing (cmdOf 1537 [0] 0) up, by decide +kernel⟩,
  ⟨16, cmdOf 1538 [] 1, doing (cmdOf 1538 [] 1) up, by decide +kernel⟩,
  ⟨16, cmdOf 1539 [] 0, doing (cmdOf 1539 [] 0) up, by decide +kernel⟩,
  ⟨16, cmdOf 1540 [] 2, doing (cmdOf 1540 [] 2) up, by decide +kernel⟩,
  ⟨16, cmdOf 1541 [] 0, doing (cmdOf 1541 [] 0) noDither, _, by decide +kernel, rfl, by decide +kernel⟩,
  ⟨16, cmdOf 1792 [] 0, doing (cmdOf 1792 [] 0) up, by decide +kernel⟩,
  ⟨16, cmdOf 1793 [] 0, doing (cmdOf 1793 [] 0) up, by decide +kernel⟩,
  ⟨16, cmdOf 1794 [] 0, doing (cmdOf 1794 [] 0) up, by decide +kernel⟩,
  ⟨16, cmdOf 1799 [] 0, doing (cmdOf 1799 [] 0) up, by decide +kernel⟩,
  ⟨16, cmdOf 1800 [] 0, doing (cmdOf 1800 [] 0) up, by decide +kernel⟩,
  ⟨16, cmdOf 2050 [] 2, doing (cmdOf 2050 [] 2) up, by decide +kernel⟩,
  ⟨16, cmdOf 2051 [] 0, doing (cmdOf 2051 [] 0) up, by decide +kernel⟩,
  ⟨cmdOf 1537 [0] 0, [(.lda, false)], [], id, doing (cmdOf 1537 [0] 0) up, State.waitIn (doing (cmdOf 1537 [0] 0) up) 16
    .waitCommit (0 :: commitCodes [(.lda, false)]), (.lda, false), (commitBits .lda false).get (by decide +kernel),
    by decide +kernel, by decide +kernel, by decide +kernel, by decide +kernel, by decide +kernel, by decide +kernel, rfl,
    by decide +kernel, by decide +kernel, by decide +kernel, fun p hp => by rw [List.mem_singleton.mp hp]; exact
    ⟨by decide +kernel, _, rfl, by decide +kernel⟩, by decide +kernel, rfl⟩,
  ⟨cmdOf 1537 [0] 0, [(.lda, false)], [], id, doing (cmdOf 1537 [0] 0) up, State.waitIn (doing (cmdOf 1537 [0] 0) up) 16
    .waitCommit (0 :: commitCodes [(.lda, false)]), by decide +kernel, by decide +kernel, by decide +kernel,
    by decide +kernel, by decide +kernel, by decide +kernel, rfl, by decide +kernel, by decide +kernel, by decide +kernel, fun
    p hp => by rw [List.mem_singleton.mp hp]; exact ⟨by decide +kernel, _, rfl, by decide +kernel⟩⟩,
  ⟨up, by decide +kernel⟩,
  ⟨up, by decide +kernel⟩,
  ⟨up, by decide +kernel⟩⟩

theorem witness_PanelCommands :
  (∃ (tag : Fin 64) (c : RunCmd) (s : State), s.atStep (tag.val) 1282 = some c ∧ s.on Domain.panel = true ∧ byteAt c.params 0 =
    1 ∧ (s.waitIn c.tag CmdPhase.waitEvent []).biasUp.biasBusy = true) ∧
  (∃ (tag : Fin 64) (c : RunCmd) (s : State), s.atStep (tag.val) 1286 = some c ∧ s.on Domain.panel = true) ∧
  (∃ (tag : Fin 64) (c : RunCmd) (s : State), s.atStep (tag.val) 1536 = some c ∧ c.step = 1 ∧ (s.dmrSource c.params).2 = true) ∧
  (∃ (tag : Fin 64) (c : RunCmd) (s : State), s.atStep (tag.val) 1536 = some c ∧ c.step = 1 ∧ (s.dmrSource c.params).2 = false) ∧
  (∃ (tag : Fin 64) (c : RunCmd) (s : State), s.atStep (tag.val) 1536 = some c ∧ 5 ≤ c.step ∧ s.crcHolds = false) ∧
  (∃ (tag : Fin 64) (c : RunCmd) (s : State), s.atStep (tag.val) 1795 = some c ∧ s.on Domain.light = true ∧ leAt c.params 0 2 ≠
    65535) ∧
  (∃ (tag : Fin 64) (c : RunCmd) (s : State), s.atStep (tag.val) 1797 = some c ∧ s.on Domain.light = true ∧ s.bl.latch = none ∧
    s.allDark = true ∧ s.bl.nbr = false) ∧
  (∃ (tag : Fin 64) (c : RunCmd) (s : State), s.atStep (tag.val) 1798 = some c ∧ s.on Domain.light = true ∧ byteAt c.params 0 =
    1) ∧
  (∃ (tag : Fin 64) (c : RunCmd) (s : State), s.atStep (tag.val) 2048 = some c ∧ c.mb ≠ 2) ∧
  (∃ (tag : Fin 64) (c : RunCmd) (s : State), s.atStep (tag.val) 2049 = some c ∧ byteAt c.params 0 = 1 ∧ (s.safeLatch
    true).rowOpen 13 = true) ∧
  (∃ (tag : Fin 64) (c : RunCmd) (s : State), s.atStep (tag.val) 2049 = some c ∧ byteAt c.params 0 ≠ 1 ∧ s.mode =
    Mode.telltaleOnly ∧ s.saf.run < 8) ∧
  (∃ (tag : Fin 64) (c : RunCmd) (s : State), s.atStep (tag.val) 2049 = some c ∧ byteAt c.params 0 ≠ 1 ∧ s.mode =
    Mode.telltaleOnly ∧ 8 ≤ s.saf.run) ∧
  (∃ (tag : Fin 64) (c : RunCmd) (s : State), s.atStep (tag.val) 2054 = some c) ∧
  (∃ (tag : Fin 64) (c : RunCmd) (s : State), s.atStep (tag.val) 2304 = some c ∧ s.mode.isV = true ∧ s.ttAsked = false) ∧
  (∃ (tag : Fin 64) (c : RunCmd) (s : State), s.atStep (tag.val) 2305 = some c ∧ s.calCmd = none) ∧
  (∃ (tag : Fin 64) (c : RunCmd) (s : State), s.atStep (tag.val) 2308 = some c ∧ s.on Domain.light = true) ∧
  (∃ (tag : Fin 64) (c : RunCmd) (s : State), s.atStep (tag.val) 2309 = some c ∧ c.step = 0 ∧ s.stagedOk (leAt c.params 0 4)
    calRecLen = false) ∧
  (∃ (tag : Fin 64) (c : RunCmd) (s : State) (n : Nat × Nat) (u : State), s.atStep (tag.val) 2309 = some c ∧ 3 ≤ c.step ∧
    restoreGroup (fun s i => s.restoreSink (s.stagedAt (leAt c.params 0 4) calRecLen) i) (List.range 192) s = (n, u)) :=
  ⟨⟨16, cmdOf 1282 [1] 0, doing (cmdOf 1282 [1] 0) up, by decide +kernel⟩,
  ⟨16, cmdOf 1286 [] 0, doing (cmdOf 1286 [] 0) up, by decide +kernel⟩,
  ⟨16, cmdOf 1536 [2] 1, doing (cmdOf 1536 [2] 1) (staged 0), by decide +kernel⟩,
  ⟨16, cmdOf 1536 [2] 1, doing (cmdOf 1536 [2] 1) up, by decide +kernel⟩,
  ⟨16, cmdOf 1536 [] 5, doing (cmdOf 1536 [] 5) up, by decide +kernel⟩,
  ⟨16, cmdOf 1795 [0xFE, 0xFF] 0, doing (cmdOf 1795 [0xFE, 0xFF] 0) up, by decide +kernel⟩,
  ⟨16, cmdOf 1797 [] 0, doing (cmdOf 1797 [] 0) (inMode .calibrate), by decide +kernel⟩,
  ⟨16, cmdOf 1798 [1] 0, doing (cmdOf 1798 [1] 0) up, by decide +kernel⟩,
  ⟨16, cmdOf 2048 [] 0, doing (cmdOf 2048 [] 0) up, by decide +kernel⟩,
  ⟨16, cmdOf 2049 [1] 0, doing (cmdOf 2049 [1] 0) up, by decide +kernel⟩,
  ⟨16, cmdOf 2049 [] 0, doing (cmdOf 2049 [] 0) ({ inMode .telltaleOnly with saf := { up.saf with run := 7 } }),
    by decide +kernel⟩,
  ⟨16, cmdOf 2049 [] 0, doing (cmdOf 2049 [] 0) ({ inMode .telltaleOnly with saf := { up.saf with run := 8 } }),
    by decide +kernel⟩,
  ⟨16, cmdOf 2054 [] 0, doing (cmdOf 2054 [] 0) up, by decide +kernel⟩,
  ⟨16, cmdOf 2304 [] 0, doing (cmdOf 2304 [] 0) up, by decide +kernel⟩,
  ⟨16, cmdOf 2305 [] 0, doing (cmdOf 2305 [] 0) up, by decide +kernel⟩,
  ⟨16, cmdOf 2308 [] 0, doing (cmdOf 2308 [] 0) up, by decide +kernel⟩,
  ⟨16, cmdOf 2309 [] 0, doing (cmdOf 2309 [] 0) up, by decide +kernel⟩,
  ⟨16, cmdOf 2309 [] 3, doing (cmdOf 2309 [] 3) up, _, _, by decide +kernel, by decide +kernel, rfl⟩⟩

theorem witness_MemoryCommands :
  (∃ (tag : Fin 64) (c : RunCmd) (s : State) (e : Nat) (bs : List Byte) (u : State), s.atStep (tag.val) 2560 = some c ∧
    s.busRead Master.core (leAt c.params 0 4) 8 e = (Access.done bs, u)) ∧
  (∃ (tag : Fin 64) (c : RunCmd) (s : State) (e : Nat) (u : State), s.atStep (tag.val) 2560 = some c ∧ s.busRead Master.core
    (leAt c.params 0 4) 8 e = (Access.error, u)) ∧
  (∃ (tag : Fin 64) (c : RunCmd) (s : State) (e : Nat) (bs : List Byte) (u : State), s.atStep (tag.val) 2561 = some c ∧ byteAt
    c.params 4 = 8 ∧ s.busWrite Master.core (leAt c.params 0 4) (List.take 8 (List.drop 8 c.params)) e = (Access.done bs, u)) ∧
  (∃ (tag : Fin 64) (c : RunCmd) (s : State) (ecc : List (Nat × Nat)) (n : Nat × Nat) (u : State), s.atStep (tag.val) 2562 =
    some c ∧ s.on Domain.pix = true ∧ leAt c.params 12 4 ≠ 0 ∧ leAt c.params 12 4 ≤ 1048576 * (c.step + 1) ∧ byteAt c.params 0
    ≠ 2 ∧ State.jobWords c.dmaJob ecc (c.dmaJob.len / 8) 0 (c.note.getD 0 0, c.note.getD 1 4294967295) s = (some n, u)) ∧
  (∃ (tag : Fin 64) (c : RunCmd) (s : State), s.atStep (tag.val) 2563 = some c) ∧
  (∃ (tag : Fin 64) (c : RunCmd) (s : State), s.atStep (tag.val) 2816 = some c ∧ (byteAt c.params 2).testBit 1 = true) ∧
  (∃ (tag : Fin 64) (c : RunCmd) (s : State) (a : Nat), s.atStep (tag.val) 2817 = some c ∧ s.logEntryAddr (leAt c.params 0 2) =
    some a ∧ byteAt c.params 2 = 0) ∧
  (∃ (tag : Fin 64) (c : RunCmd) (s : State), s.atStep (tag.val) 2819 = some c) ∧
  (∃ (tag : Fin 64) (c : RunCmd) (s : State) (bs : List Byte) (u : State) (b : Blk), s.atStep (tag.val) 3328 = some c ∧ blkOf
    (leAt c.params 0 4) = some b ∧ s.on b.domain = true ∧ s.regRead Master.core (leAt c.params 0 4) = (Access.done bs, u)) ∧
  (∃ (tag : Fin 64) (c : RunCmd) (s : State) (bs : List Byte) (u : State) (b : Blk), s.atStep (tag.val) 3329 = some c ∧ blkOf
    (leAt c.params 0 4) = some b ∧ s.on b.domain = true ∧ leAt c.params 8 4 = 4294967295 ∧ (s.regWrite (leAt c.params 0 4)
    (BitVec.ofNat 32 (leAt c.params 4 4))).regRead Master.core (leAt c.params 0 4) = (Access.done bs, u)) :=
  ⟨⟨16, cmdOf 2560 (le4 [8]) 0, doing (cmdOf 2560 (le4 [8]) 0) up, 0, List.replicate 8 0, _, by decide +kernel, fstEq _
    (by decide +kernel)⟩,
  ⟨16, cmdOf 2560 (le4 [4]) 0, doing (cmdOf 2560 (le4 [4]) 0) up, 0, _, by decide +kernel, fstEq _ (by decide +kernel)⟩,
  ⟨16, cmdOf 2561 (le4 [8, 8, 1, 2]) 0, doing (cmdOf 2561 (le4 [8, 8, 1, 2]) 0) up, 0, [], _, by decide +kernel,
    by decide +kernel, fstEq _ (by decide +kernel)⟩,
  ⟨16, cmdOf 2562 (le4 [0, 0, 16, 8, 0]) 0, doing (cmdOf 2562 (le4 [0, 0, 16, 8, 0]) 0) up, [], (0, 4294967295), _,
    by decide +kernel, by decide +kernel, by decide +kernel, by decide +kernel, by decide +kernel, fstEq _
    (by decide +kernel)⟩,
  ⟨16, cmdOf 2563 [] 0, doing (cmdOf 2563 [] 0) up, by decide +kernel⟩,
  ⟨16, cmdOf 2816 [0, 0, 2] 0, doing (cmdOf 2816 [0, 0, 2] 0) up, by decide +kernel⟩,
  ⟨16, cmdOf 2817 [0, 0, 0] 0, doing (cmdOf 2817 [0, 0, 0] 0) oneEntry, flogBase + 16 * 8063, by decide +kernel⟩,
  ⟨16, cmdOf 2819 [] 0, doing (cmdOf 2819 [] 0) up, by decide +kernel⟩,
  ⟨16, cmdOf 3328 (le4 [0x10080014]) 0, doing (cmdOf 3328 (le4 [0x10080014]) 0) up, leBytes 4 (regReset 0x10080014).toNat, _,
    .odv, by decide +kernel, by decide +kernel, by decide +kernel, fstEq _ (by decide +kernel)⟩,
  ⟨16, cmdOf 3329 (le4 [0x10080014, 5, 0xFFFFFFFF]) 0, doing (cmdOf 3329 (le4 [0x10080014, 5, 0xFFFFFFFF]) 0) up, [5, 0, 0, 0],
    _, .odv, by decide +kernel, by decide +kernel, by decide +kernel, by decide +kernel, fstEq _ (by decide +kernel)⟩⟩

theorem witness_UpdateCommands :
  (∃ (tag : Fin 64) (c : RunCmd) (s : State), s.atStep (tag.val) 3072 = some c) ∧
  (∃ (tag : Fin 64) (c : RunCmd) (s : State) (base : Nat) (len : Nat), s.atStep (tag.val) 3073 = some c ∧ s.partOf (byteAt
    c.params 0) = some (base, len) ∧ s.flashHeld = false ∧ c.step = 0 ∧ 0 < leAt c.params 8 4 ∧ leAt c.params 8 4 ≤ 65536) ∧
  (∃ (tag : Fin 64) (c : RunCmd) (s : State) (k : Nat), s.atStep (tag.val) 3074 = some c ∧ c.step = 0 ∧ c.note = [] ∧ k < 5 ∧
    byteAt c.params 0 = 2 ^ k) ∧
  (∃ (tag : Fin 64) (c : RunCmd) (s : State), s.atStep (tag.val) 3075 = some c ∧ c.step = 0) ∧
  (∃ (tag : Fin 64) (c : RunCmd) (s : State), s.atStep (tag.val) 3075 = some c ∧ c.step = 1 ∧ s.flashHeld = false ∧ s.pw.rom =
    false) ∧
  (∃ (tag : Fin 64) (c : RunCmd) (s : State), s.atStep (tag.val) 3076 = some c ∧ (s.mail.cmds.all fun d => decide (d.opcode ≠
    3073) && decide (d.opcode ≠ 3074)) = true ∧ s.flashStep = false) ∧
  (∃ (tag : Fin 64) (c : RunCmd) (s : State), s.atStep (tag.val) 3077 = some c ∧ s.mail.lockedOut = true) ∧
  (∃ (tag : Fin 64) (c : RunCmd) (s : State) (n : Nat) (u : State), s.atStep (tag.val) 3077 = some c ∧ s.mail.lockedOut = false
    ∧ s.random (2 ^ 64) = (n, u)) ∧
  (∃ (tag : Fin 64) (c : RunCmd) (s : State) (n : Nat), s.atStep (tag.val) 3078 = some c ∧ s.mail.nonce = some n) ∧
  (∃ (tag : Fin 64) (c : RunCmd) (s : State), s.atStep (tag.val) 3079 = some c) :=
  ⟨⟨16, cmdOf 3072 [] 0, doing (cmdOf 3072 [] 0) up, by decide +kernel⟩,
  ⟨16, cmdOf 3073 (le4 [1, 0, 0x10000]) 0, doing (cmdOf 3073 (le4 [1, 0, 0x10000]) 0) up, assetBase, assetSize,
    by decide +kernel⟩,
  ⟨16, cmdOf 3074 [16] 0, doing (cmdOf 3074 [16] 0) up, 4, by decide +kernel⟩,
  ⟨16, cmdOf 3075 [] 0, doing (cmdOf 3075 [] 0) up, by decide +kernel⟩,
  ⟨16, cmdOf 3075 [] 1, doing (cmdOf 3075 [] 1) up, by decide +kernel⟩,
  ⟨16, cmdOf 3076 [] 0, doing (cmdOf 3076 [] 0) up, by decide +kernel⟩,
  ⟨16, cmdOf 3077 [] 0, doing (cmdOf 3077 [] 0) ({ up with mail := { up.mail with lockedOut := true } }), by decide +kernel⟩,
  ⟨16, cmdOf 3077 [] 0, doing (cmdOf 3077 [] 0) up, _, _, by decide +kernel, by decide +kernel, rfl⟩,
  ⟨16, cmdOf 3078 [] 0, doing (cmdOf 3078 [] 0) ({ up with mail := { up.mail with nonce := some 0 } }), 0, by decide +kernel⟩,
  ⟨16, cmdOf 3079 [] 0, doing (cmdOf 3079 [] 0) up, by decide +kernel⟩⟩

theorem witness_DmaChannels :
  (∃ (n : Fin 16) (s : State), s.on Domain.ctrl = true ∧ s.dma.chans.length = 16 ∧ s.chanIdle n.val = true) ∧
  (∃ (n : Fin 16) (s : State), s.on Domain.ctrl = true ∧ s.dma.chans.length = 16 ∧ heavy n.val = true ∧ (s.chan n.val).job =
    true ∧ s.dma.engine ≠ some n.val ∧ s.flag (F.DMA_CH_CTRL_EN n.val) = true ∧ s.flag (F.DMA_CH_CTRL_GO n.val) = false ∧
    s.flag (F.DMA_CH_CTRL_CLR_HALT n.val) = false) ∧
  (∃ (n : Fin 16) (s : State), s.on Domain.ctrl = true ∧ s.dma.chans.length = 16 ∧ heavy n.val = true ∧ (s.chan n.val).job =
    true ∧ s.dma.engine ≠ some n.val ∧ s.flag (F.DMA_CH_CTRL_EN n.val) = true ∧ s.flag (F.DMA_CH_CTRL_GO n.val) = false ∧
    s.flag (F.DMA_CH_CTRL_CLR_HALT n.val) = false ∧ (s.chan n.val).paused = true ∧ s.flag (F.DMA_CH_CTRL_PAUSE n.val) = true) ∧
  (∃ (n : Fin 16) (s : State), s.on Domain.ctrl = true ∧ s.dma.chans.length = 16 ∧ heavy n.val = true ∧ (s.chan n.val).job =
    true ∧ s.dma.engine ≠ some n.val ∧ s.flag (F.DMA_CH_CTRL_EN n.val) = true ∧ s.flag (F.DMA_CH_CTRL_GO n.val) = false ∧
    s.flag (F.DMA_CH_CTRL_CLR_HALT n.val) = false ∧ (s.chan n.val).halted = false ∧ (s.chan n.val).desc = none) ∧
  (∃ (n : Fin 16) (s : State), s.on Domain.ctrl = true ∧ s.dma.chans.length = 16 ∧ heavy n.val = false ∧ (s.chan n.val).job =
    true ∧ (s.chan n.val).halted = false ∧ (s.dma.engine ≠ some n.val ∨ (s.chan n.val).desc = none)) ∧
  (∃ (n : Fin 16) (s : State), s.on Domain.ctrl = true ∧ s.dma.chans.length = 16 ∧ (s.chan n.val).halted = true ∧ s.flag
    (F.DMA_CH_CTRL_EN n.val) = false) :=
  ⟨⟨3, up, by decide +kernel⟩,
  ⟨12,
    { fs up [(F.DMA_CH_CTRL_EN 12, 1)] with dma := { up.dma with chans := listSet up.dma.chans 12 { Channel.reset with job := true } } },
    by decide +kernel⟩,
  ⟨15,
    { fs up [(F.DMA_CH_CTRL_EN 15, 1), (F.DMA_CH_CTRL_PAUSE 15, 1)] with dma := { up.dma with chans := listSet up.dma.chans 15 { Channel.reset with job := true, paused := true } } },
    by decide +kernel⟩,
  ⟨12,
    { fs up [(F.DMA_CH_CTRL_EN 12, 1)] with dma := { up.dma with chans := listSet up.dma.chans 12 { Channel.reset with job := true } } },
    by decide +kernel⟩,
  ⟨3, { up with dma := { up.dma with chans := listSet up.dma.chans 3 { Channel.reset with job := true } } }, by decide +kernel⟩,
  ⟨0, { fs up [] with dma := { up.dma with chans := listSet up.dma.chans 0 { Channel.reset with halted := true } } },
    by decide +kernel⟩⟩

theorem witness_EmptyDescriptor :
  (∃ (n : Nat) (s : State), s.on Domain.ctrl = true ∧ s.dma.chans.length = 16 ∧ s.flag F.DMA_CTRL_ENGINE_EN = true ∧
    s.dma.engine = none ∧ n < 16 ∧ s.chanReady n = true ∧ (∀ k < n, s.chanReady k = false) ∧ (s.chan n).desc = none ∧
    BitVec.getLsbD (s.byte (BitVec.toNat (s.reg (R.DMA_CH_DESC n)) + 3)) 7 = false) :=
  ⟨15,
    { fs up [(F.DMA_CTRL_ENGINE_EN, 1), (F.DMA_CH_CTRL_EN 15, 1), (F.DMA_CH_COUNT_VAL 15, 1)] with dma := { up.dma with chans := listSet up.dma.chans 15 { Channel.reset with job := true } } },
    by decide +kernel⟩

theorem witness_DmaWork :
  (∃ (s : State) (n : Nat), s.on Domain.ctrl = true ∧ s.flag F.DMA_CTRL_ENGINE_EN = true ∧ s.dma.engine = none ∧ n < 16 ∧
    s.dma.chans.length = 16 ∧ s.chanReady n = true ∧ (∀ k < n, s.chanReady k = false) ∧ s.flag (F.DMA_CH_CTRL_PACE_EN n) =
    false ∧ (s.chan n).desc.isSome = true) ∧
  (∃ (s : State) (n : Nat) (a : Nat), s.on Domain.ctrl = true ∧ s.flag F.DMA_CTRL_ENGINE_EN = true ∧ s.dma.engine = none ∧ n <
    16 ∧ s.dma.chans.length = 16 ∧ s.chanReady n = true ∧ (∀ k < n, s.chanReady k = false) ∧ s.flag (F.DMA_CH_CTRL_PACE_EN n)
    = false ∧ a = BitVec.toNat (s.reg (R.DMA_CH_DESC n)) ∧ (s.chan n).desc = none ∧ BitVec.getLsbD (s.byte (a + 3)) 7 = true ∧
    s.descStatus n (s.descAt a) = stOk) ∧
  (∃ (s : State) (n : Nat) (a : Nat), s.on Domain.ctrl = true ∧ s.flag F.DMA_CTRL_ENGINE_EN = true ∧ s.dma.engine = none ∧ n <
    16 ∧ s.dma.chans.length = 16 ∧ s.chanReady n = true ∧ (∀ k < n, s.chanReady k = false) ∧ s.flag (F.DMA_CH_CTRL_PACE_EN n)
    = false ∧ a = BitVec.toNat (s.reg (R.DMA_CH_DESC n)) ∧ (s.chan n).desc = none ∧ BitVec.getLsbD (s.byte (a + 3)) 7 = true ∧
    s.descStatus n (s.descAt a) ≠ stOk) ∧
  (∃ (s : State) (n : Nat) (d : Desc), s.on Domain.ctrl = true ∧ s.atWork = some (n, d) ∧ n < 16 ∧ s.dma.chans.length = 16 ∧
    s.draining n = false ∧ d.words ≤ (s.chan n).done ∧ (s.fld (F.DMA_CH_COUNT_VAL n) ≤ 1 ∨ d.next = 0)) ∧
  (∃ (s : State) (n : Nat) (d : Desc), s.on Domain.ctrl = true ∧ s.atWork = some (n, d) ∧ n < 16 ∧ s.dma.chans.length = 16 ∧
    s.draining n = true ∧ (s.chan n).stopping = false ∧ s.flag (F.DMA_CH_CTRL_PACE_EN n) = false) ∧
  (∃ (s : State) (n : Fin 16) (v : Word), s.on Domain.ctrl = true ∧ (s.chan n.val).job = true ∧ s.fld (F.DMA_CH_COUNT_VAL n.val)
    + v.toNat % 65536 ≤ 65535) ∧
  (∃ (s : State) (v : Word), s.on Domain.ctrl = true ∧ s.dma.engine = none ∧ v.toNat < 2 ^ 24) :=
  ⟨⟨dmaUp { Channel.reset with job := true, desc := some desc0 } 0, 0, by decide +kernel⟩,
  ⟨goodDesc, 0, pondBLo + 0x1000, by decide +kernel⟩,
  ⟨badDesc, 0, pondBLo + 0x1000, by decide +kernel⟩,
  ⟨busy0, 0, desc0, by decide +kernel⟩,
  ⟨paused12, 12, desc0, by decide +kernel⟩,
  ⟨{ up with dma := { up.dma with chans := listSet up.dma.chans 5 { Channel.reset with job := true } } }, 5, 65535,
    by decide +kernel⟩,
  ⟨up, 0xFFFFFF, by decide +kernel⟩⟩

set_option maxRecDepth 20000 in
theorem witness_CalibrationSteps :
  (∃ (s : State) (r : CalRun) (l : Nat), s.on Domain.ctrl = true ∧ s.cal.run = some r ∧ s.calActive (CalElem.lane l) = true ∧
    (r.kind = calFull ∨ 1024 ≤ r.slots)) ∧
  (∃ (s : State) (r : CalRun), s.on Domain.ctrl = true ∧ s.cal.run = some r ∧ s.calActive CalElem.backChannel = true ∧ 16 ≤
    r.bursts) ∧
  (∃ (s : State) (r : CalRun) (k : Nat), s.on Domain.ctrl = true ∧ s.cal.run = some r ∧ s.calActive (CalElem.photodiode k) =
    true) ∧
  (∃ (s : State) (r : CalRun) (c : Nat), s.on Domain.ctrl = true ∧ s.cal.run = some r ∧ s.calActive (CalElem.sink c) = true) ∧
  (∃ (s : State) (r : CalRun) (l : Nat) (a : CalEye), s.on Domain.ctrl = true ∧ s.cal.run = some r ∧ r.kind ≠ calFull ∧
    s.cal.held = true ∧ l < 9 ∧ s.calActive (CalElem.lane l) = true ∧ 1024 ≤ r.slots ∧ s.eyeRefused r.kind l a = false) ∧
  (∃ (s : State) (r : CalRun) (l : Nat) (a : CalEye), s.on Domain.ctrl = true ∧ s.cal.run = some r ∧ r.kind ≠ calFull ∧
    s.cal.held = true ∧ l < 9 ∧ s.calActive (CalElem.lane l) = true ∧ 1024 ≤ r.slots ∧ s.eyeRefused r.kind l a = true) ∧
  (∃ (s : State) (r : CalRun) (k : Nat) (m : Nat), s.on Domain.ctrl = true ∧ s.cal.run = some r ∧ r.kind ≠ calFull ∧ s.cal.held
    = true ∧ k < 3 ∧ s.calActive (CalElem.photodiode k) = true ∧ (s.darkMean k).1.1 = m ∧ 256 ≤ (List.map (fun x => x.2)
    s.cal.dark).sum ∧ m ≤ 4096 ∧ m ≤ s.fld (F.OPT_PD_OFS_VAL k) + 1024 ∧ s.fld (F.OPT_PD_OFS_VAL k) ≤ m + 1024) ∧
  (∃ (s : State) (r : CalRun) (c : Nat) (l : List Nat), s.on Domain.ctrl = true ∧ s.cal.run = some r ∧ r.kind ≠ calFull ∧
    s.cal.held = true ∧ c < 192 ∧ s.calActive (CalElem.sink c) = true ∧ cellOff (chooseCells l).1 ≤ 600) ∧
  (∃ (s : State) (r : CalRun) (l : Nat), s.on Domain.ctrl = true ∧ s.cal.run = some r ∧ r.kind ≠ calFull ∧ s.cal.held = true ∧ l
    < 9 ∧ s.calLane = some l ∧ 64 ≤ r.frames) ∧
  (∃ (s : State) (r : CalRun), s.on Domain.ctrl = true ∧ s.cal.run = some r ∧ s.calActive CalElem.backChannel = true ∧ s.mode =
    Mode.calibrate) ∧
  (∃ (s : State) (r : CalRun), s.on Domain.ctrl = true ∧ s.cal.run = some r ∧ s.calActive CalElem.backChannel = true ∧ s.mode ≠
    Mode.calibrate ∧ s.rs.running = true ∧ r.burstAt ≠ some s.frame) ∧
  (∃ (s : State) (r : CalRun) (l : Nat), s.on Domain.ctrl = true ∧ s.cal.run = some r ∧ s.calLane = some l ∧ r.kind ≠ calFull ∧
    64 ≤ r.frames) ∧
  (∃ (s : State) (v : Word), s.on Domain.ctrl = true ∧ mapOk v = false) ∧
  (∃ (s : State) (v : Word), s.on Domain.ctrl = true ∧ mapOk v = true ∧ s.cal.run = none ∧ s.cal.laneDue = []) ∧
  (∃ (s : State) (v : Word), s.on Domain.ctrl = true ∧ maskOk (v.toNat % 65536) = true ∧ s.cal.run = none ∧ s.cal.sinkDue = []) :=
  ⟨⟨{ up with cal := { up.cal with run := some ⟨calTrig, [.lane 8], 1024, 0, 0, none, false⟩, held := false } }, ⟨calTrig, [.lane
    8], 1024, 0, 0, none, false⟩, 8, by decide +kernel⟩,
  ⟨{ up with cal := { up.cal with run := some ⟨calTrig, [.backChannel], 0, 16, 0, none, false⟩, held := false } }, ⟨calTrig,
    [.backChannel], 0, 16, 0, none, false⟩, by decide +kernel⟩,
  ⟨{ up with cal := { up.cal with run := some ⟨calTrig, [.photodiode 2], 0, 0, 0, none, false⟩, held := false } }, ⟨calTrig,
    [.photodiode 2], 0, 0, 0, none, false⟩, 2, by decide +kernel⟩,
  ⟨{ up with cal := { up.cal with run := some ⟨calTrig, [.sink 191], 0, 0, 0, none, false⟩, held := false } }, ⟨calTrig, [.sink
    191], 0, 0, 0, none, false⟩, 191, by decide +kernel⟩,
  ⟨{ up with cal := { up.cal with run := some ⟨calLinkUp, [.lane 8], 1024, 0, 0, none, false⟩, held := true } }, ⟨calLinkUp,
    [.lane 8], 1024, 0, 0, none, false⟩, 8, eye0, by decide +kernel⟩,
  ⟨{ up with cal := { up.cal with run := some ⟨calLinkUp, [.lane 8], 1024, 0, 0, none, false⟩, held := true } }, ⟨calLinkUp,
    [.lane 8], 1024, 0, 0, none, false⟩, 8, eyeBad, by decide +kernel⟩,
  ⟨{ up with cal := { up.cal with run := some ⟨calTrig, [.photodiode 2], 0, 0, 0, none, false⟩, held := true, dark := [([0, 0, 512], 256)] } },
    ⟨calTrig, [.photodiode 2], 0, 0, 0, none, false⟩, 2, 512, by decide +kernel⟩,
  ⟨{ up with cal := { up.cal with run := some ⟨calTrig, [.sink 191], 0, 0, 0, none, false⟩, held := true } }, ⟨calTrig, [.sink
    191], 0, 0, 0, none, false⟩, 191, List.replicate 16 3333, by decide +kernel⟩,
  ⟨{ up with cal := { up.cal with run := some ⟨calTrig, [.lane 8], 0, 0, 64, none, false⟩, held := true } }, ⟨calTrig, [.lane
    8], 0, 0, 64, none, false⟩, 8, by decide +kernel⟩,
  ⟨{ (inMode .calibrate) with cal := { up.cal with run := some ⟨calTrig, [.backChannel], 0, 0, 0, none, false⟩, held := false } },
    ⟨calTrig, [.backChannel], 0, 0, 0, none, false⟩, by decide +kernel⟩,
  ⟨{ up with cal := { up.cal with run := some ⟨calTrig, [.backChannel], 0, 0, 0, none, false⟩, held := false } }, ⟨calTrig,
    [.backChannel], 0, 0, 0, none, false⟩, by decide +kernel⟩,
  ⟨{ up with cal := { up.cal with run := some ⟨calTrig, [.lane 8], 0, 0, 64, none, false⟩, held := false } }, ⟨calTrig, [.lane
    8], 0, 0, 64, none, false⟩, 8, by decide +kernel⟩,
  ⟨up, 0x9, by decide +kernel⟩,
  ⟨up, 0x688, by decide +kernel⟩,
  ⟨up, 0x0FFF, by decide +kernel⟩⟩

theorem witness_TimeRead :
  (∃ (m : Master) (s : State), s.on Domain.ctrl = true ∧ m ≠ Master.seq) :=
  ⟨.port, up, by decide +kernel⟩

theorem witness_SnapshotsAndLogs :
  (∃ (s : State), s.on Domain.ctrl = true) ∧
  (∃ (n : Nat) (s : State), s.on Domain.ctrl = true ∧ s.on Domain.link = true ∧ (s.port 0).tx.gotCredit = true ∧ 16 ≤
    s.log.evtHeld ∧ s.evtFit s.log.evtHeld (s.fld F.SYS_EVT_RING_SEND) 16 = n ∧ n ≠ 0) ∧
  (∃ (w0 : Word) (w1 : Word) (w2 : Word) (w3 : Word) (bs : List Byte) (s : State), s.on Domain.ctrl = true ∧
    s.log.logStage.length ≤ 4 ∧ bs = (List.map (fun w => leBytes 4 (w.toNat)) [w0, w1, w2, w3]).flatten) ∧
  (∃ (w0 : Word) (w1 : Word) (w2 : Word) (w3 : Word) (bs : List Byte) (s : State), s.on Domain.ctrl = true ∧
    s.log.logStage.length ≤ 4 ∧ bs = (List.map (fun w => leBytes 4 (w.toNat)) [w0, w1, w2, w3]).flatten ∧ s.ringRuns = true ∧
    byteAt bs 2 % 4 = 0 ∧ s.log.logQ.length + byteAt bs 2 / 4 % 4 + 1 ≤ 32) ∧
  (∃ (w0 : Word) (w1 : Word) (w2 : Word) (w3 : Word) (bs : List Byte) (s : State), s.on Domain.ctrl = true ∧
    s.log.logStage.length ≤ 4 ∧ bs = (List.map (fun w => leBytes 4 (w.toNat)) [w0, w1, w2, w3]).flatten ∧ s.ringRuns = true ∧
    byteAt bs 2 % 4 = 0 ∧ 32 < s.log.logQ.length + byteAt bs 2 / 4 % 4 + 1) :=
  ⟨⟨up, by decide +kernel⟩,
  ⟨16, { evs with log := { up.log with evtHeld := 16 } }, by decide +kernel⟩,
  ⟨0, 1, 2, 3, [leBytes 4 0, leBytes 4 1, leBytes 4 2, leBytes 4 3].flatten, up, by decide +kernel⟩,
  ⟨0, 1, 2, 3, [leBytes 4 0, leBytes 4 1, leBytes 4 2, leBytes 4 3].flatten, up, by decide +kernel⟩,
  ⟨0, 1, 2, 3, [leBytes 4 0, leBytes 4 1, leBytes 4 2, leBytes 4 3].flatten,
    { up with log := { up.log with logQ := List.replicate 32 (.part [] true) } }, by decide +kernel⟩⟩

theorem witness_PinStates :
  (∃ (s : State) (p : Pin), s.on p.domain = false ∧ (p.domain = Domain.ctrl → s.mode ≠ Mode.standby ∧ s.pw.resume = false)) ∧
  (∃ (s : State), s.on Domain.link = true) ∧
  (∃ (s : State), s.on Domain.link = true) ∧
  (∃ (s : State), s.acts Domain.link = true) ∧
  (∃ (s : State), s.acts Domain.link = true ∧ s.pw.refclk = true) ∧
  (∃ (s : State), s.on Domain.panel = true ∧ s.flag F.COL_CTRL_RUN = false) ∧
  (∃ (s : State), s.on Domain.panel = true ∧ s.flag F.COL_CTRL_RUN = false) ∧
  (∃ (s : State), s.on Domain.panel = true ∧ s.flag F.COL_CTRL_RUN = true) ∧
  (∃ (s : State), s.on Domain.panel = true ∧ s.bias.vddPl = false) ∧
  (∃ (s : State), s.on Domain.panel = true ∧ s.bias.vddPl = true) ∧
  (∃ (s : State), s.on Domain.panel = true ∧ s.bias.vgh = false ∧ s.biasBusy = false) ∧
  (∃ (s : State), s.on Domain.panel = true ∧ s.bias.vgh = false ∧ s.biasBusy = false) ∧
  (∃ (s : State), s.on Domain.panel = true ∧ s.bias.vgh = true) ∧
  (∃ (s : State) (e : SleepEntry), s.pw.trans = Transition.entering e ∧ 5 ≤ e.voted ∧ s.on Domain.light = false ∧ s.on
    Domain.panel = false ∧ s.on Domain.link = false ∧ s.cal.run = none ∧ s.pw.pendReq = none ∧ s.mail.unlocked = false) ∧
  (∃ (s : State), s.mode = Mode.standby) ∧
  (∃ (s : State), s.on Domain.ctrl = true ∧ s.mode ≠ Mode.standby) ∧
  (∃ (s : State), s.on Domain.aon = true) :=
  ⟨⟨fs (inMode .dormant) [(Domain.ctrl.onFld, 0)], .intN, by decide +kernel⟩,
  ⟨up, by decide +kernel⟩,
  ⟨up, by decide +kernel⟩,
  ⟨up, by decide +kernel⟩,
  ⟨{ up with pw := { up.pw with refclk := true } }, by decide +kernel⟩,
  ⟨up, by decide +kernel⟩,
  ⟨up, by decide +kernel⟩,
  ⟨colUp, by decide +kernel⟩,
  ⟨up, by decide +kernel⟩,
  ⟨{ up with bias := { up.bias with vddPl := true } }, by decide +kernel⟩,
  ⟨up, by decide +kernel⟩,
  ⟨up, by decide +kernel⟩,
  ⟨{ fs up [(⟨R.GSQ_OUT, 3, 1⟩, 1)] with bias := { up.bias with vgh := true } }, by decide +kernel⟩,
  ⟨fs (entering 5 (some 0)) [(Domain.light.onFld, 0), (Domain.panel.onFld, 0), (Domain.link.onFld, 0)], ent 5 (some 0),
    by decide +kernel⟩,
  ⟨inMode .standby, by decide +kernel⟩,
  ⟨up, by decide +kernel⟩,
  ⟨up, by decide +kernel⟩⟩

/-! ### Well-formedness: one ill-formed command per check -/

/-- A packet whose payload is longer than its LEN. -/
def longPacket : Packet := { sealed tEvent 0 0 [0, 0, 0, 0] with len := 3 }

/-- A receiver eye of six slicers and 64 phase positions. -/
def eye : CalEye := ⟨List.replicate 6 0, List.replicate 6 0, List.replicate 64 true⟩

/-- An error in symbol 72 of a codeword. -/
def badUpset : Upsets := [(0, [(72, 1)])]

theorem test_ill_formed_frame : ([.startUpStepComplete 0 [0, 0, 0, 0], .frameEndDecision 65536,
    .governorEvaluate { govIn with die := [] }, .columnLineSend 65536 0 [], .weirLineFetch 0 65536 [], .demuraBandFetch 65536 [],
    .historyLineFetch 65536 [], .columnLineSend 0 0 badUpset, .weirLineFetch 0 0 badUpset,
    .demuraBandFetch 0 badUpset, .historyLineFetch 0 badUpset, .elasticSlotGrant { slot63 with ups := badUpset },
    .dmaRun 0 ⟨[], badUpset⟩, .descriptorComplete ⟨[], badUpset⟩, .pauseDrainDone 0 ⟨[], [(2 ^ 23, [])]⟩, .weirLineFetch 0 0 [(0, [(0, 0)])], .historyLineWrite 65536 [] [] [], .rowBoundary [(192, 0)], .headroomSample 0 0 101,
    .pdSample 65536 0 0, .pdSample 0 65536 0, .pdSample 0 0 65536, .elasticSlotGrant { slot63 with slot := 64 },
    .nbrTestDone [(24, 0)], .nbrTestDone [(0, 191)], .xchainTransfer (List.replicate 33 0)] : List Instr).all
    (fun c => !c.wellFormed) = true := by decide +kernel

theorem test_ill_formed_link : ([.trainingSetReceived 0 0 (.ctl symCOM, .ctl symTSI) [], .videoSeg 0 longPacket, .frameReady 0 longPacket,
    .streamCfg 0 longPacket, .ctrlReq 0 longPacket, .ctrlRsp 1 longPacket, .enumAssign 0 longPacket, .enumReply 1 longPacket,
    .enumEnd 1 longPacket, .event 1 longPacket, .ack 0 longPacket, .nak 0 longPacket, .credit 0 longPacket,
    .ttRequest ⟨2048, [], false⟩, .ttKey ⟨0, List.replicate 65 0, false⟩, .mb2Cmd ⟨2048, [], false⟩] : List Instr).all
    (fun c => !c.wellFormed) = true := by decide +kernel

theorem test_ill_formed_access : ([.frameStoreWindowAccess .core 0x40000000 3 none [],
    .frameStoreWindowAccess .core 0x40000000 8 none badUpset, .pondAccess .core 0 4 (some [0]) 0 false, .pondAccess .core 0 4 none 73 false,
    .aliasAccess .core 0x100000 5 none 0 0 false, .aliasAccess .core 0x100000 4 none 73 0 false,
    .aliasAccess .core 0x100000 4 none 0 73 false, .unassignedAccess .core 0xE0000000 0 none, .flashWindowWrite .core 0x78000000 [],
    .spiWrite 2 0 [], .spiRead 0 0, .memRead 0 73, .memWrite 0 73, .calStepDone (.lane 9) .dark, .calStepDone (.photodiode 3) .dark,
    .calStepDone (.sink 192) .dark, .calStepDone .backChannel (.eyes eye { eye with trims := [] }),
    .calStepDone .backChannel (.eyes { eye with agree := [] } eye), .calStepDone .backChannel (.eyes { eye with resid := [] } eye),
    .calStepDone (.sink 0) (.cells [])] : List Instr).all
    (fun c => !c.wellFormed) = true := by decide +kernel

theorem test_well_formed : ([.startUpStepComplete 0 [0, 0, 0, 0, 0], .frameEndDecision 65535, .rowBoundary [(191, 0)],
    .pdSample 65535 65535 65535, .trainingSetReceived 0 0 (.ctl symCOM, .ctl symTSI) okSet, .ack 0 (sealed tAck 0 0 [0, 0, 0, 0]), .ttKey keyFrame,
    .pondAccess .core 0 4 (some [0, 0, 0, 0]) 72 false, .calStepDone .backChannel (.eyes eye eye), .wakeRise] : List Instr).all
    (fun c => c.wellFormed) = true := by decide +kernel

/-! ### Commands: the table's rows have no bits -/

theorem test_decode : decodeTableWord 32 0 = none := by decide

/-! ### Checks and ciphers, by published vectors -/

/-- CRC-8 with polynomial 0x07 of "123456789" (R185). -/
theorem test_crc8 : crc8 [0x31, 0x32, 0x33, 0x34, 0x35, 0x36, 0x37, 0x38, 0x39] = 0xF4 := by decide +kernel

/-- CRC-32 of "123456789" (R217). -/
theorem test_crc32 : crc32 [0x31, 0x32, 0x33, 0x34, 0x35, 0x36, 0x37, 0x38, 0x39] = 0xCBF43926 := by decide +kernel

/-- The first bytes of SHA-256 of the empty message (R94). -/
theorem test_sha256 : (sha256 []).take 4 = [0xE3, 0xB0, 0xC4, 0x42] := by decide +kernel

/-- The first bytes of AES-CMAC of the empty message under the key of RFC 4493 (R501, R535). -/
theorem test_cmac : (cmac [0x2B, 0x7E, 0x15, 0x16, 0x28, 0xAE, 0xD2, 0xA6, 0xAB, 0xF7, 0x15, 0x88, 0x09, 0xCF, 0x4F, 0x3C]
    []).take 4 = [0xBB, 0x1D, 0x69, 0x29] := by decide +kernel

/-! ### Single steps -/

/-- Does a command answer a next state of which `p` holds? -/
def leads (o : Out) (p : State → Bool) : Bool := match o with
  | .next t => p t
  | _ => false

/-- WAKE above the threshold at power on starts step 1 in BOOT (R82). -/
theorem test_power_on : leads (exec (.vinPowerOn true) State.reset)
    (fun t => t.pw.supplied && decide (t.mode = .boot) && decide (t.bootStep = 1)) = true := by decide +kernel

/-- A pond write stores its bytes and no others (R603). -/
theorem test_pond_write : leads (exec (.pondAccess .core 0x12 2 (some [0xAB, 0xCD]) 0 false) up)
    (fun t => t.bytes 0x11 4 = [0, 0xAB, 0xCD, 0]) = true := by decide +kernel

/-- A misaligned pond read completes with a bus error (R605). -/
theorem test_pond_misaligned : leads (exec (.pondAccess .core 0x11 2 none 0 false) up)
    (fun t => t.answer.err) = true := by decide +kernel

/-- A THRESH above 0x46 sets BAD_WR (R137). -/
theorem test_spring_threshold : leads (exec (.pwrSpringWrite 71) up)
    (fun t => t.flag F.PWR_SPRING_BAD_WR && decide (t.fld F.PWR_SPRING_THRESH ≠ 71)) = true := by decide +kernel

/-- A write to a locked shadow register is ignored (R334). -/
theorem test_locked_write : leads (exec (.registerWrite 0x10080014 5) (fs up [(F.ODV_COMMIT_LOCKED, 1)]))
    (fun t => t.flag F.ODV_STATUS_SHADOW_LOCKED_WR && decide (t.reg 0x10080014 = up.reg 0x10080014)) = true := by decide +kernel

/-- The CAN FD key with its check value is taken (R502). -/
theorem test_key : leads (exec (.ttKey keyFrame) up) (fun t => t.saf.key = some (List.replicate 16 0)) = true := by
  decide +kernel

/-- A step takes the front command and leaves the rest. -/
theorem test_step_queue : leads (step (up.withPending [.sysTimeLoRead .core, .wakeRise])) (fun t => t.pending = [.wakeRise]) = true := by
  decide +kernel

end Sys2Proof.Tests
end

section
/-! Headroom and photodiode samples (R454, R480 to R482): what reaching a place and a stray event leave as it was, what each
sample does, and O30. -/

namespace Sys2Proof.Machine

variable {s t : State}

/-! ### The raster moves to an event's place -/

/-- Reaching a place of the frame moves the raster and nothing else. -/
theorem reachPos_frame (s : State) (line tick : Nat) :
    s.reachPos line tick = { s with rs := (s.reachPos line tick).rs } := by
  unfold State.reachPos
  split <;> rfl

@[simp] theorem reg_reachPos (s : State) (line tick b : Nat) : (s.reachPos line tick).reg b = s.reg b := by
  rw [reachPos_frame]; rfl

@[simp] theorem fld_reachPos (s : State) (line tick : Nat) (f : Fld) : (s.reachPos line tick).fld f = s.fld f := by
  simp [State.fld]

@[simp] theorem on_reachPos (s : State) (line tick : Nat) (d : Domain) : (s.reachPos line tick).on d = s.on d := by
  rw [reachPos_frame]; rfl

@[simp] theorem fixedTo_reachPos (s : State) (line tick owner l n : Nat) :
    (s.reachPos line tick).fixedTo owner l n = s.fixedTo owner l n := by
  rw [reachPos_frame]; rfl

/-! ### Stray events (R147) -/

/-- A stray event touches the slots withheld and the registers, and nothing else. -/
theorem strayIn_frame (s : State) (owner line : Nat) (slots : List Nat) :
    s.strayIn owner line slots =
      { s with regs := (s.strayIn owner line slots).regs, rng := (s.strayIn owner line slots).rng } := by
  unfold State.strayIn
  split
  · rfl
  · split <;> rfl

theorem reg_strayIn_ne (s : State) (owner line : Nat) (slots : List Nat) {b : Nat} (hb : b ≠ R.RNG_STRAY) :
    (s.strayIn owner line slots).reg b = s.reg b := by
  unfold State.strayIn
  split
  · rfl
  · split
    · rfl
    · exact State.reg_setFld_ne _ _ _ _ hb

theorem fld_strayIn_ne (s : State) (owner line : Nat) (slots : List Nat) {f : Fld} (hf : f.reg ≠ R.RNG_STRAY) :
    (s.strayIn owner line slots).fld f = s.fld f := by
  simp [State.fld, reg_strayIn_ne _ _ _ _ hf]

theorem keepsBits_strayIn {fs : List Fld} (owner line : Nat) (slots : List Nat) (h : s.keepsBits t fs)
    (hf : F.RNG_STRAY_VAL ∈ fs) : s.keepsBits (t.strayIn owner line slots) fs := by
  unfold State.strayIn
  split
  · exact h
  · split
    · exact h
    · exact keepsBits_countUp _ h hf (by decide)

/-- An event whose slots are all fixed to its owner is no stray. -/
theorem strayIn_of_fixed {owner line : Nat} {slots : List Nat} (h : ∀ n ∈ slots, s.fixedTo owner line n = true) :
    s.strayIn owner line slots = s := by
  have hnone : slots.filter (fun n => !s.fixedTo owner line n) = [] := by simpa using h
  simp only [State.strayIn, hnone]

/-- With PIX on, an event in a slot not fixed to its owner is counted once, and the slot is withheld. -/
theorem strayIn_of_stray {owner line n : Nat} {slots : List Nat} (hpix : s.on .pix = true) (hn : n ∈ slots)
    (h : s.fixedTo owner line n = false) :
    (s.strayIn owner line slots).fld F.RNG_STRAY_VAL =
        min (s.fld F.RNG_STRAY_VAL + 1) (2 ^ F.RNG_STRAY_VAL.width - 1) ∧
      (line, n) ∈ (s.strayIn owner line slots).rng.stray := by
  have hmem : n ∈ slots.filter fun m => !s.fixedTo owner line m := by simp [hn, h]
  unfold State.strayIn
  split
  case h_1 hnone => simp [hnone] at hmem
  case h_2 =>
    rw [if_neg (by simp [hpix])]
    refine ⟨State.fld_countUp_same _ _ _ (by decide), ?_⟩
    simp only [State.countUp_rng, List.mem_append, List.mem_map]
    exact .inl ⟨n, hmem, rfl⟩

/-! ### Headroom samples (R454) -/

/-- A sample of a sink whose window holds a segment of PW_DIAG units or more joins the window's samples (R454). -/
theorem exec_headroomSample {sink : Fin 192} {w : RowWin} {z : WinZone} (mv percent : Nat) (hw : s.bl.win = some w)
    (hz : w.zones.find? (fun z => decide (z.sink = sink.val)) = some z) (hp : ∃ p ∈ z.pulses, s.pwDiag ≤ p.2) :
    Leaves (exec (.headroomSample sink mv percent) s) fun t =>
      t.bl.win = some { w with samples := w.samples ++ [⟨z.col, mv, percent⟩] } ∧ t = { s with bl := t.bl } := by
  have hlong : (z.pulses.any fun p => decide (s.pwDiag ≤ p.2)) = true := by simpa using hp
  change Leaves (execHeadroomSample sink mv percent s) _
  simp only [execHeadroomSample, hw, hz, hlong]
  exact ⟨_, rfl, rfl, rfl⟩

/-! ### Photodiode samples (R480 to R482) -/

/-- The state in which a photodiode sample is judged: the raster at tick 47 of its line, strays of its two slots counted. -/
def State.atPdSample (s : State) : State := (s.reachPos s.rs.line 47).strayIn ownOpt s.rs.line [10, 11]

theorem atPdSample_frame (s : State) :
    s.atPdSample = { s with regs := s.atPdSample.regs, rng := s.atPdSample.rng, rs := s.atPdSample.rs } := by
  unfold State.atPdSample
  rw [strayIn_frame, reachPos_frame]

@[simp] theorem atPdSample_opt (s : State) : s.atPdSample.opt = s.opt := by rw [atPdSample_frame]

@[simp] theorem atPdSample_mem (s : State) : s.atPdSample.mem = s.mem := by rw [atPdSample_frame]

@[simp] theorem atPdSample_boundaryLine (s : State) (line : Nat) : s.atPdSample.boundaryLine line = s.boundaryLine line := by
  rw [atPdSample_frame]; rfl

@[simp] theorem atPdSample_liveFld (s : State) (f : Fld) : s.atPdSample.liveFld f = s.liveFld f := by
  rw [atPdSample_frame]; rfl

theorem atPdSample_fld {f : Fld} (hf : f.reg ≠ R.RNG_STRAY) : s.atPdSample.fld f = s.fld f := by
  rw [State.atPdSample, fld_strayIn_ne _ _ _ _ hf, fld_reachPos]

theorem keepsBits_atPdSample {fs : List Fld} (hf : F.RNG_STRAY_VAL ∈ fs) : s.keepsBits s.atPdSample fs :=
  keepsBits_strayIn _ _ _ (fun b _ _ => by rw [reg_reachPos]) hf

@[simp] theorem atPdSample_offset (s : State) (k : Nat) :
    s.atPdSample.fld (F.OPT_PD_OFS_VAL k) = s.fld (F.OPT_PD_OFS_VAL k) := by
  have hne : R.OPT_PD_OFS k ≠ R.RNG_STRAY := by simp only [R.OPT_PD_OFS, R.RNG_STRAY]; omega
  exact atPdSample_fld hne

/-- A photodiode sample in slots that are both fixed to OPT is no stray. -/
theorem atPdSample_of_fixed (h10 : s.fixedTo ownOpt s.rs.line 10 = true) (h11 : s.fixedTo ownOpt s.rs.line 11 = true) :
    s.atPdSample = s.reachPos s.rs.line 47 :=
  strayIn_of_fixed (by simp [h10, h11])

section

variable (hon : s.on .light = true) (hrun : s.rs.running = true) (htick : s.rs.tick ≤ 47)

include hon hrun htick

/-- What a photodiode sample does, by its line and its light: a dark sample, a saturated one, a valid one, or nothing (R480 to
R482). A dark sample is cut to the converter's 16 bits. -/
theorem exec_pdSample (r g b : Nat) :
    exec (.pdSample r g b) s = .next (
      if s.boundaryLine s.rs.line = true then
        { s.atPdSample with opt := { s.opt with
            dark := s.opt.dark.zipWith (· + ·) [min r 65535, min g 65535, min b 65535]
            darkN := s.opt.darkN + 1 } }
      else if 65000 < r ∨ 65000 < g ∨ 65000 < b then s.atPdSample.countUp F.OPT_CNT_SATURATED
      else if s.liveFld F.OPT_SIG_MIN_SIGNAL ≤ r - s.fld (F.OPT_PD_OFS_VAL 0) ∧
          s.liveFld F.OPT_SIG_MIN_SIGNAL ≤ g - s.fld (F.OPT_PD_OFS_VAL 1) ∧
          s.liveFld F.OPT_SIG_MIN_SIGNAL ≤ b - s.fld (F.OPT_PD_OFS_VAL 2) then
        ({ s.atPdSample with opt := { s.opt with
            light := s.opt.light.zipWith (· + ·)
              [r - s.fld (F.OPT_PD_OFS_VAL 0), g - s.fld (F.OPT_PD_OFS_VAL 1), b - s.fld (F.OPT_PD_OFS_VAL 2)] } } :
          State).countUp F.OPT_CNT_VALID
      else s.atPdSample) := by
  change execPdSample r g b s = _
  simp only [execPdSample, if_pos htick, hon, hrun]
  rw [← State.atPdSample]
  by_cases hline : s.boundaryLine s.rs.line = true
  · simp [hline]
  · by_cases hsat : 65000 < r ∨ 65000 < g ∨ 65000 < b
    · simp [hline, hsat]
    · have hraw : [r, g, b].map (min · 65535) = [r, g, b] := by simp; omega
      rw [if_neg hline, if_neg hsat, hraw]
      simp [hline, hsat, apply_ite Host.Outcome.next]

/-- What a sample records of strays is what its place does: no sample touches Ringmaster beyond that. -/
theorem exec_pdSample_rng {r g b : Nat} (h : exec (.pdSample r g b) s = .next t) :
    t.rng = s.atPdSample.rng ∧ t.reg R.RNG_STRAY = s.atPdSample.reg R.RNG_STRAY := by
  rw [exec_pdSample hon hrun htick] at h
  cases h
  split
  · exact ⟨rfl, rfl⟩
  · split
    · exact ⟨State.countUp_rng _ _ _, State.reg_setFld_ne _ _ _ _ (by decide)⟩
    · split
      · exact ⟨State.countUp_rng _ _ _, State.reg_setFld_ne _ _ _ _ (by decide)⟩
      · exact ⟨rfl, rfl⟩

/-- A sample in slots both fixed to OPT is no stray. -/
theorem exec_pdSample_of_fixed {r g b : Nat} (h : exec (.pdSample r g b) s = .next t)
    (h10 : s.fixedTo ownOpt s.rs.line 10 = true) (h11 : s.fixedTo ownOpt s.rs.line 11 = true) :
    t.reg R.RNG_STRAY = s.reg R.RNG_STRAY ∧ t.rng = s.rng := by
  obtain ⟨hrng, hreg⟩ := exec_pdSample_rng hon hrun htick h
  rw [hrng, hreg, atPdSample_of_fixed h10 h11, reg_reachPos, reachPos_frame]
  exact ⟨rfl, rfl⟩

/-- A sample whose first slot is not fixed to OPT is counted as stray, and the slot is withheld (R147). -/
theorem exec_pdSample_of_stray {r g b : Nat} (h : exec (.pdSample r g b) s = .next t)
    (hfix : s.fixedTo ownOpt s.rs.line 10 = false) (hpix : s.on .pix = true) :
    t.fld F.RNG_STRAY_VAL = min (s.fld F.RNG_STRAY_VAL + 1) (2 ^ F.RNG_STRAY_VAL.width - 1) ∧
      (s.rs.line, 10) ∈ t.rng.stray := by
  obtain ⟨hrng, hreg⟩ := exec_pdSample_rng hon hrun htick h
  have hfld : t.fld F.RNG_STRAY_VAL = s.atPdSample.fld F.RNG_STRAY_VAL := by simp [State.fld, hreg]
  have hstray := strayIn_of_stray (s := s.reachPos s.rs.line 47) (owner := ownOpt) (line := s.rs.line)
    (slots := [10, 11]) (by simpa using hpix) (by simp) ((fixedTo_reachPos ..).trans hfix)
  rw [fld_reachPos] at hstray
  rw [hrng, hfld]
  exact hstray

end

/-- Settles O30: headroom samples by their window; photodiode samples by the four ends of `exec_pdSample`. -/
theorem lightSamples : Obligations.LightSamples := by
  refine ⟨fun sink mv percent w z s => exec_headroomSample mv percent, fun r g b s hon hrun htick => ?_⟩
  have hexec := exec_pdSample hon hrun htick r g b
  refine ⟨fun t ht => ⟨fun ⟨h10, h11⟩ => exec_pdSample_of_fixed hon hrun htick ht h10 h11,
    exec_pdSample_of_stray hon hrun htick ht⟩, ?_, ?_, ?_, ?_⟩
  · intro hline hr hg hb
    rw [if_pos hline, Nat.min_eq_left hr, Nat.min_eq_left hg, Nat.min_eq_left hb] at hexec
    exact ⟨_, hexec, rfl, rfl, rfl, keepsBits_atPdSample (by simp), atPdSample_mem s⟩
  · intro hline hsat
    rw [if_neg (by simp [hline]), if_pos hsat] at hexec
    refine ⟨_, hexec, ?_, by simp, keepsBits_countUp _ (keepsBits_atPdSample (by simp)) (by simp) (by decide), by simp⟩
    rw [State.fld_countUp_same _ _ _ (by decide), atPdSample_fld (by decide)]
  · intro hline hr hg hb hmr hmg hmb
    rw [if_neg (by simp [hline]), if_neg (by omega), if_pos ⟨hmr, hmg, hmb⟩] at hexec
    refine ⟨_, hexec, by simp, ?_, keepsBits_countUp _ ?_ (by simp) (by decide), by simp⟩
    · rw [State.fld_countUp_same _ _ _ (by decide)]
      exact congrArg (fun n => min (n + 1) _) (atPdSample_fld (by decide))
    · exact keepsBits_atPdSample (by simp)
  · intro hline hr hg hb hweak
    rw [if_neg (by simp [hline]), if_neg (by omega), if_neg (by omega)] at hexec
    exact ⟨_, hexec, atPdSample_opt s, keepsBits_atPdSample (by simp), atPdSample_mem s⟩

end Sys2Proof.Machine
end

section
/-! Juggler's engine at a descriptor with OWN = 0 (R582, R587): the channel that ENGINE_TAKE serves, what a job leaves when it
ends, what the fetch of an empty descriptor does, and O55. -/

namespace Sys2Proof.Machine

/-! ### Channels and bitmaps -/

/-- An element of a list in which one was replaced. -/
theorem getD_listSet_same {α : Type} {l : List α} {n : Nat} (d v : α) (h : n < l.length) : (listSet l n v).getD n d = v := by
  induction l generalizing n with
  | nil => simp at h
  | cons a t ih =>
    cases n with
    | zero => rfl
    | succ n => simpa [listSet] using ih (by simpa using h)

theorem withBit_getLsbD_same (x : Word) {i : Nat} (h : i < 32) : (withBit x i).getLsbD i = true := by
  rw [withBit, BitVec.getLsbD_or, BitVec.getLsbD_ofNat, Nat.one_shiftLeft, Nat.testBit_two_pow_self]
  simp [h]

theorem chan_setChan_same {s : State} {n : Nat} (c : Channel) (hn : n < s.dma.chans.length) : (s.setChan n c).chan n = c :=
  getD_listSet_same _ _ hn

variable (s : State) (n : Nat)

@[simp] theorem setBit_mem (a i : Nat) : (s.setBit a i).mem = s.mem := State.setReg_mem _ _ _

@[simp] theorem setBit_dma (a i : Nat) : (s.setBit a i).dma = s.dma := State.setReg_dma _ _ _

/-! ### The engine let go -/

/-- Letting the engine go touches who holds it and its burst, and nothing else. -/
theorem freeEngine_frame : s.freeEngine n =
    { s with dma := { s.dma with engine := (s.freeEngine n).dma.engine, burst := (s.freeEngine n).dma.burst } } := by
  unfold State.freeEngine
  split <;> rfl

@[simp] theorem freeEngine_chan (k : Nat) : (s.freeEngine n).chan k = s.chan k := by rw [freeEngine_frame]; rfl

theorem freeEngine_engine {s : State} {n : Nat} (h : s.dma.engine = some n) : (s.freeEngine n).dma.engine = none := by
  rw [State.freeEngine, if_pos h]

/-! ### The end of a job -/

/-- The end of a job touches the channels and the engine, and nothing else. -/
theorem endJob_frame : s.endJob n = { s with dma := (s.endJob n).dma } := by
  unfold State.endJob
  rw [freeEngine_frame]
  rfl

@[simp] theorem endJob_mem : (s.endJob n).mem = s.mem := by rw [endJob_frame]

@[simp] theorem endJob_reg (a : Nat) : (s.endJob n).reg a = s.reg a := by rw [endJob_frame]; rfl

@[simp] theorem endJob_fld (f : Fld) : (s.endJob n).fld f = s.fld f := by rw [State.fld, endJob_reg, State.fld]

@[simp] theorem endJob_flag (f : Fld) : (s.endJob n).flag f = s.flag f := by rw [State.flag, endJob_fld, State.flag]

variable {s n}

theorem endJob_job (hn : n < s.dma.chans.length) : ((s.endJob n).chan n).job = false := by
  rw [State.endJob, freeEngine_chan, chan_setChan_same _ hn]

/-- The channel that holds the engine lets it go when its job ends. -/
theorem endJob_engine (h : s.dma.engine = some n) : (s.endJob n).dma.engine = none := freeEngine_engine h

/-! ### The fetch of a descriptor with OWN = 0 (R587) -/

variable (s n) in
/-- The registers written for an empty descriptor: EMPTY of the channel and of the engine, COUNT 0 and ERR. -/
def State.showEmpty : State :=
  (((s.setFlag (F.DMA_CH_STATUS_EMPTY n) true).setFlag F.DMA_EVENT_EMPTY true).setFld (F.DMA_CH_COUNT_VAL n) 0).setBit
    R.DMA_IRQ_STATUS (16 + n)

theorem fetchDesc_of_not_owned (h : (s.byte ((s.reg (R.DMA_CH_DESC n)).toNat + 3)).getLsbD 7 = false) :
    s.fetchDesc n = (s.showEmpty n).endJob n := by
  have hown : (s.byte ((s.reg (R.DMA_CH_DESC n)).toNat + 3)).toNat.testBit 7 = false := h
  simp only [State.fetchDesc, hown, Bool.not_false, if_true, State.showEmpty]

@[simp] theorem showEmpty_mem : (s.showEmpty n).mem = s.mem := by simp [State.showEmpty]

@[simp] theorem showEmpty_dma : (s.showEmpty n).dma = s.dma := by simp [State.showEmpty]

theorem showEmpty_irq (hn : n < 16) : ((s.showEmpty n).reg R.DMA_IRQ_STATUS).getLsbD (16 + n) = true := by
  rw [State.showEmpty, State.setBit, State.reg_setReg_same]
  exact withBit_getLsbD_same _ (by omega)

theorem showEmpty_count : (s.showEmpty n).fld (F.DMA_CH_COUNT_VAL n) = 0 := by
  have hirq : R.DMA_CH_COUNT n ≠ R.DMA_IRQ_STATUS := by simp only [R.DMA_CH_COUNT, R.DMA_IRQ_STATUS]; omega
  rw [State.showEmpty, State.setBit, State.fld_setReg_ne _ _ _ _ hirq, State.fld_setFld_same _ _ _ (by simp), Nat.zero_mod]

theorem showEmpty_empty : (s.showEmpty n).flag (F.DMA_CH_STATUS_EMPTY n) = true := by
  have hirq : R.DMA_CH_STATUS n ≠ R.DMA_IRQ_STATUS := by simp only [R.DMA_CH_STATUS, R.DMA_IRQ_STATUS]; omega
  have hcount : R.DMA_CH_STATUS n ≠ R.DMA_CH_COUNT n := by simp only [R.DMA_CH_STATUS, R.DMA_CH_COUNT]; omega
  have hevent : R.DMA_CH_STATUS n ≠ R.DMA_EVENT := by simp only [R.DMA_CH_STATUS, R.DMA_EVENT]; omega
  rw [State.showEmpty, State.setBit, State.flag_setReg_ne _ _ _ _ hirq,
    State.flag_setFld_other _ _ _ _ (by simp) (.inl hcount),
    State.flag_setFlag_other _ _ _ _ (by decide) (.inl hevent), State.flag_setFlag_same _ _ _ (by simp) (by simp)]

/-! ### ENGINE_TAKE (R582) -/

/-- No burst moves while no channel holds the engine. -/
theorem pumpAll_of_engine_free (h : s.dma.engine = none) : s.pumpAll = s := by
  simp only [State.pumpAll, State.atWork, h]

/-- The lowest ready channel is the one that is served. -/
theorem find_lowest_ready (hn : n < 16) (hready : s.chanReady n = true) (hlow : ∀ k, k < n → s.chanReady k = false) :
    (List.range 16).find? s.chanReady = some n := by
  rw [List.find?_range_eq_some]
  exact ⟨hready, by simpa using hn, fun k hk => by simp [hlow k hk]⟩

variable (s n) in
/-- The engine given to a channel, with no burst under way. -/
def State.giveEngine : State := { s with dma := { s.dma with engine := some n, burst := none } }

/-- A free engine goes to the lowest ready channel, which fetches its descriptor when it holds no position. -/
theorem exec_engineTake_of_fetch (hon : s.on .ctrl = true) (hen : s.flag F.DMA_CTRL_ENGINE_EN = true)
    (hfree : s.dma.engine = none) (hfind : (List.range 16).find? s.chanReady = some n) (hdesc : (s.chan n).desc = none) :
    exec .engineTake s = .next ((s.giveEngine n).fetchDesc n).pumpAll := by
  have hnone : ((s.giveEngine n).chan n).desc.isSome = false := Option.isSome_eq_false_iff.2 (Option.isNone_iff_eq_none.2 hdesc)
  change execEngineTake s = _
  unfold State.giveEngine at hnone ⊢
  simp [execEngineTake, hon, hen, hfree, hfind, hnone]

/-- A channel whose descriptor is not owned ends its job at once, and the engine is free again (R587). -/
theorem exec_engineTake_of_not_owned (hon : s.on .ctrl = true) (hen : s.flag F.DMA_CTRL_ENGINE_EN = true)
    (hfree : s.dma.engine = none) (hfind : (List.range 16).find? s.chanReady = some n) (hdesc : (s.chan n).desc = none)
    (hown : (s.byte ((s.reg (R.DMA_CH_DESC n)).toNat + 3)).getLsbD 7 = false) :
    exec .engineTake s = .next (((s.giveEngine n).showEmpty n).endJob n) := by
  have hheld : ((s.giveEngine n).showEmpty n).dma.engine = some n := by rw [showEmpty_dma]; rfl
  rw [exec_engineTake_of_fetch hon hen hfree hfind hdesc, fetchDesc_of_not_owned (s := s.giveEngine n) hown,
    pumpAll_of_engine_free (endJob_engine hheld)]

/-- Settles O55: ENGINE_TAKE shows the empty descriptor and ends the job. -/
theorem emptyDescriptor : Obligations.EmptyDescriptor := by
  intro n s hon hlen hen hfree hn hready hlow hdesc hown
  have hexec := exec_engineTake_of_not_owned hon hen hfree (find_lowest_ready hn hready hlow) hdesc hown
  have hdma : ((s.giveEngine n).showEmpty n).dma = (s.giveEngine n).dma := showEmpty_dma
  refine ⟨_, hexec, ?_, ?_, ?_, ?_, endJob_job ?_, endJob_engine ?_⟩
  · rw [endJob_mem, showEmpty_mem]; rfl
  · rw [endJob_flag, showEmpty_empty]
  · rw [endJob_fld, showEmpty_count]
  · rw [endJob_reg, showEmpty_irq hn]
  · rw [hdma]; exact hlen ▸ hn
  · rw [hdma]; rfl

end Sys2Proof.Machine
end

section
/-! Direct pond accesses (R601, R605): the region of a pond address, what a direct read and write come to for a master that the
pond's row lists, and O11. -/

namespace Sys2Proof.Machine

variable {m : Master} {a n : Nat} {s : State}

/-- The map gives a pond's address to one of the three ponds (R601). -/
theorem regionOf_of_inPond (h : inPond a = true) : regionOf a = .pondA ∨ regionOf a = .pondB ∨ regionOf a = .pondC := by
  have hin : a < pondAHi ∨ pondBLo ≤ a ∧ a < pondCHi := by simpa [inPond] using h
  unfold regionOf
  by_cases hA : a < pondAHi
  · exact .inl (if_pos hA)
  by_cases hB : pondBLo ≤ a ∧ a < pondBHi
  · exact .inr (.inl (by rw [if_neg hA, if_pos hB]))
  · have hC : pondCLo ≤ a ∧ a < pondCHi := by simp only [pondAHi, pondBLo, pondBHi, pondCLo, pondCHi] at *; omega
    exact .inr (.inr (by rw [if_neg hA, if_neg hB, if_pos hC]))

/-- The two parts of natural alignment: the size and the address (R605). -/
theorem aligned_iff : aligned a n = true ↔ (n = 1 ∨ n = 2 ∨ n = 4 ∨ n = 8) ∧ a % n = 0 := by
  simp [aligned, or_assoc]

theorem aligned_eq_false_iff : aligned a n = false ↔ ¬ ((n = 1 ∨ n = 2 ∨ n = 4 ∨ n = 8) ∧ a % n = 0) := by
  rw [← aligned_iff, Bool.not_eq_true]

/-! ### The bus at a pond's address -/

/-- An aligned read of a pond by a master other than SEQ goes to the pond. -/
theorem busRead_of_inPond (hp : inPond a = true) (hm : m ≠ .seq) (h : aligned a n = true) (e : Nat) :
    s.busRead m a n e = s.pondRead m a n e := by
  obtain hr | hr | hr := regionOf_of_inPond hp <;> simp [State.busRead, hr, hm, h]

/-- A misaligned read of a pond is an error and changes nothing, whoever reads (R605). -/
theorem busRead_of_misaligned (hp : inPond a = true) (h : aligned a n = false) (e : Nat) :
    s.busRead m a n e = (.error, s) := by
  obtain hr | hr | hr := regionOf_of_inPond hp <;> simp [State.busRead, hr, h]

/-- A misaligned write of a pond is an error and changes nothing, whoever writes (R605). -/
theorem busWrite_of_misaligned {bs : List Byte} (hp : inPond a = true) (h : aligned a bs.length = false) (e : Nat) :
    s.busWrite m a bs e = (.error, s) := by
  obtain hr | hr | hr := regionOf_of_inPond hp <;> simp [State.busWrite, hr, h]

/-- A read without wrong bits, where no pond word holds an error, answers the bytes and changes nothing (R603). -/
theorem pondRead_of_no_weak (hw : s.pondWeak = []) : s.pondRead m a n 0 = (.done (s.bytes a n), s) := by
  simp [State.pondRead, State.pondCheck, hw]

/-! ### POND_ACCESS without a wait -/

section

variable {b : BitVec 32} (hon : s.on .ctrl = true) (hp : inPond b.toNat = true)
  (hseq : m = .seq → regionOf b.toNat = .pondC)

include hon hp hseq

/-- POND_ACCESS does not pass over such an access. -/
theorem pondAccess_not_passed :
    (!s.on .ctrl || !inPond b.toNat || (m = .seq && decide (regionOf b.toNat ≠ .pondC))) = false := by
  simpa [hon, hp] using hseq

/-- A read at a pond's address by a master that its row lists is the bus read. -/
theorem exec_pondAccess_read (n e : Nat) :
    exec (.pondAccess m b n none e false) s = .next (s.readAccess m b.toNat n e) := by
  change execPondAccess m b n none e false s = _
  rw [execPondAccess, pondAccess_not_passed hon hp hseq]
  rfl

/-- A write at a pond's address by a master that its row lists is the bus write. -/
theorem exec_pondAccess_write (n e : Nat) (bs : List Byte) :
    exec (.pondAccess m b n (some bs) e false) s = .next (s.writeAccess m b.toNat bs e) := by
  change execPondAccess m b n (some bs) e false s = _
  rw [execPondAccess, pondAccess_not_passed hon hp hseq]
  rfl

end

/-- Settles O11: the bus at a pond's address, aligned and misaligned. -/
theorem pondAlignment : Obligations.PondAlignment := by
  intro m a s hon hp hseq
  refine ⟨fun n hal hweak hm => ?_, fun n hmis => ?_, fun bs hmis => ?_⟩
  · rw [exec_pondAccess_read hon hp hseq, State.readAccess, busRead_of_inPond hp hm (aligned_iff.2 hal),
      pondRead_of_no_weak hweak, State.answered]
  · rw [exec_pondAccess_read hon hp hseq, State.readAccess, busRead_of_misaligned hp (aligned_eq_false_iff.2 hmis),
      State.answered]
  · rw [exec_pondAccess_write hon hp hseq, State.writeAccess, busWrite_of_misaligned hp (aligned_eq_false_iff.2 hmis),
      State.answered]

end Sys2Proof.Machine
end

section
/-! Reads of module time (R634): what SYS_TIME_LO_READ comes to where CTRL acts and where it has stopped for a sleep entry (R115,
R127), the state that refutes O58, and R634 where CTRL acts. -/

namespace Sys2Proof.Machine

variable {m : Master} {s : State}

/-! ### The read on the bus -/

/-- The bus takes a word read in a register block to the register, for every master but SEQ (R601). -/
theorem busRead_of_regs {a : Nat} (hr : regionOf a = .regs) (ha : a % 4 = 0) (hm : m ≠ .seq) (e : Nat) :
    s.busRead m a 4 e = s.regRead m a := by
  have hal : aligned a 4 = true := aligned_iff.2 ⟨by simp, ha⟩
  simp [State.busRead, State.regReads, hr, hm, hal]

/-- SYS_TIME_LO_READ is a register read, and its answer. -/
theorem exec_sysTimeLoRead (hon : s.on .ctrl = true) (hm : m ≠ .seq) :
    exec (.sysTimeLoRead m) s =
      .next (State.answered (s.regRead m R.SYS_TIME_LO) 4 (.read m R.SYS_TIME_LO 4 0)) := by
  change execSysTimeLoRead m s = _
  rw [execSysTimeLoRead, State.readAccess, busRead_of_regs (by decide) (by decide) hm]
  simp [hon, hm]

/-! ### A domain that has stopped (R115, R127) -/

/-- A read of a register whose domain has stopped is refused, and ACCESS_REFUSED is set. -/
theorem regRead_of_stopped {a : Nat} {b : Blk} (hb : blkOf a = some b) (h : s.stopped b.domain = true) :
    s.regRead m a = (.refused, s.setFlag F.PWR_DOMAIN_STATUS_ACCESS_REFUSED true) := by
  simp [State.regRead, hb, State.acts, State.wake, State.demand, State.wakeRefused, h]

/-- Once CTRL has stopped, and until its power is removed, a read of SYS_TIME_LO is refused: it answers zeros and copies
nothing. -/
theorem exec_sysTimeLoRead_of_stopped (hon : s.on .ctrl = true) (hm : m ≠ .seq) (h : s.stopped .ctrl = true) :
    exec (.sysTimeLoRead m) s = .next
      { s.setFlag F.PWR_DOMAIN_STATUS_ACCESS_REFUSED true with answer := ⟨List.replicate 4 0, false⟩ } := by
  rw [exec_sysTimeLoRead hon hm, regRead_of_stopped (b := .sys) (by decide) h]
  rfl

/-- A module whose sleep vote has succeeded: every domain has stopped and is still powered (between R127 and R128), and module
time is 1. -/
def sleepVoted : State :=
  { State.reset with
    regs := [(R.PWR_DOMAIN_STATUS, 0x3F#32)]
    time := 1
    pw := { Power.reset with
      supplied := true
      mode := .live
      trans := .entering ⟨.dormant, .wakeFall, 5, [.ctrl, .link, .pix, .panel, .light], true, true, true, none, some 0⟩ } }

/-- Refutes O58: its premise is that CTRL is powered, and CTRL of `sleepVoted` is, but it has stopped. The read answers 0, not
module time. -/
theorem not_timeRead : ¬ Obligations.TimeRead := by
  intro h
  have hon : sleepVoted.on .ctrl = true := by decide +kernel
  obtain ⟨t, ht, hanswer, -⟩ := h .port sleepVoted hon (by decide)
  rw [exec_sysTimeLoRead_of_stopped hon (by decide) (by decide)] at ht
  cases ht
  exact absurd hanswer (by decide)

/-! ### Where CTRL acts (R634) -/

/-- Bits 47 to 32 of module time and OSC_TIME, as SYS_TIME_HI shows them. -/
theorem timeHiWord_toNat (s : State) :
    (BitVec.ofNat 32 (s.time.toNat / 2 ^ 32 + if s.oscTime then 65536 else 0)).toNat =
      s.time.toNat / 2 ^ 32 + if s.oscTime then 65536 else 0 := by
  have htime := s.time.isLt
  rw [BitVec.toNat_ofNat, Nat.mod_eq_of_lt (by split <;> omega)]

/-- A register that shows state held elsewhere reads as that state. -/
theorem peek_of_view {a v : Nat} (h : s.view m a = some v) : s.peek m a = BitVec.ofNat 32 v := by
  rw [State.peek, h]

theorem peek_sysTimeLo : (s.peek m R.SYS_TIME_LO).toNat = s.time.toNat % 2 ^ 32 := by
  have hview : s.view m R.SYS_TIME_LO = some (s.time.toNat % 2 ^ 32) := rfl
  rw [peek_of_view hview, BitVec.toNat_ofNat, Nat.mod_mod]

theorem peek_sysTimeHi : s.peek m R.SYS_TIME_HI = s.timeCopy m := by
  have hview : s.view m R.SYS_TIME_HI = some (s.timeCopy m).toNat := rfl
  rw [peek_of_view hview, BitVec.ofNat_toNat, BitVec.setWidth_eq]

theorem regRead_of_acts {a : Nat} {b : Blk} (hb : blkOf a = some b) (h : s.acts b.domain = true) :
    s.regRead m a = (.done (leBytes 4 (s.peek m a).toNat), if a = R.SYS_TIME_LO then s.copyTime m else s) := by
  simp [State.regRead, hb, h]

/-- A read of SYS_TIME_HI answers the copy of the master that reads. -/
theorem regRead_sysTimeHi (h : s.acts .ctrl = true) :
    (s.regRead m R.SYS_TIME_HI).1 = .done (leBytes 4 (s.timeCopy m).toNat) := by
  rw [regRead_of_acts (b := .sys) (by decide) h, peek_sysTimeHi]

theorem copyTime_frame (m : Master) (s : State) : s.copyTime m = { s with timeHi := (s.copyTime m).timeHi } := by
  cases m <;> rfl

theorem timeCopy_copyTime_same :
    (s.copyTime m).timeCopy m = BitVec.ofNat 32 (s.time.toNat / 2 ^ 32 + if s.oscTime then 65536 else 0) := by
  cases m <;> rfl

/-- The copy of another master stays; SEQ has none of its own. -/
theorem timeCopy_copyTime_ne {k : Master} (hk : k ≠ m) (hkseq : k ≠ .seq) (hm : m ≠ .seq) :
    (s.copyTime m).timeCopy k = s.timeCopy k := by
  cases m with
  | seq => contradiction
  | core | dma | port => cases k <;> simp_all [State.copyTime, State.timeCopy]

/-- A read of SYS_TIME_HI after a copy was taken and SYS_TIME_LO answered. -/
theorem regRead_sysTimeHi_copied (h : s.acts .ctrl = true) (k : Master) (x : Answer) :
    (State.regRead { s.copyTime m with answer := x } k R.SYS_TIME_HI).1 =
      .done (leBytes 4 ((s.copyTime m).timeCopy k).toNat) := by
  have hacts : State.acts { s.copyTime m with answer := x } .ctrl = true := by rw [copyTime_frame]; exact h
  exact regRead_sysTimeHi hacts

/-- O58 with the premise that CTRL acts: it is powered and has not stopped. -/
theorem exec_sysTimeLoRead_of_acts (h : s.acts .ctrl = true) (hm : m ≠ .seq) :
    Leaves (exec (.sysTimeLoRead m) s) fun t =>
      t.answer = ⟨leBytes 4 (s.time.toNat % 2 ^ 32), false⟩ ∧
      (t.regRead m R.SYS_TIME_HI).1 = .done (leBytes 4 (s.time.toNat / 2 ^ 32 + if s.oscTime then 65536 else 0)) ∧
      (∀ k : Master, k ≠ m → k ≠ .seq → (t.regRead k R.SYS_TIME_HI).1 = (s.regRead k R.SYS_TIME_HI).1) ∧
      t = { s with timeHi := t.timeHi, answer := t.answer } := by
  have hon : s.on .ctrl = true := (Bool.and_eq_true_iff.1 h).1
  have hexec := exec_sysTimeLoRead hon hm
  rw [regRead_of_acts (b := .sys) (by decide) h, if_pos rfl, peek_sysTimeLo, State.answered] at hexec
  refine ⟨_, hexec, rfl, ?_, fun k hk hkseq => ?_, ?_⟩
  · rw [regRead_sysTimeHi_copied h, timeCopy_copyTime_same, timeHiWord_toNat]
  · rw [regRead_sysTimeHi_copied h, regRead_sysTimeHi h, timeCopy_copyTime_ne hk hkseq hm]
  · rw [copyTime_frame]

end Sys2Proof.Machine
end
